-- ==== Sys2Proof/Word.lean ====
section
/-! DEFINITION. The words of the module: bytes, 32-bit register words, 64-bit processor words. -/

namespace Sys2Proof

/-- One byte. -/
abbrev Byte := BitVec 8

/-- A register word (00 R4). -/
abbrev Word := BitVec 32

/-- A processor word of Denma (04 R77). -/
abbrev DWord := BitVec 64

end Sys2Proof
end

