-- ==== Sys2Proof/Syntax.lean ====
section
/-! DEFINITION. The commands of the block: one constructor of `Instr` per row of the spec's table of operations and events, and the
data they carry (operand fields of Denma and tick-program words, messages, frames). -/

namespace Sys2Proof

/-- A Denma processor (04 R76). -/
inductive Proc
  | eng (e : Fin 64)
  | canopy (c : Fin 4)
  | helper
deriving DecidableEq, Repr

/-- Operand width of an integer instruction (04 R84): 8, 16, 32 or 64 bits. -/
inductive Wd
  | w8 | w16 | w32 | w64
deriving DecidableEq, Repr

/-- Floating-point format (04 R84): binary32 or binary64. -/
inductive Fmt
  | f32 | f64
deriving DecidableEq, Repr

/-- A general register field. -/
abbrev Reg := Fin 32

/-- A master ID (07 R182). -/
abbrev Master := Fin 128

/-- A physical address. -/
abbrev Addr := BitVec 40

/-- What a received PTP message needs that the module does not support (02 R40). -/
inductive PtpNeed
  | transparentClock | oneStep | unicast | ipv6 | management | signaling | altTimescale
deriving DecidableEq, Repr

/-- Access kind at a gate (07 R186). -/
inductive AccKind
  | read | write | exec
deriving DecidableEq, Repr

/-! ### Messages of the pair (chapter 10) -/

/-- Header fields of a pair message that the receiver uses (10 R264). -/
structure Hdr where
  /-- lane of arrival, and whether the CRC is right (10 R264) -/
  lane : Fin 2
  crcOk : Bool
  pos : Bool
  epoch : BitVec 16
  tickLo : Word
  /-- fragment index, MORE, and the sender's message count (10 R264) -/
  frag : BitVec 15 := 0
  more : Bool := false
  msgid : Word := 0
deriving DecidableEq, Repr

/-- Path of a heartbeat or LEAVE: a lane, or the heartbeat line (10 R268). -/
inductive Path
  | lane (l : Fin 2)
  | hb
deriving DecidableEq, Repr

/-- Heartbeat body (10 R265). -/
structure HbBody where
  role : BitVec 4
  pos : Bool
  k : BitVec 16
  epoch : BitVec 16
  tickLo : Word
  gate : Bool
  lpath : Bool
  hpath : Bool
  aligned : Bool
deriving DecidableEq, Repr

/-- The stamps a lane heartbeat adds (10 R265). -/
structure HbStamps where
  tx : Word
  echoTx : Word
  turn : Word
deriving DecidableEq, Repr

/-- How a heartbeat or a LEAVE was heard (10 R264, R268): on which path, and whether its CRC is good. -/
structure Heard where
  path : Path
  crcOk : Bool
deriving DecidableEq, Repr

/-- HELLO payload (10 R265). -/
structure Hello where
  fmt : BitVec 16
  role : BitVec 4
  tickLen : Word
  tick : BitVec 64
  digest : BitVec 384
  vers : List Word
deriving DecidableEq, Repr

/-- A ring section of INAGREE_DIG (10 R273). -/
structure DigSection where
  ring : Fin 24
  thru : Bool
  digests : List (Option Word)
deriving DecidableEq, Repr

/-- INAGREE_DIG payload (10 R273). -/
structure InDig where
  tick : BitVec 64
  lmask : Word
  localEntries : List (BitVec 64)
  sections : List DigSection
deriving DecidableEq, Repr

/-- A signal record of INAGREE_DATA (10 R274). -/
structure SigRec where
  sig : BitVec 17
  entry : BitVec 64
deriving DecidableEq, Repr

/-- OUTDIG payload (10 R277). -/
structure OutDig where
  tick : BitVec 64
  role : BitVec 4
  hold : Bool
  agreeInc : Bool
  noagree : Bool
  handover : Bool
  accept : Bool
  swapProp : Bool
  swapConf : Bool
  joinOk : Bool
  stopReq : Bool
  restartReq : Bool
  forceConf : Bool
  applyYes : Bool
  swapTick : BitVec 64
  mode : BitVec 24
  modeValid : Bool
  cfgGen : BitVec 16
  frcGen : BitVec 16
  localOut : Word
  ringDig : List Word
  esd : List Word
  /-- PHASE of each Grove of the sender, 3 bits a Grove: the spec gives it no byte (notes/assumptions/78) -/
  grv : BitVec 24 := 0
deriving DecidableEq, Repr

/-- TIME payload (10 R267). -/
structure TimeMsg where
  iiSec : BitVec 48
  iiNs : Word
  tx : Word
  tickLen : Word
  tick : BitVec 64
deriving DecidableEq, Repr

/-- REPAIR_REQ payload (10 R281); `lines` are the line numbers set in the bitmap of each named Grove. -/
structure RepairReq where
  tick : BitVec 64
  engs : BitVec 64
  rings : BitVec 24
  input : Bool
  force : Bool
  lines : List (Fin 8 × List Nat)
deriving DecidableEq, Repr

/-- A line record of LINES (10 R281). -/
structure LineRec where
  addr : Addr
  kind : Fin 5
  data : List Byte
deriving DecidableEq, Repr

/-- A switchable unit (01 R19): power domain D(2 + d), Grove, ring ports RP(2k) and RP(2k+1), pair lane, network port, network DMA ring,
CAN controller, local channel. -/
inductive UnitId
  | domain (d : Fin 12)
  | grove (g : Fin 8)
  | portS (k : Fin 24)
  | portP (k : Fin 24)
  | lane (l : Fin 2)
  | eth (n : Fin 4)
  | ring (n : Fin 4) (r : Fin 16)
  | can (n : Fin 8)
  | lio (c : Fin 32)
deriving DecidableEq, Repr

/-- STAGE payload (11 R299). -/
inductive StageMsg
  | pkg (bytes : List Byte) (quotas : List (Nat × Nat))
  | result (digest : BitVec 384) (chk : Word) (saved : Bool)
  | announce (tick : BitVec 64) (digest : BitVec 384)
  | ack (tick : BitVec 64) (digest : BitVec 384)
  | withdraw (digest : BitVec 384)
  | discard (digest : BitVec 384)
deriving DecidableEq, Repr

/-! ### Vangax frames (chapters 08, 09) -/

/-- A node of a ring: the module, or the station at a position 1 to 63 (08 R197). -/
inductive RNode
  | module
  | station (pos : Fin 64)
deriving DecidableEq, Repr

/-- How a frame ends: /T/, /E/, or cut off by a code error or a loss of sync (08 R206). -/
inductive FrameEnd
  | t | e | cut
deriving DecidableEq, Repr

/-- A frame as it arrives (08 R204): header fields with the reserved bits (byte 1 [7:2], bytes 4-5 [10]), payload, CRC field and end. -/
structure Frame where
  typ : Byte
  pos : Bool
  src : Bool
  r1 : BitVec 6
  prod : Byte
  dst : Byte
  ring : BitVec 5
  r2 : Bool
  slot : BitVec 10
  epoch : BitVec 16
  seq : Word
  len : BitVec 16
  loop : Bool
  hops : BitVec 7
  rbc : Byte
  payload : List Byte
  crc : Word
  fin : FrameEnd
deriving DecidableEq, Repr

/-- A DYN message (08 R214): SRC, SVC, TID, FRAG with MORE, data. -/
structure Dyn where
  src : Byte
  svc : Byte
  tid : BitVec 16
  frag : BitVec 15
  more : Bool
  data : List Byte
deriving DecidableEq, Repr

/-- A datagram of a THRU frame (08 R218). -/
structure Dgram where
  cmd : Byte
  addr : Byte
  rstn : Byte
  res : Byte
  data : List Byte
deriving DecidableEq, Repr

/-- What a ring port receives between frames (08 R201, R203). -/
inductive LinkRx
  | idle | fault | ready
deriving DecidableEq, Repr

/-- Why a port's receive fails (08 R225, R228): no signal, no sync, /F/, a code error, or the port taken out of use by its station. -/
inductive LinkFail
  | sig | sync | fault | code | disabled
deriving DecidableEq, Repr

/-! ### CAN (chapter 12) -/

/-- A CAN frame on the bus (12 R332, R333): format bits, identifier, DLC, data bytes. -/
structure CanFrame where
  fdf : Bool
  brs : Bool
  esi : Bool
  ide : Bool
  rtr : Bool
  id : BitVec 29
  dlc : BitVec 4
  data : List Byte
deriving DecidableEq, Repr

/-- How a transmission attempt or a reception fails (12 R337 to R340): arbitration lost, or an error by its kind. -/
inductive CanErr
  | arb | bit | stuff | form | crc | ack
deriving DecidableEq, Repr


/-- What interrupts a pair lane (10 R263, PAR_PLCNT): an uncorrectable FEC codeword, an invalid 64b/66b block, loss of block lock. -/
inductive LaneFail
  | fec | block | lock
deriving DecidableEq, Repr

/-- A transmitted CAN frame: its controller, and the time in ns since its start-of-frame bit (02 R36, 12 R337). -/
structure CanSent where
  n : Fin 8
  since : Word
deriving DecidableEq, Repr

/-- A feed as measured, in units of 10 mV and 10 mA (16 R402). -/
structure FeedReading where
  v : BitVec 16
  cur : BitVec 16
deriving DecidableEq, Repr

/-- Die and inlet temperature as measured, in units of 0.125 °C (16 R406). -/
structure TempReading where
  die : BitVec 16
  inlet : BitVec 16
deriving DecidableEq, Repr

/-- The commands. -/
inductive Instr
  -- registers and time (chapters 00, 02)
  | regWrite (m : Master) (a : Addr) (v : Word)
  | rcRead (m : Master) (a : Addr)
  | hiLatchRead (m : Master) (a : Addr)
  | lockWrite (m : Master) (a : Addr) (v : Word)
  | timNsRead (m : Master)
  | timFadjWrite (m : Master) (v : Word)
  | timStep (m : Master)
  | rtcStore (m : Master)
  | secondsCarry
  | d0RetentionLoss
  | ptpMessageReceived (port : Fin 4) (kind : BitVec 4) (domain : Byte) (udp : Bool) (need : Option PtpNeed)
  -- the tick and the tick program (chapter 03)
  | inputInstant
  | nop
  | waitt (t : BitVec 20)
  | ringIn (mask : BitVec 24)
  | ringDyn (mask : BitVec 24)
  | ringOut (mask : BitVec 24)
  | ringSync (mask : BitVec 24)
  | pxchInagree
  | pxchOutdig
  | pxchTime
  | psyncInagree
  | psyncOutdig
  | rel (mask : BitVec 16)
  | deadl (c : Fin 16) (stop : Bool) (b : BitVec 20)
  | bar (mask : BitVec 16)
  | tp (n : Fin 64)
  | hold
  | ogate
  | clear
  | endProg
  | callh (n : Fin 256)
  | btick (m : BitVec 10) (p : BitVec 10) (o : BitVec 6)
  | jf (o : BitVec 12)
  | check (m : Master)
  | modeReqWrite (m : Master) (free : Bool)
  | budgetExhausted (e : Fin 64)
  | freeWdExpiry (c : Fin 16)
  -- Denma core instructions (chapter 04)
  | add (p : Proc) (w : Wd) (rd ra rb : Reg)
  | sub (p : Proc) (w : Wd) (rd ra rb : Reg)
  | and (p : Proc) (w : Wd) (rd ra rb : Reg)
  | or (p : Proc) (w : Wd) (rd ra rb : Reg)
  | xor (p : Proc) (w : Wd) (rd ra rb : Reg)
  | andn (p : Proc) (w : Wd) (rd ra rb : Reg)
  | shl (p : Proc) (w : Wd) (rd ra rb : Reg)
  | shr (p : Proc) (w : Wd) (rd ra rb : Reg)
  | sar (p : Proc) (w : Wd) (rd ra rb : Reg)
  | ror (p : Proc) (w : Wd) (rd ra rb : Reg)
  | mul (p : Proc) (w : Wd) (rd ra rb : Reg)
  | mulh (p : Proc) (w : Wd) (rd ra rb : Reg)
  | mulhu (p : Proc) (w : Wd) (rd ra rb : Reg)
  | div (p : Proc) (w : Wd) (rd ra rb : Reg)
  | divu (p : Proc) (w : Wd) (rd ra rb : Reg)
  | rem (p : Proc) (w : Wd) (rd ra rb : Reg)
  | remu (p : Proc) (w : Wd) (rd ra rb : Reg)
  | min (p : Proc) (w : Wd) (rd ra rb : Reg)
  | max (p : Proc) (w : Wd) (rd ra rb : Reg)
  | minu (p : Proc) (w : Wd) (rd ra rb : Reg)
  | maxu (p : Proc) (w : Wd) (rd ra rb : Reg)
  | slt (p : Proc) (w : Wd) (rd ra rb : Reg)
  | sltu (p : Proc) (w : Wd) (rd ra rb : Reg)
  | seq (p : Proc) (w : Wd) (rd ra rb : Reg)
  | sne (p : Proc) (w : Wd) (rd ra rb : Reg)
  | clz (p : Proc) (w : Wd) (rd ra : Reg)
  | ctz (p : Proc) (w : Wd) (rd ra : Reg)
  | popc (p : Proc) (w : Wd) (rd ra : Reg)
  | sext (p : Proc) (w : Wd) (rd ra : Reg)
  | zext (p : Proc) (w : Wd) (rd ra : Reg)
  | abs (p : Proc) (w : Wd) (rd ra : Reg)
  | adds (p : Proc) (w : Wd) (rd ra rb : Reg)
  | subs (p : Proc) (w : Wd) (rd ra rb : Reg)
  | addus (p : Proc) (w : Wd) (rd ra rb : Reg)
  | subus (p : Proc) (w : Wd) (rd ra rb : Reg)
  | muls (p : Proc) (w : Wd) (rd ra rb : Reg)
  | mulus (p : Proc) (w : Wd) (rd ra rb : Reg)
  | negs (p : Proc) (w : Wd) (rd ra : Reg)
  | abss (p : Proc) (w : Wd) (rd ra : Reg)
  | sats (p : Proc) (w : Wd) (rd ra : Reg)
  | satu (p : Proc) (w : Wd) (rd ra : Reg)
  | shli (p : Proc) (w : Wd) (rd ra : Reg) (sh : BitVec 6)
  | shri (p : Proc) (w : Wd) (rd ra : Reg) (sh : BitVec 6)
  | sari (p : Proc) (w : Wd) (rd ra : Reg) (sh : BitVec 6)
  | rori (p : Proc) (w : Wd) (rd ra : Reg) (sh : BitVec 6)
  | addi (p : Proc) (rd ra : Reg) (imm : BitVec 16)
  | andi (p : Proc) (rd ra : Reg) (imm : BitVec 16)
  | ori (p : Proc) (rd ra : Reg) (imm : BitVec 16)
  | xori (p : Proc) (rd ra : Reg) (imm : BitVec 16)
  | slti (p : Proc) (rd ra : Reg) (imm : BitVec 16)
  | sltiu (p : Proc) (rd ra : Reg) (imm : BitVec 16)
  | liz (p : Proc) (rd : Reg) (hw : Fin 4) (imm : BitVec 16)
  | lik (p : Proc) (rd : Reg) (hw : Fin 4) (imm : BitVec 16)
  | fadd (p : Proc) (f : Fmt) (rd ra rb : Reg)
  | fsub (p : Proc) (f : Fmt) (rd ra rb : Reg)
  | fmul (p : Proc) (f : Fmt) (rd ra rb : Reg)
  | fdiv (p : Proc) (f : Fmt) (rd ra rb : Reg)
  | fsqrt (p : Proc) (f : Fmt) (rd ra : Reg)
  | fmin (p : Proc) (f : Fmt) (rd ra rb : Reg)
  | fmax (p : Proc) (f : Fmt) (rd ra rb : Reg)
  | fneg (p : Proc) (f : Fmt) (rd ra : Reg)
  | fabs (p : Proc) (f : Fmt) (rd ra : Reg)
  | fsgn (p : Proc) (f : Fmt) (rd ra rb : Reg)
  | feq (p : Proc) (f : Fmt) (rd ra rb : Reg)
  | flt (p : Proc) (f : Fmt) (rd ra rb : Reg)
  | fle (p : Proc) (f : Fmt) (rd ra rb : Reg)
  | fun (p : Proc) (f : Fmt) (rd ra rb : Reg)
  | fcls (p : Proc) (f : Fmt) (rd ra : Reg)
  | fcvf (p : Proc) (f : Fmt) (rd ra : Reg)
  | frndI32 (p : Proc) (f : Fmt) (rd ra : Reg)
  | frndI64 (p : Proc) (f : Fmt) (rd ra : Reg)
  | frndU32 (p : Proc) (f : Fmt) (rd ra : Reg)
  | frndU64 (p : Proc) (f : Fmt) (rd ra : Reg)
  | ftrcI32 (p : Proc) (f : Fmt) (rd ra : Reg)
  | ftrcI64 (p : Proc) (f : Fmt) (rd ra : Reg)
  | ftrcU32 (p : Proc) (f : Fmt) (rd ra : Reg)
  | ftrcU64 (p : Proc) (f : Fmt) (rd ra : Reg)
  | ifltI32 (p : Proc) (f : Fmt) (rd ra : Reg)
  | ifltI64 (p : Proc) (f : Fmt) (rd ra : Reg)
  | ifltU32 (p : Proc) (f : Fmt) (rd ra : Reg)
  | ifltU64 (p : Proc) (f : Fmt) (rd ra : Reg)
  | fmadS (p : Proc) (rd ra rb rc : Reg)
  | fmadD (p : Proc) (rd ra rb rc : Reg)
  | fmsbS (p : Proc) (rd ra rb rc : Reg)
  | fmsbD (p : Proc) (rd ra rb rc : Reg)
  | fnmaS (p : Proc) (rd ra rb rc : Reg)
  | fnmaD (p : Proc) (rd ra rb rc : Reg)
  | fnmsS (p : Proc) (rd ra rb rc : Reg)
  | fnmsD (p : Proc) (rd ra rb rc : Reg)
  | clamp (p : Proc) (rd ra rb rc : Reg)
  | clampu (p : Proc) (rd ra rb rc : Reg)
  | clampS (p : Proc) (rd ra rb rc : Reg)
  | clampD (p : Proc) (rd ra rb rc : Reg)
  | sel (p : Proc) (rd ra rb rc : Reg)
  | lb (p : Proc) (rd ra : Reg) (imm : BitVec 16)
  | lbu (p : Proc) (rd ra : Reg) (imm : BitVec 16)
  | lh (p : Proc) (rd ra : Reg) (imm : BitVec 16)
  | lhu (p : Proc) (rd ra : Reg) (imm : BitVec 16)
  | lw (p : Proc) (rd ra : Reg) (imm : BitVec 16)
  | lwu (p : Proc) (rd ra : Reg) (imm : BitVec 16)
  | ld (p : Proc) (rd ra : Reg) (imm : BitVec 16)
  | sb (p : Proc) (rs ra : Reg) (imm : BitVec 16)
  | sh (p : Proc) (rs ra : Reg) (imm : BitVec 16)
  | sw (p : Proc) (rs ra : Reg) (imm : BitVec 16)
  | sd (p : Proc) (rs ra : Reg) (imm : BitVec 16)
  | amoSwap (p : Proc) (l : Bool) (rd ra rb : Reg)
  | amoAdd (p : Proc) (l : Bool) (rd ra rb : Reg)
  | amoAnd (p : Proc) (l : Bool) (rd ra rb : Reg)
  | amoOr (p : Proc) (l : Bool) (rd ra rb : Reg)
  | amoXor (p : Proc) (l : Bool) (rd ra rb : Reg)
  | amoMin (p : Proc) (l : Bool) (rd ra rb : Reg)
  | amoMax (p : Proc) (l : Bool) (rd ra rb : Reg)
  | amoMinu (p : Proc) (l : Bool) (rd ra rb : Reg)
  | amoMaxu (p : Proc) (l : Bool) (rd ra rb : Reg)
  | amoCas (p : Proc) (l : Bool) (rd ra rb rc : Reg)
  | bEq (p : Proc) (ra rb : Reg) (off : BitVec 16)
  | bNe (p : Proc) (ra rb : Reg) (off : BitVec 16)
  | bLt (p : Proc) (ra rb : Reg) (off : BitVec 16)
  | bLe (p : Proc) (ra rb : Reg) (off : BitVec 16)
  | bLtu (p : Proc) (ra rb : Reg) (off : BitVec 16)
  | bLeu (p : Proc) (ra rb : Reg) (off : BitVec 16)
  | jmpl (p : Proc) (rd : Reg) (off : BitVec 21)
  | jmpr (p : Proc) (rd ra : Reg) (imm : BitVec 16)
  | bt (p : Proc) (ra : Reg) (bit : BitVec 6) (off : BitVec 15)
  | bf (p : Proc) (ra : Reg) (bit : BitVec 6) (off : BitVec 15)
  | mfsr (p : Proc) (rd : Reg) (sr : BitVec 12)
  | mtsr (p : Proc) (sr : BitVec 12) (ra : Reg)
  | srset (p : Proc) (rd : Reg) (sr : BitVec 12) (ra : Reg)
  | srclr (p : Proc) (rd : Reg) (sr : BitVec 12) (ra : Reg)
  | scall (p : Proc) (code : BitVec 12)
  | brk (p : Proc) (code : BitVec 12)
  | rte (p : Proc) 
  | fence (p : Proc) 
  | wfi (p : Proc) 
  | wfiWake (c : Fin 4)
  | cflush (p : Proc) (ra : Reg)
  | cinv (p : Proc) (ra : Reg)
  | interrupt (c : Fin 4)
  -- signals, blocks and tasks (chapter 05)
  | ldsigIn (p : Proc) (rd ra : Reg) (off : BitVec 14)
  | ldsigOut (p : Proc) (rd ra : Reg) (off : BitVec 14)
  | ldsigPrev (p : Proc) (rd ra : Reg) (off : BitVec 14)
  | stsig (p : Proc) (rs ra : Reg) (off : BitVec 14)
  | stsigQ (p : Proc) (rs ra : Reg) (off : BitVec 14)
  | callfb (p : Proc) (ri : Reg) (off : BitVec 16)
  | retfb (p : Proc) 
  | edgeRise (p : Proc) (rd ra : Reg) (bit : Fin 8) (boff : BitVec 10)
  | edgeFall (p : Proc) (rd ra : Reg) (bit : Fin 8) (boff : BitVec 10)
  | edgeChg (p : Proc) (rd ra : Reg) (bit : Fin 8) (boff : BitVec 10)
  | edgePrev (p : Proc) (rd : Reg) (bit : Fin 8) (boff : BitVec 10)
  | edgeSetp (p : Proc) (rd ra : Reg) (bit : Fin 8) (boff : BitVec 10)
  | ton (p : Proc) (rd ra rb : Reg) (woff : BitVec 8)
  | tof (p : Proc) (rd ra rb : Reg) (woff : BitVec 8)
  | tpl (p : Proc) (rd ra rb : Reg) (woff : BitVec 8)
  | tet (p : Proc) (rd rb : Reg) (woff : BitVec 8)
  | ctu (p : Proc) (rd ra rb : Reg) (woff : BitVec 8)
  | ctd (p : Proc) (rd ra : Reg) (woff : BitVec 8)
  | cld (p : Proc) (rd rb : Reg) (woff : BitVec 8)
  | trst (p : Proc) (rd : Reg) (woff : BitVec 8)
  | yieldTask (p : Proc) 
  | endtask (p : Proc) 
  | mapLoad (m : Master)
  | frcApply (m : Master)
  | frcCancel (m : Master)
  -- Groves, lockstep, debug (chapter 06)
  | scrub (g : Fin 8)
  | comparatorMismatch (k : Fin 108) (errP errN : Bool) (diff : BitVec 242)
  | groveBankClearDone (g : Fin 8)
  | comparatorTestDone (k : Fin 108) (failed : BitVec 16)
  | test (m : Master) (sel : Fin 108)
  | groveReloadDone (g : Fin 8) (ok : Bool)
  | groveCoppiceBulkDone (g : Fin 8)
  | groveRecoveryTimeout (g : Fin 8)
  | transferEngineRestart
  | dbgHalt (m : Master)
  | haltAtBoundary (core : Fin 68)
  | dbgStep (m : Master)
  | dbgResume (m : Master)
  | dbgRegAccess (m : Master)
  | dbgMemAccess (m : Master)
  -- accesses and gates (chapter 07)
  | access (m : Master) (kind : AccKind) (a : Addr) (len : BitVec 13) (data : List Byte)
  | gateEntryWrite (m : Master) (a : Addr) (v : Word)
  | gateEntryLock (m : Master) (gate : Fin 45) (bank : Fin 2) (n : Fin 32)
  | enforce (m : Master) (gate : Fin 45)
  -- the pair (chapter 10)
  | heartbeatPeriod
  | heartbeat (via : Heard) (b : HbBody) (st : Option HbStamps)
  | pathLost (line : Bool)
  | pathReturn (line : Bool)
  | witnessEnd
  | leave (via : Heard) (b : HbBody)
  | hello (h : Hdr) (m : Hello)
  | joinWaitExpiry
  | time (h : Hdr) (m : TimeMsg)
  | inagreeDig (h : Hdr) (d : InDig)
  | inagreeData (h : Hdr) (l : List SigRec)
  | inendExpiry
  | outdig (h : Hdr) (d : OutDig)
  | repairReq (h : Hdr) (r : RepairReq)
  | lines (h : Hdr) (l : List LineRec)
  | force (h : Hdr) (tick : BitVec 64) (copy : List (Nat × Word))
  | stagePkg (h : Hdr) (bytes : List Byte) (quotas : List (Nat × Nat))
  | stageResult (h : Hdr) (digest : BitVec 384) (chk : Word) (saved : Bool)
  | stageAnnounce (h : Hdr) (tick : BitVec 64) (digest : BitVec 384)
  | stageAck (h : Hdr) (tick : BitVec 64) (digest : BitVec 384)
  | stageWithdraw (h : Hdr) (digest : BitVec 384)
  | stageDiscard (h : Hdr) (digest : BitVec 384)
  | go (m : Master)
  | swap (m : Master)
  | swapCancel (m : Master)
  | swapCommit
  | stop (m : Master)
  | restart (m : Master)
  | maint (m : Master) (force : Bool)
  | resync (m : Master)
  | coppiceBulkDone
  | coppiceTimeout
  -- configuration sets (chapter 11)
  | stage (m : Master)
  | stagingCheckDone
  | tmapPassDone
  | saveComplete
  | announce (m : Master)
  | announceNoack
  | withdraw (m : Master)
  | discard (m : Master)
  | applyAbandon
  -- rings (chapters 08, 09)
  | inFrame (k : Fin 24) (port : Bool) (f : Frame) (start : Nat)
  | outFrame (k : Fin 24) (pos : Fin 64) (port : Bool) (f : Frame) (start : Nat)
  | dynFrame (k : Fin 24) (node : RNode) (port : Bool) (f : Frame)
  | parameterRead (k : Fin 24) (pos : Fin 64)
  | parameterWrite (k : Fin 24) (pos : Fin 64)
  | diagnosticRead (k : Fin 24) (pos : Fin 64)
  | fileSegment (k : Fin 24) (pos : Fin 64)
  | response (k : Fin 24) (node : RNode) (tid : BitVec 16)
  | errorResponse (k : Fin 24) (node : RNode) (tid : BitVec 16)
  | syncFrame (k : Fin 24) (node : RNode) (port : Bool) (f : Frame) (own : Int)
  | claim (k : Fin 24) (port : Bool) (f : Frame)
  | cede (k : Fin 24) (port : Bool) (f : Frame)
  | tokenWaitExpiry (k : Fin 24)
  | thruFrame (k : Fin 24) (node : RNode) (port : Bool) (f : Frame)
  | datagramOut (k : Fin 24) (pos : Fin 64) (epoch : BitVec 16) (seq : Word) (d : Dgram)
  | datagramIn (k : Fin 24) (pos : Fin 64) (d : Dgram)
  | assign (k : Fin 24) (pos : Fin 64) (loop : Bool) (hops : BitVec 7) (d : Dgram)
  | regrd (k : Fin 24) (pos : Fin 64) (d : Dgram)
  | regwr (k : Fin 24) (pos : Fin 64) (d : Dgram)
  | probeRequest (k : Fin 24) (node : RNode) (port : Bool) (stamp : Word) (f : Option Frame)
  | probeResponse (k : Fin 24) (node : RNode) (port : Bool) (stamp : Word) (f : Frame)
  | linkFailure (k : Fin 24) (node : RNode) (port : Bool) (why : LinkFail)
  | closeHoldReached (k : Fin 24) (node : RNode) (port : Bool)
  | inActionPoint (k : Fin 24) (pos : Fin 64) (slot : BitVec 10) (left : Bool) (start : Nat)
  | outSlotSend (k : Fin 24) (slot : BitVec 10)
  | dynSend (k : Fin 24) (node : RNode) (own : Option (Byte × Dyn))
  | thruSend (k : Fin 24) (inSeg : Bool)
  | inputSegmentEnd (k : Fin 24)
  | stationInputInstant (k : Fin 24) (pos : Fin 64) (inputs : List (Nat × List Byte))
  | commsLossAction (k : Fin 24) (pos : Fin 64) (slot : BitVec 10)
  | listenOnly (k : Fin 24) (pos : Fin 64)
  | loExit (k : Fin 24) (pos : Fin 64)
  | stationLost (k : Fin 24) (stn : Fin 64)
  | start (m : Master) (k : Fin 24)
  | startupPhaseEnd (k : Fin 24)
  -- plant network and CAN (chapter 12)
  | ethLinkUp (n : Fin 4)
  | ethLinkDown (n : Fin 4)
  | ringTailWrite (m : Master) (n : Fin 4) (r : Fin 16) (v : Word)
  | txFetch (n : Fin 4) (r : Fin 8)
  | launchEligible (n : Fin 4) (r : Fin 8)
  | txStart (n : Fin 4)
  | txDone (n : Fin 4)
  | rxFrame (n : Fin 4) (bytes : List Byte)
  | txreq (m : Master) (n : Fin 8) (b : Fin 128)
  | txabort (m : Master) (n : Fin 8) (b : Fin 128)
  | canSelection (n : Fin 8)
  | canTxSuccess (x : CanSent)
  | canTxError (n : Fin 8) (k : CanErr) (inData : Bool) (dominant : Bool)
  | canRxFrame (n : Fin 8) (f : CanFrame) (since : Word)
  | canNewdatClear (m : Master) (n : Fin 8) (j : Fin 4) (v : Word)
  | canBusoffRecovery (n : Fin 8)
  | canIntegration (n : Fin 8)
  -- local channels (chapter 13)
  | debounceAccept (c : Fin 32)
  | freqGateEnd (c : Fin 32)
  | overload (c : Fin 32)
  | overtemp (c : Fin 32)
  | openload (c : Fin 32)
  | openwire (c : Fin 32)
  | extv (c : Fin 32)
  | supplyWarn (g : Fin 2) (v : BitVec 16)
  | supplyLow (g : Fin 2) (v : BitVec 16)
  | rearmWindowEnd (g : Fin 2)
  | rearm (m : Master) (g : Fin 2)
  | groupOvercurrent (g : Fin 2) (i : BitVec 16)
  | linkloss (g : Fin 2)
  | soeInfoRead (m : Master)
  -- switchable units (chapter 01)
  | enWrite (m : Master) (u : UnitId) (en : Bool)
  | minOffElapsed (u : UnitId)
  | startTimeout (u : UnitId)
  | stopComplete (u : UnitId)
  | domainInRegulation (d : Fin 12)
  | domainDischarged (d : Fin 12)
  | laneTrained (l : Fin 2)
  | dmaRingStarted (n : Fin 4) (r : Fin 16)
  | channelSettled (c : Fin 32)
  -- boot and firmware update (chapter 14)
  | moduleReset (strapB : Bool)
  | hwdReset (m : Master) (v : Word)
  | rdyFwset (m : Master) (v : Word)
  | updWrite (m : Master)
  | updWriteDone (bad : Option (BitVec 32))
  | trial (m : Master)
  | updCancel (m : Master)
  | confirm (m : Master)
  | reject (m : Master)
  | confirmWindowExpiry
  | canopyReadyTimeout
  | revoke (m : Master)
  | retire (m : Master)
  -- counters and the event recorder (chapter 15)
  | clr (m : Master) (j : Fin 8) (i : Fin 64)
  | pmcWindowEnd (j : Fin 8)
  | swrec (m : Master)
  | recordWritten
  | run (m : Master)
  | opsecStore
  | rdSlotWrite (m : Master) (slot : BitVec 16)
  -- power, connectors, test access (chapter 16)
  | feedlow (i : Fin 2) (x : FeedReading)
  | feedRestored (i : Fin 2) (x : FeedReading)
  | pfw
  | pfwEnd
  | pfLeaveExpiry
  | holdupExhausted
  | powerReturn
  | twarn (x : TempReading)
  | tshut (x : TempReading)
  | tempRecovered (x : TempReading)
  | tamper
  | presentNChange (present : Bool)
  | enableRise
  | rampComplete (strapB : Bool)
  | enableFall
  | eject (opened : Bool)
  | extest
  | samplePreload
  | idcode
  | bypass
  | dapacc (write : Bool) (a : Addr) (v : Word)
  -- further events
  | linkSyncGained (k : Fin 24) (node : RNode) (port : Bool) (rx : LinkRx)
  | laneBlockLockLoss (l : Fin 2) (why : LaneFail)
  | canRxError (n : Fin 8) (k : CanErr) (dominant : Bool)
  | rawInputEdge (c : Fin 32) (level : Bool)
  | pauseExpiry (n : Fin 4)
  | helloPeriod
  | witnessWindowStart
  | recovWindowExpiry (g : Fin 8)
  | groupControllerReady (g : Fin 2)
deriving DecidableEq, Repr

end Sys2Proof
end

