-- ==== Sys2Proof/Decode.lean ====
section
/-! DEFINITION. Reading a command from the opcode table's bits. No row of the table gives bits: a command reaches the block as a register
write, a message, a frame or a pin event (spec/95_what_each_step_holds.md), so no word spells one. -/

namespace Sys2Proof

/-- The command that a word spells by the table's bits: none, as no row gives bits. -/
def decodeTableWord (_nbits _w : Nat) : Option Instr := none

end Sys2Proof
end

