-- ==== Sys2Proof/Config.lean ====
section
/-! DEFINITION. What an implementation fixes and the spec does not give: free values and uninterpreted functions. None has a body,
so no proof can rest on a value of it. -/

namespace Sys2Proof

/-- A static slot of a ring schedule (09 R241): number, OUT or IN, number of the owner station, LEN and signal list. -/
structure SlotDef where
  num : Nat
  out : Bool
  owner : Nat
  len : Nat
  sigs : List Nat
deriving DecidableEq, Repr

/-- What identifies a station (09 R243): VENDOR, DEVICE, SERIAL, PROFILE. -/
structure StnIdent where
  vendor : Nat
  device : Nat
  serial : Nat
  profile : Nat
deriving DecidableEq, Repr, Inhabited

/-- A station of a ring schedule: number, expected identity, HOLD_T, COMMS_ACT. -/
structure StnDef where
  num : Nat
  ident : StnIdent
  holdT : Nat
  act : Nat
deriving DecidableEq, Repr

/-- A ring schedule (09 R241): LEAD, T_IN, T_DYN, T_OUT and W in ns. -/
structure Sched where
  id : Nat
  lead : Nat
  guard : Nat
  w : Nat
  tIn : Nat
  tDyn : Nat
  tOut : Nat
  dynMax : Nat
  rounds : Nat
  stations : List StnDef
  slots : List SlotDef
deriving DecidableEq, Repr

namespace Config

/-- Free value number n (notes/assumptions/1): a value the spec leaves open, taken with the counter `State.free`. -/
opaque freeValue (n : Nat) : BitVec 64

/-- Bytes of the Heartwood ROM (07 R179): the spec gives no content. -/
opaque romByte (a : Nat) : Byte

/-- SHA-384 of a byte string (11 R292, 14 R366): a published standard, left uninterpreted. -/
opaque sha384 (bytes : List Byte) : List Byte

/-- Whether an ECDSA P-384 signature verifies (11 R292, 14 R367): public key, digest, signature; left uninterpreted. -/
opaque ecdsaOk (key digest sig : List Byte) : Bool

/-- The schedule of a ring in a SCHED section of a package (11 R293): the spec gives no byte layout. -/
opaque parseSched (sec : List Byte) (ring : Nat) : Option Sched

/-- Identity of the station at a position of a ring (09 R243). -/
opaque stationIdent (ring pos : Nat) : StnIdent

/-- Residence time of a station, and of a module, in 1/16 ns (09 R233): measured by the node itself. -/
opaque stationRes (ring pos : Nat) : Nat
opaque moduleRes : Nat

/-- Number of BOOL signals that a station packs into one of its IN slots (08 R209): its channel table is its device profile's. -/
opaque stationBools (ring pos slot : Nat) : Nat

/-- Device profile of a station (08 R214): bytes of a parameter that the profile has, its value as delivered, the bytes of a diagnostic
page, and the error code of a request that the profile refuses. -/
opaque profileParam (dev : StnIdent) (idx : Nat) : Option Nat
opaque profileInit (dev : StnIdent) (idx : Nat) : List Byte
opaque profilePage (dev : StnIdent) (page n : Nat) : Option (List Byte)
opaque profileFile (dev : StnIdent) (file off len : Nat) : Bool
opaque profileErr (dev : StnIdent) (svc idx : Nat) : Nat

/-- Configured safe output payload of a slot of a station (09 R256). -/
opaque stationSafe (ring pos slot : Nat) : List Byte

/-- State formats (14 R381): an item in the format next below `fmt` converted into it, and back; its kind and address as LINES give them. What the
conversion does is the firmware's. -/
opaque fromOlder (fmt kind addr : Nat) (bytes : List Byte) : List Byte
opaque toOlder (fmt kind addr : Nat) (bytes : List Byte) : List Byte

/-- Runtime regions of Canopy SRAM and DRAM that the firmware lists for a Coppice (10 R283): address and length. -/
opaque runtimeRegions : List (Nat × Nat)

end Config

end Sys2Proof
end

