-- ==== Sys2Proof/Machine/AMap.lean ====
section
/-! DEFINITION. Sparse data by key: a list of (key, value) pairs in one canonical form, keys strictly rising and no value equal to
what an unlisted key reads as, so that equal maps are equal lists. Registers, memory and every other sparse piece of state use it. -/

namespace Sys2Proof.Machine

/-- Sparse data by key. -/
abbrev AMap (V : Type) := List (Nat × V)

/-- The value at key k; `d` says what an unlisted key reads as. -/
def amGet {V : Type} (d : Nat → V) : AMap V → Nat → V
  | [], k => d k
  | (j, v) :: m, k => if j = k then v else amGet d m k

/-- The list without key k. -/
def amDrop {V : Type} (k : Nat) : AMap V → AMap V
  | [] => []
  | (j, v) :: m => if j = k then amDrop k m else (j, v) :: amDrop k m

/-- The list with k at v, put in its place. -/
def amPut {V : Type} (k : Nat) (v : V) : AMap V → AMap V
  | [] => [(k, v)]
  | (j, w) :: m => if k < j then (k, v) :: (j, w) :: m else if k = j then (k, v) :: m else (j, w) :: amPut k v m

/-- Write v at key k; writing what an unlisted key reads as removes the entry. -/
def amSet {V : Type} [DecidableEq V] (d : Nat → V) (m : AMap V) (k : Nat) (v : V) : AMap V :=
  if v = d k then amDrop k m else amPut k v m

/-- Every key is above b, strictly rising, and no value is the unlisted one. -/
def amWfFrom {V : Type} [DecidableEq V] (d : Nat → V) : Nat → AMap V → Bool
  | _, [] => true
  | b, (k, v) :: m => decide (b ≤ k) && decide (v ≠ d k) && amWfFrom d (k + 1) m

/-- The canonical form. -/
def amWf {V : Type} [DecidableEq V] (d : Nat → V) (m : AMap V) : Bool := amWfFrom d 0 m

end Sys2Proof.Machine
end

