-- ==== Sys2Proof/Machine/RegTable.lean ====
section
/-! DEFINITION. The register table of the FHC-6480: every register of every register map of the spec (chapters 02 to 16), with its
address, the strides of its copies, and its fields with access code (00 R5), reset value and range of admitted values (00 R10).
Written from the register maps; a computed or staged view (TIM_NS, TSQ_TICK, GATE_SUM, …) is listed too, its value comes from the read. -/

namespace Sys2Proof.Machine

/-- Access codes of 00 R5. -/
inductive Acc
  | rw | ro | wo | w1c | w1s | rwl | rc
deriving DecidableEq, Repr

/-- Values a field admits; any other value leaves it unchanged (00 R10). -/
inductive Rng
  /-- every value of the field's width -/
  | any
  /-- lo to hi -/
  | between (lo hi : Nat)
  /-- two's complement, from minus neg to pos -/
  | signed (neg pos : Nat)
  /-- these encodings only -/
  | oneOf (vs : List Nat)
deriving DecidableEq, Repr

/-- A field of a register: bits hi down to lo. -/
structure Fld where
  hi : Nat
  lo : Nat
deriving DecidableEq, Repr

/-- One row of a register map. -/
structure FieldDef where
  hi : Nat
  lo : Nat
  acc : Acc
  reset : Nat
  rng : Rng
deriving DecidableEq, Repr

/-- One register of a register map: base address of its first copy, and (count, stride) of each index, outermost first. -/
structure RegDef where
  base : Nat
  dims : List (Nat × Nat)
  fields : List FieldDef
deriving DecidableEq, Repr

/-- Registers of 02_time_base.md, part 1. -/
def regsTime0 : List RegDef :=
  [ /- TIM_NS -/ { base := 0x300120000, dims := [], fields := [⟨29, 0, .ro, 0, .any⟩] }
  , /- TIM_SEC_LO -/ { base := 0x300120004, dims := [], fields := [⟨31, 0, .ro, 0, .any⟩] }
  , /- TIM_SEC_HI -/ { base := 0x300120008, dims := [], fields := [⟨15, 0, .ro, 0, .any⟩] }
  , /- TIM_SHORT -/ { base := 0x30012000C, dims := [], fields := [⟨31, 0, .ro, 0, .any⟩] }
  , /- TIM_FADJ -/ { base := 0x300120010, dims := [], fields := [⟨31, 0, .rw, 0, .any⟩] }
  , /- TIM_STEP_SEC -/ { base := 0x300120014, dims := [], fields := [⟨31, 0, .rw, 0, .any⟩] }
  , /- TIM_STEP_NS -/ { base := 0x300120018, dims := [], fields := [⟨29, 0, .rw, 0, .between 0 999999999⟩] }
  , /- TIM_CMD -/ { base := 0x30012001C, dims := [], fields := [⟨1, 1, .wo, 0, .any⟩, ⟨0, 0, .wo, 0, .any⟩] }
  , /- TIM_CFG -/ { base := 0x300120020, dims := [], fields := [⟨31, 31, .w1s, 0, .any⟩, ⟨17, 17, .rwl, 1, .any⟩, ⟨16, 16, .rwl, 0, .any⟩, ⟨8, 0, .rwl, 100, .between 1 500⟩] }
  , /- TIM_SRC -/ { base := 0x300120024, dims := [], fields := [⟨3, 3, .rw, 0, .any⟩, ⟨2, 2, .rw, 0, .any⟩, ⟨1, 0, .rw, 0, .any⟩] } ]

/-- Registers of 02_time_base.md, part 2. -/
def regsTime1 : List RegDef :=
  [ /- TIM_STATUS -/ { base := 0x300120028, dims := [], fields := [⟨15, 8, .ro, 0, .any⟩, ⟨3, 3, .ro, 0, .any⟩, ⟨2, 2, .w1c, 0, .any⟩, ⟨0, 0, .ro, 0, .any⟩] }
  , /- TIM_RTC_SEC_LO -/ { base := 0x300120030, dims := [], fields := [⟨31, 0, .ro, 0, .any⟩] }
  , /- TIM_RTC_SEC_HI -/ { base := 0x300120034, dims := [], fields := [⟨15, 0, .ro, 0, .any⟩] }
  , /- TIM_RTC_FRAC -/ { base := 0x300120038, dims := [], fields := [⟨14, 0, .ro, 0, .any⟩] } ]

/-- Registers of 02_time_base.md, part 3. -/
def regsTime2 : List RegDef :=
  [ /- PTP_CTRL -/ { base := 0x300130000, dims := [], fields := [⟨31, 24, .rw, 0, .any⟩, ⟨19, 16, .rw, 0, .any⟩, ⟨12, 12, .rw, 0, .any⟩, ⟨9, 8, .rw, 0, .between 0 1⟩, ⟨5, 4, .rw, 0, .between 0 2⟩, ⟨0, 0, .rw, 0, .any⟩] }
  , /- PTP_STATUS -/ { base := 0x300130004, dims := [], fields := [⟨31, 24, .rc, 0, .any⟩, ⟨16, 16, .ro, 0, .any⟩, ⟨15, 12, .ro, 0, .any⟩, ⟨11, 8, .ro, 0, .any⟩, ⟨7, 4, .ro, 0, .any⟩, ⟨3, 0, .ro, 0, .any⟩] }
  , /- PTP_OFFSET -/ { base := 0x300130008, dims := [], fields := [⟨31, 0, .ro, 0, .any⟩] }
  , /- PTP_PDELAY -/ { base := 0x300130010, dims := [(4, 0x4)], fields := [⟨31, 0, .ro, 0, .any⟩] }
  , /- PTP_LAT -/ { base := 0x300130020, dims := [(4, 0x4)], fields := [⟨31, 16, .rw, 0, .any⟩, ⟨15, 0, .rw, 0, .any⟩] }
  , /- PTP_INTERVAL -/ { base := 0x300130030, dims := [], fields := [⟨26, 24, .rw, 3, .between 2 7⟩, ⟨23, 16, .rw, 0, .signed 7 5⟩, ⟨15, 8, .rw, 1, .signed 3 4⟩, ⟨7, 0, .rw, 0, .signed 7 4⟩] }
  , /- PTP_PRIO -/ { base := 0x300130034, dims := [], fields := [⟨31, 24, .rw, 254, .any⟩, ⟨23, 16, .rw, 248, .any⟩, ⟨15, 8, .rw, 128, .any⟩, ⟨7, 0, .rw, 128, .any⟩] }
  , /- PTP_UTC -/ { base := 0x300130038, dims := [], fields := [⟨18, 18, .rw, 0, .any⟩, ⟨17, 17, .rw, 0, .any⟩, ⟨16, 16, .rw, 0, .any⟩, ⟨15, 0, .rw, 0, .any⟩] } ]

/-- Registers of 03_tick.md, part 1. -/
def regsTick0 : List RegDef :=
  [ /- TSQ_CTRL -/ { base := 0x300010000, dims := [], fields := [⟨31, 31, .w1s, 0, .any⟩, ⟨16, 16, .rw, 1, .any⟩, ⟨8, 8, .rwl, 0, .any⟩] }
  , /- TSQ_STATUS -/ { base := 0x300010004, dims := [], fields := [⟨17, 17, .ro, 1, .any⟩, ⟨16, 16, .ro, 0, .any⟩, ⟨8, 8, .ro, 0, .any⟩, ⟨6, 6, .w1c, 0, .any⟩, ⟨5, 5, .w1c, 0, .any⟩, ⟨4, 4, .w1c, 0, .any⟩, ⟨3, 3, .w1c, 0, .any⟩, ⟨2, 2, .w1c, 0, .any⟩, ⟨1, 1, .w1c, 0, .any⟩] }
  , /- TSQ_TICK_LO -/ { base := 0x300010008, dims := [], fields := [⟨31, 0, .ro, 0, .any⟩] }
  , /- TSQ_TICK_HI -/ { base := 0x30001000C, dims := [], fields := [⟨31, 0, .ro, 0, .any⟩] }
  , /- TSQ_PC -/ { base := 0x300010010, dims := [], fields := [⟨12, 12, .ro, 0, .any⟩, ⟨11, 0, .ro, 0, .any⟩] }
  , /- TSQ_CMD -/ { base := 0x300010014, dims := [], fields := [⟨0, 0, .wo, 0, .any⟩] }
  , /- TSQ_CHK -/ { base := 0x300010018, dims := [], fields := [⟨31, 31, .ro, 0, .any⟩, ⟨30, 30, .ro, 0, .any⟩, ⟨27, 24, .ro, 0, .any⟩, ⟨11, 0, .ro, 0, .any⟩] }
  , /- TSQ_OVR -/ { base := 0x30001001C, dims := [], fields := [⟨31, 16, .w1c, 0, .any⟩, ⟨15, 0, .w1c, 0, .any⟩] }
  , /- TSQ_SKIP_CNT -/ { base := 0x300010020, dims := [], fields := [⟨31, 0, .rc, 0, .any⟩] }
  , /- TSQ_CTPEN_LO -/ { base := 0x300010040, dims := [(4, 0x8)], fields := [⟨31, 0, .rw, 0, .any⟩] } ]

/-- Registers of 03_tick.md, part 2. -/
def regsTick1 : List RegDef :=
  [ /- TSQ_CTPEN_HI -/ { base := 0x300010044, dims := [(4, 0x8)], fields := [⟨31, 0, .rw, 0, .any⟩] }
  , /- TSQ_LEN -/ { base := 0x300010400, dims := [(2, 0x200)], fields := [⟨16, 0, .rw, 1000, .between 250 100000⟩] }
  , /- TSQ_CLASS_CFG -/ { base := 0x300010410, dims := [(2, 0x200), (16, 0x10)], fields := [⟨31, 31, .rw, 0, .any⟩, ⟨25, 16, .rw, 0, .any⟩, ⟨9, 0, .rw, 1, .between 1 1000⟩] }
  , /- TSQ_CLASS_ENG_LO -/ { base := 0x300010414, dims := [(2, 0x200), (16, 0x10)], fields := [⟨31, 0, .rw, 0, .any⟩] }
  , /- TSQ_CLASS_ENG_HI -/ { base := 0x300010418, dims := [(2, 0x200), (16, 0x10)], fields := [⟨31, 0, .rw, 0, .any⟩] }
  , /- TSQ_CLASS_WD -/ { base := 0x30001041C, dims := [(2, 0x200), (16, 0x10)], fields := [⟨15, 0, .rw, 0, .any⟩] } ]

/-- Registers of 03_tick.md, part 3. -/
def regsTick2 : List RegDef :=
  [ /- TSQ_PROG -/ { base := 0x300018000, dims := [(2, 0x4000), (4096, 0x4)], fields := [⟨31, 0, .rw, 0, .any⟩] } ]

/-- Registers of 05_denma_control.md, part 1. -/
def regsImage0 : List RegDef :=
  [ /- IMG_STATUS -/ { base := 0x300020000, dims := [], fields := [⟨16, 16, .ro, 0, .any⟩, ⟨3, 3, .ro, 0, .any⟩, ⟨2, 2, .ro, 0, .any⟩, ⟨1, 1, .w1c, 0, .any⟩, ⟨0, 0, .w1c, 0, .any⟩] }
  , /- IMG_MAPCMD -/ { base := 0x300020004, dims := [], fields := [⟨0, 0, .wo, 0, .any⟩] }
  , /- IMG_MAPCHK -/ { base := 0x300020008, dims := [], fields := [⟨31, 31, .ro, 0, .any⟩, ⟨30, 30, .ro, 0, .any⟩, ⟨27, 24, .ro, 0, .any⟩, ⟨16, 0, .ro, 0, .any⟩] }
  , /- IMG_CE_CNT -/ { base := 0x30002000C, dims := [], fields := [⟨31, 0, .rc, 0, .any⟩] }
  , /- IMG_UE_SIG -/ { base := 0x300020010, dims := [], fields := [⟨18, 17, .ro, 0, .any⟩, ⟨16, 0, .ro, 0, .any⟩] }
  , /- IMG_DESC_SEL -/ { base := 0x300020014, dims := [], fields := [⟨31, 31, .rw, 0, .any⟩, ⟨16, 0, .rw, 0, .any⟩] }
  , /- IMG_DESC_DATA -/ { base := 0x300020018, dims := [], fields := [⟨31, 0, .ro, 0, .any⟩] } ]

/-- Registers of 05_denma_control.md, part 2. -/
def regsImage1 : List RegDef :=
  [ /- IMG_SAFE -/ { base := 0x300028000, dims := [(2, 0x4000), (4096, 0x4)], fields := [⟨31, 0, .rw, 0, .any⟩] } ]

/-- Registers of 05_denma_control.md, part 3. -/
def regsImage2 : List RegDef :=
  [ /- FRC_CTRL -/ { base := 0x300030000, dims := [], fields := [⟨31, 31, .w1s, 0, .any⟩, ⟨0, 0, .rwl, 1, .any⟩] }
  , /- FRC_STATUS -/ { base := 0x300030004, dims := [], fields := [⟨28, 28, .w1c, 0, .any⟩, ⟨27, 27, .ro, 0, .any⟩, ⟨19, 16, .ro, 0, .any⟩, ⟨12, 0, .ro, 0, .any⟩] }
  , /- FRC_APPLY_LO -/ { base := 0x300030008, dims := [], fields := [⟨31, 0, .rw, 0, .any⟩] }
  , /- FRC_APPLY_HI -/ { base := 0x30003000C, dims := [], fields := [⟨31, 0, .rw, 0, .any⟩] }
  , /- FRC_CMD -/ { base := 0x300030010, dims := [], fields := [⟨1, 1, .wo, 0, .any⟩, ⟨0, 0, .wo, 0, .any⟩] }
  , /- FRC_WCNT -/ { base := 0x300030014, dims := [], fields := [⟨31, 0, .rc, 0, .any⟩] } ]

/-- Registers of 05_denma_control.md, part 4. -/
def regsImage3 : List RegDef :=
  [ /- FRCS_CTL -/ { base := 0x300040000, dims := [(4096, 0x10)], fields := [⟨31, 31, .rw, 0, .any⟩, ⟨30, 30, .rw, 0, .any⟩, ⟨29, 29, .rw, 0, .any⟩, ⟨28, 28, .ro, 0, .any⟩, ⟨27, 26, .ro, 0, .any⟩, ⟨25, 24, .rw, 0, .any⟩, ⟨23, 22, .ro, 0, .any⟩, ⟨21, 21, .ro, 0, .any⟩, ⟨16, 0, .rw, 0, .any⟩] }
  , /- FRCS_VAL -/ { base := 0x300040004, dims := [(4096, 0x10)], fields := [⟨31, 0, .rw, 0, .any⟩] }
  , /- FRCS_STABLE -/ { base := 0x300040008, dims := [(4096, 0x10)], fields := [⟨31, 0, .rw, 0, .any⟩] }
  , /- FRCS_SHADOW -/ { base := 0x30004000C, dims := [(4096, 0x10)], fields := [⟨31, 0, .ro, 0, .any⟩] } ]

/-- Registers of 05_denma_control.md, part 5. -/
def regsImage4 : List RegDef :=
  [ /- FRCA_CTL -/ { base := 0x300050000, dims := [(4096, 0x10)], fields := [⟨31, 31, .ro, 0, .any⟩, ⟨30, 30, .ro, 0, .any⟩, ⟨29, 29, .ro, 0, .any⟩, ⟨28, 28, .ro, 0, .any⟩, ⟨27, 26, .ro, 0, .any⟩, ⟨25, 24, .ro, 0, .any⟩, ⟨23, 22, .ro, 0, .any⟩, ⟨21, 21, .ro, 0, .any⟩, ⟨16, 0, .ro, 0, .any⟩] }
  , /- FRCA_VAL -/ { base := 0x300050004, dims := [(4096, 0x10)], fields := [⟨31, 0, .ro, 0, .any⟩] }
  , /- FRCA_STABLE -/ { base := 0x300050008, dims := [(4096, 0x10)], fields := [⟨31, 0, .ro, 0, .any⟩] }
  , /- FRCA_SHADOW -/ { base := 0x30005000C, dims := [(4096, 0x10)], fields := [⟨31, 0, .ro, 0, .any⟩] } ]

/-- Registers of 06_groves_lockstep.md, part 1. -/
def regsGrove0 : List RegDef :=
  [ /- ENG_STATUS -/ { base := 0x300060000, dims := [(64, 0x400)], fields := [⟨31, 28, .ro, 0, .any⟩, ⟨27, 22, .ro, 0, .any⟩, ⟨15, 15, .w1c, 0, .any⟩, ⟨9, 8, .ro, 1, .any⟩, ⟨2, 0, .ro, 0, .any⟩] }
  , /- ENG_PC_LO -/ { base := 0x300060004, dims := [(64, 0x400)], fields := [⟨31, 0, .ro, 0, .any⟩] }
  , /- ENG_PC_HI -/ { base := 0x300060008, dims := [(64, 0x400)], fields := [⟨7, 0, .ro, 0, .any⟩] }
  , /- ENG_TVEC -/ { base := 0x30006000C, dims := [(64, 0x400)], fields := [⟨27, 0, .rw, 0, .any⟩] }
  , /- ENG_TPEN_LO -/ { base := 0x300060010, dims := [(64, 0x400)], fields := [⟨31, 0, .rw, 0, .any⟩] }
  , /- ENG_TPEN_HI -/ { base := 0x300060014, dims := [(64, 0x400)], fields := [⟨31, 0, .rw, 0, .any⟩] } ]

/-- Registers of 06_groves_lockstep.md, part 2. -/
def regsGrove1 : List RegDef :=
  [ /- LSC_CMD -/ { base := 0x300070000, dims := [], fields := [⟨31, 31, .wo, 0, .any⟩, ⟨6, 0, .rw, 0, .between 0 107⟩] }
  , /- LSC_SUM -/ { base := 0x300070010, dims := [(4, 0x4)], fields := [⟨31, 0, .ro, 0, .any⟩] }
  , /- LSC_CMP -/ { base := 0x300070100, dims := [(108, 0x4)], fields := [⟨31, 31, .ro, 0, .any⟩, ⟨30, 30, .ro, 0, .any⟩, ⟨29, 29, .ro, 0, .any⟩, ⟨26, 26, .w1c, 0, .any⟩, ⟨25, 25, .w1c, 0, .any⟩, ⟨24, 24, .ro, 0, .any⟩, ⟨15, 0, .ro, 0, .any⟩] } ]

/-- Registers of 06_groves_lockstep.md, part 3. -/
def regsGrove2 : List RegDef :=
  [ /- GRV_EN -/ { base := 0x300080000, dims := [(8, 0x10000)], fields := [⟨8, 8, .rw, 0, .any⟩, ⟨5, 5, .w1c, 0, .any⟩, ⟨4, 4, .w1c, 0, .any⟩, ⟨2, 2, .ro, 0, .any⟩, ⟨1, 0, .ro, 0, .any⟩] }
  , /- GRV_STATUS -/ { base := 0x300080004, dims := [(8, 0x10000)], fields := [⟨31, 24, .ro, 0, .any⟩, ⟨23, 20, .ro, 0, .any⟩, ⟨19, 17, .ro, 0, .any⟩, ⟨7, 7, .w1c, 0, .any⟩, ⟨6, 6, .w1c, 0, .any⟩, ⟨5, 5, .w1c, 0, .any⟩, ⟨4, 4, .w1c, 0, .any⟩, ⟨3, 3, .ro, 0, .any⟩, ⟨1, 1, .ro, 0, .any⟩, ⟨0, 0, .ro, 0, .any⟩] }
  , /- GRV_CFG -/ { base := 0x300080008, dims := [(8, 0x10000)], fields := [⟨31, 31, .w1s, 0, .any⟩, ⟨16, 16, .rwl, 1, .any⟩, ⟨7, 0, .rwl, 3, .between 1 255⟩] }
  , /- GRV_RECOV_WIN -/ { base := 0x30008000C, dims := [(8, 0x10000)], fields := [⟨16, 0, .rwl, 3600, .between 60 86400⟩] }
  , /- GRV_FAULT_TICK_LO -/ { base := 0x300080010, dims := [(8, 0x10000)], fields := [⟨31, 0, .ro, 0, .any⟩] }
  , /- GRV_FAULT_TICK_HI -/ { base := 0x300080014, dims := [(8, 0x10000)], fields := [⟨31, 0, .ro, 0, .any⟩] }
  , /- GRV_CE_CNT -/ { base := 0x300080018, dims := [(8, 0x10000)], fields := [⟨31, 0, .rc, 0, .any⟩] }
  , /- GRV_UE_ADDR -/ { base := 0x30008001C, dims := [(8, 0x10000)], fields := [⟨31, 31, .ro, 0, .any⟩, ⟨26, 24, .ro, 0, .any⟩, ⟨22, 0, .ro, 0, .any⟩] }
  , /- GRV_SCRUB -/ { base := 0x300080020, dims := [(8, 0x10000)], fields := [⟨7, 0, .rwl, 2, .between 1 255⟩] } ]

/-- Registers of 06_groves_lockstep.md, part 4. -/
def regsGrove3 : List RegDef :=
  [ /- DBG_TARGET -/ { base := 0x300110000, dims := [], fields := [⟨6, 0, .rw, 0, .between 0 67⟩] }
  , /- DBG_CMD -/ { base := 0x300110004, dims := [], fields := [⟨3, 3, .wo, 0, .any⟩, ⟨2, 2, .wo, 0, .any⟩, ⟨1, 1, .wo, 0, .any⟩] }
  , /- DBG_STATUS -/ { base := 0x300110008, dims := [], fields := [⟨23, 20, .ro, 0, .any⟩, ⟨16, 16, .ro, 0, .any⟩, ⟨8, 8, .w1c, 0, .any⟩, ⟨3, 3, .ro, 0, .any⟩, ⟨0, 0, .w1c, 0, .any⟩] }
  , /- DBG_BRK_LO -/ { base := 0x30011000C, dims := [], fields := [⟨31, 0, .rw, 0, .any⟩] }
  , /- DBG_BRK_HI -/ { base := 0x300110010, dims := [], fields := [⟨31, 0, .rw, 0, .any⟩] }
  , /- DBG_BRK_C -/ { base := 0x300110014, dims := [], fields := [⟨3, 0, .rw, 0, .any⟩] }
  , /- DBG_REG -/ { base := 0x300110018, dims := [], fields := [⟨31, 31, .wo, 0, .any⟩, ⟨30, 30, .rw, 0, .any⟩, ⟨12, 0, .rw, 0, .any⟩] }
  , /- DBG_DATA_LO -/ { base := 0x30011001C, dims := [], fields := [⟨31, 0, .rw, 0, .any⟩] }
  , /- DBG_DATA_HI -/ { base := 0x300110020, dims := [], fields := [⟨31, 0, .rw, 0, .any⟩] }
  , /- DBG_ADDR_LO -/ { base := 0x300110024, dims := [], fields := [⟨31, 0, .rw, 0, .any⟩] } ]

/-- Registers of 06_groves_lockstep.md, part 5. -/
def regsGrove4 : List RegDef :=
  [ /- DBG_ADDR_HI -/ { base := 0x300110028, dims := [], fields := [⟨7, 0, .rw, 0, .any⟩] }
  , /- DBG_MEM -/ { base := 0x30011002C, dims := [], fields := [⟨31, 31, .wo, 0, .any⟩, ⟨30, 30, .rw, 0, .any⟩, ⟨1, 0, .rw, 3, .any⟩] }
  , /- DBG_TRACE_LO -/ { base := 0x300110030, dims := [], fields := [⟨31, 0, .rw, 0, .any⟩] }
  , /- DBG_TRACE_HI -/ { base := 0x300110034, dims := [], fields := [⟨31, 0, .rw, 0, .any⟩] }
  , /- DBG_TRACE_C -/ { base := 0x300110038, dims := [], fields := [⟨3, 0, .rw, 0, .any⟩] } ]

/-- Registers of 07_address_map_gates.md, part 1. -/
def regsGate0 : List RegDef :=
  [ /- GATE_SUM_LO -/ { base := 0x300500000, dims := [], fields := [⟨31, 0, .ro, 0, .any⟩] }
  , /- GATE_SUM_HI -/ { base := 0x300500004, dims := [], fields := [⟨12, 0, .ro, 0, .any⟩] }
  , /- GATE_LOCK -/ { base := 0x300500008, dims := [], fields := [⟨0, 0, .w1s, 0, .any⟩] }
  , /- GATE_MATTR -/ { base := 0x300500210, dims := [(60, 0x4)], fields := [⟨5, 4, .rwl, 1, .oneOf [0, 1, 3]⟩, ⟨3, 0, .rwl, 0, .any⟩] } ]

/-- Registers of 07_address_map_gates.md, part 2. -/
def regsGate1 : List RegDef :=
  [ /- GATE_CTRL -/ { base := 0x300501000, dims := [(45, 0x1000)], fields := [⟨31, 31, .w1s, 0, .any⟩] }
  , /- GATE_STATUS -/ { base := 0x300501004, dims := [(45, 0x1000)], fields := [⟨8, 8, .ro, 0, .any⟩, ⟨5, 0, .ro, 0, .any⟩] }
  , /- GATE_ERR_ADDR_LO -/ { base := 0x300501008, dims := [(45, 0x1000)], fields := [⟨31, 0, .ro, 0, .any⟩] }
  , /- GATE_ERR_ADDR_HI -/ { base := 0x30050100C, dims := [(45, 0x1000)], fields := [⟨7, 0, .ro, 0, .any⟩] }
  , /- GATE_ERR_INFO -/ { base := 0x300501010, dims := [(45, 0x1000)], fields := [⟨31, 31, .w1c, 0, .any⟩, ⟨30, 28, .ro, 0, .any⟩, ⟨27, 26, .ro, 0, .any⟩, ⟨25, 24, .ro, 0, .any⟩, ⟨23, 20, .ro, 0, .any⟩, ⟨19, 19, .ro, 0, .any⟩, ⟨18, 14, .ro, 0, .any⟩, ⟨6, 0, .ro, 0, .any⟩] }
  , /- GATE_ERR_CNT -/ { base := 0x300501014, dims := [(45, 0x1000)], fields := [⟨31, 0, .rc, 0, .any⟩] }
  , /- GATE_BASE_LO -/ { base := 0x300501800, dims := [(45, 0x1000), (2, 0x400), (32, 0x20)], fields := [⟨31, 6, .rw, 0, .any⟩] }
  , /- GATE_BASE_HI -/ { base := 0x300501804, dims := [(45, 0x1000), (2, 0x400), (32, 0x20)], fields := [⟨7, 0, .rw, 0, .any⟩] }
  , /- GATE_LIMIT_LO -/ { base := 0x300501808, dims := [(45, 0x1000), (2, 0x400), (32, 0x20)], fields := [⟨31, 6, .rw, 0, .any⟩] }
  , /- GATE_LIMIT_HI -/ { base := 0x30050180C, dims := [(45, 0x1000), (2, 0x400), (32, 0x20)], fields := [⟨8, 0, .rw, 0, .any⟩] } ]

/-- Registers of 07_address_map_gates.md, part 3. -/
def regsGate2 : List RegDef :=
  [ /- GATE_CTL -/ { base := 0x300501810, dims := [(45, 0x1000), (2, 0x400), (32, 0x20)], fields := [⟨31, 31, .rw, 0, .any⟩, ⟨30, 30, .w1s, 0, .any⟩, ⟨29, 29, .rw, 0, .any⟩, ⟨26, 24, .rw, 0, .any⟩, ⟨22, 20, .rw, 0, .any⟩, ⟨8, 6, .rw, 0, .any⟩, ⟨5, 3, .rw, 0, .any⟩, ⟨2, 0, .rw, 0, .any⟩] }
  , /- GATE_PART -/ { base := 0x300501814, dims := [(45, 0x1000), (2, 0x400), (32, 0x20)], fields := [⟨15, 0, .rw, 0, .any⟩] }
  , /- GATE_MID -/ { base := 0x300501818, dims := [(45, 0x1000), (2, 0x400), (32, 0x20)], fields := [⟨14, 8, .rw, 0, .any⟩, ⟨6, 0, .rw, 0, .any⟩] } ]

/-- Registers of 08_vangax_links_frames.md, part 1. -/
def regsLink0 : List RegDef :=
  [ /- VGX_EN_S -/ { base := 0x300200000, dims := [(24, 0x10000)], fields := [⟨8, 8, .rw, 0, .any⟩, ⟨5, 5, .w1c, 0, .any⟩, ⟨4, 4, .w1c, 0, .any⟩, ⟨2, 2, .ro, 0, .any⟩, ⟨1, 0, .ro, 0, .any⟩] }
  , /- VGX_EN_P -/ { base := 0x300200004, dims := [(24, 0x10000)], fields := [⟨8, 8, .rw, 0, .any⟩, ⟨5, 5, .w1c, 0, .any⟩, ⟨4, 4, .w1c, 0, .any⟩, ⟨2, 2, .ro, 0, .any⟩, ⟨1, 0, .ro, 0, .any⟩] }
  , /- VGX_LINK -/ { base := 0x300200008, dims := [(24, 0x10000)], fields := [⟨12, 12, .ro, 0, .any⟩, ⟨11, 11, .ro, 0, .any⟩, ⟨10, 10, .ro, 1, .any⟩, ⟨9, 9, .ro, 0, .any⟩, ⟨8, 8, .ro, 0, .any⟩, ⟨4, 4, .ro, 0, .any⟩, ⟨3, 3, .ro, 0, .any⟩, ⟨2, 2, .ro, 1, .any⟩, ⟨1, 1, .ro, 0, .any⟩, ⟨0, 0, .ro, 0, .any⟩] }
  , /- VGX_STATUS -/ { base := 0x30020000C, dims := [(24, 0x10000)], fields := [⟨3, 3, .w1c, 0, .any⟩, ⟨2, 2, .w1c, 0, .any⟩, ⟨1, 1, .w1c, 0, .any⟩, ⟨0, 0, .w1c, 0, .any⟩] }
  , /- VGX_IEN -/ { base := 0x300200010, dims := [(24, 0x10000)], fields := [⟨3, 0, .rw, 0, .any⟩] }
  , /- VGX_CFG -/ { base := 0x300200014, dims := [(24, 0x10000)], fields := [⟨31, 31, .w1s, 0, .any⟩, ⟨17, 17, .rw, 0, .any⟩, ⟨16, 16, .rw, 0, .any⟩, ⟨7, 0, .rwl, 16, .between 1 255⟩] }
  , /- VGX_DMAERR -/ { base := 0x300200018, dims := [(24, 0x10000)], fields := [⟨31, 16, .ro, 0, .any⟩, ⟨15, 13, .ro, 0, .any⟩, ⟨12, 12, .ro, 0, .any⟩, ⟨9, 0, .ro, 0, .any⟩] }
  , /- VGX_CNT -/ { base := 0x300200040, dims := [(24, 0x10000), (2, 0x40), (10, 0x4)], fields := [⟨31, 0, .rc, 0, .any⟩] } ]

/-- Registers of 09_vangax_cycle_sync.md, part 1. -/
def regsRing0 : List RegDef :=
  [ /- VGX_RMODE -/ { base := 0x300200100, dims := [(24, 0x10000)], fields := [⟨23, 16, .ro, 0, .any⟩, ⟨15, 12, .ro, 0, .any⟩, ⟨6, 6, .ro, 0, .any⟩, ⟨5, 5, .ro, 0, .any⟩, ⟨4, 4, .ro, 0, .any⟩, ⟨3, 3, .ro, 0, .any⟩, ⟨2, 2, .ro, 1, .any⟩, ⟨0, 0, .ro, 1, .any⟩] }
  , /- VGX_RCTL -/ { base := 0x300200104, dims := [(24, 0x10000)], fields := [⟨31, 31, .w1s, 0, .any⟩, ⟨16, 16, .wo, 0, .any⟩, ⟨15, 8, .rwl, 8, .between 1 255⟩, ⟨1, 1, .rwl, 1, .any⟩, ⟨0, 0, .rw, 0, .any⟩] }
  , /- VGX_SCHED -/ { base := 0x300200108, dims := [(24, 0x10000)], fields := [⟨31, 31, .ro, 0, .any⟩, ⟨27, 24, .ro, 0, .any⟩, ⟨15, 0, .ro, 0, .any⟩] }
  , /- VGX_DLOOP -/ { base := 0x30020010C, dims := [(24, 0x10000)], fields := [⟨31, 0, .ro, 0, .any⟩] }
  , /- VGX_DML -/ { base := 0x300200110, dims := [(24, 0x10000)], fields := [⟨31, 0, .ro, 0, .any⟩] }
  , /- VGX_EVT -/ { base := 0x300200114, dims := [(24, 0x10000)], fields := [⟨7, 7, .w1c, 0, .any⟩, ⟨6, 6, .w1c, 0, .any⟩, ⟨5, 5, .w1c, 0, .any⟩, ⟨4, 4, .w1c, 0, .any⟩, ⟨3, 3, .w1c, 0, .any⟩, ⟨2, 2, .w1c, 0, .any⟩, ⟨1, 1, .w1c, 0, .any⟩, ⟨0, 0, .w1c, 0, .any⟩] }
  , /- VGX_EVT_IEN -/ { base := 0x300200118, dims := [(24, 0x10000)], fields := [⟨7, 0, .rw, 0, .any⟩] }
  , /- VGX_STNCFG -/ { base := 0x30020011C, dims := [(24, 0x10000)], fields := [⟨7, 0, .rw, 3, .between 1 255⟩] }
  , /- VGX_LOST_LO -/ { base := 0x300200120, dims := [(24, 0x10000)], fields := [⟨31, 1, .ro, 0, .any⟩] }
  , /- VGX_LOST_HI -/ { base := 0x300200124, dims := [(24, 0x10000)], fields := [⟨31, 0, .ro, 0, .any⟩] } ]

/-- Registers of 09_vangax_cycle_sync.md, part 2. -/
def regsRing1 : List RegDef :=
  [ /- VGX_PRES_LO -/ { base := 0x300200128, dims := [(24, 0x10000)], fields := [⟨31, 1, .ro, 0, .any⟩] }
  , /- VGX_PRES_HI -/ { base := 0x30020012C, dims := [(24, 0x10000)], fields := [⟨31, 0, .ro, 0, .any⟩] } ]

/-- Registers of 10_pair.md, part 1. -/
def regsPair0 : List RegDef :=
  [ /- PAR_STATUS -/ { base := 0x300140000, dims := [], fields := [⟨31, 28, .ro, 0, .any⟩, ⟨27, 27, .ro, 0, .any⟩, ⟨26, 26, .ro, 0, .any⟩, ⟨24, 24, .ro, 0, .any⟩, ⟨23, 23, .ro, 0, .any⟩, ⟨22, 22, .ro, 0, .any⟩, ⟨21, 21, .ro, 0, .any⟩, ⟨20, 20, .ro, 0, .any⟩, ⟨11, 8, .ro, 0, .any⟩, ⟨0, 0, .ro, 0, .any⟩] }
  , /- PAR_EPOCH -/ { base := 0x300140004, dims := [], fields := [⟨31, 16, .ro, 0, .any⟩, ⟨15, 0, .ro, 0, .any⟩] }
  , /- PAR_CMD -/ { base := 0x300140008, dims := [], fields := [⟨7, 7, .wo, 0, .any⟩, ⟨6, 6, .wo, 0, .any⟩, ⟨5, 5, .wo, 0, .any⟩, ⟨4, 4, .wo, 0, .any⟩, ⟨3, 3, .wo, 0, .any⟩, ⟨2, 2, .wo, 0, .any⟩, ⟨1, 1, .wo, 0, .any⟩, ⟨0, 0, .wo, 0, .any⟩] }
  , /- PAR_CMDSTAT -/ { base := 0x30014000C, dims := [], fields := [⟨31, 31, .w1c, 0, .any⟩, ⟨27, 24, .ro, 0, .any⟩, ⟨1, 1, .ro, 0, .any⟩, ⟨0, 0, .ro, 0, .any⟩] }
  , /- PAR_SWAP_LO -/ { base := 0x300140010, dims := [], fields := [⟨31, 0, .ro, 0, .any⟩] }
  , /- PAR_SWAP_HI -/ { base := 0x300140014, dims := [], fields := [⟨31, 0, .ro, 0, .any⟩] }
  , /- PAR_CFG -/ { base := 0x300140018, dims := [], fields := [⟨31, 31, .w1s, 0, .any⟩, ⟨23, 16, .rwl, 8, .between 1 255⟩, ⟨15, 0, .rwl, 2000, .between 100 60000⟩] }
  , /- PAR_CFG2 -/ { base := 0x30014001C, dims := [], fields := [⟨16, 16, .rwl, 1, .any⟩, ⟨15, 0, .rwl, 1000, .between 16 65535⟩] }
  , /- PAR_INEND -/ { base := 0x300140020, dims := [(2, 0x8)], fields := [⟨19, 0, .rw, 1880, .any⟩] }
  , /- PAR_OUTEND -/ { base := 0x300140024, dims := [(2, 0x8)], fields := [⟨19, 0, .rw, 8480, .any⟩] } ]

/-- Registers of 10_pair.md, part 2. -/
def regsPair1 : List RegDef :=
  [ /- PAR_EVT -/ { base := 0x300140030, dims := [], fields := [⟨13, 13, .w1c, 0, .any⟩, ⟨12, 12, .w1c, 0, .any⟩, ⟨11, 11, .w1c, 0, .any⟩, ⟨10, 10, .w1c, 0, .any⟩, ⟨9, 9, .w1c, 0, .any⟩, ⟨8, 8, .w1c, 0, .any⟩, ⟨7, 7, .w1c, 0, .any⟩, ⟨6, 6, .w1c, 0, .any⟩, ⟨5, 5, .w1c, 0, .any⟩, ⟨4, 4, .w1c, 0, .any⟩, ⟨3, 3, .w1c, 0, .any⟩, ⟨2, 2, .w1c, 0, .any⟩, ⟨1, 1, .w1c, 0, .any⟩, ⟨0, 0, .w1c, 0, .any⟩] }
  , /- PAR_IEN -/ { base := 0x300140034, dims := [], fields := [⟨13, 0, .rw, 0, .any⟩] }
  , /- PAR_DIS_CNT -/ { base := 0x300140038, dims := [], fields := [⟨31, 0, .rc, 0, .any⟩] }
  , /- PAR_MIS_CNT -/ { base := 0x30014003C, dims := [], fields := [⟨31, 0, .rc, 0, .any⟩] }
  , /- PAR_COPP -/ { base := 0x300140040, dims := [], fields := [⟨31, 28, .ro, 0, .any⟩, ⟨27, 27, .ro, 0, .any⟩, ⟨23, 16, .ro, 0, .any⟩, ⟨15, 0, .ro, 0, .any⟩] }
  , /- PAR_LANE -/ { base := 0x300140044, dims := [], fields := [⟨15, 0, .ro, 0, .any⟩] }
  , /- PAR_EN_PL0 -/ { base := 0x300140080, dims := [], fields := [⟨8, 8, .rw, 0, .any⟩, ⟨5, 5, .w1c, 0, .any⟩, ⟨4, 4, .w1c, 0, .any⟩, ⟨2, 2, .ro, 0, .any⟩, ⟨1, 0, .ro, 0, .any⟩] }
  , /- PAR_EN_PL1 -/ { base := 0x300140084, dims := [], fields := [⟨8, 8, .rw, 0, .any⟩, ⟨5, 5, .w1c, 0, .any⟩, ⟨4, 4, .w1c, 0, .any⟩, ⟨2, 2, .ro, 0, .any⟩, ⟨1, 0, .ro, 0, .any⟩] }
  , /- PAR_PLCNT -/ { base := 0x3001400C0, dims := [(2, 0x20), (4, 0x4)], fields := [⟨31, 0, .rc, 0, .any⟩] } ]

/-- Registers of 10_pair.md, part 3. -/
def regsPair2 : List RegDef :=
  [ /- HB_STATUS -/ { base := 0x300150000, dims := [], fields := [⟨31, 24, .ro, 0, .any⟩, ⟨19, 16, .ro, 0, .any⟩, ⟨15, 12, .ro, 0, .any⟩, ⟨2, 2, .ro, 0, .any⟩, ⟨1, 1, .ro, 0, .any⟩, ⟨0, 0, .ro, 0, .any⟩] }
  , /- HB_CFG -/ { base := 0x300150004, dims := [], fields := [⟨31, 31, .w1s, 0, .any⟩, ⟨7, 0, .rwl, 8, .between 1 255⟩] }
  , /- HB_EVT -/ { base := 0x300150008, dims := [], fields := [⟨3, 3, .w1c, 0, .any⟩, ⟨2, 2, .w1c, 0, .any⟩, ⟨1, 1, .w1c, 0, .any⟩, ⟨0, 0, .w1c, 0, .any⟩] }
  , /- HB_IEN -/ { base := 0x30015000C, dims := [], fields := [⟨3, 0, .rw, 0, .any⟩] }
  , /- HB_CNT_MISS -/ { base := 0x300150010, dims := [(2, 0x4)], fields := [⟨31, 0, .rc, 0, .any⟩] }
  , /- HB_CNT_ERR -/ { base := 0x300150018, dims := [], fields := [⟨31, 0, .rc, 0, .any⟩] }
  , /- HB_LASTK -/ { base := 0x30015001C, dims := [], fields := [⟨15, 0, .ro, 0, .any⟩] } ]

/-- Registers of 11_online_change.md, part 1. -/
def regsChange0 : List RegDef :=
  [ /- CHG_STATE -/ { base := 0x300160000, dims := [], fields := [⟨23, 20, .ro, 0, .any⟩, ⟨19, 16, .ro, 0, .any⟩, ⟨15, 8, .ro, 0, .any⟩, ⟨2, 0, .ro, 0, .any⟩] }
  , /- CHG_CMD -/ { base := 0x300160004, dims := [], fields := [⟨3, 3, .wo, 0, .any⟩, ⟨2, 2, .wo, 0, .any⟩, ⟨1, 1, .wo, 0, .any⟩, ⟨0, 0, .wo, 0, .any⟩] }
  , /- CHG_PKG_LO -/ { base := 0x300160008, dims := [], fields := [⟨31, 0, .rw, 0, .any⟩] }
  , /- CHG_PKG_HI -/ { base := 0x30016000C, dims := [], fields := [⟨7, 0, .rw, 0, .any⟩] }
  , /- CHG_PKG_LEN -/ { base := 0x300160010, dims := [], fields := [⟨31, 0, .rw, 0, .between 0 67104768⟩] }
  , /- CHG_CHK -/ { base := 0x300160014, dims := [], fields := [⟨31, 31, .ro, 0, .any⟩, ⟨30, 30, .ro, 0, .any⟩, ⟨28, 24, .ro, 0, .any⟩, ⟨19, 0, .ro, 0, .any⟩] }
  , /- CHG_APPLY_LO -/ { base := 0x300160018, dims := [], fields := [⟨31, 0, .rw, 0, .any⟩] }
  , /- CHG_APPLY_HI -/ { base := 0x30016001C, dims := [], fields := [⟨31, 0, .rw, 0, .any⟩] }
  , /- CHG_CFG -/ { base := 0x300160020, dims := [], fields := [⟨31, 31, .w1s, 0, .any⟩, ⟨15, 8, .rwl, 2, .between 1 50⟩, ⟨7, 0, .rwl, 8, .any⟩] }
  , /- CHG_GEN -/ { base := 0x300160024, dims := [], fields := [⟨15, 0, .ro, 0, .any⟩] } ]

/-- Registers of 11_online_change.md, part 2. -/
def regsChange1 : List RegDef :=
  [ /- CHG_PROG -/ { base := 0x300160028, dims := [], fields := [⟨31, 31, .ro, 0, .any⟩, ⟨30, 30, .ro, 0, .any⟩, ⟨19, 0, .ro, 0, .any⟩] }
  , /- CHG_DELTA -/ { base := 0x30016002C, dims := [], fields := [⟨31, 0, .ro, 0, .any⟩] }
  , /- CHG_EVT -/ { base := 0x300160030, dims := [], fields := [⟨7, 7, .w1c, 0, .any⟩, ⟨6, 6, .w1c, 0, .any⟩, ⟨5, 5, .w1c, 0, .any⟩, ⟨4, 4, .w1c, 0, .any⟩, ⟨3, 3, .w1c, 0, .any⟩, ⟨2, 2, .w1c, 0, .any⟩, ⟨1, 1, .w1c, 0, .any⟩, ⟨0, 0, .w1c, 0, .any⟩] }
  , /- CHG_IEN -/ { base := 0x300160034, dims := [], fields := [⟨7, 0, .rw, 0, .any⟩] }
  , /- CHG_HWM_SLICE -/ { base := 0x300160100, dims := [(16, 0x8)], fields := [⟨31, 0, .ro, 0, .any⟩] }
  , /- CHG_HWM_ACT -/ { base := 0x300160104, dims := [(16, 0x8)], fields := [⟨31, 0, .ro, 0, .any⟩] } ]

/-- Registers of 12_network_can.md, part 1. -/
def regsNet0 : List RegDef :=
  [ /- ETH_EN -/ { base := 0x300380000, dims := [(4, 0x10000)], fields := [⟨8, 8, .rw, 0, .any⟩, ⟨5, 5, .w1c, 0, .any⟩, ⟨4, 4, .w1c, 0, .any⟩, ⟨2, 2, .ro, 0, .any⟩, ⟨1, 0, .ro, 0, .any⟩] }
  , /- ETH_STATUS -/ { base := 0x300380004, dims := [(4, 0x10000)], fields := [⟨3, 3, .ro, 0, .any⟩, ⟨2, 2, .ro, 0, .any⟩, ⟨1, 1, .ro, 0, .any⟩, ⟨0, 0, .ro, 0, .any⟩] }
  , /- ETH_CFG -/ { base := 0x300380008, dims := [(4, 0x10000)], fields := [⟨31, 31, .w1s, 0, .any⟩, ⟨21, 21, .rw, 0, .any⟩, ⟨20, 20, .rw, 0, .any⟩, ⟨19, 19, .rwl, 0, .any⟩, ⟨18, 18, .rwl, 0, .any⟩, ⟨17, 17, .rwl, 1, .any⟩, ⟨16, 16, .rwl, 1, .any⟩, ⟨13, 0, .rwl, 1518, .between 1518 9022⟩] }
  , /- ETH_MAC_LO -/ { base := 0x30038000C, dims := [(4, 0x10000)], fields := [⟨31, 0, .rw, 0, .any⟩] }
  , /- ETH_MAC_HI -/ { base := 0x300380010, dims := [(4, 0x10000)], fields := [⟨15, 0, .rw, 0, .any⟩] }
  , /- ETH_CLS -/ { base := 0x300380014, dims := [(4, 0x10000)], fields := [⟨26, 24, .rw, 0, .any⟩, ⟨22, 20, .rw, 1, .any⟩, ⟨18, 16, .rw, 7, .any⟩, ⟨15, 0, .rw, 34997, .any⟩] }
  , /- ETH_PCPMAP -/ { base := 0x300380018, dims := [(4, 0x10000)], fields := [⟨24, 24, .rw, 0, .any⟩, ⟨23, 0, .rw, 16777215, .any⟩] }
  , /- ETH_EVT -/ { base := 0x30038001C, dims := [(4, 0x10000)], fields := [⟨2, 2, .w1c, 0, .any⟩, ⟨1, 1, .w1c, 0, .any⟩, ⟨0, 0, .w1c, 0, .any⟩] }
  , /- ETH_IEN -/ { base := 0x300380020, dims := [(4, 0x10000)], fields := [⟨2, 0, .rw, 0, .any⟩] }
  , /- ETH_RDONE -/ { base := 0x300380024, dims := [(4, 0x10000)], fields := [⟨15, 0, .w1c, 0, .any⟩] } ]

/-- Registers of 12_network_can.md, part 2. -/
def regsNet1 : List RegDef :=
  [ /- ETH_RIEN -/ { base := 0x300380028, dims := [(4, 0x10000)], fields := [⟨15, 0, .rw, 0, .any⟩] }
  , /- ETH_CNT -/ { base := 0x300380040, dims := [(4, 0x10000), (8, 0x4)], fields := [⟨31, 0, .rc, 0, .any⟩] }
  , /- ETH_RING_EN -/ { base := 0x300380100, dims := [(4, 0x10000), (16, 0x20)], fields := [⟨8, 8, .rw, 0, .any⟩, ⟨5, 5, .w1c, 0, .any⟩, ⟨4, 4, .w1c, 0, .any⟩, ⟨2, 2, .ro, 0, .any⟩, ⟨1, 0, .ro, 0, .any⟩] }
  , /- ETH_RING_BASE_LO -/ { base := 0x300380104, dims := [(4, 0x10000), (16, 0x20)], fields := [⟨31, 6, .rw, 0, .any⟩] }
  , /- ETH_RING_BASE_HI -/ { base := 0x300380108, dims := [(4, 0x10000), (16, 0x20)], fields := [⟨7, 0, .rw, 0, .any⟩] }
  , /- ETH_RING_CFG -/ { base := 0x30038010C, dims := [(4, 0x10000), (16, 0x20)], fields := [⟨19, 16, .rw, 4, .between 4 12⟩, ⟨15, 8, .rw, 0, .any⟩, ⟨0, 0, .rw, 0, .any⟩] }
  , /- ETH_RING_HEAD -/ { base := 0x300380110, dims := [(4, 0x10000), (16, 0x20)], fields := [⟨11, 0, .ro, 0, .any⟩] }
  , /- ETH_RING_TAIL -/ { base := 0x300380114, dims := [(4, 0x10000), (16, 0x20)], fields := [⟨11, 0, .rw, 0, .any⟩] }
  , /- ETH_RING_ERR -/ { base := 0x300380118, dims := [(4, 0x10000), (16, 0x20)], fields := [⟨31, 18, .ro, 0, .any⟩, ⟨17, 17, .ro, 0, .any⟩, ⟨16, 16, .ro, 0, .any⟩, ⟨14, 12, .ro, 0, .any⟩, ⟨11, 0, .ro, 0, .any⟩] }
  , /- ETH_RING_DROP -/ { base := 0x30038011C, dims := [(4, 0x10000), (16, 0x20)], fields := [⟨31, 0, .rc, 0, .any⟩] } ]

/-- Registers of 12_network_can.md, part 3. -/
def regsNet2 : List RegDef :=
  [ /- CAN_EN -/ { base := 0x300400000, dims := [(8, 0x10000)], fields := [⟨8, 8, .rw, 0, .any⟩, ⟨5, 5, .w1c, 0, .any⟩, ⟨4, 4, .w1c, 0, .any⟩, ⟨2, 2, .ro, 0, .any⟩, ⟨1, 0, .ro, 0, .any⟩] }
  , /- CAN_STATUS -/ { base := 0x300400004, dims := [(8, 0x10000)], fields := [⟨31, 24, .ro, 0, .any⟩, ⟨23, 16, .ro, 0, .any⟩, ⟨4, 4, .ro, 0, .any⟩, ⟨3, 3, .ro, 0, .any⟩, ⟨1, 0, .ro, 2, .any⟩] }
  , /- CAN_CFG -/ { base := 0x300400008, dims := [(8, 0x10000)], fields := [⟨31, 31, .w1s, 0, .any⟩, ⟨23, 16, .rwl, 8, .between 1 255⟩, ⟨15, 8, .rwl, 0, .any⟩, ⟨2, 2, .rw, 0, .any⟩, ⟨1, 1, .rw, 0, .any⟩, ⟨0, 0, .rw, 1, .any⟩] }
  , /- CAN_NBT -/ { base := 0x30040000C, dims := [(8, 0x10000)], fields := [⟨31, 24, .rw, 0, .any⟩, ⟨23, 16, .rw, 62, .between 1 255⟩, ⟨14, 8, .rw, 15, .any⟩, ⟨6, 0, .rw, 15, .any⟩] }
  , /- CAN_DBT -/ { base := 0x300400010, dims := [(8, 0x10000)], fields := [⟨28, 24, .rw, 0, .any⟩, ⟨20, 16, .rw, 14, .any⟩, ⟨11, 8, .rw, 3, .any⟩, ⟨3, 0, .rw, 3, .any⟩] }
  , /- CAN_TDC -/ { base := 0x300400014, dims := [(8, 0x10000)], fields := [⟨15, 15, .rw, 0, .any⟩, ⟨6, 0, .rw, 0, .any⟩] }
  , /- CAN_EVT -/ { base := 0x300400018, dims := [(8, 0x10000)], fields := [⟨5, 5, .w1c, 0, .any⟩, ⟨4, 4, .w1c, 0, .any⟩, ⟨3, 3, .w1c, 0, .any⟩, ⟨2, 2, .w1c, 0, .any⟩, ⟨1, 1, .w1c, 0, .any⟩, ⟨0, 0, .w1c, 0, .any⟩] }
  , /- CAN_IEN -/ { base := 0x30040001C, dims := [(8, 0x10000)], fields := [⟨5, 0, .rw, 0, .any⟩] }
  , /- CAN_COLL_BUF -/ { base := 0x300400020, dims := [(8, 0x10000)], fields := [⟨6, 0, .ro, 0, .any⟩] }
  , /- CAN_LOG_BASE_LO -/ { base := 0x300400024, dims := [(8, 0x10000)], fields := [⟨31, 7, .rw, 0, .any⟩] } ]

/-- Registers of 12_network_can.md, part 4. -/
def regsNet3 : List RegDef :=
  [ /- CAN_LOG_BASE_HI -/ { base := 0x300400028, dims := [(8, 0x10000)], fields := [⟨7, 0, .rw, 0, .any⟩] }
  , /- CAN_LOG_CFG -/ { base := 0x30040002C, dims := [(8, 0x10000)], fields := [⟨31, 31, .rw, 0, .any⟩, ⟨30, 30, .rw, 0, .any⟩, ⟨19, 16, .rw, 4, .between 4 12⟩, ⟨11, 0, .ro, 0, .any⟩] }
  , /- CAN_LOG_ERR -/ { base := 0x300400030, dims := [(8, 0x10000)], fields := [⟨15, 15, .ro, 0, .any⟩, ⟨14, 12, .ro, 0, .any⟩, ⟨7, 0, .ro, 0, .any⟩] }
  , /- CAN_NEWDAT -/ { base := 0x300400040, dims := [(8, 0x10000), (4, 0x4)], fields := [⟨31, 0, .w1c, 0, .any⟩] }
  , /- CAN_BEVT -/ { base := 0x300400050, dims := [(8, 0x10000), (4, 0x4)], fields := [⟨31, 0, .w1c, 0, .any⟩] }
  , /- CAN_BIEN -/ { base := 0x300400060, dims := [(8, 0x10000), (4, 0x4)], fields := [⟨31, 0, .rw, 0, .any⟩] }
  , /- CAN_CNT -/ { base := 0x300400080, dims := [(8, 0x10000), (8, 0x4)], fields := [⟨31, 0, .rc, 0, .any⟩] }
  , /- CAN_MB_CTRL -/ { base := 0x300401000, dims := [(8, 0x10000), (128, 0x80)], fields := [⟨31, 31, .rw, 0, .any⟩, ⟨30, 30, .rw, 0, .any⟩, ⟨29, 29, .w1s, 0, .any⟩, ⟨28, 28, .wo, 0, .any⟩, ⟨27, 27, .w1c, 0, .any⟩, ⟨26, 26, .w1c, 0, .any⟩, ⟨25, 25, .w1c, 0, .any⟩, ⟨24, 24, .w1c, 0, .any⟩, ⟨23, 23, .w1c, 0, .any⟩, ⟨22, 22, .rw, 0, .any⟩, ⟨21, 21, .rw, 0, .any⟩, ⟨20, 20, .rw, 0, .any⟩, ⟨19, 19, .rw, 0, .any⟩, ⟨18, 18, .ro, 0, .any⟩, ⟨17, 17, .rw, 0, .any⟩, ⟨16, 16, .rw, 0, .any⟩, ⟨3, 0, .rw, 0, .any⟩] }
  , /- CAN_MB_ID -/ { base := 0x300401004, dims := [(8, 0x10000), (128, 0x80)], fields := [⟨28, 0, .rw, 0, .any⟩] }
  , /- CAN_MB_MASK -/ { base := 0x300401008, dims := [(8, 0x10000), (128, 0x80)], fields := [⟨28, 0, .rw, 0, .any⟩] } ]

/-- Registers of 12_network_can.md, part 5. -/
def regsNet4 : List RegDef :=
  [ /- CAN_MB_STAMP -/ { base := 0x30040100C, dims := [(8, 0x10000), (128, 0x80)], fields := [⟨31, 0, .ro, 0, .any⟩] }
  , /- CAN_MB_LAUNCH -/ { base := 0x300401010, dims := [(8, 0x10000), (128, 0x80)], fields := [⟨31, 0, .rw, 0, .any⟩] }
  , /- CAN_MB_CNT -/ { base := 0x300401014, dims := [(8, 0x10000), (128, 0x80)], fields := [⟨31, 16, .ro, 0, .any⟩, ⟨7, 0, .ro, 0, .any⟩] }
  , /- CAN_MB_DATA -/ { base := 0x300401040, dims := [(8, 0x10000), (128, 0x80), (16, 0x4)], fields := [⟨31, 0, .rw, 0, .any⟩] } ]

/-- Registers of 13_local_io.md, part 1. -/
def regsLio0 : List RegDef :=
  [ /- LIO_MAP -/ { base := 0x3001A0000, dims := [], fields := [⟨31, 31, .w1s, 0, .any⟩, ⟨27, 16, .rwl, 1, .any⟩, ⟨11, 0, .rwl, 0, .any⟩] }
  , /- LIO_PAR -/ { base := 0x3001A0004, dims := [], fields := [⟨31, 0, .rwl, 0, .any⟩] }
  , /- LIO_EVT -/ { base := 0x3001A0008, dims := [], fields := [⟨5, 5, .w1c, 0, .any⟩, ⟨4, 4, .w1c, 0, .any⟩, ⟨3, 3, .w1c, 0, .any⟩, ⟨2, 2, .w1c, 0, .any⟩, ⟨1, 1, .w1c, 0, .any⟩, ⟨0, 0, .w1c, 0, .any⟩] }
  , /- LIO_IEN -/ { base := 0x3001A000C, dims := [], fields := [⟨5, 0, .rw, 0, .any⟩] }
  , /- LIO_GRP_STAT -/ { base := 0x3001A0040, dims := [(2, 0x10)], fields := [⟨31, 16, .ro, 0, .any⟩, ⟨15, 8, .ro, 0, .any⟩, ⟨7, 7, .w1c, 0, .any⟩, ⟨6, 6, .w1c, 0, .any⟩, ⟨5, 5, .ro, 0, .any⟩, ⟨3, 3, .ro, 0, .any⟩, ⟨2, 2, .ro, 0, .any⟩, ⟨1, 1, .ro, 0, .any⟩, ⟨0, 0, .ro, 0, .any⟩] }
  , /- LIO_GRP_CFG -/ { base := 0x3001A0044, dims := [(2, 0x10)], fields := [⟨1, 1, .wo, 0, .any⟩, ⟨0, 0, .rw, 0, .any⟩] }
  , /- LIO_SOE_INFO -/ { base := 0x3001A0080, dims := [], fields := [⟨31, 31, .rc, 0, .any⟩, ⟨26, 16, .ro, 0, .any⟩, ⟨15, 8, .rc, 0, .any⟩, ⟨6, 6, .ro, 0, .any⟩, ⟨4, 0, .ro, 0, .any⟩] }
  , /- LIO_SOE_STAMP -/ { base := 0x3001A0084, dims := [], fields := [⟨31, 0, .ro, 0, .any⟩] }
  , /- LIO_EN -/ { base := 0x3001A0400, dims := [(32, 0x20)], fields := [⟨8, 8, .rw, 0, .any⟩, ⟨5, 5, .w1c, 0, .any⟩, ⟨4, 4, .w1c, 0, .any⟩, ⟨2, 2, .ro, 0, .any⟩, ⟨1, 0, .ro, 0, .any⟩] }
  , /- LIO_CFG -/ { base := 0x3001A0404, dims := [(32, 0x20)], fields := [⟨24, 24, .rw, 0, .any⟩, ⟨22, 21, .rw, 3, .any⟩, ⟨20, 20, .rw, 0, .any⟩, ⟨19, 19, .rw, 0, .any⟩, ⟨18, 18, .rw, 0, .any⟩, ⟨17, 16, .rw, 0, .any⟩, ⟨15, 0, .rw, 1, .between 1 65535⟩] } ]

/-- Registers of 13_local_io.md, part 2. -/
def regsLio1 : List RegDef :=
  [ /- LIO_GATE -/ { base := 0x3001A0408, dims := [(32, 0x20)], fields := [⟨23, 0, .rw, 1000000, .between 1000 10000000⟩] }
  , /- LIO_DIAG -/ { base := 0x3001A040C, dims := [(32, 0x20)], fields := [⟨31, 31, .ro, 0, .any⟩, ⟨30, 30, .ro, 0, .any⟩, ⟨6, 6, .w1c, 0, .any⟩, ⟨5, 5, .w1c, 0, .any⟩, ⟨4, 4, .w1c, 0, .any⟩, ⟨3, 3, .w1c, 0, .any⟩, ⟨2, 2, .w1c, 0, .any⟩, ⟨1, 1, .w1c, 0, .any⟩] }
  , /- LIO_CNT -/ { base := 0x3001A0410, dims := [(32, 0x20)], fields := [⟨31, 0, .ro, 0, .any⟩] }
  , /- LIO_MEAS -/ { base := 0x3001A0414, dims := [(32, 0x20)], fields := [⟨31, 0, .ro, 0, .any⟩] } ]

/-- Registers of 14_boot_update.md, part 1. -/
def regsBoot0 : List RegDef :=
  [ /- RDY_VEC -/ { base := 0x300000000, dims := [], fields := [⟨27, 20, .w1s, 0, .any⟩, ⟨18, 18, .w1s, 0, .any⟩, ⟨17, 2, .ro, 0, .any⟩, ⟨1, 1, .w1s, 0, .any⟩, ⟨0, 0, .ro, 0, .any⟩] }
  , /- RDY_FAIL -/ { base := 0x300000004, dims := [], fields := [⟨31, 0, .w1c, 0, .any⟩] }
  , /- RDY_EVT -/ { base := 0x300000008, dims := [], fields := [⟨31, 0, .w1c, 0, .any⟩] }
  , /- RDY_IEN -/ { base := 0x30000000C, dims := [], fields := [⟨31, 0, .rw, 0, .any⟩] }
  , /- RDY_FWSET -/ { base := 0x300000010, dims := [], fields := [⟨27, 20, .wo, 0, .any⟩, ⟨18, 18, .wo, 0, .any⟩, ⟨1, 1, .wo, 0, .any⟩] } ]

/-- Registers of 14_boot_update.md, part 2. -/
def regsBoot1 : List RegDef :=
  [ /- HWD_STATUS -/ { base := 0x300170000, dims := [], fields := [⟨28, 28, .w1c, 0, .any⟩, ⟨20, 16, .ro, 0, .any⟩, ⟨11, 11, .w1c, 0, .any⟩, ⟨10, 10, .ro, 0, .any⟩, ⟨9, 9, .ro, 0, .any⟩, ⟨1, 0, .ro, 0, .any⟩] }
  , /- HWD_HWTYPE -/ { base := 0x300170004, dims := [], fields := [⟨31, 0, .ro, 1686110209, .any⟩] }
  , /- HWD_UID -/ { base := 0x300170008, dims := [(4, 0x4)], fields := [⟨31, 0, .ro, 0, .any⟩] }
  , /- HWD_SVN -/ { base := 0x300170020, dims := [(5, 0x4)], fields := [⟨6, 0, .ro, 0, .any⟩] }
  , /- HWD_KEYID -/ { base := 0x300170040, dims := [(8, 0x8)], fields := [⟨31, 0, .ro, 0, .any⟩] }
  , /- HWD_KEYST -/ { base := 0x300170044, dims := [(8, 0x8)], fields := [⟨7, 7, .ro, 0, .any⟩, ⟨6, 6, .ro, 0, .any⟩, ⟨3, 0, .ro, 0, .any⟩] }
  , /- HWD_RESET -/ { base := 0x300170080, dims := [], fields := [⟨31, 16, .wo, 0, .any⟩, ⟨0, 0, .wo, 0, .any⟩] } ]

/-- Registers of 14_boot_update.md, part 3. -/
def regsBoot2 : List RegDef :=
  [ /- UPD_STATUS -/ { base := 0x300180000, dims := [], fields := [⟨31, 28, .ro, 0, .any⟩, ⟨27, 24, .ro, 0, .any⟩, ⟨19, 19, .w1c, 0, .any⟩, ⟨18, 18, .w1c, 0, .any⟩, ⟨17, 17, .ro, 0, .any⟩, ⟨11, 8, .ro, 0, .any⟩, ⟨6, 5, .ro, 0, .any⟩, ⟨4, 0, .ro, 0, .any⟩] }
  , /- UPD_CMD -/ { base := 0x300180004, dims := [], fields := [⟨6, 6, .wo, 0, .any⟩, ⟨5, 5, .wo, 0, .any⟩, ⟨4, 4, .wo, 0, .any⟩, ⟨3, 3, .wo, 0, .any⟩, ⟨2, 2, .wo, 0, .any⟩, ⟨1, 1, .wo, 0, .any⟩, ⟨0, 0, .wo, 0, .any⟩] }
  , /- UPD_SRC_LO -/ { base := 0x300180008, dims := [], fields := [⟨31, 0, .rw, 0, .any⟩] }
  , /- UPD_SRC_HI -/ { base := 0x30018000C, dims := [], fields := [⟨7, 0, .rw, 0, .any⟩] }
  , /- UPD_LEN -/ { base := 0x300180010, dims := [], fields := [⟨31, 0, .rw, 0, .any⟩] }
  , /- UPD_TGT -/ { base := 0x300180014, dims := [], fields := [⟨10, 8, .rw, 0, .between 0 5⟩, ⟨0, 0, .rw, 0, .any⟩] }
  , /- UPD_TMASK -/ { base := 0x300180018, dims := [], fields := [⟨4, 0, .rw, 0, .any⟩] }
  , /- UPD_CFG -/ { base := 0x30018001C, dims := [], fields := [⟨31, 31, .w1s, 0, .any⟩, ⟨17, 17, .rwl, 1, .any⟩, ⟨16, 0, .rwl, 600, .between 60 86400⟩] }
  , /- UPD_DONE -/ { base := 0x300180020, dims := [], fields := [⟨31, 0, .ro, 0, .any⟩] }
  , /- UPD_REMAIN -/ { base := 0x300180024, dims := [], fields := [⟨16, 0, .ro, 0, .any⟩] } ]

/-- Registers of 14_boot_update.md, part 4. -/
def regsBoot3 : List RegDef :=
  [ /- UPD_EVT -/ { base := 0x300180030, dims := [], fields := [⟨3, 3, .w1c, 0, .any⟩, ⟨2, 2, .w1c, 0, .any⟩, ⟨1, 1, .w1c, 0, .any⟩, ⟨0, 0, .w1c, 0, .any⟩] }
  , /- UPD_IEN -/ { base := 0x300180034, dims := [], fields := [⟨3, 0, .rw, 0, .any⟩] }
  , /- UPD_SLOT -/ { base := 0x300180040, dims := [(6, 0x4)], fields := [⟨31, 31, .ro, 0, .any⟩, ⟨30, 27, .ro, 0, .any⟩, ⟨23, 23, .ro, 0, .any⟩, ⟨22, 19, .ro, 0, .any⟩, ⟨0, 0, .ro, 0, .any⟩] }
  , /- UPD_VER -/ { base := 0x300180080, dims := [(6, 0x8), (2, 0x4)], fields := [⟨31, 0, .ro, 0, .any⟩] } ]

/-- Registers of 15_observability.md, part 1. -/
def regsObs0 : List RegDef :=
  [ /- EVR_CTRL -/ { base := 0x300190000, dims := [], fields := [⟨31, 31, .w1s, 0, .any⟩, ⟨0, 0, .rw, 0, .any⟩] }
  , /- EVR_STATUS -/ { base := 0x300190004, dims := [], fields := [⟨22, 16, .ro, 0, .any⟩, ⟨3, 3, .w1c, 0, .any⟩, ⟨2, 2, .w1c, 0, .any⟩, ⟨1, 1, .w1c, 0, .any⟩, ⟨0, 0, .ro, 0, .any⟩] }
  , /- EVR_IEN -/ { base := 0x300190008, dims := [], fields := [⟨2, 1, .rw, 0, .any⟩] }
  , /- EVR_CMD -/ { base := 0x30019000C, dims := [], fields := [⟨31, 31, .wo, 0, .any⟩] }
  , /- EVR_SW_CODE -/ { base := 0x300190010, dims := [], fields := [⟨18, 16, .rw, 0, .any⟩, ⟨15, 0, .rw, 0, .any⟩] }
  , /- EVR_SW_DATA -/ { base := 0x300190014, dims := [], fields := [⟨31, 0, .rw, 0, .any⟩] }
  , /- EVR_NEXT -/ { base := 0x300190018, dims := [], fields := [⟨31, 0, .ro, 0, .any⟩] }
  , /- EVR_HEAD -/ { base := 0x30019001C, dims := [], fields := [⟨15, 0, .ro, 0, .any⟩] }
  , /- EVR_LOST -/ { base := 0x300190020, dims := [], fields := [⟨31, 0, .rc, 0, .any⟩] }
  , /- EVR_OPSEC -/ { base := 0x300190024, dims := [], fields := [⟨31, 0, .ro, 0, .any⟩] } ]

/-- Registers of 15_observability.md, part 2. -/
def regsObs1 : List RegDef :=
  [ /- EVR_PWRCYC -/ { base := 0x300190028, dims := [], fields := [⟨31, 0, .ro, 0, .any⟩] }
  , /- EVR_RD_SLOT -/ { base := 0x300190030, dims := [], fields := [⟨31, 31, .ro, 0, .any⟩, ⟨30, 30, .ro, 0, .any⟩, ⟨15, 0, .rw, 0, .any⟩] }
  , /- EVR_RD_DATA -/ { base := 0x300190100, dims := [(64, 0x4)], fields := [⟨31, 0, .ro, 0, .any⟩] }
  , /- EVR_TRIG -/ { base := 0x300190400, dims := [(72, 0x4)], fields := [⟨31, 31, .rwl, 0, .any⟩, ⟨2, 0, .rwl, 0, .any⟩] }
  , /- EVR_LIST -/ { base := 0x300190800, dims := [(8, 0x80), (23, 0x4)], fields := [⟨31, 31, .rwl, 0, .any⟩, ⟨22, 2, .rwl, 0, .any⟩] } ]

/-- Registers of 15_observability.md, part 3. -/
def regsObs2 : List RegDef :=
  [ /- PMC_BCTL -/ { base := 0x300480000, dims := [(8, 0x10000)], fields := [⟨1, 1, .rw, 0, .any⟩, ⟨0, 0, .rw, 0, .any⟩] }
  , /- PMC_WCFG -/ { base := 0x300480004, dims := [(8, 0x10000)], fields := [⟨31, 31, .rw, 0, .any⟩, ⟨23, 0, .rw, 1000, .any⟩] }
  , /- PMC_WSTAT -/ { base := 0x300480008, dims := [(8, 0x10000)], fields := [⟨31, 31, .ro, 0, .any⟩, ⟨30, 0, .ro, 0, .any⟩] }
  , /- PMC_OVF_LO -/ { base := 0x30048000C, dims := [(8, 0x10000)], fields := [⟨31, 0, .w1c, 0, .any⟩] }
  , /- PMC_OVF_HI -/ { base := 0x300480010, dims := [(8, 0x10000)], fields := [⟨31, 0, .w1c, 0, .any⟩] }
  , /- PMC_IEN_LO -/ { base := 0x300480014, dims := [(8, 0x10000)], fields := [⟨31, 0, .rw, 0, .any⟩] }
  , /- PMC_IEN_HI -/ { base := 0x300480018, dims := [(8, 0x10000)], fields := [⟨31, 0, .rw, 0, .any⟩] }
  , /- PMC_UREAD_LO -/ { base := 0x30048001C, dims := [(8, 0x10000)], fields := [⟨31, 0, .rw, 0, .any⟩] }
  , /- PMC_UREAD_HI -/ { base := 0x300480020, dims := [(8, 0x10000)], fields := [⟨31, 0, .rw, 0, .any⟩] }
  , /- PMC_AW_BASE_LO -/ { base := 0x300480040, dims := [(8, 0x10000), (4, 0x10)], fields := [⟨31, 6, .rw, 0, .any⟩] } ]

/-- Registers of 15_observability.md, part 4. -/
def regsObs3 : List RegDef :=
  [ /- PMC_AW_BASE_HI -/ { base := 0x300480044, dims := [(8, 0x10000), (4, 0x10)], fields := [⟨7, 0, .rw, 0, .any⟩] }
  , /- PMC_AW_LIMIT_LO -/ { base := 0x300480048, dims := [(8, 0x10000), (4, 0x10)], fields := [⟨31, 6, .rw, 0, .any⟩] }
  , /- PMC_AW_LIMIT_HI -/ { base := 0x30048004C, dims := [(8, 0x10000), (4, 0x10)], fields := [⟨8, 0, .rw, 0, .any⟩] }
  , /- PMC_CTL -/ { base := 0x300480400, dims := [(8, 0x10000), (64, 0x20)], fields := [⟨31, 31, .rw, 0, .any⟩, ⟨30, 30, .rw, 0, .any⟩, ⟨29, 29, .wo, 0, .any⟩, ⟨26, 24, .rw, 0, .between 0 4⟩, ⟨7, 0, .rw, 0, .any⟩] }
  , /- PMC_FILT -/ { base := 0x300480404, dims := [(8, 0x10000), (64, 0x20)], fields := [⟨30, 24, .rw, 0, .any⟩, ⟨22, 16, .rw, 0, .any⟩, ⟨15, 0, .rw, 65535, .any⟩] }
  , /- PMC_FILT2 -/ { base := 0x300480408, dims := [(8, 0x10000), (64, 0x20)], fields := [⟨10, 8, .rw, 7, .any⟩, ⟨5, 0, .rw, 0, .any⟩] }
  , /- PMC_VAL_LO -/ { base := 0x30048040C, dims := [(8, 0x10000), (64, 0x20)], fields := [⟨31, 0, .ro, 0, .any⟩] }
  , /- PMC_VAL_HI -/ { base := 0x300480410, dims := [(8, 0x10000), (64, 0x20)], fields := [⟨15, 0, .ro, 0, .any⟩] }
  , /- PMC_SNAP_LO -/ { base := 0x300480414, dims := [(8, 0x10000), (64, 0x20)], fields := [⟨31, 0, .ro, 0, .any⟩] }
  , /- PMC_SNAP_HI -/ { base := 0x300480418, dims := [(8, 0x10000), (64, 0x20)], fields := [⟨15, 0, .ro, 0, .any⟩] } ]

/-- Registers of 16_electrical_mechanical.md, part 1. -/
def regsElec0 : List RegDef :=
  [ /- PWR_EN -/ { base := 0x300100000, dims := [(12, 0x4)], fields := [⟨8, 8, .rw, 0, .any⟩, ⟨5, 5, .w1c, 0, .any⟩, ⟨4, 4, .w1c, 0, .any⟩, ⟨2, 2, .ro, 0, .any⟩, ⟨1, 0, .ro, 0, .any⟩] }
  , /- PWR_STATUS -/ { base := 0x300100040, dims := [], fields := [⟨7, 7, .w1c, 0, .any⟩, ⟨6, 6, .ro, 0, .any⟩, ⟨5, 5, .ro, 0, .any⟩, ⟨4, 4, .ro, 0, .any⟩, ⟨3, 3, .ro, 0, .any⟩, ⟨2, 2, .ro, 0, .any⟩, ⟨1, 1, .ro, 0, .any⟩] }
  , /- PWR_FEED -/ { base := 0x300100044, dims := [(2, 0x4)], fields := [⟨31, 16, .ro, 0, .any⟩, ⟨15, 0, .ro, 0, .any⟩] }
  , /- PWR_TEMP -/ { base := 0x30010004C, dims := [], fields := [⟨31, 16, .ro, 0, .any⟩, ⟨15, 0, .ro, 0, .any⟩] }
  , /- PWR_CFG -/ { base := 0x300100050, dims := [], fields := [⟨31, 31, .w1s, 0, .any⟩, ⟨8, 8, .rwl, 0, .any⟩, ⟨3, 0, .rwl, 8, .between 1 9⟩] }
  , /- PWR_EVT -/ { base := 0x300100054, dims := [], fields := [⟨5, 5, .w1c, 0, .any⟩, ⟨4, 4, .w1c, 0, .any⟩, ⟨3, 3, .w1c, 0, .any⟩, ⟨2, 2, .w1c, 0, .any⟩, ⟨1, 1, .w1c, 0, .any⟩, ⟨0, 0, .w1c, 0, .any⟩] }
  , /- PWR_IEN -/ { base := 0x300100058, dims := [], fields := [⟨5, 0, .rw, 0, .any⟩] } ]

/-- The register table in groups, each with a range of addresses that holds its registers. -/
def regGroups : List (Nat × Nat × List RegDef) :=
  [ (0x300120000, 0x300120025, regsTime0)
  , (0x300120028, 0x300120039, regsTime1)
  , (0x300130000, 0x300130039, regsTime2)
  , (0x300010000, 0x300010059, regsTick0)
  , (0x300010044, 0x30001070D, regsTick1)
  , (0x300018000, 0x30001FFFD, regsTick2)
  , (0x300020000, 0x300020019, regsImage0)
  , (0x300028000, 0x30002FFFD, regsImage1)
  , (0x300030000, 0x300030015, regsImage2)
  , (0x300040000, 0x30004FFFD, regsImage3)
  , (0x300050000, 0x30005FFFD, regsImage4)
  , (0x300060000, 0x30006FC15, regsGrove0)
  , (0x300070000, 0x3000702AD, regsGrove1)
  , (0x300080000, 0x3000F0021, regsGrove2)
  , (0x300110000, 0x300110025, regsGrove3)
  , (0x300110028, 0x300110039, regsGrove4)
  , (0x300500000, 0x3005002FD, regsGate0)
  , (0x300501000, 0x30052DFED, regsGate1)
  , (0x300501810, 0x30052DFF9, regsGate2)
  , (0x300200000, 0x3003700A5, regsLink0)
  , (0x300200100, 0x300370125, regsRing0)
  , (0x300200128, 0x30037012D, regsRing1)
  , (0x300140000, 0x30014002D, regsPair0)
  , (0x300140030, 0x3001400ED, regsPair1)
  , (0x300150000, 0x30015001D, regsPair2)
  , (0x300160000, 0x300160025, regsChange0)
  , (0x300160028, 0x30016017D, regsChange1)
  , (0x300380000, 0x3003B0025, regsNet0)
  , (0x300380028, 0x3003B02FD, regsNet1)
  , (0x300400000, 0x300470025, regsNet2)
  , (0x300400028, 0x300474F89, regsNet3)
  , (0x30040100C, 0x300474FFD, regsNet4)
  , (0x3001A0000, 0x3001A07E5, regsLio0)
  , (0x3001A0408, 0x3001A07F5, regsLio1)
  , (0x300000000, 0x300000011, regsBoot0)
  , (0x300170000, 0x300170081, regsBoot1)
  , (0x300180000, 0x300180025, regsBoot2)
  , (0x300180030, 0x3001800AD, regsBoot3)
  , (0x300190000, 0x300190025, regsObs0)
  , (0x300190028, 0x300190BD9, regsObs1)
  , (0x300480000, 0x3004F0071, regsObs2)
  , (0x300480044, 0x3004F0BF9, regsObs3)
  , (0x300100000, 0x300100059, regsElec0) ]

/-- The whole register table. -/
def regTable : List RegDef := regGroups.flatMap fun g => g.2.2

/-- Whether an offset is one copy of a register with these index strides. -/
def dimsHit : List (Nat × Nat) → Nat → Bool
  | [], off => off == 0
  | (n, st) :: ds, off => decide (off / st < n) && dimsHit ds (off % st)

/-- The register at an address, if the spec puts one there. -/
def regDef? (a : Nat) : Option RegDef :=
  regGroups.findSome? fun g =>
    if g.1 ≤ a ∧ a < g.2.1 then g.2.2.find? fun r => decide (r.base ≤ a) && dimsHit r.dims (a - r.base) else none

/-- A field's reset value shifted to its place. -/
def resetWord (fs : List FieldDef) : Nat :=
  fs.foldl (fun w f => w + f.reset * 2 ^ f.lo) 0

/-- The master IDs that 07 R182 lists with GATE_MATTR; the entries of the others read 0. -/
def mattrListed (m : Nat) : Bool :=
  (decide (0x44 ≤ m) && decide (m ≤ 0x47)) || m == 0x49 || (decide (0x50 ≤ m) && decide (m ≤ 0x67))
    || (decide (0x68 ≤ m) && decide (m ≤ 0x6B)) || (decide (0x70 ≤ m) && decide (m ≤ 0x77)) || m == 0x7F

/-- Reset value of the register at an address. Four cases differ per copy: LSC_CMP_k.DUP is 1 for k = 64 to 70
(06, LSC_ registers), ETH_CFG.FEC_EN is 0 on ETH2 and ETH3 (12), GATE_MATTR_m.PRV is 0b11 for m = 0x45, and the GATE_MATTR_m of an ID that R182 does not list reads 0. -/
def regReset (a : Nat) : BitVec 32 :=
  if 0x0300070100 + 64 * 4 ≤ a ∧ a ≤ 0x0300070100 + 70 * 4 then BitVec.ofNat 32 (2 ^ 31)
  else if a = 0x03003A0008 ∨ a = 0x03003B0008 then
    (match regDef? a with
      | some r => BitVec.ofNat 32 (resetWord r.fields) &&& ~~~0x20000#32
      | none => 0#32)
  else if 0x0300500210 ≤ a ∧ a < 0x0300500300 then
    (if mattrListed (0x44 + (a - 0x0300500210) / 4) then
      (if a = 0x0300500214 then 0x30#32 else 0x10#32) else 0#32)
  else match regDef? a with
    | some r => BitVec.ofNat 32 (resetWord r.fields)
    | none => 0#32

end Sys2Proof.Machine
end

