-- ==== Sys2Proof/Machine/RegNames.lean ====
section
/-! DEFINITION. The addresses of the registers and the places of their fields, under the names of the spec's register maps
(a register REG_x_y is REG x y; its field F is REG_F). -/

namespace Sys2Proof.Machine

abbrev TIM_NS : Nat := 0x300120000
abbrev TIM_SEC_LO : Nat := 0x300120004
abbrev TIM_SEC_HI : Nat := 0x300120008
abbrev TIM_SHORT : Nat := 0x30012000C
abbrev TIM_FADJ : Nat := 0x300120010
abbrev TIM_STEP_SEC : Nat := 0x300120014
abbrev TIM_STEP_NS : Nat := 0x300120018
abbrev TIM_STEP_NS_STEP_NS : Fld := ⟨29, 0⟩
abbrev TIM_CMD : Nat := 0x30012001C
abbrev TIM_CMD_RTC_STORE : Fld := ⟨1, 1⟩
abbrev TIM_CMD_STEP : Fld := ⟨0, 0⟩
abbrev TIM_CFG : Nat := 0x300120020
abbrev TIM_CFG_LOCK : Fld := ⟨31, 31⟩
abbrev TIM_CFG_RTC_FOLLOW : Fld := ⟨17, 17⟩
abbrev TIM_CFG_TICK_ALIGN : Fld := ⟨16, 16⟩
abbrev TIM_CFG_FADJ_MAX : Fld := ⟨8, 0⟩
abbrev TIM_SRC : Nat := 0x300120024
abbrev TIM_SRC_SYNC : Fld := ⟨2, 2⟩
abbrev TIM_SRC_SRC : Fld := ⟨1, 0⟩
abbrev TIM_STATUS : Nat := 0x300120028
abbrev TIM_STATUS_STEP_SEQ : Fld := ⟨15, 8⟩
abbrev TIM_STATUS_STEP_PEND : Fld := ⟨3, 3⟩
abbrev TIM_STATUS_ADJ_REJ : Fld := ⟨2, 2⟩
abbrev TIM_STATUS_RTC_VALID : Fld := ⟨0, 0⟩
abbrev TIM_RTC_SEC_LO : Nat := 0x300120030
abbrev TIM_RTC_SEC_HI : Nat := 0x300120034
abbrev TIM_RTC_FRAC : Nat := 0x300120038
abbrev PTP_CTRL : Nat := 0x300130000
abbrev PTP_CTRL_DOMAIN : Fld := ⟨31, 24⟩
abbrev PTP_CTRL_PORT_EN : Fld := ⟨19, 16⟩
abbrev PTP_CTRL_TRANSPORT : Fld := ⟨9, 8⟩
abbrev PTP_CTRL_ROLE : Fld := ⟨5, 4⟩
abbrev PTP_CTRL_ENABLE : Fld := ⟨0, 0⟩
abbrev PTP_STATUS : Nat := 0x300130004
abbrev PTP_STATUS_UNSUPP_CNT : Fld := ⟨31, 24⟩
abbrev PTP_STATUS_GM : Fld := ⟨16, 16⟩
abbrev PTP_STATUS_PSTATE3 : Fld := ⟨15, 12⟩
abbrev PTP_STATUS_PSTATE2 : Fld := ⟨11, 8⟩
abbrev PTP_STATUS_PSTATE1 : Fld := ⟨7, 4⟩
abbrev PTP_STATUS_PSTATE0 : Fld := ⟨3, 0⟩
abbrev PTP_OFFSET : Nat := 0x300130008
abbrev PTP_PDELAY (a : Nat) : Nat := 0x300130010 + a * 0x4
abbrev PTP_LAT (a : Nat) : Nat := 0x300130020 + a * 0x4
abbrev PTP_LAT_EGRESS : Fld := ⟨31, 16⟩
abbrev PTP_LAT_INGRESS : Fld := ⟨15, 0⟩
abbrev TSQ_CTRL : Nat := 0x300010000
abbrev TSQ_CTRL_MODE_REQ : Fld := ⟨16, 16⟩
abbrev TSQ_CTRL_RUN : Fld := ⟨8, 8⟩
abbrev TSQ_STATUS : Nat := 0x300010004
abbrev TSQ_STATUS_MODE : Fld := ⟨17, 17⟩
abbrev TSQ_STATUS_BANK : Fld := ⟨16, 16⟩
abbrev TSQ_STATUS_RUNNING : Fld := ⟨8, 8⟩
abbrev TSQ_STATUS_WDSTOP : Fld := ⟨6, 6⟩
abbrev TSQ_STATUS_INBUF_FULL : Fld := ⟨5, 5⟩
abbrev TSQ_STATUS_MODE_REJ : Fld := ⟨4, 4⟩
abbrev TSQ_STATUS_HELPER_BUSY : Fld := ⟨3, 3⟩
abbrev TSQ_STATUS_LATE_PROG : Fld := ⟨2, 2⟩
abbrev TSQ_STATUS_LATE_TASK : Fld := ⟨1, 1⟩
abbrev TSQ_TICK_LO : Nat := 0x300010008
abbrev TSQ_TICK_HI : Nat := 0x30001000C
abbrev TSQ_PC : Nat := 0x300010010
abbrev TSQ_PC_STALLED : Fld := ⟨12, 12⟩
abbrev TSQ_PC_PC : Fld := ⟨11, 0⟩
abbrev TSQ_CMD : Nat := 0x300010014
abbrev TSQ_CMD_CHECK : Fld := ⟨0, 0⟩
abbrev TSQ_CHK : Nat := 0x300010018
abbrev TSQ_CHK_DONE : Fld := ⟨31, 31⟩
abbrev TSQ_CHK_PASS : Fld := ⟨30, 30⟩
abbrev TSQ_CHK_CODE : Fld := ⟨27, 24⟩
abbrev TSQ_CHK_WORD : Fld := ⟨11, 0⟩
abbrev TSQ_OVR : Nat := 0x30001001C
abbrev TSQ_SKIP_CNT : Nat := 0x300010020
abbrev TSQ_SKIP_CNT_COUNT : Fld := ⟨31, 0⟩
abbrev TSQ_CTPEN_LO (a : Nat) : Nat := 0x300010040 + a * 0x8
abbrev TSQ_CTPEN_HI (a : Nat) : Nat := 0x300010044 + a * 0x8
abbrev TSQ_LEN (a : Nat) : Nat := 0x300010400 + a * 0x200
abbrev TSQ_LEN_LEN : Fld := ⟨16, 0⟩
abbrev TSQ_CLASS_CFG (a b : Nat) : Nat := 0x300010410 + a * 0x200 + b * 0x10
abbrev TSQ_CLASS_CFG_EN : Fld := ⟨31, 31⟩
abbrev TSQ_CLASS_CFG_PHASE : Fld := ⟨25, 16⟩
abbrev TSQ_CLASS_CFG_PERIOD : Fld := ⟨9, 0⟩
abbrev TSQ_CLASS_ENG_LO (a b : Nat) : Nat := 0x300010414 + a * 0x200 + b * 0x10
abbrev TSQ_CLASS_ENG_HI (a b : Nat) : Nat := 0x300010418 + a * 0x200 + b * 0x10
abbrev TSQ_CLASS_WD (a b : Nat) : Nat := 0x30001041C + a * 0x200 + b * 0x10
abbrev TSQ_CLASS_WD_FREE_WD : Fld := ⟨15, 0⟩
abbrev IMG_STATUS : Nat := 0x300020000
abbrev IMG_STATUS_DBANK : Fld := ⟨16, 16⟩
abbrev IMG_STATUS_MAP_BUSY : Fld := ⟨2, 2⟩
abbrev IMG_STATUS_UE : Fld := ⟨1, 1⟩
abbrev IMG_STATUS_CE : Fld := ⟨0, 0⟩
abbrev IMG_MAPCMD : Nat := 0x300020004
abbrev IMG_MAPCMD_LOAD : Fld := ⟨0, 0⟩
abbrev IMG_MAPCHK : Nat := 0x300020008
abbrev IMG_MAPCHK_DONE : Fld := ⟨31, 31⟩
abbrev IMG_MAPCHK_PASS : Fld := ⟨30, 30⟩
abbrev IMG_MAPCHK_CODE : Fld := ⟨27, 24⟩
abbrev IMG_MAPCHK_SIG : Fld := ⟨16, 0⟩
abbrev IMG_CE_CNT : Nat := 0x30002000C
abbrev IMG_CE_CNT_COUNT : Fld := ⟨31, 0⟩
abbrev IMG_UE_SIG : Nat := 0x300020010
abbrev IMG_UE_SIG_COPY : Fld := ⟨18, 17⟩
abbrev IMG_UE_SIG_SIG : Fld := ⟨16, 0⟩
abbrev IMG_DESC_SEL : Nat := 0x300020014
abbrev IMG_DESC_SEL_BANK : Fld := ⟨31, 31⟩
abbrev IMG_DESC_SEL_SIG : Fld := ⟨16, 0⟩
abbrev IMG_DESC_DATA : Nat := 0x300020018
abbrev IMG_SAFE (a b : Nat) : Nat := 0x300028000 + a * 0x4000 + b * 0x4
abbrev FRC_CTRL : Nat := 0x300030000
abbrev FRC_CTRL_EN : Fld := ⟨0, 0⟩
abbrev FRC_STATUS : Nat := 0x300030004
abbrev FRC_STATUS_REJ : Fld := ⟨28, 28⟩
abbrev FRC_STATUS_PEND : Fld := ⟨27, 27⟩
abbrev FRC_STATUS_CODE : Fld := ⟨19, 16⟩
abbrev FRC_STATUS_ACTIVE : Fld := ⟨12, 0⟩
abbrev FRC_APPLY_LO : Nat := 0x300030008
abbrev FRC_APPLY_HI : Nat := 0x30003000C
abbrev FRC_CMD : Nat := 0x300030010
abbrev FRC_CMD_CANCEL : Fld := ⟨1, 1⟩
abbrev FRC_CMD_APPLY : Fld := ⟨0, 0⟩
abbrev FRC_WCNT : Nat := 0x300030014
abbrev FRC_WCNT_COUNT : Fld := ⟨31, 0⟩
abbrev FRCS_CTL (a : Nat) : Nat := 0x300040000 + a * 0x10
abbrev FRCS_CTL_VALID : Fld := ⟨31, 31⟩
abbrev FRCS_CTL_SHV : Fld := ⟨28, 28⟩
abbrev FRCS_CTL_SHQ : Fld := ⟨27, 26⟩
abbrev FRCS_CTL_Q : Fld := ⟨25, 24⟩
abbrev FRCS_CTL_SHL : Fld := ⟨23, 22⟩
abbrev FRCS_CTL_SHM : Fld := ⟨21, 21⟩
abbrev FRCS_CTL_SIG : Fld := ⟨16, 0⟩
abbrev FRCA_CTL (a : Nat) : Nat := 0x300050000 + a * 0x10
abbrev FRCA_CTL_VALID : Fld := ⟨31, 31⟩
abbrev FRCA_CTL_MODE : Fld := ⟨30, 30⟩
abbrev FRCA_CTL_KIND : Fld := ⟨29, 29⟩
abbrev FRCA_CTL_SHV : Fld := ⟨28, 28⟩
abbrev FRCA_CTL_SHQ : Fld := ⟨27, 26⟩
abbrev FRCA_CTL_Q : Fld := ⟨25, 24⟩
abbrev FRCA_CTL_SHL : Fld := ⟨23, 22⟩
abbrev FRCA_CTL_SHM : Fld := ⟨21, 21⟩
abbrev FRCA_CTL_SIG : Fld := ⟨16, 0⟩
abbrev FRCS_VAL (a : Nat) : Nat := 0x300040004 + a * 0x10
abbrev FRCA_VAL (a : Nat) : Nat := 0x300050004 + a * 0x10
abbrev FRCS_STABLE (a : Nat) : Nat := 0x300040008 + a * 0x10
abbrev FRCA_STABLE (a : Nat) : Nat := 0x300050008 + a * 0x10
abbrev FRCA_SHADOW (a : Nat) : Nat := 0x30005000C + a * 0x10
abbrev GRV_EN (a : Nat) : Nat := 0x300080000 + a * 0x10000
abbrev GRV_EN_STATE : Fld := ⟨1, 0⟩
abbrev GRV_STATUS (a : Nat) : Nat := 0x300080004 + a * 0x10000
abbrev GRV_STATUS_RECOV_CNT : Fld := ⟨31, 24⟩
abbrev GRV_STATUS_PHASE : Fld := ⟨23, 20⟩
abbrev GRV_STATUS_FAULT_ENG : Fld := ⟨19, 17⟩
abbrev GRV_STATUS_LIMIT : Fld := ⟨7, 7⟩
abbrev GRV_STATUS_STOPCMD : Fld := ⟨6, 6⟩
abbrev GRV_STATUS_UE : Fld := ⟨5, 5⟩
abbrev GRV_STATUS_MISMATCH : Fld := ⟨4, 4⟩
abbrev GRV_STATUS_CBANK : Fld := ⟨3, 3⟩
abbrev GRV_STATUS_RESYNC : Fld := ⟨1, 1⟩
abbrev GRV_STATUS_ISOLATED : Fld := ⟨0, 0⟩
abbrev GRV_CFG (a : Nat) : Nat := 0x300080008 + a * 0x10000
abbrev GRV_CFG_AUTO_RECOVER : Fld := ⟨16, 16⟩
abbrev GRV_CFG_RECOV_MAX : Fld := ⟨7, 0⟩
abbrev GRV_RECOV_WIN (a : Nat) : Nat := 0x30008000C + a * 0x10000
abbrev GRV_RECOV_WIN_WIN_S : Fld := ⟨16, 0⟩
abbrev GRV_FAULT_TICK_LO (a : Nat) : Nat := 0x300080010 + a * 0x10000
abbrev GRV_FAULT_TICK_HI (a : Nat) : Nat := 0x300080014 + a * 0x10000
abbrev GRV_CE_CNT (a : Nat) : Nat := 0x300080018 + a * 0x10000
abbrev GRV_CE_CNT_COUNT : Fld := ⟨31, 0⟩
abbrev GRV_UE_ADDR (a : Nat) : Nat := 0x30008001C + a * 0x10000
abbrev ENG_STATUS (a : Nat) : Nat := 0x300060000 + a * 0x400
abbrev ENG_STATUS_CLASS : Fld := ⟨31, 28⟩
abbrev ENG_STATUS_DT_CAUSE : Fld := ⟨27, 22⟩
abbrev ENG_STATUS_DTRAP : Fld := ⟨15, 15⟩
abbrev ENG_STATUS_PRV : Fld := ⟨9, 8⟩
abbrev ENG_STATUS_STATE : Fld := ⟨2, 0⟩
abbrev ENG_PC_LO (a : Nat) : Nat := 0x300060004 + a * 0x400
abbrev ENG_PC_HI (a : Nat) : Nat := 0x300060008 + a * 0x400
abbrev ENG_TVEC (a : Nat) : Nat := 0x30006000C + a * 0x400
abbrev ENG_TVEC_TVEC : Fld := ⟨27, 0⟩
abbrev ENG_TPEN_LO (a : Nat) : Nat := 0x300060010 + a * 0x400
abbrev ENG_TPEN_HI (a : Nat) : Nat := 0x300060014 + a * 0x400
abbrev LSC_CMD : Nat := 0x300070000
abbrev LSC_CMD_TEST : Fld := ⟨31, 31⟩
abbrev LSC_CMD_SEL : Fld := ⟨6, 0⟩
abbrev LSC_SUM (a : Nat) : Nat := 0x300070010 + a * 0x4
abbrev LSC_CMP (a : Nat) : Nat := 0x300070100 + a * 0x4
abbrev LSC_CMP_TESTED : Fld := ⟨30, 30⟩
abbrev LSC_CMP_PASS : Fld := ⟨29, 29⟩
abbrev LSC_CMP_COMB : Fld := ⟨26, 26⟩
abbrev LSC_CMP_MISMATCH : Fld := ⟨25, 25⟩
abbrev LSC_CMP_BUSY : Fld := ⟨24, 24⟩
abbrev LSC_CMP_LANES : Fld := ⟨15, 0⟩
abbrev DBG_TARGET : Nat := 0x300110000
abbrev DBG_TARGET_CORE : Fld := ⟨6, 0⟩
abbrev DBG_CMD : Nat := 0x300110004
abbrev DBG_CMD_RESUME : Fld := ⟨3, 3⟩
abbrev DBG_CMD_STEP : Fld := ⟨2, 2⟩
abbrev DBG_CMD_HALT : Fld := ⟨1, 1⟩
abbrev DBG_STATUS : Nat := 0x300110008
abbrev DBG_STATUS_REPLAY_DEPTH : Fld := ⟨23, 20⟩
abbrev DBG_STATUS_MUTE : Fld := ⟨16, 16⟩
abbrev DBG_STATUS_REFUSED : Fld := ⟨8, 8⟩
abbrev DBG_STATUS_HALTED : Fld := ⟨3, 3⟩
abbrev DBG_STATUS_ERR : Fld := ⟨0, 0⟩
abbrev DBG_BRK_LO : Nat := 0x30011000C
abbrev DBG_BRK_HI : Nat := 0x300110010
abbrev DBG_BRK_C : Nat := 0x300110014
abbrev DBG_REG : Nat := 0x300110018
abbrev DBG_REG_GO : Fld := ⟨31, 31⟩
abbrev DBG_REG_WRITE : Fld := ⟨30, 30⟩
abbrev DBG_REG_REG : Fld := ⟨12, 0⟩
abbrev DBG_DATA_LO : Nat := 0x30011001C
abbrev DBG_DATA_HI : Nat := 0x300110020
abbrev DBG_ADDR_LO : Nat := 0x300110024
abbrev DBG_ADDR_HI : Nat := 0x300110028
abbrev DBG_MEM : Nat := 0x30011002C
abbrev DBG_MEM_GO : Fld := ⟨31, 31⟩
abbrev DBG_MEM_WRITE : Fld := ⟨30, 30⟩
abbrev DBG_MEM_SIZE : Fld := ⟨1, 0⟩
abbrev DBG_TRACE_LO : Nat := 0x300110030
abbrev DBG_TRACE_HI : Nat := 0x300110034
abbrev DBG_TRACE_C : Nat := 0x300110038
abbrev GATE_SUM_LO : Nat := 0x300500000
abbrev GATE_SUM_HI : Nat := 0x300500004
abbrev GATE_LOCK : Nat := 0x300500008
abbrev GATE_LOCK_LOCK : Fld := ⟨0, 0⟩
abbrev GATE_MATTR (a : Nat) : Nat := 0x300500210 + a * 0x4
abbrev GATE_MATTR_PRV : Fld := ⟨5, 4⟩
abbrev GATE_MATTR_PART : Fld := ⟨3, 0⟩
abbrev GATE_CTRL (a : Nat) : Nat := 0x300501000 + a * 0x1000
abbrev GATE_CTRL_ENFORCE : Fld := ⟨31, 31⟩
abbrev GATE_STATUS (a : Nat) : Nat := 0x300501004 + a * 0x1000
abbrev GATE_STATUS_TBANK : Fld := ⟨8, 8⟩
abbrev GATE_STATUS_NLOCK : Fld := ⟨5, 0⟩
abbrev GATE_ERR_ADDR_LO (a : Nat) : Nat := 0x300501008 + a * 0x1000
abbrev GATE_ERR_ADDR_HI (a : Nat) : Nat := 0x30050100C + a * 0x1000
abbrev GATE_ERR_INFO (a : Nat) : Nat := 0x300501010 + a * 0x1000
abbrev GATE_ERR_INFO_VALID : Fld := ⟨31, 31⟩
abbrev GATE_ERR_INFO_CODE : Fld := ⟨30, 28⟩
abbrev GATE_ERR_INFO_PRV : Fld := ⟨25, 24⟩
abbrev GATE_ERR_INFO_PART : Fld := ⟨23, 20⟩
abbrev GATE_ERR_INFO_ENTRY : Fld := ⟨18, 14⟩
abbrev GATE_ERR_INFO_MID : Fld := ⟨6, 0⟩
abbrev GATE_ERR_CNT (a : Nat) : Nat := 0x300501014 + a * 0x1000
abbrev GATE_ERR_CNT_COUNT : Fld := ⟨31, 0⟩
abbrev GATE_BASE_LO (a b c : Nat) : Nat := 0x300501800 + a * 0x1000 + b * 0x400 + c * 0x20
abbrev GATE_BASE_LO_BASE_LO : Fld := ⟨31, 6⟩
abbrev GATE_BASE_HI (a b c : Nat) : Nat := 0x300501804 + a * 0x1000 + b * 0x400 + c * 0x20
abbrev GATE_LIMIT_LO (a b c : Nat) : Nat := 0x300501808 + a * 0x1000 + b * 0x400 + c * 0x20
abbrev GATE_LIMIT_HI (a b c : Nat) : Nat := 0x30050180C + a * 0x1000 + b * 0x400 + c * 0x20
abbrev GATE_CTL (a b c : Nat) : Nat := 0x300501810 + a * 0x1000 + b * 0x400 + c * 0x20
abbrev GATE_CTL_EN : Fld := ⟨31, 31⟩
abbrev GATE_CTL_LOCK : Fld := ⟨30, 30⟩
abbrev GATE_CTL_DEBUG_ALLOW : Fld := ⟨29, 29⟩
abbrev GATE_CTL_AREQ : Fld := ⟨26, 24⟩
abbrev GATE_CTL_AMASK : Fld := ⟨22, 20⟩
abbrev GATE_CTL_MACHINE_XWR : Fld := ⟨8, 6⟩
abbrev GATE_CTL_KERNEL_XWR : Fld := ⟨5, 3⟩
abbrev GATE_CTL_USER_XWR : Fld := ⟨2, 0⟩
abbrev GATE_PART (a b c : Nat) : Nat := 0x300501814 + a * 0x1000 + b * 0x400 + c * 0x20
abbrev GATE_PART_PARTMASK : Fld := ⟨15, 0⟩
abbrev GATE_MID (a b c : Nat) : Nat := 0x300501818 + a * 0x1000 + b * 0x400 + c * 0x20
abbrev GATE_MID_MIDMASK : Fld := ⟨14, 8⟩
abbrev GATE_MID_MID : Fld := ⟨6, 0⟩
abbrev VGX_EN_S (a : Nat) : Nat := 0x300200000 + a * 0x10000
abbrev VGX_EN_P (a : Nat) : Nat := 0x300200004 + a * 0x10000
abbrev VGX_LINK (a : Nat) : Nat := 0x300200008 + a * 0x10000
abbrev VGX_LINK_P_KRX : Fld := ⟨12, 12⟩
abbrev VGX_LINK_P_FRX : Fld := ⟨11, 11⟩
abbrev VGX_LINK_P_LOOP : Fld := ⟨10, 10⟩
abbrev VGX_LINK_P_SYNC : Fld := ⟨9, 9⟩
abbrev VGX_LINK_P_SIG : Fld := ⟨8, 8⟩
abbrev VGX_LINK_S_KRX : Fld := ⟨4, 4⟩
abbrev VGX_LINK_S_FRX : Fld := ⟨3, 3⟩
abbrev VGX_LINK_S_LOOP : Fld := ⟨2, 2⟩
abbrev VGX_LINK_S_SYNC : Fld := ⟨1, 1⟩
abbrev VGX_LINK_S_SIG : Fld := ⟨0, 0⟩
abbrev VGX_STATUS (a : Nat) : Nat := 0x30020000C + a * 0x10000
abbrev VGX_STATUS_DMAERR : Fld := ⟨3, 3⟩
abbrev VGX_STATUS_CLOSE : Fld := ⟨2, 2⟩
abbrev VGX_STATUS_LOOP : Fld := ⟨1, 1⟩
abbrev VGX_STATUS_SIGCHG : Fld := ⟨0, 0⟩
abbrev VGX_IEN (a : Nat) : Nat := 0x300200010 + a * 0x10000
abbrev VGX_CFG (a : Nat) : Nat := 0x300200014 + a * 0x10000
abbrev VGX_CFG_FLOOP_P : Fld := ⟨17, 17⟩
abbrev VGX_CFG_FLOOP_S : Fld := ⟨16, 16⟩
abbrev VGX_CFG_CLOSE_HOLD : Fld := ⟨7, 0⟩
abbrev VGX_DMAERR (a : Nat) : Nat := 0x300200018 + a * 0x10000
abbrev VGX_CNT (a b c : Nat) : Nat := 0x300200040 + a * 0x10000 + b * 0x40 + c * 0x4
abbrev VGX_CNT_COUNT : Fld := ⟨31, 0⟩
abbrev VGX_RMODE (a : Nat) : Nat := 0x300200100 + a * 0x10000
abbrev VGX_RMODE_STN_CNT : Fld := ⟨23, 16⟩
abbrev VGX_RMODE_START : Fld := ⟨15, 12⟩
abbrev VGX_RMODE_CEDED : Fld := ⟨6, 6⟩
abbrev VGX_RMODE_MASTER : Fld := ⟨5, 5⟩
abbrev VGX_RMODE_ONE_SIDED : Fld := ⟨4, 4⟩
abbrev VGX_RMODE_HEALED : Fld := ⟨3, 3⟩
abbrev VGX_RMODE_NEXT : Fld := ⟨2, 2⟩
abbrev VGX_RMODE_MODE : Fld := ⟨0, 0⟩
abbrev VGX_RCTL (a : Nat) : Nat := 0x300200104 + a * 0x10000
abbrev VGX_RCTL_START : Fld := ⟨16, 16⟩
abbrev VGX_RCTL_TOKEN_WAIT : Fld := ⟨15, 8⟩
abbrev VGX_RCTL_AUTO_FALLBACK : Fld := ⟨1, 1⟩
abbrev VGX_RCTL_THRU_FORCE : Fld := ⟨0, 0⟩
abbrev VGX_SCHED (a : Nat) : Nat := 0x300200108 + a * 0x10000
abbrev VGX_SCHED_FIT : Fld := ⟨31, 31⟩
abbrev VGX_SCHED_SCHK : Fld := ⟨27, 24⟩
abbrev VGX_SCHED_SCHED_ID : Fld := ⟨15, 0⟩
abbrev VGX_DLOOP (a : Nat) : Nat := 0x30020010C + a * 0x10000
abbrev VGX_DML (a : Nat) : Nat := 0x300200110 + a * 0x10000
abbrev VGX_EVT (a : Nat) : Nat := 0x300200114 + a * 0x10000
abbrev VGX_EVT_DRIFT : Fld := ⟨7, 7⟩
abbrev VGX_EVT_ONE_SIDED : Fld := ⟨6, 6⟩
abbrev VGX_EVT_IDMISMATCH : Fld := ⟨5, 5⟩
abbrev VGX_EVT_CONTEST_LOST : Fld := ⟨4, 4⟩
abbrev VGX_EVT_FITFAIL : Fld := ⟨3, 3⟩
abbrev VGX_EVT_MODECHG : Fld := ⟨2, 2⟩
abbrev VGX_EVT_STN_BACK : Fld := ⟨1, 1⟩
abbrev VGX_EVT_STN_LOST : Fld := ⟨0, 0⟩
abbrev VGX_EVT_IEN (a : Nat) : Nat := 0x300200118 + a * 0x10000
abbrev VGX_STNCFG (a : Nat) : Nat := 0x30020011C + a * 0x10000
abbrev VGX_STNCFG_LOST_N : Fld := ⟨7, 0⟩
abbrev VGX_LOST_LO (a : Nat) : Nat := 0x300200120 + a * 0x10000
abbrev VGX_LOST_HI (a : Nat) : Nat := 0x300200124 + a * 0x10000
abbrev VGX_PRES_LO (a : Nat) : Nat := 0x300200128 + a * 0x10000
abbrev VGX_PRES_HI (a : Nat) : Nat := 0x30020012C + a * 0x10000
abbrev PAR_STATUS : Nat := 0x300140000
abbrev PAR_STATUS_PROLE : Fld := ⟨31, 28⟩
abbrev PAR_STATUS_PHEARD : Fld := ⟨27, 27⟩
abbrev PAR_STATUS_HOLDOVER : Fld := ⟨26, 26⟩
abbrev PAR_STATUS_SPLIT : Fld := ⟨24, 24⟩
abbrev PAR_STATUS_WITNESS : Fld := ⟨23, 23⟩
abbrev PAR_STATUS_LANE_MUTE : Fld := ⟨22, 22⟩
abbrev PAR_STATUS_HOLD : Fld := ⟨21, 21⟩
abbrev PAR_STATUS_GATE : Fld := ⟨20, 20⟩
abbrev PAR_STATUS_ROLE : Fld := ⟨11, 8⟩
abbrev PAR_STATUS_POS : Fld := ⟨0, 0⟩
abbrev PAR_EPOCH : Nat := 0x300140004
abbrev PAR_EPOCH_PEPOCH : Fld := ⟨31, 16⟩
abbrev PAR_EPOCH_EPOCH : Fld := ⟨15, 0⟩
abbrev PAR_CMD : Nat := 0x300140008
abbrev PAR_CMD_RESYNC : Fld := ⟨7, 7⟩
abbrev PAR_CMD_FORCE : Fld := ⟨6, 6⟩
abbrev PAR_CMD_MAINT : Fld := ⟨5, 5⟩
abbrev PAR_CMD_RESTART : Fld := ⟨4, 4⟩
abbrev PAR_CMD_STOP : Fld := ⟨3, 3⟩
abbrev PAR_CMD_SWAP : Fld := ⟨2, 2⟩
abbrev PAR_CMD_SWAP_CANCEL : Fld := ⟨1, 1⟩
abbrev PAR_CMD_GO : Fld := ⟨0, 0⟩
abbrev PAR_CMDSTAT : Nat := 0x30014000C
abbrev PAR_CMDSTAT_REJ : Fld := ⟨31, 31⟩
abbrev PAR_CMDSTAT_CODE : Fld := ⟨27, 24⟩
abbrev PAR_CMDSTAT_SWAP_COMMIT : Fld := ⟨1, 1⟩
abbrev PAR_CMDSTAT_SWAP_PEND : Fld := ⟨0, 0⟩
abbrev PAR_SWAP_LO : Nat := 0x300140010
abbrev PAR_SWAP_HI : Nat := 0x300140014
abbrev PAR_CFG : Nat := 0x300140018
abbrev PAR_CFG_REPAIR_MAX : Fld := ⟨23, 16⟩
abbrev PAR_CFG_JOIN_WAIT : Fld := ⟨15, 0⟩
abbrev PAR_CFG2 : Nat := 0x30014001C
abbrev PAR_CFG2_AUTO_HANDOVER : Fld := ⟨16, 16⟩
abbrev PAR_CFG2_CONV_MAX : Fld := ⟨15, 0⟩
abbrev PAR_INEND (a : Nat) : Nat := 0x300140020 + a * 0x8
abbrev PAR_INEND_END : Fld := ⟨19, 0⟩
abbrev PAR_OUTEND (a : Nat) : Nat := 0x300140024 + a * 0x8
abbrev PAR_OUTEND_END : Fld := ⟨19, 0⟩
abbrev PAR_EVT : Nat := 0x300140030
abbrev PAR_EVT_TICKERR : Fld := ⟨13, 13⟩
abbrev PAR_EVT_COMPAT : Fld := ⟨12, 12⟩
abbrev PAR_EVT_POS_CONFLICT : Fld := ⟨11, 11⟩
abbrev PAR_EVT_COPP_FAIL : Fld := ⟨10, 10⟩
abbrev PAR_EVT_COPP_DONE : Fld := ⟨9, 9⟩
abbrev PAR_EVT_SWAP_ABORT : Fld := ⟨8, 8⟩
abbrev PAR_EVT_SWAP_DONE : Fld := ⟨7, 7⟩
abbrev PAR_EVT_REPAIR_FAIL : Fld := ⟨6, 6⟩
abbrev PAR_EVT_REPAIR : Fld := ⟨5, 5⟩
abbrev PAR_EVT_MISMATCH : Fld := ⟨4, 4⟩
abbrev PAR_EVT_AGREE_INC : Fld := ⟨3, 3⟩
abbrev PAR_EVT_NOAGREE : Fld := ⟨2, 2⟩
abbrev PAR_EVT_SPLIT : Fld := ⟨1, 1⟩
abbrev PAR_EVT_ROLECHG : Fld := ⟨0, 0⟩
abbrev PAR_IEN : Nat := 0x300140034
abbrev PAR_DIS_CNT : Nat := 0x300140038
abbrev PAR_DIS_CNT_COUNT : Fld := ⟨31, 0⟩
abbrev PAR_MIS_CNT : Nat := 0x30014003C
abbrev PAR_MIS_CNT_COUNT : Fld := ⟨31, 0⟩
abbrev PAR_COPP : Nat := 0x300140040
abbrev PAR_COPP_PHASE : Fld := ⟨31, 28⟩
abbrev PAR_COPP_GROVE : Fld := ⟨27, 27⟩
abbrev PAR_COPP_FAILS : Fld := ⟨23, 16⟩
abbrev PAR_COPP_SENT_MIB : Fld := ⟨15, 0⟩
abbrev PAR_LANE : Nat := 0x300140044
abbrev PAR_LANE_DELAY : Fld := ⟨15, 0⟩
abbrev PAR_EN_PL0 : Nat := 0x300140080
abbrev PAR_EN_PL1 : Nat := 0x300140084
abbrev PAR_PLCNT (a b : Nat) : Nat := 0x3001400C0 + a * 0x20 + b * 0x4
abbrev PAR_PLCNT_COUNT : Fld := ⟨31, 0⟩
abbrev HB_STATUS : Nat := 0x300150000
abbrev HB_STATUS_LASTK : Fld := ⟨31, 24⟩
abbrev HB_STATUS_MISS_H : Fld := ⟨19, 16⟩
abbrev HB_STATUS_MISS_L : Fld := ⟨15, 12⟩
abbrev HB_STATUS_ALIGNED : Fld := ⟨2, 2⟩
abbrev HB_STATUS_PATH_H : Fld := ⟨1, 1⟩
abbrev HB_STATUS_PATH_L : Fld := ⟨0, 0⟩
abbrev HB_CFG : Nat := 0x300150004
abbrev HB_CFG_RETURN_N : Fld := ⟨7, 0⟩
abbrev HB_EVT : Nat := 0x300150008
abbrev HB_EVT_LEAVE : Fld := ⟨3, 3⟩
abbrev HB_EVT_BOTH : Fld := ⟨2, 2⟩
abbrev HB_EVT_BACK : Fld := ⟨1, 1⟩
abbrev HB_EVT_LOST : Fld := ⟨0, 0⟩
abbrev HB_IEN : Nat := 0x30015000C
abbrev HB_CNT_MISS (a : Nat) : Nat := 0x300150010 + a * 0x4
abbrev HB_CNT_MISS_COUNT : Fld := ⟨31, 0⟩
abbrev HB_CNT_ERR : Nat := 0x300150018
abbrev HB_CNT_ERR_COUNT : Fld := ⟨31, 0⟩
abbrev HB_LASTK : Nat := 0x30015001C
abbrev HB_LASTK_LASTK : Fld := ⟨15, 0⟩
abbrev CHG_STATE : Nat := 0x300160000
abbrev CHG_STATE_CMDREJ : Fld := ⟨23, 20⟩
abbrev CHG_STATE_ABANDON : Fld := ⟨19, 16⟩
abbrev CHG_STATE_TRIES : Fld := ⟨15, 8⟩
abbrev CHG_STATE_STATE : Fld := ⟨2, 0⟩
abbrev CHG_CMD : Nat := 0x300160004
abbrev CHG_CMD_DISCARD : Fld := ⟨3, 3⟩
abbrev CHG_CMD_WITHDRAW : Fld := ⟨2, 2⟩
abbrev CHG_CMD_ANNOUNCE : Fld := ⟨1, 1⟩
abbrev CHG_CMD_STAGE : Fld := ⟨0, 0⟩
abbrev CHG_PKG_LO : Nat := 0x300160008
abbrev CHG_PKG_HI : Nat := 0x30016000C
abbrev CHG_PKG_LEN : Nat := 0x300160010
abbrev CHG_CHK : Nat := 0x300160014
abbrev CHG_CHK_DONE : Fld := ⟨31, 31⟩
abbrev CHG_CHK_PASS : Fld := ⟨30, 30⟩
abbrev CHG_CHK_CODE : Fld := ⟨28, 24⟩
abbrev CHG_APPLY_LO : Nat := 0x300160018
abbrev CHG_APPLY_HI : Nat := 0x30016001C
abbrev CHG_CFG : Nat := 0x300160020
abbrev CHG_CFG_MARGIN : Fld := ⟨15, 8⟩
abbrev CHG_CFG_RETRY : Fld := ⟨7, 0⟩
abbrev CHG_GEN : Nat := 0x300160024
abbrev CHG_GEN_CFG_GEN : Fld := ⟨15, 0⟩
abbrev CHG_PROG : Nat := 0x300160028
abbrev CHG_PROG_PASS_DONE : Fld := ⟨31, 31⟩
abbrev CHG_PROG_SAVED : Fld := ⟨30, 30⟩
abbrev CHG_PROG_DIRTY : Fld := ⟨19, 0⟩
abbrev CHG_DELTA : Nat := 0x30016002C
abbrev CHG_EVT : Nat := 0x300160030
abbrev CHG_EVT_BUDGET_WARN : Fld := ⟨7, 7⟩
abbrev CHG_EVT_ORPHAN_DROP : Fld := ⟨6, 6⟩
abbrev CHG_EVT_FAILED : Fld := ⟨5, 5⟩
abbrev CHG_EVT_ABANDONED : Fld := ⟨4, 4⟩
abbrev CHG_EVT_POSTPONED : Fld := ⟨3, 3⟩
abbrev CHG_EVT_APPLIED : Fld := ⟨2, 2⟩
abbrev CHG_EVT_STAGED : Fld := ⟨1, 1⟩
abbrev CHG_EVT_CHECKED : Fld := ⟨0, 0⟩
abbrev CHG_IEN : Nat := 0x300160034
abbrev CHG_HWM_SLICE (a : Nat) : Nat := 0x300160100 + a * 0x8
abbrev CHG_HWM_ACT (a : Nat) : Nat := 0x300160104 + a * 0x8
abbrev ETH_EN (a : Nat) : Nat := 0x300380000 + a * 0x10000
abbrev ETH_STATUS (a : Nat) : Nat := 0x300380004 + a * 0x10000
abbrev ETH_STATUS_PAUSED : Fld := ⟨3, 3⟩
abbrev ETH_STATUS_FEC_ACT : Fld := ⟨2, 2⟩
abbrev ETH_STATUS_AN_DONE : Fld := ⟨1, 1⟩
abbrev ETH_STATUS_LINK : Fld := ⟨0, 0⟩
abbrev ETH_CFG (a : Nat) : Nat := 0x300380008 + a * 0x10000
abbrev ETH_CFG_ALLMULTI : Fld := ⟨21, 21⟩
abbrev ETH_CFG_PROMISC : Fld := ⟨20, 20⟩
abbrev ETH_CFG_GUARD : Fld := ⟨19, 19⟩
abbrev ETH_CFG_PAUSE_RX : Fld := ⟨18, 18⟩
abbrev ETH_CFG_FEC_EN : Fld := ⟨17, 17⟩
abbrev ETH_CFG_AN_EN : Fld := ⟨16, 16⟩
abbrev ETH_CFG_MAXLEN : Fld := ⟨13, 0⟩
abbrev ETH_MAC_LO (a : Nat) : Nat := 0x30038000C + a * 0x10000
abbrev ETH_MAC_HI (a : Nat) : Nat := 0x300380010 + a * 0x10000
abbrev ETH_MAC_HI_MAC_HI : Fld := ⟨15, 0⟩
abbrev ETH_CLS (a : Nat) : Nat := 0x300380014 + a * 0x10000
abbrev ETH_CLS_PTP_RING : Fld := ⟨26, 24⟩
abbrev ETH_CLS_PEER_RING : Fld := ⟨22, 20⟩
abbrev ETH_CLS_DEF_RING : Fld := ⟨18, 16⟩
abbrev ETH_CLS_PEER_TYPE : Fld := ⟨15, 0⟩
abbrev ETH_PCPMAP (a : Nat) : Nat := 0x300380018 + a * 0x10000
abbrev ETH_PCPMAP_VLAN_EN : Fld := ⟨24, 24⟩
abbrev ETH_PCPMAP_MAP : Fld := ⟨23, 0⟩
abbrev ETH_EVT (a : Nat) : Nat := 0x30038001C + a * 0x10000
abbrev ETH_EVT_RXDROP : Fld := ⟨2, 2⟩
abbrev ETH_EVT_RINGERR : Fld := ⟨1, 1⟩
abbrev ETH_EVT_LINKCHG : Fld := ⟨0, 0⟩
abbrev ETH_IEN (a : Nat) : Nat := 0x300380020 + a * 0x10000
abbrev ETH_RDONE (a : Nat) : Nat := 0x300380024 + a * 0x10000
abbrev ETH_RIEN (a : Nat) : Nat := 0x300380028 + a * 0x10000
abbrev ETH_CNT (a b : Nat) : Nat := 0x300380040 + a * 0x10000 + b * 0x4
abbrev ETH_CNT_COUNT : Fld := ⟨31, 0⟩
abbrev ETH_RING_EN (a b : Nat) : Nat := 0x300380100 + a * 0x10000 + b * 0x20
abbrev ETH_RING_BASE_LO (a b : Nat) : Nat := 0x300380104 + a * 0x10000 + b * 0x20
abbrev ETH_RING_BASE_HI (a b : Nat) : Nat := 0x300380108 + a * 0x10000 + b * 0x20
abbrev ETH_RING_CFG (a b : Nat) : Nat := 0x30038010C + a * 0x10000 + b * 0x20
abbrev ETH_RING_CFG_SIZE : Fld := ⟨19, 16⟩
abbrev ETH_RING_CFG_LATE_TOL : Fld := ⟨15, 8⟩
abbrev ETH_RING_CFG_LATE_DROP : Fld := ⟨0, 0⟩
abbrev ETH_RING_HEAD (a b : Nat) : Nat := 0x300380110 + a * 0x10000 + b * 0x20
abbrev ETH_RING_HEAD_HEAD : Fld := ⟨11, 0⟩
abbrev ETH_RING_TAIL (a b : Nat) : Nat := 0x300380114 + a * 0x10000 + b * 0x20
abbrev ETH_RING_TAIL_TAIL : Fld := ⟨11, 0⟩
abbrev ETH_RING_ERR (a b : Nat) : Nat := 0x300380118 + a * 0x10000 + b * 0x20
abbrev ETH_RING_DROP (a b : Nat) : Nat := 0x30038011C + a * 0x10000 + b * 0x20
abbrev ETH_RING_DROP_COUNT : Fld := ⟨31, 0⟩
abbrev CAN_EN (a : Nat) : Nat := 0x300400000 + a * 0x10000
abbrev CAN_STATUS (a : Nat) : Nat := 0x300400004 + a * 0x10000
abbrev CAN_STATUS_REC : Fld := ⟨31, 24⟩
abbrev CAN_STATUS_TEC : Fld := ⟨23, 16⟩
abbrev CAN_STATUS_NOACK : Fld := ⟨4, 4⟩
abbrev CAN_STATUS_BOREC : Fld := ⟨3, 3⟩
abbrev CAN_STATUS_ESTATE : Fld := ⟨1, 0⟩
abbrev CAN_CFG (a : Nat) : Nat := 0x300400008 + a * 0x10000
abbrev CAN_CFG_COLL_N : Fld := ⟨23, 16⟩
abbrev CAN_CFG_LATE_TOL : Fld := ⟨15, 8⟩
abbrev CAN_CFG_LOOPBACK : Fld := ⟨2, 2⟩
abbrev CAN_CFG_LISTEN : Fld := ⟨1, 1⟩
abbrev CAN_CFG_FDE : Fld := ⟨0, 0⟩
abbrev CAN_NBT (a : Nat) : Nat := 0x30040000C + a * 0x10000
abbrev CAN_NBT_BRP : Fld := ⟨31, 24⟩
abbrev CAN_NBT_TSEG1 : Fld := ⟨23, 16⟩
abbrev CAN_NBT_TSEG2 : Fld := ⟨14, 8⟩
abbrev CAN_DBT (a : Nat) : Nat := 0x300400010 + a * 0x10000
abbrev CAN_DBT_BRP : Fld := ⟨28, 24⟩
abbrev CAN_DBT_TSEG1 : Fld := ⟨20, 16⟩
abbrev CAN_DBT_TSEG2 : Fld := ⟨11, 8⟩
abbrev CAN_TDC (a : Nat) : Nat := 0x300400014 + a * 0x10000
abbrev CAN_TDC_TDC_EN : Fld := ⟨15, 15⟩
abbrev CAN_TDC_TDCO : Fld := ⟨6, 0⟩
abbrev CAN_EVT (a : Nat) : Nat := 0x300400018 + a * 0x10000
abbrev CAN_EVT_LOGERR : Fld := ⟨5, 5⟩
abbrev CAN_EVT_MSGLOST : Fld := ⟨4, 4⟩
abbrev CAN_EVT_ID_COLLISION : Fld := ⟨3, 3⟩
abbrev CAN_EVT_NO_ACK : Fld := ⟨2, 2⟩
abbrev CAN_EVT_EPASSIVE : Fld := ⟨1, 1⟩
abbrev CAN_EVT_BUSOFF : Fld := ⟨0, 0⟩
abbrev CAN_IEN (a : Nat) : Nat := 0x30040001C + a * 0x10000
abbrev CAN_COLL_BUF (a : Nat) : Nat := 0x300400020 + a * 0x10000
abbrev CAN_COLL_BUF_BUF : Fld := ⟨6, 0⟩
abbrev CAN_LOG_BASE_LO (a : Nat) : Nat := 0x300400024 + a * 0x10000
abbrev CAN_LOG_BASE_HI (a : Nat) : Nat := 0x300400028 + a * 0x10000
abbrev CAN_LOG_CFG (a : Nat) : Nat := 0x30040002C + a * 0x10000
abbrev CAN_LOG_CFG_LOG_EN : Fld := ⟨31, 31⟩
abbrev CAN_LOG_CFG_LOG_ALL : Fld := ⟨30, 30⟩
abbrev CAN_LOG_CFG_LOG_SIZE : Fld := ⟨19, 16⟩
abbrev CAN_LOG_CFG_WIDX : Fld := ⟨11, 0⟩
abbrev CAN_LOG_ERR (a : Nat) : Nat := 0x300400030 + a * 0x10000
abbrev CAN_NEWDAT (a b : Nat) : Nat := 0x300400040 + a * 0x10000 + b * 0x4
abbrev CAN_BEVT (a b : Nat) : Nat := 0x300400050 + a * 0x10000 + b * 0x4
abbrev CAN_BIEN (a b : Nat) : Nat := 0x300400060 + a * 0x10000 + b * 0x4
abbrev CAN_CNT (a b : Nat) : Nat := 0x300400080 + a * 0x10000 + b * 0x4
abbrev CAN_CNT_COUNT : Fld := ⟨31, 0⟩
abbrev CAN_MB_CTRL (a b : Nat) : Nat := 0x300401000 + a * 0x10000 + b * 0x80
abbrev CAN_MB_CTRL_EN : Fld := ⟨31, 31⟩
abbrev CAN_MB_CTRL_DIR : Fld := ⟨30, 30⟩
abbrev CAN_MB_CTRL_TXREQ : Fld := ⟨29, 29⟩
abbrev CAN_MB_CTRL_TXABORT : Fld := ⟨28, 28⟩
abbrev CAN_MB_CTRL_NEWDAT : Fld := ⟨27, 27⟩
abbrev CAN_MB_CTRL_MSGLOST : Fld := ⟨26, 26⟩
abbrev CAN_MB_CTRL_TXOK : Fld := ⟨25, 25⟩
abbrev CAN_MB_CTRL_LATE : Fld := ⟨24, 24⟩
abbrev CAN_MB_CTRL_ABORTED : Fld := ⟨23, 23⟩
abbrev CAN_MB_CTRL_LAUNCH : Fld := ⟨22, 22⟩
abbrev CAN_MB_CTRL_LATE_DROP : Fld := ⟨21, 21⟩
abbrev CAN_MB_CTRL_FDF : Fld := ⟨20, 20⟩
abbrev CAN_MB_CTRL_BRS : Fld := ⟨19, 19⟩
abbrev CAN_MB_CTRL_IDE : Fld := ⟨17, 17⟩
abbrev CAN_MB_CTRL_RTR : Fld := ⟨16, 16⟩
abbrev CAN_MB_CTRL_DLC : Fld := ⟨3, 0⟩
abbrev CAN_MB_ID (a b : Nat) : Nat := 0x300401004 + a * 0x10000 + b * 0x80
abbrev CAN_MB_ID_ID : Fld := ⟨28, 0⟩
abbrev CAN_MB_MASK (a b : Nat) : Nat := 0x300401008 + a * 0x10000 + b * 0x80
abbrev CAN_MB_MASK_MASK : Fld := ⟨28, 0⟩
abbrev CAN_MB_STAMP (a b : Nat) : Nat := 0x30040100C + a * 0x10000 + b * 0x80
abbrev CAN_MB_LAUNCH (a b : Nat) : Nat := 0x300401010 + a * 0x10000 + b * 0x80
abbrev CAN_MB_CNT (a b : Nat) : Nat := 0x300401014 + a * 0x10000 + b * 0x80
abbrev CAN_MB_CNT_ATTEMPTS : Fld := ⟨31, 16⟩
abbrev CAN_MB_CNT_COLL : Fld := ⟨7, 0⟩
abbrev CAN_MB_DATA (a b c : Nat) : Nat := 0x300401040 + a * 0x10000 + b * 0x80 + c * 0x4
abbrev LIO_MAP : Nat := 0x3001A0000
abbrev LIO_MAP_BASE_B : Fld := ⟨27, 16⟩
abbrev LIO_MAP_BASE_A : Fld := ⟨11, 0⟩
abbrev LIO_PAR : Nat := 0x3001A0004
abbrev LIO_EVT : Nat := 0x3001A0008
abbrev LIO_EVT_LINKLOSS : Fld := ⟨5, 5⟩
abbrev LIO_EVT_SOE_OVF : Fld := ⟨4, 4⟩
abbrev LIO_EVT_REARM : Fld := ⟨3, 3⟩
abbrev LIO_EVT_LOW : Fld := ⟨2, 2⟩
abbrev LIO_EVT_WARN : Fld := ⟨1, 1⟩
abbrev LIO_EVT_DIAG : Fld := ⟨0, 0⟩
abbrev LIO_IEN : Nat := 0x3001A000C
abbrev LIO_GRP_STAT (a : Nat) : Nat := 0x3001A0040 + a * 0x10
abbrev LIO_GRP_STAT_VSUP : Fld := ⟨31, 16⟩
abbrev LIO_GRP_STAT_IGRP : Fld := ⟨15, 8⟩
abbrev LIO_GRP_STAT_LINKLOSS : Fld := ⟨7, 7⟩
abbrev LIO_GRP_STAT_GOVL : Fld := ⟨6, 6⟩
abbrev LIO_GRP_STAT_READY : Fld := ⟨5, 5⟩
abbrev LIO_GRP_STAT_REARM_OK : Fld := ⟨3, 3⟩
abbrev LIO_GRP_STAT_LATCH : Fld := ⟨2, 2⟩
abbrev LIO_GRP_STAT_LOW : Fld := ⟨1, 1⟩
abbrev LIO_GRP_STAT_WARN : Fld := ⟨0, 0⟩
abbrev LIO_GRP_CFG (a : Nat) : Nat := 0x3001A0044 + a * 0x10
abbrev LIO_GRP_CFG_REARM : Fld := ⟨1, 1⟩
abbrev LIO_GRP_CFG_AUTO_REARM : Fld := ⟨0, 0⟩
abbrev LIO_SOE_INFO : Nat := 0x3001A0080
abbrev LIO_SOE_INFO_VALID : Fld := ⟨31, 31⟩
abbrev LIO_SOE_INFO_DEPTH : Fld := ⟨26, 16⟩
abbrev LIO_SOE_INFO_LOST : Fld := ⟨15, 8⟩
abbrev LIO_SOE_INFO_LEVEL : Fld := ⟨6, 6⟩
abbrev LIO_SOE_INFO_CH : Fld := ⟨4, 0⟩
abbrev LIO_SOE_STAMP : Nat := 0x3001A0084
abbrev LIO_EN (a : Nat) : Nat := 0x3001A0400 + a * 0x20
abbrev LIO_CFG (a : Nat) : Nat := 0x3001A0404 + a * 0x20
abbrev LIO_CFG_GATEACT : Fld := ⟨24, 24⟩
abbrev LIO_CFG_SOE_EDGE : Fld := ⟨22, 21⟩
abbrev LIO_CFG_SOE_EN : Fld := ⟨20, 20⟩
abbrev LIO_CFG_OW_EN : Fld := ⟨19, 19⟩
abbrev LIO_CFG_MODE : Fld := ⟨17, 16⟩
abbrev LIO_CFG_DEB : Fld := ⟨15, 0⟩
abbrev LIO_GATE (a : Nat) : Nat := 0x3001A0408 + a * 0x20
abbrev LIO_GATE_G : Fld := ⟨23, 0⟩
abbrev LIO_DIAG (a : Nat) : Nat := 0x3001A040C + a * 0x20
abbrev LIO_DIAG_LEVEL : Fld := ⟨31, 31⟩
abbrev LIO_DIAG_DRIVE : Fld := ⟨30, 30⟩
abbrev LIO_DIAG_MAP : Fld := ⟨6, 6⟩
abbrev LIO_DIAG_CROSS : Fld := ⟨5, 5⟩
abbrev LIO_DIAG_EXTV : Fld := ⟨4, 4⟩
abbrev LIO_DIAG_OPENWIRE : Fld := ⟨3, 3⟩
abbrev LIO_DIAG_OVERTEMP : Fld := ⟨2, 2⟩
abbrev LIO_DIAG_OVERLOAD : Fld := ⟨1, 1⟩
abbrev LIO_CNT (a : Nat) : Nat := 0x3001A0410 + a * 0x20
abbrev LIO_MEAS (a : Nat) : Nat := 0x3001A0414 + a * 0x20
abbrev LIO_MEAS_MEAS : Fld := ⟨31, 0⟩
abbrev HWD_STATUS : Nat := 0x300170000
abbrev HWD_STATUS_TAMPER : Fld := ⟨28, 28⟩
abbrev HWD_STATUS_ALTSLOT : Fld := ⟨20, 16⟩
abbrev HWD_STATUS_FWTIMEOUT : Fld := ⟨11, 11⟩
abbrev HWD_STATUS_NOBOOT : Fld := ⟨10, 10⟩
abbrev HWD_STATUS_TRIALBOOT : Fld := ⟨9, 9⟩
abbrev HWD_STATUS_LIFECYCLE : Fld := ⟨1, 0⟩
abbrev HWD_UID (a : Nat) : Nat := 0x300170008 + a * 0x4
abbrev HWD_SVN (a : Nat) : Nat := 0x300170020 + a * 0x4
abbrev HWD_SVN_COUNT : Fld := ⟨6, 0⟩
abbrev HWD_KEYID (a : Nat) : Nat := 0x300170040 + a * 0x8
abbrev HWD_KEYST (a : Nat) : Nat := 0x300170044 + a * 0x8
abbrev HWD_KEYST_VALID : Fld := ⟨7, 7⟩
abbrev HWD_KEYST_REVOKED : Fld := ⟨6, 6⟩
abbrev HWD_KEYST_USAGE : Fld := ⟨3, 0⟩
abbrev HWD_RESET : Nat := 0x300170080
abbrev HWD_RESET_KEY : Fld := ⟨31, 16⟩
abbrev HWD_RESET_RESET : Fld := ⟨0, 0⟩
abbrev UPD_STATUS : Nat := 0x300180000
abbrev UPD_STATUS_STAGE : Fld := ⟨31, 28⟩
abbrev UPD_STATUS_CODE : Fld := ⟨27, 24⟩
abbrev UPD_STATUS_REJ : Fld := ⟨19, 19⟩
abbrev UPD_STATUS_WRERR : Fld := ⟨18, 18⟩
abbrev UPD_STATUS_BUSY : Fld := ⟨17, 17⟩
abbrev UPD_STATUS_CAUSE : Fld := ⟨11, 8⟩
abbrev UPD_STATUS_TRIES : Fld := ⟨6, 5⟩
abbrev UPD_STATUS_TMASK : Fld := ⟨4, 0⟩
abbrev UPD_CMD : Nat := 0x300180004
abbrev UPD_CMD_RETIRE : Fld := ⟨6, 6⟩
abbrev UPD_CMD_REVOKE : Fld := ⟨5, 5⟩
abbrev UPD_CMD_REJECT : Fld := ⟨4, 4⟩
abbrev UPD_CMD_CONFIRM : Fld := ⟨3, 3⟩
abbrev UPD_CMD_CANCEL : Fld := ⟨2, 2⟩
abbrev UPD_CMD_TRIAL : Fld := ⟨1, 1⟩
abbrev UPD_CMD_WRITE : Fld := ⟨0, 0⟩
abbrev UPD_SRC_LO : Nat := 0x300180008
abbrev UPD_SRC_HI : Nat := 0x30018000C
abbrev UPD_LEN : Nat := 0x300180010
abbrev UPD_TGT : Nat := 0x300180014
abbrev UPD_TGT_PART : Fld := ⟨10, 8⟩
abbrev UPD_TGT_SLOT : Fld := ⟨0, 0⟩
abbrev UPD_TMASK : Nat := 0x300180018
abbrev UPD_TMASK_TMASK : Fld := ⟨4, 0⟩
abbrev UPD_CFG : Nat := 0x30018001C
abbrev UPD_CFG_CONF_MASTER : Fld := ⟨17, 17⟩
abbrev UPD_CFG_PERIOD : Fld := ⟨16, 0⟩
abbrev UPD_DONE : Nat := 0x300180020
abbrev UPD_REMAIN : Nat := 0x300180024
abbrev UPD_EVT : Nat := 0x300180030
abbrev UPD_EVT_REVOKED : Fld := ⟨3, 3⟩
abbrev UPD_EVT_REJECTED : Fld := ⟨2, 2⟩
abbrev UPD_EVT_CONFIRMED : Fld := ⟨1, 1⟩
abbrev UPD_EVT_WRDONE : Fld := ⟨0, 0⟩
abbrev UPD_IEN : Nat := 0x300180034
abbrev UPD_SLOT (a : Nat) : Nat := 0x300180040 + a * 0x4
abbrev UPD_SLOT_MARK1 : Fld := ⟨31, 31⟩
abbrev UPD_SLOT_VCODE1 : Fld := ⟨30, 27⟩
abbrev UPD_SLOT_MARK0 : Fld := ⟨23, 23⟩
abbrev UPD_SLOT_VCODE0 : Fld := ⟨22, 19⟩
abbrev UPD_SLOT_CUR : Fld := ⟨0, 0⟩
abbrev UPD_VER (a b : Nat) : Nat := 0x300180080 + a * 0x8 + b * 0x4
abbrev UPD_VER_VERSION : Fld := ⟨31, 0⟩
abbrev RDY_VEC : Nat := 0x300000000
abbrev RDY_VEC_UNITS : Fld := ⟨17, 2⟩
abbrev RDY_VEC_CANOPY : Fld := ⟨1, 1⟩
abbrev RDY_VEC_HWD : Fld := ⟨0, 0⟩
abbrev RDY_FAIL : Nat := 0x300000004
abbrev RDY_EVT : Nat := 0x300000008
abbrev RDY_IEN : Nat := 0x30000000C
abbrev RDY_FWSET : Nat := 0x300000010
abbrev PMC_BCTL (a : Nat) : Nat := 0x300480000 + a * 0x10000
abbrev PMC_BCTL_FREEZE_ALL : Fld := ⟨1, 1⟩
abbrev PMC_BCTL_FREEZE : Fld := ⟨0, 0⟩
abbrev PMC_WCFG (a : Nat) : Nat := 0x300480004 + a * 0x10000
abbrev PMC_WCFG_ALIGN : Fld := ⟨31, 31⟩
abbrev PMC_WCFG_LEN : Fld := ⟨23, 0⟩
abbrev PMC_WSTAT (a : Nat) : Nat := 0x300480008 + a * 0x10000
abbrev PMC_WSTAT_SHORT : Fld := ⟨31, 31⟩
abbrev PMC_WSTAT_WSEQ : Fld := ⟨30, 0⟩
abbrev PMC_OVF_LO (a : Nat) : Nat := 0x30048000C + a * 0x10000
abbrev PMC_OVF_HI (a : Nat) : Nat := 0x300480010 + a * 0x10000
abbrev PMC_IEN_LO (a : Nat) : Nat := 0x300480014 + a * 0x10000
abbrev PMC_IEN_HI (a : Nat) : Nat := 0x300480018 + a * 0x10000
abbrev PMC_UREAD_LO (a : Nat) : Nat := 0x30048001C + a * 0x10000
abbrev PMC_UREAD_HI (a : Nat) : Nat := 0x300480020 + a * 0x10000
abbrev PMC_AW_BASE_LO (a b : Nat) : Nat := 0x300480040 + a * 0x10000 + b * 0x10
abbrev PMC_AW_BASE_HI (a b : Nat) : Nat := 0x300480044 + a * 0x10000 + b * 0x10
abbrev PMC_AW_LIMIT_LO (a b : Nat) : Nat := 0x300480048 + a * 0x10000 + b * 0x10
abbrev PMC_AW_LIMIT_HI (a b : Nat) : Nat := 0x30048004C + a * 0x10000 + b * 0x10
abbrev PMC_CTL (a b : Nat) : Nat := 0x300480400 + a * 0x10000 + b * 0x20
abbrev PMC_CTL_EN : Fld := ⟨31, 31⟩
abbrev PMC_CTL_MODE : Fld := ⟨30, 30⟩
abbrev PMC_CTL_CLR : Fld := ⟨29, 29⟩
abbrev PMC_CTL_AWIN : Fld := ⟨26, 24⟩
abbrev PMC_CTL_EVENT : Fld := ⟨7, 0⟩
abbrev PMC_FILT (a b : Nat) : Nat := 0x300480404 + a * 0x10000 + b * 0x20
abbrev PMC_FILT_MIDMASK : Fld := ⟨30, 24⟩
abbrev PMC_FILT_MID : Fld := ⟨22, 16⟩
abbrev PMC_FILT_CLASSMASK : Fld := ⟨15, 0⟩
abbrev PMC_FILT2 (a b : Nat) : Nat := 0x300480408 + a * 0x10000 + b * 0x20
abbrev PMC_FILT2_PRVMASK : Fld := ⟨10, 8⟩
abbrev PMC_FILT2_PORT : Fld := ⟨5, 0⟩
abbrev PMC_VAL_LO (a b : Nat) : Nat := 0x30048040C + a * 0x10000 + b * 0x20
abbrev PMC_VAL_HI (a b : Nat) : Nat := 0x300480410 + a * 0x10000 + b * 0x20
abbrev PMC_SNAP_LO (a b : Nat) : Nat := 0x300480414 + a * 0x10000 + b * 0x20
abbrev PMC_SNAP_HI (a b : Nat) : Nat := 0x300480418 + a * 0x10000 + b * 0x20
abbrev EVR_CTRL : Nat := 0x300190000
abbrev EVR_CTRL_RUN : Fld := ⟨0, 0⟩
abbrev EVR_STATUS : Nat := 0x300190004
abbrev EVR_STATUS_QDEPTH : Fld := ⟨22, 16⟩
abbrev EVR_STATUS_PFDONE : Fld := ⟨3, 3⟩
abbrev EVR_STATUS_WERR : Fld := ⟨2, 2⟩
abbrev EVR_STATUS_DROP : Fld := ⟨1, 1⟩
abbrev EVR_STATUS_SCANNED : Fld := ⟨0, 0⟩
abbrev EVR_IEN : Nat := 0x300190008
abbrev EVR_CMD : Nat := 0x30019000C
abbrev EVR_CMD_SWREC : Fld := ⟨31, 31⟩
abbrev EVR_SW_CODE : Nat := 0x300190010
abbrev EVR_SW_CODE_LIST : Fld := ⟨18, 16⟩
abbrev EVR_SW_CODE_CODE : Fld := ⟨15, 0⟩
abbrev EVR_SW_DATA : Nat := 0x300190014
abbrev EVR_NEXT : Nat := 0x300190018
abbrev EVR_HEAD : Nat := 0x30019001C
abbrev EVR_HEAD_SLOT : Fld := ⟨15, 0⟩
abbrev EVR_LOST : Nat := 0x300190020
abbrev EVR_LOST_COUNT : Fld := ⟨31, 0⟩
abbrev EVR_OPSEC : Nat := 0x300190024
abbrev EVR_OPSEC_OPSEC : Fld := ⟨31, 0⟩
abbrev EVR_PWRCYC : Nat := 0x300190028
abbrev EVR_PWRCYC_PWRCYC : Fld := ⟨31, 0⟩
abbrev EVR_RD_SLOT : Nat := 0x300190030
abbrev EVR_RD_SLOT_VALID : Fld := ⟨31, 31⟩
abbrev EVR_RD_SLOT_SLOT : Fld := ⟨15, 0⟩
abbrev EVR_RD_DATA (a : Nat) : Nat := 0x300190100 + a * 0x4
abbrev EVR_TRIG (a : Nat) : Nat := 0x300190400 + a * 0x4
abbrev EVR_TRIG_EN : Fld := ⟨31, 31⟩
abbrev EVR_TRIG_LIST : Fld := ⟨2, 0⟩
abbrev EVR_LIST (a b : Nat) : Nat := 0x300190800 + a * 0x80 + b * 0x4
abbrev EVR_LIST_VALID : Fld := ⟨31, 31⟩
abbrev EVR_LIST_OFFSET : Fld := ⟨22, 2⟩
abbrev PWR_EN (a : Nat) : Nat := 0x300100000 + a * 0x4
abbrev PWR_STATUS : Nat := 0x300100040
abbrev PWR_STATUS_TSHUT : Fld := ⟨7, 7⟩
abbrev PWR_STATUS_TWARN : Fld := ⟨6, 6⟩
abbrev PWR_STATUS_EJECT : Fld := ⟨5, 5⟩
abbrev PWR_STATUS_PPRES : Fld := ⟨4, 4⟩
abbrev PWR_STATUS_PFW : Fld := ⟨3, 3⟩
abbrev PWR_STATUS_FEED2_OK : Fld := ⟨2, 2⟩
abbrev PWR_STATUS_FEED1_OK : Fld := ⟨1, 1⟩
abbrev PWR_FEED (a : Nat) : Nat := 0x300100044 + a * 0x4
abbrev PWR_FEED_CURRENT : Fld := ⟨31, 16⟩
abbrev PWR_FEED_VOLTAGE : Fld := ⟨15, 0⟩
abbrev PWR_TEMP : Nat := 0x30010004C
abbrev PWR_TEMP_INLET : Fld := ⟨31, 16⟩
abbrev PWR_TEMP_DIE : Fld := ⟨15, 0⟩
abbrev PWR_CFG : Nat := 0x300100050
abbrev PWR_CFG_EJECT_LEAVE : Fld := ⟨8, 8⟩
abbrev PWR_CFG_PF_LEAVE : Fld := ⟨3, 0⟩
abbrev PWR_EVT : Nat := 0x300100054
abbrev PWR_EVT_PPRES : Fld := ⟨5, 5⟩
abbrev PWR_EVT_EJECT : Fld := ⟨4, 4⟩
abbrev PWR_EVT_TWARN : Fld := ⟨3, 3⟩
abbrev PWR_EVT_PFW_END : Fld := ⟨2, 2⟩
abbrev PWR_EVT_PFW : Fld := ⟨1, 1⟩
abbrev PWR_EVT_FEEDLOW : Fld := ⟨0, 0⟩
abbrev PWR_IEN : Nat := 0x300100058
abbrev TSQ_PROG (a b : Nat) : Nat := 0x300018000 + a * 0x4000 + b * 0x4

end Sys2Proof.Machine
end

