-- ==== Sys2Proof/Machine/State.lean ====
section
/-! DEFINITION. The state of the module as plain data: every register under its address, and the state that is no register, group by
group (INVENTORY.md lists each piece with its rule). `State.reset` is the module right after power-on reset. -/

namespace Sys2Proof.Machine

/-- Why the machine stops. The model itself raises no fault: traps, gate denials, Grove faults and FAULTED are next states. -/
inductive Fault
  /-- Raised by no meaning; safe. -/
  | none
deriving DecidableEq, Repr

/-- Why a command has no meaning. -/
inductive Refusal
  /-- Raised by an arm of exec whose command has no meaning in the model yet; safe. -/
  | notModelled (mnemonic : String)
deriving DecidableEq, Repr

/-! ### Time (chapter 02) and the sequencer (chapter 03) -/

/-- The local clock, the real-time clock and the instants measured with them. -/
structure Clock where
  /-- seconds of the local clock, 48 bits (R27) -/
  sec : Nat
  /-- nanoseconds of the local clock, below 10^9 (R27) -/
  ns : Nat
  /-- accumulated fraction of a nanosecond, in units of 1/256,000,000,000 ns (R28) -/
  acc : Nat
  /-- nanoseconds of the timebase since D1 started; no step moves it (R32) -/
  mono : Nat
  /-- tick-relative time in ns (R47) -/
  trel : Nat
  /-- half nanosecond carried by the 2.5 ns sequencer cycle (R47) -/
  half : Nat
  /-- RTC seconds (R34) -/
  rtcSec : Nat
  /-- RTC fraction in 1/32,768 s (R34) -/
  rtcFrac : Nat
  /-- part of an RTC fraction unit, in 1/10^9 -/
  rtcAcc : Nat
  /-- a clock step held for the next Clearing, in ns (R31) -/
  stepHeld : Option Int
deriving DecidableEq, Repr

/-- A sequencer word that stalls (R52, R60). -/
inductive Stall
  | waitt (t : Nat)
  | psync (k : Nat)
  | bar (mask : Nat)
deriving DecidableEq, Repr

/-- Budget and action of a class set by DEADL (R58). -/
structure Deadline where
  budget : Nat
  stop : Bool
deriving DecidableEq, Repr

/-- What the output segment of the tick sends (R278, R123). -/
inductive GateState
  | closed
  | frames
  | safe
deriving DecidableEq, Repr

/-- Sequencer state that is no register. -/
structure Seq where
  /-- tick number (R48) -/
  tick : Nat
  /-- the WAITT, PSYNC or BAR on which the sequencer stalls (R52, R60) -/
  stall : Option Stall
  /-- END reached, or no tick begun: the sequencer idles (R52) -/
  ended : Bool
  /-- HOLD has issued in this tick -/
  held : Bool
  /-- PXCH INAGREE has issued in this tick: ring ports write no input (R75) -/
  agree : Bool
  /-- OGATE has issued in this tick -/
  gated : Bool
  /-- what this tick's output segment sends, as OGATE latched it -/
  gate : GateState
  /-- a STOP overrun is due: safe values in this tick, STOPPED at CLEAR (R63, R72) -/
  stopDue : Bool
  /-- budgets and actions since the bank became active (R58); unlisted: budget 0, SKIP -/
  deadl : AMap Deadline
  /-- newest complete input buffer in free mode (R70) -/
  newest : Nat
  /-- buffer the running input segment fills in free mode (R70) -/
  filling : Option Nat
  /-- tick of the last snapshot into the previous output copy (05 R120) -/
  snapTick : Nat
  /-- length of the running tick in ns, 0 before the first: its bank's, with what TICK_ALIGN adds or takes (R32, R49) -/
  len : Nat
deriving DecidableEq, Repr

/-- State of one task of one class on one engine (R55 to R66). -/
inductive TaskState
  | none | ready | running | yielded | suspended | ended | exhausted | stopped | abandoned
deriving DecidableEq, Repr

/-- A task. -/
structure Task where
  st : TaskState
  /-- executed cycles in this tick (R61) -/
  cyc : Nat
  /-- executed cycles of the activation in earlier ticks (11 CHG_HWM_ACT) -/
  actCyc : Nat
  /-- its activation starts with the next restore (R140) -/
  fresh : Bool
  /-- it falls under its class's overrun action at HOLD (R63, R115, R117) -/
  overrun : Bool
  /-- it has taken an exception other than SCALL, which the runtime answers by ending it (04 R117) -/
  trapped : Bool
  /-- TCTX of the task (R79, R139) -/
  tctx : DWord
  /-- PART of the task (R79, R139) -/
  part : DWord
deriving DecidableEq, Repr

/-- A class's activation (R56, R58, R70). -/
structure Act where
  /-- an activation is in progress -/
  live : Bool
  /-- tick of release -/
  rel : Nat
  /-- input buffer bound in free mode (R70) -/
  buf : Nat
  /-- ticks in which one of its engines was halted: its watchdog pauses (06 R176) -/
  paused : Nat
deriving DecidableEq, Repr

/-- Run state of a Canopy core or the helper. -/
inductive CoreRun
  | off | run | halt | wait
deriving DecidableEq, Repr

/-- A debug action in a core's replay queue (R174). -/
inductive Replay
  | halt | step | resume
  | reg (r : Nat) (v : DWord)
  | mem (addr : Nat) (wr : Bool)
deriving DecidableEq, Repr

/-- A line of a Canopy data cache (R105): its 64 bytes and whether it is dirty. -/
structure CLine where
  bytes : List Byte
  dirty : Bool
deriving DecidableEq, Repr

/-- One Denma processor (R77 to R81). -/
structure Core where
  /-- v1 to v31 -/
  v : AMap DWord
  pc : DWord
  /-- system registers by number; STATUS holds PRV -/
  sr : AMap DWord
  run : CoreRun
  /-- a halt is requested for the next instruction boundary (R175) -/
  haltReq : Bool
  /-- class of the engine's current task -/
  task : Option Nat
  /-- helper routine that runs -/
  routine : Option Nat
  /-- engine state before a halt -/
  prev : Nat
  replay : List Replay
  /-- Canopy: tick points signalled and not yet taken, bit per number (R54) -/
  tps : Nat
  /-- Canopy: inter-core interrupts pending by sender, and a debug request (R110) -/
  xcore : Nat
  dreq : Bool
  /-- data cache lines of a Canopy core by line address, at most 512: 32 KiB (R76, R105) -/
  cache : AMap (Option CLine)
  /-- instruction cache lines of a Canopy core by line address, at most 512: 32 KiB (R76, R105) -/
  icache : AMap (Option (List Byte))
deriving DecidableEq, Repr

/-! ### Signal image and forces (chapter 05) -/

/-- An image entry (R119); AGE is computed from the refresh tick (R120). -/
structure Entry where
  value : Word
  status : Byte
  typ : BitVec 4
  upd : Option Int
deriving DecidableEq, Repr

/-- An armed force apply (R132): its tick and the copy of the staging words, by offset in the block. -/
structure Armed where
  tick : Nat
  copy : AMap Word
  /-- FORCE_CONF received in the partner's OUTDIG of the apply tick (R279) -/
  conf : Bool
  /-- tick in which this module armed it -/
  since : Nat
deriving DecidableEq, Repr

/-! ### Units (chapter 01) and Groves (chapter 06) -/

/-- Enable-model state of a switchable unit that is no register (R420). -/
structure UnitRec where
  /-- instant of the last completed stop -/
  stopped : Option Nat
  /-- STARTING, but the off-time has not elapsed -/
  waiting : Bool
  /-- instant at which the start work began -/
  started : Nat
deriving DecidableEq, Repr

/-- Grove state that is no register. -/
structure Grove where
  /-- start step: 0 none, 1 banks clearing, 2 comparator tests, 3 engines reset, waiting for the Clearing (R157) -/
  start : Nat
  /-- instants in s of the recovery attempts (R171) -/
  attempts : List Nat
  /-- 64-byte lines of the Canopy bank its engines wrote between REL and HOLD (R281) -/
  wrote : List Nat
  /-- lines dirtied since sent: to the change manager's second bank (R306), to the partner in a Coppice (R170, R283) -/
  dirty : List Nat
  dirtyP : List Nat
  /-- the fault came from a debug halt: no power-cycle (R176) -/
  debugHalt : Bool
  /-- no further recovery step begins (R172) -/
  stuck : Bool
  /-- ticks spent in step 6 (R171) -/
  conv : Nat
  /-- gate closed until one tick of matching digests; that tick has been (R169) -/
  hold : Bool
  matched : Bool
  /-- code reload done, bulk copy done, in steps 4 and 5 (R170) -/
  reloaded : Bool
deriving DecidableEq, Repr

/-- Kind of an ECC error placed in a memory word by the environment (R155, R196). -/
inductive EccErr
  | corrected
  | uncorrectable
deriving DecidableEq, Repr

/-- Response of the last access (R4, R192): the model's own record of what the master receives. -/
inductive Resp
  | none
  | word (w : Word)
  | data (bytes : List Byte)
  | done
  /-- code, address of the denied piece, bytes delivered before it -/
  | err (code : Nat) (addr : Nat) (bytes : List Byte)
deriving DecidableEq, Repr

/-! ### The event recorder (chapter 15) -/

/-- An event record before it is written (R392). -/
structure EvRec where
  source : Nat
  bit : Nat
  short : Word
  sec : Nat
  ns : Nat
  epoch : Nat
  tick : Nat
  opsec : Nat
  pwrcyc : Nat
  state : Nat
  pfail : Bool
  reg : Nat
  trel : Nat
  detail : Word
  snap : List (Nat × Word)
deriving DecidableEq, Repr

/-- Recorder state that is no register (R395 to R398). -/
structure Recorder where
  queue : List EvRec
  /-- records dropped since the previous record written -/
  lost : Nat
  /-- the power-fail warning has been raised: no further trigger is taken (R398) -/
  pf : Bool
  /-- triggers refused since the warning -/
  pfLost : Nat
  /-- nanoseconds of the running operating second (R397) -/
  opNs : Nat
deriving DecidableEq, Repr

/-! ### The pair manager (chapter 10) -/

/-- A pending role change (R261): the role, and the epoch it brings (none: own epoch + 1). -/
structure RoleChange where
  role : Nat
  epoch : Option Nat
deriving DecidableEq, Repr

/-- What one heartbeat path has seen (R269). -/
structure PathSt where
  /-- a valid heartbeat arrived in the running period -/
  got : Bool
  /-- consecutive periods with a valid heartbeat, counted up to RETURN_N -/
  good : Nat
deriving DecidableEq, Repr

/-- A ring-witness window (R270). -/
structure Witness where
  start : Nat
  stop : Nat
  positive : Bool
deriving DecidableEq, Repr

/-- A commanded swap in progress (R286). -/
structure Swap where
  tick : Nat
  /-- the tick master has received a confirmation -/
  conf : Bool
  /-- every OUTDIG since the proposal matched -/
  matched : Bool
deriving DecidableEq, Repr

/-- Repair of a mismatched tick (R281): what REPAIR_REQ named, and whether the LINES have all been written. -/
structure Repair where
  tick : Nat
  engs : Nat
  rings : Nat
  done : Bool
deriving DecidableEq, Repr

/-- A lane message (R265). -/
inductive LaneMsg
  | heartbeat (b : HbBody) (st : HbStamps)
  | leave (b : HbBody)
  | hello (h : Hello)
  | inagreeDig (d : InDig)
  | inagreeData (l : List SigRec)
  | outdig (d : OutDig)
  | time (t : TimeMsg)
  | repairReq (r : RepairReq)
  | lines (l : List LineRec)
  | force (tick : BitVec 64) (copy : List (Nat × Word))
  | stage (m : StageMsg)
deriving DecidableEq, Repr

/-- Pair manager state that is no register. -/
structure PairSt where
  /-- GO has been written in BOOTING (R261) -/
  go : Bool
  /-- the pending role change, taken at the next input instant -/
  pend : Option RoleChange
  /-- role held before the stop (R261) -/
  before : Nat
  lane : PathSt
  line : PathSt
  /-- instant at which both paths were lost (R270) -/
  lostAt : Option Nat
  witness : Option Witness
  /-- own heartbeat period number (R268) -/
  period : Nat
  /-- messages sent, wrapping at 2^32 (R264) -/
  msgid : Nat
  /-- last HELLO heard (R283) -/
  hello : Option Hello
  /-- instant since which no partner and no partner-produced frame has been heard (R261) -/
  quietFrom : Nat
  /-- last TIME message not yet used (R267) -/
  time : Option TimeMsg
  /-- a TIME message has set the clock since SYNCING began (R267) -/
  timeSet : Bool
  /-- the last lane-delay values, newest last, at most 16 (R267) -/
  delays : List Nat
  /-- transmit stamp and arrival of the partner's last lane heartbeat, echoed in ours -/
  echo : Word × Nat
  /-- own and partner's digests of this tick's input agreement (R273) -/
  ownIn : Option InDig
  parIn : Option InDig
  /-- partner's data of this tick received and written (R275) -/
  inData : Bool
  /-- the input agreement of this tick has ended -/
  inDone : Bool
  /-- flags that travel in OUTDIG (R275) -/
  noagree : Bool
  agreeInc : Bool
  /-- own and partner's OUTDIG of this tick (R277) -/
  ownOut : Option OutDig
  parOut : Option OutDig
  /-- CFG_GEN and FRC_GEN of the partner's last OUTDIG (R277) -/
  parGens : Nat × Nat
  /-- the two OUTDIGs of this tick mismatch (R278) -/
  mismatch : Bool
  /-- consecutive matching OUTDIGs (R286) -/
  matchRun : Nat
  swap : Option Swap
  /-- HANDOVER received, ACCEPT to be sent; ACCEPT sent or received (R287) -/
  accept : Bool
  handover : Bool
  stopReq : Bool
  restartReq : Bool
  parStop : Bool
  parRestart : Bool
  repair : Option Repair
  /-- ticks of the repairs within the last 1,000 (R282) -/
  repairs : List Nat
  /-- Coppice: instant at which BULK began, ticks of CONVERGE, own tick computed (R283, R284) -/
  coppStart : Nat
  coppTicks : Nat
  /-- bytes received in BULK (PAR_COPP.SENT_MIB) -/
  bulk : Nat
  /-- this module is the source of a Coppice -/
  source : Bool
  /-- PHASE of each Grove of the partner as its last OUTDIG gave it, 3 bits a Grove (R170, R172; notes/assumptions/78) -/
  parGrv : Nat
  /-- Groves of the partner that this module serves in a Grove-level Coppice (06 R170) -/
  serves : List Nat
  /-- the partner's package is being taken (R285) -/
  taking : Bool
  /-- REPAIR_REQ to be answered after the Clearing (R281) -/
  reqFrom : Option RepairReq
  /-- MATCH reached: the next OUTDIG carries JOIN_OK (R283) -/
  joinOk : Bool
  /-- the partner's OUTDIG of this tick votes APPLY_YES (11 R309) -/
  parApply : Bool
  /-- an answer to a HELLO is held until locked mode, or until an announced apply has ended (03 R68, R283) -/
  helloDue : Bool
  /-- fragments of messages not yet whole (R264) -/
  frags : List (Hdr × LaneMsg)
  /-- LINES and STAGE messages that wait for the end of an exchange window (R266) -/
  laneQ : List LaneMsg
  /-- the witness's decision, taken at the next input instant (R270) -/
  decision : Option Bool
  /-- CONVERGE: REPAIR_REQ of the running tick has been sent (R283) -/
  asked : Bool
deriving DecidableEq, Repr

/-! ### Configuration sets (chapter 11) -/

/-- State of staging and apply that is no register. -/
structure ChgSt where
  /-- the module's copy of the Canopy package, in DRAM (R292, R316); empty: none held -/
  canopy : List Byte
  /-- the package being staged -/
  staged : List Byte
  /-- last RESULT of the partner for this staging: digest, CHG_CHK value, SAVED (R299) -/
  result : Option (BitVec 384 × Word × Bool)
  /-- ACK of the running announcement received (R308) -/
  ack : Bool
  /-- quotas in force: Sapwood bytes and output signals by partition (R303, R316) -/
  quotas : List (Nat × Nat)
  /-- this module's vote in the running tick (R309) -/
  vote : Bool
  /-- own last no vote: 0 none, 1 NOFIT, 4 ORPHAN (R312) -/
  lastNo : Nat
  /-- a package save waits or runs (R316); it saves a package taken from the partner in a join (10 R285) -/
  saving : Bool
  joinSave : Bool
  /-- the transfer engine is stopped after a mismatch (06 R166) -/
  teDown : Bool
deriving DecidableEq, Repr

/-- What runs as firmware: VERSION of parts 0 to 4, and of the Canopy manifest the state format, CONV and the accepted partner versions
(14 R364, R380). -/
structure FwId where
  vers : List Word
  fmt : Nat
  conv : Bool
  pairMin : Nat
  pairMax : Nat
deriving DecidableEq, Repr

/-! ### Vangax rings and stations (chapters 08, 09) -/

/-- DYN traffic of one node (08 R214). -/
structure DynBox where
  /-- SRC, TID, FRAG and tick of the fragments processed within 256 ticks -/
  seen : List (Nat × Nat × Nat × Nat)
  /-- messages delivered to the node and not yet served, oldest first -/
  inbox : List Dyn
  /-- messages that wait for a mini-slot, with their DST, oldest first -/
  outbox : List (Byte × Dyn)
  /-- transactions the node has requested and that are not yet answered -/
  asked : List Nat
  /-- answers delivered to the requester -/
  answers : List Dyn
deriving DecidableEq, Repr

/-- One port of a node (08 R226, R228). -/
structure PortSt where
  /-- ticks for which a loss of sync still keeps the node sending /F/ (R226) -/
  loss : Nat
  /-- the node sends /K/ -/
  kTx : Bool
  /-- ticks of clean reception -/
  clean : Nat
  /-- last measured link delays in 1/16 ns, newest last, at most 4 (09 R233) -/
  dly : List Nat
deriving DecidableEq, Repr

/-- What a station's port receives, and its loop state (08 R203, R225); a module shows this in VGX_LINK. -/
structure PortRx where
  loop : Bool
  sig : Bool
  sync : Bool
  f : Bool
  k : Bool
  off : Bool
deriving DecidableEq, Repr

/-- A module's state of one ring that is no register. -/
structure RingSt where
  /-- schedules of the two schedule stores; the active one is that of the Canopy set (11 R291) -/
  sched0 : Option Sched
  sched1 : Option Sched
  active : Bool
  /-- instants at which this tick's segments began, in 1/80 ns; the input segment has begun and not ended -/
  sIn : Nat
  sDyn : Nat
  sOut : Nat
  inSeg : Bool
  /-- slots accepted in this tick with their digest; stations whose IN datagram was accepted, with its digest (08 R212, R219) -/
  acc : List (Nat × Word)
  thruAcc : List (Nat × Word)
  /-- stations with an IN slot refreshed in this tick; ticks without one by station (09 R257) -/
  fresh : List Nat
  lost : AMap Nat
  /-- mode decided for the tick after next: through-frame (09 R255) -/
  dec : Bool
  /-- the own SYNC last went all the way round (R222); tick of the partner's last SYNC straight from the stations (09 R253) -/
  closed : Bool
  parDirect : Option Nat
  /-- H of this module and of the partner in 1/16 ns (09 R253) -/
  ownH : Nat
  parH : Nat
  /-- station numbers by position; delay towards A, towards B and residence of each position as used in the active SSRs -/
  order : List Nat
  meas : List (Nat × Nat × Nat)
  /-- the same as measured for the SSRs in the idle banks (09 R244) -/
  staged : List (Nat × Nat × Nat)
  /-- what the THRU frames of a start-up have brought back: identities by hop index, DLY_A, DLY_B and RES by station number, stations whose
  SSR has read back (09 R249) -/
  ids : AMap (Option StnIdent)
  dlys : AMap (Option (Nat × Nat × Nat))
  loaded : List Nat
  /-- the partner's THRU frame of this tick's input segment, and of its output segment, has been handled (09 R251) -/
  thruIn : Bool
  thruOut : Bool
  /-- Clearings with CLAIM sent and none received; a CEDE is due; ticks of the running start-up phase; stations counted (09 R248, R249) -/
  claims : Nat
  cede : Bool
  phTicks : Nat
  mCnt : Nat
  /-- tick of the partner's last SYNC with MASTER = 1 (09 R248) -/
  parSync : Option Nat
  portS : PortSt
  portP : PortSt
  box : DynBox
deriving DecidableEq, Repr

/-- What a station keeps for one of its OUT slots (08 R223, 09 R256). -/
structure StnSlot where
  lastSeq : Word
  have_ : Bool
  fresh : Bool
  pend : List Byte
  miss : Nat
  /-- payload applied to the outputs; a comms-loss action is in force -/
  out : List Byte
  comms : Bool
deriving DecidableEq, Repr

/-- What a station takes from an accepted sync frame (09 R246). -/
structure SyncTake where
  seq : Word
  epoch : Nat
  schedId : Nat
  thru : Bool
  hold : Nat
  err : Int
  tickLen : Nat
deriving DecidableEq, Repr

/-- A station (chapters 08, 09). -/
structure Station where
  /-- station number, 0xFE none (08 R219) -/
  number : Nat
  epoch : Nat
  epochValid : Bool
  slots : AMap StnSlot
  /-- inputs latched at the last input instant, by slot -/
  latched : AMap (List Byte)
  /-- the two SSR banks, 2,048 bytes each (09 R243), and the bank last in use (09 R256) -/
  ssr : AMap Byte
  lastBank : Option Nat
  /-- current tick (low 32 bits), once a sync frame has been accepted -/
  tick : Option Word
  /-- SCHED_ID and mode of the sync frame that set the current tick; mode of the current tick is static -/
  schedId : Nat
  static : Bool
  /-- sync frame taken in this Clearing: with MASTER = 1, and the first with MASTER = 0 -/
  took : Option SyncTake
  slave : Option SyncTake
  /-- consecutive Clearings without, and with a good, accepted sync frame -/
  miss : Nat
  good : Nat
  listen : Bool
  /-- last error, slew over the next tick, sum of the steps, frequency correction, in ns (09 R247) -/
  err : Int
  slew : Int
  stepped : Int
  freq : Rat
  /-- CLOSE_HOLD of the last sync frame -/
  hold : Nat
  /-- ports: towards lower positions (false) and higher positions (true) -/
  portA : PortSt
  portB : PortSt
  rxA : PortRx
  rxB : PortRx
  /-- the port towards A is the port of higher positions -/
  swapAB : Bool
  /-- WINCNT, EPCNT, DUPCNT, MISSCNT -/
  wincnt : Nat
  epcnt : Nat
  dupcnt : Nat
  misscnt : Nat
  /-- last THRU frame processed, by POS (09 R252) -/
  thruA : Option Word
  thruB : Option Word
  box : DynBox
  /-- parameters of the device profile by index; file bytes by file × 2^32 + offset -/
  params : AMap (Option (List Byte))
  files : AMap Byte
deriving DecidableEq, Repr

/-! ### Plant network and CAN (chapter 12) -/

/-- A frame in a port's transmit buffer (R322): ring, descriptor index, its 32 bytes, the frame with padding, launch, lateness. -/
structure TxFrame where
  ring : Nat
  index : Nat
  desc : List Byte
  bytes : List Byte
  launch : Option Word
  elig : Bool
  late : Bool
  /-- transmit stamp, once the port has started it -/
  stamp : Word
deriving DecidableEq, Repr

/-- A plant network port's state that is no register. -/
structure NetSt where
  /-- fetched head frames -/
  buf : List TxFrame
  /-- the frame on the medium -/
  medium : Option TxFrame
  /-- instant at which the pause quanta run out -/
  pauseEnd : Nat
deriving DecidableEq, Repr

/-- What the peer service has kept (R328). -/
structure PeerSt where
  /-- SRCPAIR, TICK and KIND of the frames kept -/
  seen : List (Nat × Nat × Nat)
  /-- EPOCH of the last frame accepted from each pair -/
  epochs : AMap (Option Nat)
  /-- data of the frames kept, oldest first -/
  kept : List (List Byte)
deriving DecidableEq, Repr

/-- A CAN controller's state that is no register. -/
structure CanSt where
  /-- buffer whose frame is on the bus -/
  onBus : Option Nat
  /-- its TXABORT has been written -/
  abort : Bool
  /-- consecutive acknowledge errors (R339) -/
  acks : Nat
  /-- buffers whose ID_COLLISION has been raised for this TXREQ (R340) -/
  raised : List Nat
  /-- buffers whose request was late when TXREQ was written: they are sent at once (R336) -/
  lateReq : List Nat
  /-- SEQ of the last log record -/
  logSeq : Word
deriving DecidableEq, Repr

/-! ### Local channels (chapter 13) -/

/-- A local channel's state that is no register. -/
structure LioCh where
  /-- instant and short stamp of the last raw edge, while its debounce interval runs (R344) -/
  deb : Option (Nat × Word)
  /-- debounced level -/
  level : Bool
  /-- accepted rising edges since the channel reached ON (R345) -/
  count : Word
  /-- start of the running frequency gate, its edges, edges of the last completed gate (R346) -/
  gate : Option Nat
  edges : Nat
  last : Option Nat
  /-- instant of the last stop by overload or over-temperature (R353) -/
  hw : Option Nat
  /-- the start work is done: ON at the next input instant (R359) -/
  settled : Bool
  /-- state last driven under R349 -/
  drv : Bool
deriving DecidableEq, Repr

/-- A field group's state that is no register. -/
structure LioGrp where
  /-- start of the re-arm window (R356, R357) -/
  rise : Option Nat
  /-- the group current has not yet dropped below 4 A after an overcurrent (R357) -/
  ovl : Bool
  /-- the isolated controller has received no command for 5 ms (R358) -/
  lost : Bool
deriving DecidableEq, Repr

/-- The local channels. -/
structure LioSt where
  ch : AMap LioCh
  grp : AMap LioGrp
  /-- commands of the output channels, as HOLD took them (R348) -/
  cmd : Word
  /-- the partner's LOCAL_OUT of the last tick, if its OUTDIG was received (R351) -/
  par : Option Word
  /-- channels sampled as inputs at this input instant (10 R273) -/
  sampled : Word
  /-- free mode: entries sampled at the input instant, for the buffer that the input segment fills (R343) -/
  held : List (Nat × Word × Byte)
  /-- the SOE queue, oldest first: channel, new level, stamp (R347) -/
  soe : List (Nat × Bool × Word)
deriving DecidableEq, Repr

/-! ### Boot, power, test access (chapters 14, 16) -/

/-- A slot write of R374: source, bytes, part, slot. -/
structure SlotWrite where
  src : Nat
  len : Nat
  part : Nat
  slot : Nat
deriving DecidableEq, Repr

/-- Boot and update state that is no register and no record in MRAM. -/
structure BootSt where
  write : Option SlotWrite
  /-- instant of the trial boot while a trial runs, and its period in s (14 R376) -/
  trialAt : Option Nat
  period : Nat
  /-- instant at which the Canopy cores started (14 R371) -/
  bootAt : Nat
  /-- RETIRED is burned in OTP (14 R368); what OTP holds for the registers that load from it, by address (14 R367) -/
  retired : Bool
  otp : AMap Word
  /-- instant by which the module resets itself (14 R378) -/
  due : Option Nat
  /-- ENTRY of the loaded Canopy image, whose cores wait for the comparator tests of the boot (06 R165, 14 R371) -/
  entry : Option Nat
deriving DecidableEq, Repr

/-- Power state that is no register. -/
structure PwrSt where
  /-- the module is held in reset: 0 not, 1 by the input voltage, 2 by the die temperature, 3 by ENABLE, 4 by D1 having failed
  (16 R403, R406, R410) -/
  held : Nat
  /-- what holds the module after the reset that is due -/
  next : Nat
  /-- ENABLE is high; the hot-swap ramp runs -/
  enable : Bool
  ramp : Bool
  /-- instant at which PFW was set -/
  pfwAt : Nat
  /-- STRAP is high: slot B (16 R414) -/
  strapB : Bool
deriving DecidableEq, Repr

/-- The test access port (16 R417). -/
structure TapSt where
  ir : BitVec 6
  /-- STATUS and DATA that the next Capture-DR of DAPACC returns -/
  status : Nat
  data : Word
  /-- boundary register, whose cells the spec does not give, and bypass register -/
  bsr : BitVec 64
  byp : Bool
deriving DecidableEq, Repr

/-! ### What the block sends -/

/-- What a status LED shows (16 R419). -/
inductive Led
  | off
  | green
  | greenFlash
  | amber
  | amberFlash
  | red
deriving DecidableEq, Repr

/-- The four status LEDs of the front panel (16 R419). -/
structure Leds where
  pwr : Led
  role : Led
  pair : Led
  flt : Led
deriving DecidableEq, Repr

/-- A message or frame that the block has sent. -/
inductive Out
  /-- a PTP message handed to the stack: port, kind, receive stamp (R39, R41) -/
  | ptp (port : Nat) (kind : Nat) (stamp : Word)
  /-- a frame on a pair lane: lane, header, and the part of the message that it carries -/
  | lane (l : Nat) (h : Hdr) (m : LaneMsg)
  /-- a frame on the heartbeat line: LEAVE or heartbeat (R268) -/
  | line (leave : Bool) (b : HbBody)
  /-- a ring frame that leaves a node: ring, node, port, frame -/
  | frame (k : Nat) (node : RNode) (port : Bool) (f : Frame)
  /-- the ring frame that a port is sending ends at once with /E/ (09 R239), or is lost at a loopback (08 R227) -/
  | frameEnd (k : Nat) (node : RNode) (port : Bool)
  /-- a frame on a plant network port, with FCS -/
  | eth (n : Nat) (bytes : List Byte)
  /-- a CAN frame that has been sent without error -/
  | can (n : Nat) (f : CanFrame)
  /-- a datagram as the addressed station leaves it -/
  | dgram (k : Nat) (pos : Nat) (d : Dgram)
deriving DecidableEq, Repr

/-! ### The whole state -/

/-- The state of the module. -/
structure State where
  /-- registers by address; unlisted: the reset value of the register table -/
  regs : AMap Word
  /-- values latched per reading master, key master × 2^40 + address (R29, R383) -/
  latch : AMap Word
  clk : Clock
  seq : Seq
  /-- processors by CORE number (R79) -/
  cores : AMap Core
  /-- tasks, key engine × 16 + class -/
  tasks : AMap Task
  /-- activations by class -/
  acts : AMap Act
  /-- memory of the address map, by 40-bit address (R179) -/
  mem : AMap Byte
  /-- serial NOR devices, key device × 2^27 + offset (R363) -/
  nor : AMap Byte
  /-- words with an ECC error, by 8-byte word address (R155, R196) -/
  ecc : AMap (Option EccErr)
  /-- image entries, key copy × 131,072 + signal (R118) -/
  image : AMap Entry
  /-- copy 3 in locked mode: map entries by signal (R122) -/
  mapArea : AMap DWord
  /-- signal descriptors, key bank × 131,072 + signal (R122) -/
  desc : AMap Word
  /-- value and status last sent per output signal (R123) -/
  lastSent : AMap (Option (Word × Byte))
  armed : Option Armed
  /-- count of applied force changes, 16 bits (R277) -/
  frcGen : Nat
  groves : AMap Grove
  /-- running CRC of an engine's writes between REL and HOLD (R277) -/
  esd : AMap Word
  /-- units by the address of their enable word -/
  units : AMap UnitRec
  /-- trace buffer position and sequence (R181) -/
  tracePos : Nat
  traceSeq : Nat
  pair : PairSt
  chg : ChgSt
  fw : FwId
  /-- public keys of the OTP key entries (14 R367) -/
  keys : List (List Byte)
  rings : AMap RingSt
  /-- stations by ring × 64 + position -/
  stations : AMap Station
  /-- what each ring port of a node sends: the end of its last frame in 1/80 ns of the monotonic time, and that frame's LOOP bit (09 R239) -/
  lines : AMap (Option (Nat × Bool))
  net : AMap NetSt
  peers : PeerSt
  can : AMap CanSt
  lio : LioSt
  boot : BootSt
  pwr : PwrSt
  tap : TapSt
  evr : Recorder
  /-- start of the running window of each counter block: clock in ns, or tick number (15 R388) -/
  pmcStart : AMap Nat
  /-- the commands that wait, first in first out -/
  pending : List Instr
  /-- response of the last access -/
  resp : Resp
  /-- messages and frames sent, newest last -/
  out : List Out
  /-- counter of free values: the model's own field (notes/assumptions/1) -/
  free : Nat
deriving DecidableEq, Repr

/-! ### Reset -/

/-- A task that has not been released. -/
def Task.idle : Task := ⟨.none, 0, 0, false, false, false, 0#64, 0#64⟩

/-- A sequencer that has begun no tick. -/
def Seq.idle : Seq :=
  { tick := 0, stall := none, ended := true, held := false, agree := false, gated := false, gate := .closed, stopDue := false, deadl := [],
    newest := 0, filling := none, snapTick := 0, len := 0 }

/-- A pair manager that has heard nothing. -/
def PairSt.idle : PairSt :=
  { go := false, pend := none, before := 0, lane := ⟨false, 0⟩, line := ⟨false, 0⟩, lostAt := none, witness := none, period := 0, msgid := 0,
    hello := none, quietFrom := 0, time := none, timeSet := false, delays := [], echo := (0#32, 0), ownIn := none, parIn := none,
    inData := false, inDone := false, noagree := false, agreeInc := false, ownOut := none, parOut := none,
    parGens := (0, 0), mismatch := false, matchRun := 0,
    swap := none, accept := false, handover := false, stopReq := false, restartReq := false, parStop := false, parRestart := false,
    repair := none, repairs := [], coppStart := 0, coppTicks := 0, bulk := 0, source := false, parGrv := 0, serves := [], taking := false,
    reqFrom := none, joinOk := false, parApply := false, helloDue := false, frags := [], laneQ := [], decision := none, asked := false }

/-- No package held, nothing staged. -/
def ChgSt.idle : ChgSt :=
  { canopy := [], staged := [], result := none, ack := false, quotas := [], vote := false, lastNo := 0, saving := false, joinSave := false,
    teDown := false }

/-- A recorder with an empty queue. -/
def Recorder.idle : Recorder := ⟨[], 0, false, 0, 0⟩

/-- Local channels with nothing sampled or driven. -/
def LioSt.idle : LioSt := { ch := [], grp := [], cmd := 0#32, par := none, sampled := 0#32, held := [], soe := [] }

/-- The module right after power-on reset: every register reads its reset value (the table of `regReset`), memory lists nothing, nothing
runs, no command waits. Heartwood's boot is the command MODULE_RESET. -/
def State.reset : State :=
  { regs := [], latch := [], clk := ⟨0, 0, 0, 0, 0, 0, 0, 0, 0, none⟩, seq := .idle, cores := [], tasks := [], acts := [], mem := [],
    nor := [], ecc := [], image := [], mapArea := [], desc := [], lastSent := [], armed := none, frcGen := 0, groves := [], esd := [],
    units := [], tracePos := 0, traceSeq := 0, pair := .idle, chg := .idle, fw := ⟨[0#32, 0#32, 0#32, 0#32, 0#32], 0, false, 0, 0⟩,
    keys := [], rings := [], stations := [], lines := [], net := [], peers := ⟨[], [], []⟩, can := [], lio := .idle,
    boot := ⟨none, none, 0, 0, false, [], none, none⟩, pwr := ⟨0, 0, true, false, 0, false⟩, tap := ⟨1#6, 0, 0#32, 0#64, false⟩, evr := .idle,
    pmcStart := [], pending := [], resp := .none, out := [], free := 0 }

end Sys2Proof.Machine
end

