-- ==== Sys2Proof/Machine/Ops.lean ====
section
/-! DEFINITION. The named operations on registers, counters, the recorder queue and the processors that every family uses. -/

namespace Sys2Proof.Machine

open Sys2Proof

/-- The outcome of a command. -/
abbrev Out3 := Host.Outcome State Fault Refusal

/-! ### Bytes and CRC-32 -/

/-- Byte k of a word. -/
def byteOf (w : Nat) (k : Nat) : Byte := BitVec.ofNat 8 (w / 2 ^ (8 * k))

/-- Little-endian value of bytes (00 R3). -/
def leVal : List Byte → Nat
  | [] => 0
  | b :: bs => b.toNat + 256 * leVal bs

/-- n little-endian bytes of a value. -/
def leBytes : Nat → Nat → List Byte
  | 0, _ => []
  | n + 1, v => BitVec.ofNat 8 v :: leBytes n (v / 256)

/-- Little-endian field of n bytes at offset o of a byte string. -/
def le (pk : List Byte) (o n : Nat) : Nat := leVal ((pk.drop o).take n)

/-- One byte into a running CRC-32 with the IEEE 802.3 polynomial, bit order of the standard. -/
def crcByte (c : Word) (b : Byte) : Word :=
  (List.range 8).foldl (fun c _ => if c.getLsbD 0 then (c >>> 1) ^^^ 0xEDB88320#32 else c >>> 1) (c ^^^ b.zeroExtend 32)

/-- CRC-32 of bytes. -/
def crc32 (l : List Byte) : Word := (l.foldl crcByte 0xFFFFFFFF#32) ^^^ 0xFFFFFFFF#32

/-! ### Registers -/

/-- The bits of a field of a word. -/
def bitsOf (w : Word) (f : Fld) : Nat := w.toNat / 2 ^ f.lo % 2 ^ (f.hi + 1 - f.lo)

/-- The word with the field at v (its low bits). -/
def setBits (w : Word) (f : Fld) (v : Nat) : Word :=
  BitVec.ofNat 32 (w.toNat - bitsOf w f * 2 ^ f.lo + v % 2 ^ (f.hi + 1 - f.lo) * 2 ^ f.lo)

/-- The stored word of the register at an address. -/
def State.rget (s : State) (a : Nat) : Word := amGet regReset s.regs a

/-- Store a register's word. -/
def State.rset (s : State) (a : Nat) (w : Word) : State := { s with regs := amSet regReset s.regs a w }

/-- The value of a field. -/
def State.rd (s : State) (a : Nat) (f : Fld) : Nat := bitsOf (s.rget a) f

/-- A one-bit field as a truth value. -/
def State.on (s : State) (a : Nat) (f : Fld) : Bool := s.rd a f == 1

/-- Store a field. -/
def State.wr (s : State) (a : Nat) (f : Fld) (v : Nat) : State := s.rset a (setBits (s.rget a) f v)

/-- Store a one-bit field. -/
def State.flag (s : State) (a : Nat) (f : Fld) (b : Bool) : State := s.wr a f (if b then 1 else 0)

/-- A value held in a _LO and a _HI register. -/
def State.rd64 (s : State) (lo hi : Nat) : Nat := (s.rget lo).toNat + 2 ^ 32 * (s.rget hi).toNat

/-- Store a value in a _LO and a _HI register. -/
def State.wr64 (s : State) (lo hi : Nat) (v : Nat) : State :=
  (s.rset lo (BitVec.ofNat 32 v)).rset hi (BitVec.ofNat 32 (v / 2 ^ 32))

/-- Add to a counter field that saturates at its greatest value. -/
def State.bump (s : State) (a : Nat) (f : Fld) (n : Nat) : State :=
  s.wr a f (min (2 ^ (f.hi + 1 - f.lo) - 1) (s.rd a f + n))

/-- Whether bit i of a word is 1. -/
def wbit (w : Nat) (i : Nat) : Bool := w / 2 ^ i % 2 == 1

/-- Next free value (notes/assumptions/1). -/
def State.takeFree (s : State) : BitVec 64 × State := (Config.freeValue s.free, { s with free := s.free + 1 })

/-! ### Time -/

/-- A short stamp of an instant (R36). -/
def shortOf (sec ns : Nat) : Word := BitVec.ofNat 32 (sec * 1000000000 + ns)

/-- The short stamp of now. -/
def State.short (s : State) : Word := shortOf s.clk.sec s.clk.ns

/-! ### Processors -/

/-- CORE number of a processor (R79). -/
def coreNo : Proc → Nat
  | .eng e => e.val
  | .canopy c => 0x40 + c.val
  | .helper => 0x48

/-- Trap level of a processor (R76): KERNEL, or MACHINE on a Canopy core. -/
def trapLevel (n : Nat) : Nat := if 0x40 ≤ n ∧ n < 0x44 then 3 else 1

/-- A processor at reset (R81). -/
def coreReset (n : Nat) : Core :=
  { v := [], pc := 0#64, sr := [(0x010, BitVec.ofNat 64 (trapLevel n))], run := .off, haltReq := false, task := none, routine := none,
    prev := 0, replay := [], tps := 0, xcore := 0, dreq := false, cache := [], icache := [] }

/-- A processor. -/
def State.core (s : State) (n : Nat) : Core := amGet coreReset s.cores n

/-- Store a processor. -/
def State.setCore (s : State) (n : Nat) (c : Core) : State := { s with cores := amSet coreReset s.cores n c }

/-- A task of class c on engine e. -/
def State.task (s : State) (e c : Nat) : Task := amGet (fun _ => Task.idle) s.tasks (e * 16 + c)

/-- Store a task. -/
def State.setTask (s : State) (e c : Nat) (t : Task) : State :=
  { s with tasks := amSet (fun _ => Task.idle) s.tasks (e * 16 + c) t }

/-- A class that is not active. -/
def Act.idle : Act := ⟨false, 0, 0, 0⟩

/-- The activation of class c. -/
def State.act (s : State) (c : Nat) : Act := amGet (fun _ => Act.idle) s.acts c

/-- Store an activation. -/
def State.setAct (s : State) (c : Nat) (a : Act) : State := { s with acts := amSet (fun _ => Act.idle) s.acts c a }

/-! ### Grove records and unit records -/

/-- A Grove with nothing in progress. -/
def Grove.idle : Grove :=
  { start := 0, attempts := [], wrote := [], dirty := [], dirtyP := [], debugHalt := false, stuck := false, conv := 0, hold := false,
    matched := false, reloaded := false }

def State.grove (s : State) (g : Nat) : Grove := amGet (fun _ => Grove.idle) s.groves g
def State.setGrove (s : State) (g : Nat) (r : Grove) : State := { s with groves := amSet (fun _ => Grove.idle) s.groves g r }

/-- A unit that has not run. -/
def UnitRec.idle : UnitRec := ⟨none, false, 0⟩

def State.unit (s : State) (en : Nat) : UnitRec := amGet (fun _ => UnitRec.idle) s.units en
def State.setUnit (s : State) (en : Nat) (r : UnitRec) : State := { s with units := amSet (fun _ => UnitRec.idle) s.units en r }

/-! ### Ring records -/

def PortSt.idle : PortSt := ⟨0, false, 0, []⟩
def DynBox.empty : DynBox := ⟨[], [], [], [], []⟩

/-- A ring on which nothing has run. -/
def RingSt.idle : RingSt :=
  { sched0 := none, sched1 := none, active := false, sIn := 0, sDyn := 0, sOut := 0, inSeg := false, acc := [], thruAcc := [], fresh := [],
    lost := [], dec := true, closed := false, parDirect := none, ownH := 0, parH := 0, order := [], meas := [], staged := [], ids := [], dlys := [], loaded := [],
    thruIn := false, thruOut := false, claims := 0, cede := false,
    phTicks := 0, mCnt := 0, parSync := none, portS := .idle, portP := .idle, box := .empty }

def State.ring (s : State) (k : Nat) : RingSt := amGet (fun _ => RingSt.idle) s.rings k
def State.setRing (s : State) (k : Nat) (f : RingSt → RingSt) : State :=
  { s with rings := amSet (fun _ => RingSt.idle) s.rings k (f (s.ring k)) }

/-! ### What a ring port sends (09 R239) -/

/-- The monotonic time in 1/80 ns. -/
def absU (s : State) : Nat := s.clk.mono * 80 + s.clk.half * 40

/-- Key of a node's port. -/
def lineKey (k : Nat) (n : RNode) (p : Bool) : Nat :=
  (k * 65 + (match n with | .module => 64 | .station i => i.val)) * 2 + (if p then 1 else 0)

/-- The frame that a port is sending now: when it ends, and its LOOP bit. -/
def lineNow (s : State) (k : Nat) (n : RNode) (p : Bool) : Option (Nat × Bool) :=
  (amGet (fun _ => none) s.lines (lineKey k n p)).filter fun e => decide (absU s < e.1)

/-- What the port sends from now on. -/
def setLine (s : State) (k : Nat) (n : RNode) (p : Bool) (e : Option (Nat × Bool)) : State :=
  { s with lines := amSet (fun _ => none) s.lines (lineKey k n p) e }

/-- A frame that is being sent when its port enters loopback is lost (08 R227). -/
def dropLine (s : State) (k : Nat) (n : RNode) (p : Bool) : State :=
  if (lineNow s k n p).isSome then { setLine s k n p none with out := s.out ++ [.frameEnd k n p] } else s

/-! ### Local channels and groups -/

def LioCh.idle : LioCh := ⟨none, false, 0#32, none, 0, none, none, false, false⟩
def LioGrp.idle : LioGrp := ⟨none, false, false⟩

def State.lioCh (s : State) (c : Nat) : LioCh := amGet (fun _ => LioCh.idle) s.lio.ch c
def State.setLioCh (s : State) (c : Nat) (f : LioCh → LioCh) : State :=
  { s with lio := { s.lio with ch := amSet (fun _ => LioCh.idle) s.lio.ch c (f (s.lioCh c)) } }
def State.lioGrp (s : State) (g : Nat) : LioGrp := amGet (fun _ => LioGrp.idle) s.lio.grp g
def State.setLioGrp (s : State) (g : Nat) (f : LioGrp → LioGrp) : State :=
  { s with lio := { s.lio with grp := amSet (fun _ => LioGrp.idle) s.lio.grp g (f (s.lioGrp g)) } }

/-! ### Role, mode and banks: fields that most families read -/

/-- Role state (10 PAR_STATUS.ROLE). -/
inductive Role
  | booting | alone | syncing | standby | active | solo | isolated | stopped | faulted | maintenance
deriving DecidableEq, Repr

def roleCode : Role → Nat
  | .booting => 0
  | .alone => 1
  | .syncing => 2
  | .standby => 3
  | .active => 4
  | .solo => 5
  | .isolated => 6
  | .stopped => 7
  | .faulted => 8
  | .maintenance => 9

def roleOf : Nat → Role
  | 0 => .booting
  | 1 => .alone
  | 2 => .syncing
  | 3 => .standby
  | 4 => .active
  | 5 => .solo
  | 6 => .isolated
  | 7 => .stopped
  | 9 => .maintenance
  | _ => .faulted

/-- The role state the module holds. -/
def State.role (s : State) : Role := roleOf (s.rd PAR_STATUS PAR_STATUS_ROLE)

/-- Tick master: ALONE, ACTIVE or SOLO (10, opening; R17). -/
def Role.master : Role → Bool
  | .alone => true
  | .active => true
  | .solo => true
  | _ => false

/-- Free mode (R68). -/
def State.freeMode (s : State) : Bool := s.on TSQ_STATUS TSQ_STATUS_MODE

/-- Active program bank (R49). -/
def State.bank (s : State) : Nat := s.rd TSQ_STATUS TSQ_STATUS_BANK

/-- Active tick length in ns. -/
def State.tickLen (s : State) : Nat := s.rd (TSQ_LEN s.bank) TSQ_LEN_LEN * 1000

/-- Tick-relative time at which the running tick ends: its own length, which an apply in its Clearing does not change (R49). -/
def State.tickEnd (s : State) : Nat := if s.seq.len = 0 then s.tickLen else s.seq.len

/-! ### Performance counters (15 R384 to R386) -/

/-- A counted event: code, Grove for Grove events, and what the filters look at. -/
structure PmcEv where
  code : Nat
  grove : Option Nat := none
  mid : Nat := 0
  prv : Nat := 0
  addr : Nat := 0
  cls : Nat := 0
  port : Nat := 63
deriving DecidableEq, Repr

/-- The filters an event code names (R385). -/
def pmcFilters (code : Nat) : Bool × Bool × Bool × Bool × Bool :=
  -- M, P, A, C, O
  if code = 0x02 ∨ code = 0x0B then (true, false, false, false, false)
  else if code = 0x08 ∨ code = 0x09 ∨ code = 0x0E then (true, true, false, true, false)
  else if code = 0x0A ∨ code = 0x0C ∨ code = 0x0D ∨ code = 0x0F then (true, false, false, true, false)
  else if code = 0x10 ∨ code = 0x11 then (true, true, true, true, false)
  else if code = 0x12 ∨ code = 0x13 then (false, false, true, false, false)
  else if 0x20 ≤ code ∧ code ≤ 0x22 then (true, true, true, false, false)
  else if 0x30 ≤ code ∧ code ≤ 0x33 then (false, false, false, false, true)
  else if code = 0x40 ∨ code = 0x41 then (false, false, false, true, false)
  else (false, false, false, false, false)

/-- Whether counter i of block j counts the event (R384, R386). -/
def pmcAdmits (s : State) (j i : Nat) (ev : PmcEv) : Bool :=
  let ctl := s.rget (PMC_CTL j i)
  let fl := s.rget (PMC_FILT j i)
  let f2 := s.rget (PMC_FILT2 j i)
  let (fm, fp, fa, fc, fo) := pmcFilters ev.code
  let aw := bitsOf ctl PMC_CTL_AWIN
  let mask := bitsOf fl PMC_FILT_MIDMASK
  bitsOf ctl PMC_CTL_EN == 1 && bitsOf ctl PMC_CTL_EVENT == ev.code
    && !(s.on (PMC_BCTL j) PMC_BCTL_FREEZE) && !(s.on (PMC_BCTL 0) PMC_BCTL_FREEZE_ALL)
    && (match ev.grove with
        | some g => decide (i < 32) && g == j
        | none => true)
    && (!fm || ev.mid &&& mask == bitsOf fl PMC_FILT_MID &&& mask)
    && (!fp || wbit (bitsOf f2 PMC_FILT2_PRVMASK) (if ev.prv = 3 then 2 else ev.prv))
    && (!fa || aw == 0 ||
        (decide (s.rd64 (PMC_AW_BASE_LO j (aw - 1)) (PMC_AW_BASE_HI j (aw - 1)) ≤ ev.addr)
          && decide (ev.addr < s.rd64 (PMC_AW_LIMIT_LO j (aw - 1)) (PMC_AW_LIMIT_HI j (aw - 1)))))
    && (!fc || wbit (bitsOf fl PMC_FILT_CLASSMASK) ev.cls)
    && (!fo || (bitsOf f2 PMC_FILT2_PORT == ev.port && ev.port != 63))

/-- Add to counter i of block j; a wrap sets its overflow bit (R383). -/
def pmcAdd (s : State) (j i n : Nat) : State :=
  let v := s.rd64 (PMC_VAL_LO j i) (PMC_VAL_HI j i) + n
  let s := s.wr64 (PMC_VAL_LO j i) (PMC_VAL_HI j i) (v % 2 ^ 48)
  if v < 2 ^ 48 then s
  else if i < 32 then s.wr (PMC_OVF_LO j) ⟨i, i⟩ 1 else s.wr (PMC_OVF_HI j) ⟨i - 32, i - 32⟩ 1

/-- The counter whose PMC_CTL stands at an address. -/
def pmcOfAddr (a : Nat) : Option (Nat × Nat) :=
  let j := (a - 0x0300480000) / 0x10000
  let o := (a - 0x0300480000) % 0x10000
  if 0x0300480400 ≤ a ∧ j < 8 ∧ 0x400 ≤ o ∧ o < 0x400 + 64 * 0x20 ∧ o % 0x20 = 0 then some (j, (o - 0x400) / 0x20) else none

/-- Count an event n times on every counter that admits it; a counter not enabled stands in no entry of the register map. -/
def State.count (s : State) (ev : PmcEv) (n : Nat) : State :=
  if n = 0 then s
  else (s.regs.filterMap fun e => pmcOfAddr e.1).foldl
    (fun t ji => if pmcAdmits s ji.1 ji.2 ev then pmcAdd t ji.1 ji.2 n else t) s

/-- Port counters of a frame of n bytes sent or received on a port (15 R385 to R387). -/
def pmcPort (s : State) (port : Nat) (tx : Bool) (n : Nat) : State :=
  (s.count { code := if tx then 0x30 else 0x31, port := port } n).count { code := if tx then 0x32 else 0x33, port := port } 1

/-- A signal instruction is issued on core n (15 R385 ENG_LDSIG, ENG_STSIG). -/
def sigCount (s : State) (n cls code : Nat) : State :=
  if n < 64 then s.count { code := code, grove := some (n / 8), mid := n, cls := cls } 1 else s

/-! ### Unit interrupt sources (07 R195) and the recorder (15 R393) -/

/-- Whether a flag register has a bit set whose enable bit is 1. -/
def evtPend (s : State) (evt ien : Nat) : Bool := (s.rget evt &&& s.rget ien) != 0#32

/-- Whether a register has one of the bits of a mask set. -/
def maskPend (s : State) (a : Nat) (mask : Word) : Bool := (s.rget a &&& mask) != 0#32

/-- Whether unit source n is pending (R195; the rule at the head of each register block; where a unit has no enable register, its
W1C status flags: notes/assumptions/20). -/
def State.srcPending (s : State) (n : Nat) : Bool :=
  if n = 0 then evtPend s RDY_EVT RDY_IEN || evtPend s RDY_FAIL RDY_IEN
  else if n = 1 then maskPend s TSQ_STATUS 0x7E#32 || s.rget TSQ_OVR != 0#32
  else if n = 2 then maskPend s IMG_STATUS 0x3#32
  else if n = 3 then s.on FRC_STATUS FRC_STATUS_REJ
  else if n = 4 then (List.range 64).any fun e => s.on (ENG_STATUS e) ENG_STATUS_DTRAP
  else if n = 5 then (List.range 108).any fun k => maskPend s (LSC_CMP k) 0x06000000#32
  else if n = 6 then evtPend s PWR_EVT PWR_IEN
  else if n = 7 then maskPend s DBG_STATUS 0x101#32
  else if n = 8 then s.on TIM_STATUS TIM_STATUS_ADJ_REJ
  else if n = 10 then evtPend s PAR_EVT PAR_IEN
  else if n = 11 then evtPend s HB_EVT HB_IEN
  else if n = 12 then evtPend s CHG_EVT CHG_IEN
  else if n = 13 then s.on HWD_STATUS HWD_STATUS_TAMPER || s.on HWD_STATUS HWD_STATUS_FWTIMEOUT
  else if n = 14 then evtPend s UPD_EVT UPD_IEN
  else if n = 15 then evtPend s EVR_STATUS EVR_IEN
  else if n = 16 then evtPend s LIO_EVT LIO_IEN
  else if n = 17 then (List.range 8).any fun j => evtPend s (PMC_OVF_LO j) (PMC_IEN_LO j) || evtPend s (PMC_OVF_HI j) (PMC_IEN_HI j)
  else if n = 18 then (List.range 45).any fun g => s.on (GATE_ERR_INFO g) GATE_ERR_INFO_VALID
  else if 24 ≤ n ∧ n < 32 then maskPend s (GRV_STATUS (n - 24)) 0xF0#32
  else if 32 ≤ n ∧ n < 56 then evtPend s (VGX_STATUS (n - 32)) (VGX_IEN (n - 32)) || evtPend s (VGX_EVT (n - 32)) (VGX_EVT_IEN (n - 32))
  else if 56 ≤ n ∧ n < 60 then evtPend s (ETH_EVT (n - 56)) (ETH_IEN (n - 56)) || evtPend s (ETH_RDONE (n - 56)) (ETH_RIEN (n - 56))
  else if 64 ≤ n ∧ n < 72 then evtPend s (CAN_EVT (n - 64)) (CAN_IEN (n - 64)) || (List.range 4).any fun j => evtPend s (CAN_BEVT (n - 64) j) (CAN_BIEN (n - 64) j)
  else false

/-- The register word as the recorder's probe samples it, without side effect (R394): stored words, and the live value of the tick
number and the clock; an unoccupied offset samples 0. -/
def State.probe (s : State) (a : Nat) : Word :=
  if a = TSQ_TICK_LO then BitVec.ofNat 32 s.seq.tick
  else if a = TSQ_TICK_HI then BitVec.ofNat 32 (s.seq.tick / 2 ^ 32)
  else if a = TIM_NS then BitVec.ofNat 32 s.clk.ns
  else if a = TIM_SEC_LO then BitVec.ofNat 32 s.clk.sec
  else if a = TIM_SEC_HI then BitVec.ofNat 32 (s.clk.sec / 2 ^ 32)
  else if a = TIM_SHORT then s.short
  else s.rget a

/-- The snapshot a list takes: its valid entries in ascending order (R393, R394). -/
def evrSnap (s : State) (l : Nat) : List (Nat × Word) :=
  (List.range 23).filterMap fun e =>
    if s.on (EVR_LIST l e) EVR_LIST_VALID then
      let off := s.rd (EVR_LIST l e) EVR_LIST_OFFSET * 4
      some (off, s.probe (0x0300000000 + off))
    else none

/-- An event record triggered now (R392). -/
def evrRecord (s : State) (source bit reg : Nat) (detail : Word) (snap : List (Nat × Word)) : EvRec :=
  { source := source, bit := bit, short := s.short, sec := s.clk.sec, ns := s.clk.ns, epoch := s.rd PAR_EPOCH PAR_EPOCH_EPOCH,
    tick := s.seq.tick, opsec := s.rd EVR_OPSEC EVR_OPSEC_OPSEC, pwrcyc := s.rd EVR_PWRCYC EVR_PWRCYC_PWRCYC,
    state := s.rd PAR_STATUS PAR_STATUS_ROLE + 16 * s.rd PAR_STATUS PAR_STATUS_POS + (if s.freeMode then 32 else 0),
    pfail := s.evr.pf, reg := reg, trel := s.clk.trel, detail := detail, snap := snap }

/-- Put a record into the recorder queue; a full queue drops it (R395), and after the power-fail warning it is refused (R398). -/
def State.enqueue (s : State) (r : EvRec) : State :=
  if s.evr.pf then { s with evr := { s.evr with pfLost := s.evr.pfLost + 1 } }
  else if s.evr.queue.length < 64 then
    ({ s with evr := { s.evr with queue := s.evr.queue ++ [r] } }).wr EVR_STATUS EVR_STATUS_QDEPTH (s.evr.queue.length + 1)
  else
    (({ s with evr := { s.evr with lost := s.evr.lost + 1 } }).bump EVR_LOST EVR_LOST_COUNT 1).wr EVR_STATUS EVR_STATUS_DROP 1

/-- A rule requires an event record: source, bit, register, detail (R393). -/
def State.event (s : State) (source bit reg : Nat) (detail : Word) : State :=
  s.enqueue (evrRecord s source bit (reg - 0x0300000000) detail (evrSnap s (s.rd (EVR_TRIG source) EVR_TRIG_LIST)))

/-- The same with the value of the register as detail (R392, DETAIL by source). -/
def State.eventReg (s : State) (source : Nat) (a : Nat) (f : Fld) : State := s.event source f.lo a (s.probe a)

/-- Set a flag of a unit; when its source becomes pending and EVR_TRIG_s.EN is 1, a record is written (R393). -/
def State.raise (s : State) (source a : Nat) (f : Fld) : State :=
  let t := s.wr a f 1
  if s.on (EVR_TRIG source) EVR_TRIG_EN && !s.srcPending source && t.srcPending source then t.eventReg source a f else t

/-- Append a message to what the block has sent. -/
def State.send (s : State) (o : Out) : State := { s with out := s.out ++ [o] }

end Sys2Proof.Machine
end

