-- ==== Sys2Proof/Machine/BootRec.lean ====
section
/-! DEFINITION. The update state record in MRAM, the NOR slots, and the end of a trial (14 R363, R364, R370, R376, R377; 11 R316). -/

namespace Sys2Proof.Machine

open Sys2Proof

/-- MARK of a slot and of a record. -/
def markWord : Nat := 0x64805A5A

/-! ### NOR (R363, R364) -/

/-- Offset of the slot of part p in a NOR device; 5 is the package slot. -/
def slotOff (p : Nat) : Nat :=
  if p = 0 then 0 else if p = 1 then 0x0100000 else if p = 2 then 0x2100000 else if p = 3 then 0x2300000 else if p = 4 then 0x2500000
  else 0x4000000

/-- Bytes of the slot of part p. -/
def slotSize (p : Nat) : Nat :=
  if p = 0 then 0x100000 else if p = 1 then 0x2000000 else if p = 2 then 0x200000 else if p = 3 then 0x200000
  else if p = 4 then 0x100000 else 0x4000000

/-- Erased NOR reads 0xFF. -/
def norByte (s : State) (dev o : Nat) : Byte := amGet (fun _ => 0xFF#8) s.nor (dev * 2 ^ 27 + o)

def norBytes (s : State) (dev o : Nat) : Nat → List Byte
  | 0 => []
  | n + 1 => norByte s dev o :: norBytes s dev (o + 1) n

/-- Program bytes. -/
def norSet (s : State) (dev o : Nat) : List Byte → State
  | [] => s
  | b :: bs => norSet { s with nor := amSet (fun _ => 0xFF#8) s.nor (dev * 2 ^ 27 + o) b } dev (o + 1) bs

/-- Erase the slot of part p. -/
def norErase (s : State) (dev p : Nat) : State :=
  let a := dev * 2 ^ 27 + slotOff p
  { s with nor := s.nor.filter fun e => decide (e.1 < a) || decide (a + slotSize p ≤ e.1) }

/-- n bytes at offset o of slot d of part p. -/
def slotBytes (s : State) (p d o n : Nat) : List Byte := norBytes s d (slotOff p + o) n

/-- A little-endian field of a slot. -/
def slotField (s : State) (p d o n : Nat) : Nat := leVal (slotBytes s p d o n)

/-- Whether a slot holds MARK. -/
def slotMark (s : State) (p d : Nat) : Bool := slotField s p d 4092 4 == markWord

/-- VERSION in a slot, 0 without MARK or in a package slot. -/
def slotVersion (s : State) (p d : Nat) : Nat := if slotMark s p d && decide (p < 5) then slotField s p d 12 4 else 0

/-! ### The update state record (R370) -/

/-- A copy of the record. -/
def recCopy (s : State) (c : Nat) : List Byte := (List.range 132).map fun i => amGet (fun _ => 0#8) s.mem (0x0400000000 + c * 0x100 + i)

/-- A copy of a record of n bytes with CRC and MARK behind them is valid. -/
def recValid (n : Nat) (l : List Byte) : Bool := le l (n + 4) 4 == markWord && le l n 4 == (crc32 (l.take n)).toNat

/-- The copy in force of two copies of a record: the valid one with the greater SEQ. -/
def recChoose (n : Nat) (a b : List Byte) : Option (Nat × List Byte) :=
  if recValid n a && recValid n b then
    (if 0 < (BitVec.ofNat 32 (le a 0 4) - BitVec.ofNat 32 (le b 0 4)).toInt then some (0, a) else some (1, b))
  else if recValid n a then some (0, a) else if recValid n b then some (1, b) else none

/-- The record in force; all 0 where no copy is valid. -/
def stateRec (s : State) : List Byte :=
  match recChoose 124 (recCopy s 0) (recCopy s 1) with
  | some (_, l) => l
  | none => List.replicate 132 0#8

/-- The bytes with those at offset o replaced. -/
def recPatch (l : List Byte) (o : Nat) (bs : List Byte) : List Byte := l.take o ++ bs ++ l.drop (o + bs.length)

/-- Store bytes in MRAM. -/
def mramSet (s : State) (a : Nat) : List Byte → State
  | [] => s
  | b :: bs => mramSet { s with mem := amSet (fun _ => 0#8) s.mem a b } (a + 1) bs

/-- A record of n bytes with SEQ one above, CRC and MARK. -/
def recSeal (n : Nat) (l : List Byte) : List Byte :=
  let l := recPatch (l.take n) 0 (leBytes 4 (le l 0 4 + 1))
  l ++ leBytes 4 (crc32 l).toNat ++ leBytes 4 markWord

def recOutcome (l : List Byte) : Nat := le l 6 1
def recTmask (l : List Byte) : Nat := le l 4 1
def recConf (l : List Byte) (p : Nat) : Nat := le l (16 + 16 * p) 1 % 2
def recTrial (l : List Byte) (p : Nat) : Nat := le l (17 + 16 * p) 1 % 2
def recPkg (l : List Byte) : Nat := le l 96 1 % 2

/-- UPD_STATUS and UPD_SLOT show the state in force. -/
def updShow (s : State) : State :=
  let l := stateRec s
  let s := ((s.wr UPD_STATUS UPD_STATUS_CAUSE (le l 7 1)).wr UPD_STATUS UPD_STATUS_TRIES (le l 5 1)).wr UPD_STATUS UPD_STATUS_TMASK (recTmask l)
  (List.range 6).foldl (fun t p => t.wr (UPD_SLOT p) UPD_SLOT_CUR (if p < 5 then recConf l p else recPkg l)) s

/-- A new state is written into the other copy (R370). -/
def writeRec (s : State) (f : List Byte → List Byte) : State :=
  let c := match recChoose 124 (recCopy s 0) (recCopy s 1) with
    | some (0, _) => 1
    | _ => 0
  updShow (mramSet s (0x0400000000 + c * 0x100) (recSeal 124 (f (stateRec s))))

/-- The package slot other than PKG_SLOT becomes PKG_SLOT (11 R316). -/
def pkgSlotRecord (s : State) : State := writeRec s fun l => recPatch l 96 (leBytes 1 (1 - recPkg l))

/-! ### The end of a trial (R377) -/

/-- Whether a trial runs. -/
def trialRuns (s : State) : Bool := s.boot.trialAt.isSome

/-- A running trial is rejected with a CAUSE: the record, and the reset 100 µs later (R377, R378). -/
def rejectTrial (s : State) (cause : Nat) : State :=
  if trialRuns s then
    let s := writeRec s fun l => recPatch l 6 [3#8, BitVec.ofNat 8 cause]
    let s := ({ s with boot := { s.boot with trialAt := none, due := some (s.clk.mono + 100000) } }).wr UPD_STATUS UPD_STATUS_STAGE 6
    s.raise 14 UPD_EVT UPD_EVT_REJECTED
  else s

end Sys2Proof.Machine
end

