-- ==== Sys2Proof/Machine/Pmc.lean ====
section
/-! DEFINITION. Performance counters: windows, clearing, admitted event codes (15 R383 to R390). Counting itself is `State.count`. -/

namespace Sys2Proof.Machine

open Sys2Proof

/-- The clock as one number of nanoseconds. -/
def State.nowNs (s : State) : Nat := s.clk.sec * 1000000000 + s.clk.ns

/-- End the running window of block j: snapshot and restart of its windowed counters unless frozen, WSEQ, SHORT, and the start of the
next window (R388, R389). -/
def pmcEndWindow (s : State) (j : Nat) : State :=
  let aligned := s.on (PMC_WCFG j) PMC_WCFG_ALIGN
  let len := s.rd (PMC_WCFG j) PMC_WCFG_LEN
  let now := if aligned then s.seq.tick else s.nowNs
  let full := now == amGet (fun _ => 0) s.pmcStart j + (if aligned then len else len * 1000)
  let frozen := s.on (PMC_BCTL j) PMC_BCTL_FREEZE || s.on (PMC_BCTL 0) PMC_BCTL_FREEZE_ALL
  let t := if frozen then s else (s.regs.filterMap fun e => pmcOfAddr e.1).foldl (fun t ji =>
    if ji.1 = j ∧ t.on (PMC_CTL j ji.2) PMC_CTL_EN ∧ t.on (PMC_CTL j ji.2) PMC_CTL_MODE then
      (t.wr64 (PMC_SNAP_LO j ji.2) (PMC_SNAP_HI j ji.2) (t.rd64 (PMC_VAL_LO j ji.2) (PMC_VAL_HI j ji.2))).wr64
        (PMC_VAL_LO j ji.2) (PMC_VAL_HI j ji.2) 0
    else t) s
  let t := t.wr (PMC_WSTAT j) PMC_WSTAT_WSEQ (s.rd (PMC_WSTAT j) PMC_WSTAT_WSEQ + 1)
  let t := t.flag (PMC_WSTAT j) PMC_WSTAT_SHORT (!full)
  { t with pmcStart := amSet (fun _ => 0) t.pmcStart j now }

/-- Whether block j's window ends now: clock-aligned at a multiple of LEN µs, tick-aligned at the input instant of a multiple of LEN (R388). -/
def pmcWindowDue (s : State) (j : Nat) : Bool :=
  let len := s.rd (PMC_WCFG j) PMC_WCFG_LEN
  if s.on (PMC_WCFG j) PMC_WCFG_ALIGN then s.clk.trel == 0 && s.seq.tick % len == 0
  else s.clk.ns % (len * 1000) == 0

/-- PMC_WINDOW_END: the window of block j ends. -/
def execPmcWindowEnd (j : Fin 8) (s : State) : Out3 :=
  .next (if pmcWindowDue s j then pmcEndWindow s j else s)

/-- A clock step ends every clock-aligned window and starts a new one there (R389); s has the clock after the step. -/
def pmcStep (s : State) : State :=
  (List.range 8).foldl (fun t j => if t.on (PMC_WCFG j) PMC_WCFG_ALIGN then t else pmcEndWindow t j) s

/-- CLR: the counter's value becomes 0 (R384). -/
def execClr (_m : Master) (j : Fin 8) (i : Fin 64) (s : State) : Out3 :=
  .next (s.wr64 (PMC_VAL_LO j i) (PMC_VAL_HI j i) 0)

/-- Whether an event code is admitted for counter index i: listed, and of its kind (R385). -/
def pmcCodeOk (i code : Nat) : Bool :=
  let grv := [0x02, 0x08, 0x09, 0x0A, 0x0B, 0x0C, 0x0D, 0x0E, 0x0F, 0x10, 0x11, 0x12, 0x13]
  let mdl := [0x20, 0x21, 0x22, 0x30, 0x31, 0x32, 0x33, 0x40, 0x41, 0x42, 0x43, 0x44, 0x45]
  code == 0 || code == 1 || (if i < 32 then grv.contains code else mdl.contains code)

/-- Whether some counter is enabled. -/
def pmcAny (s : State) : Bool := s.regs.any fun e => (pmcOfAddr e.1).isSome && bitsOf e.2 PMC_CTL_EN == 1

end Sys2Proof.Machine
end

