-- ==== Sys2Proof/Machine/Time.lean ====
section
/-! DEFINITION. The local clock, the RTC, steps and stamps, and the PTP unit (chapter 02). -/

namespace Sys2Proof.Machine

open Sys2Proof

/-- Key of a value latched for a reading master. -/
def latchKey (m : Master) (a : Nat) : Nat := m.val * 2 ^ 40 + a

/-- Latch a value for a master. -/
def State.setLatch (s : State) (m : Master) (a : Nat) (w : Word) : State :=
  { s with latch := amSet (fun _ => 0#32) s.latch (latchKey m a) w }

/-- The value latched for a master. -/
def State.getLatch (s : State) (m : Master) (a : Nat) : Word := amGet (fun _ => 0#32) s.latch (latchKey m a)

/-- Write the RTC (R35): the time given, and RTC_VALID is set. -/
def rtcWrite (s : State) (sec frac : Nat) : State :=
  ({ s with clk := { s.clk with rtcSec := sec % 2 ^ 48, rtcFrac := frac, rtcAcc := 0 } }).wr TIM_STATUS TIM_STATUS_RTC_VALID 1

/-- The crystal counts k ns: 32,768 fractions a second (R34, nominal: notes/assumptions/8). -/
def rtcRun (c : Clock) (k : Nat) : Clock :=
  let acc := c.rtcAcc + k * 32768
  let fr := c.rtcFrac + acc / 1000000000
  { c with rtcAcc := acc % 1000000000, rtcFrac := fr % 32768, rtcSec := (c.rtcSec + fr / 32768) % 2 ^ 48 }

/-- Counters that count time: nanoseconds, and engine cycles of Groves that are ON (15 R385); k ns from mono m. -/
def pmcTime (s : State) (m k : Nat) : State :=
  if pmcAny s then
    let cyc := (m + k) * 6 / 5 - m * 6 / 5
    let s := s.count { code := 0x01 } k
    (List.range 64).foldl (fun t e =>
      if t.rd (GRV_EN (e / 8)) GRV_EN_STATE = 2 then
        let t := t.count { code := 0x02, grove := some (e / 8), mid := e } cyc
        let t := if t.rd (ENG_STATUS e) ENG_STATUS_STATE = 1 then t else t.count { code := 0x0B, grove := some (e / 8), mid := e } cyc
        (List.range 16).foldl (fun t c =>
          if (t.task e c).st = .yielded then t.count { code := 0x0A, grove := some (e / 8), mid := e, cls := c } cyc else t) t
      else t) s
  else s

/-- Operating seconds count while D1 is powered (15 R397). -/
def opRun (s : State) (k : Nat) : State :=
  let n := s.evr.opNs + k
  let s := { s with evr := { s.evr with opNs := n % 1000000000 } }
  if n / 1000000000 = 0 then s else s.wr EVR_OPSEC EVR_OPSEC_OPSEC (s.rd EVR_OPSEC EVR_OPSEC_OPSEC + n / 1000000000)

/-- The clock advances by k nanoseconds (R27, R28): seconds carry, tick-relative time (R32, R47), RTC and, at a carry with SYNC and
RTC_FOLLOW at 1, the write of the seconds into the RTC (R35). -/
def advance (k : Nat) (s : State) : State :=
  if k = 0 then s
  else
    let tot := s.clk.ns + k
    let sec := (s.clk.sec + tot / 1000000000) % 2 ^ 48
    let ns := tot % 1000000000
    let c := { s.clk with sec := sec, ns := ns, mono := s.clk.mono + k, trel := s.clk.trel + k }
    let t := { s with clk := rtcRun c k }
    let t := if tot / 1000000000 ≠ 0 ∧ s.on TIM_SRC TIM_SRC_SYNC ∧ s.on TIM_CFG TIM_CFG_RTC_FOLLOW then
        let t := rtcWrite t sec 0
        { t with clk := rtcRun t.clk ns }
      else t
    opRun (pmcTime t s.clk.mono k) k

/-- One timebase cycle: 1 ns corrected by TIM_FADJ (R28, R30). -/
def timebaseCycle (s : State) : State :=
  let f : Int := (s.rget TIM_FADJ).toInt
  let acc : Nat := ((s.clk.acc : Int) + 256000000000 + f).toNat
  advance (acc / 256000000000) { s with clk := { s.clk with acc := acc % 256000000000 } }

/-- Advance until tick-relative time is at least t. -/
def advanceTo (t : Nat) (s : State) : State := advance (t - s.clk.trel) s

/-- One sequencer cycle of 2.5 ns (R47). -/
def seqCycle (s : State) : State :=
  let h := s.clk.half + 5
  advance (h / 2) { s with clk := { s.clk with half := h % 2 } }

/-! ### Steps -/

/-- A step of d nanoseconds applies: the clock moves, tick-relative time does not (R31, R32), STEP_SEQ counts, clock-aligned windows
end (R389). -/
def applyStep (s : State) (d : Int) : State :=
  let v : Nat := ((s.nowNs : Int) + d).toNat
  let s := { s with clk := { s.clk with sec := v / 1000000000 % 2 ^ 48, ns := v % 1000000000, stepHeld := none } }
  let s := s.wr TIM_STATUS TIM_STATUS_STEP_SEQ (s.rd TIM_STATUS TIM_STATUS_STEP_SEQ + 1)
  pmcStep (s.wr TIM_STATUS TIM_STATUS_STEP_PEND 0)

/-- The pair manager steers the clock by d ns: unlike a step it ends no window and is not counted (10 R267; notes/assumptions/19). -/
def steerClock (s : State) (d : Int) : State :=
  let v : Nat := ((s.nowNs : Int) + d).toNat
  { s with clk := { s.clk with sec := v / 1000000000 % 2 ^ 48, ns := v % 1000000000 } }

/-- A frequency write or a step is refused. -/
def adjRej (s : State) : State := s.raise 8 TIM_STATUS TIM_STATUS_ADJ_REJ

/-- The amount of the step in TIM_STEP_SEC and TIM_STEP_NS (R31). -/
def stepAmount (s : State) : Int :=
  (s.rget TIM_STEP_SEC).toInt * 1000000000 + s.rd TIM_STEP_NS TIM_STEP_NS_STEP_NS

/-- Whether the module refuses the step (R31). -/
def stepRefused (s : State) : Bool :=
  let v := (s.nowNs : Int) + stepAmount s
  decide (v < 0) || decide (2 ^ 48 * 1000000000 ≤ v) || s.on TIM_STATUS TIM_STATUS_STEP_PEND || s.rd TIM_SRC TIM_SRC_SRC == 3

/-- TIM_CMD.STEP (R31). -/
def timStep (s : State) : State :=
  if stepRefused s then adjRej s
  else if s.freeMode then applyStep s (stepAmount s)
  else ({ s with clk := { s.clk with stepHeld := some (stepAmount s) } }).wr TIM_STATUS TIM_STATUS_STEP_PEND 1

/-- At the start of a Clearing a held step applies (R31). -/
def clearStep (s : State) : State :=
  match s.clk.stepHeld with
  | some d => applyStep s d
  | none => s

/-- Write of TIM_FADJ (R30): range −L to +L, L = FADJ_MAX × 256,000. -/
def fadjWrite (v : Word) (s : State) : State :=
  let l : Int := s.rd TIM_CFG TIM_CFG_FADJ_MAX * 256000
  if -l ≤ v.toInt ∧ v.toInt ≤ l then s.rset TIM_FADJ v else adjRej s

/-- TIM_CMD.RTC_STORE (R35). The spec gives no rounding of the nanoseconds to the RTC's fraction: the model rounds down (DESIGN CHOICE,
notes/assumptions/77). -/
def rtcStore (s : State) : State := rtcWrite s s.clk.sec (s.clk.ns * 32768 / 1000000000)

/-- A read of TIM_NS takes the snapshot for the master (R29). -/
def timNsRead (m : Master) (s : State) : Word × State :=
  (BitVec.ofNat 32 s.clk.ns,
   ((s.setLatch m TIM_SEC_LO (BitVec.ofNat 32 s.clk.sec)).setLatch m TIM_SEC_HI (BitVec.ofNat 32 (s.clk.sec / 2 ^ 32))).setLatch
     m TIM_SHORT s.short)

/-- A read of TIM_RTC_SEC_LO latches the rest of the RTC (TIM_ registers). -/
def rtcRead (m : Master) (s : State) : Word × State :=
  (BitVec.ofNat 32 s.clk.rtcSec,
   (s.setLatch m TIM_RTC_SEC_HI (BitVec.ofNat 32 (s.clk.rtcSec / 2 ^ 32))).setLatch m TIM_RTC_FRAC (BitVec.ofNat 32 s.clk.rtcFrac))

/-! ### Meanings -/

/-- TIM_NS_READ (R29). -/
def execTimNsRead (m : Master) (s : State) : Out3 :=
  let (w, t) := timNsRead m s
  .next { t with resp := .word w }

/-- TIM_FADJ_WRITE (R30). -/
def execTimFadjWrite (_m : Master) (v : Word) (s : State) : Out3 := .next (fadjWrite v s)

/-- TIM_STEP (R31). -/
def execTimStep (_m : Master) (s : State) : Out3 := .next (timStep s)

/-- RTC_STORE (R35). -/
def execRtcStore (_m : Master) (s : State) : Out3 := .next (rtcStore s)

/-- SECONDS_CARRY: the clock reaches the next second (R27, R35). -/
def execSecondsCarry (s : State) : Out3 := .next (advance (1000000000 - s.clk.ns) s)

/-- D0_RETENTION_LOSS (R35). -/
def execD0RetentionLoss (s : State) : Out3 := .next (s.wr TIM_STATUS TIM_STATUS_RTC_VALID 0)

/-- PTP_MESSAGE_RECEIVED (R39 to R41): an enabled port's message is counted and discarded when it needs an unsupported part; else it
goes to the stack with its stamp corrected by the ingress latency, if it is of the configured domain and transport. The spec does not say whether
a message is counted while PTP_CTRL.ENABLE or the port's bit is 0: the model ignores it uncounted (DESIGN CHOICE, notes/assumptions/77). -/
def execPtpMessageReceived (port : Fin 4) (kind : BitVec 4) (domain : Byte) (udp : Bool) (need : Option PtpNeed) (s : State) : Out3 :=
  .next (
    if s.on PTP_CTRL PTP_CTRL_ENABLE && wbit (s.rd PTP_CTRL PTP_CTRL_PORT_EN) port then
      if need.isSome then s.bump PTP_STATUS PTP_STATUS_UNSUPP_CNT 1
      else if s.rd PTP_CTRL PTP_CTRL_DOMAIN = domain.toNat ∧ s.rd PTP_CTRL PTP_CTRL_TRANSPORT = (if udp then 1 else 0) then
        s.send (.ptp port kind.toNat (s.short - BitVec.ofNat 32 (s.rd (PTP_LAT port) PTP_LAT_INGRESS)))
      else s
    else s)

end Sys2Proof.Machine
end

