-- ==== Sys2Proof/Machine/Units.lean ====
section
/-! DEFINITION. The unit enable model (01 R19 to R26, R420): every switchable unit, the unit it depends on, and the state changes that
are the same for all. -/

namespace Sys2Proof.Machine

open Sys2Proof

/-- Address of a unit's enable word. -/
def enAddr : UnitId → Nat
  | .domain d => PWR_EN d
  | .grove g => GRV_EN g
  | .portS k => VGX_EN_S k
  | .portP k => VGX_EN_P k
  | .lane l => if l = 0 then PAR_EN_PL0 else PAR_EN_PL1
  | .eth n => ETH_EN n
  | .ring n r => ETH_RING_EN n r
  | .can n => CAN_EN n
  | .lio c => LIO_EN c

/-- Fields of an enable word (R19). -/
abbrev U_EN : Fld := ⟨8, 8⟩
abbrev U_HWSTOP : Fld := ⟨5, 5⟩
abbrev U_FAIL : Fld := ⟨4, 4⟩
abbrev U_PEND : Fld := ⟨2, 2⟩
abbrev U_STATE : Fld := ⟨1, 0⟩

/-- STATE of a unit: 0 OFF, 1 STARTING, 2 ON, 3 STOPPING. -/
def State.unitState (s : State) (u : UnitId) : Nat := s.rd (enAddr u) U_STATE

/-- Whether a unit is ON. -/
def State.isOn (s : State) (u : UnitId) : Bool := s.unitState u == 2

/-- Field group of a local channel (R359). -/
def lioGroup (c : Nat) : Nat := c / 16

/-- Whether the unit that u depends on is ON (the table of R19's chapter; R359: the channel's group supply out of LOW). -/
def parentOn (s : State) : UnitId → Bool
  | .domain _ => true
  | .grove g => s.isOn (.domain ⟨g, by omega⟩)
  | .portS k => s.isOn (.domain (if k.val < 12 then 8 else 9))
  | .portP k => s.isOn (.domain (if k.val < 12 then 8 else 9))
  | .lane _ => s.isOn (.domain 11)
  | .eth _ => s.isOn (.domain 10)
  | .ring n _ => s.isOn (.eth n)
  | .can _ => s.isOn (.domain 10)
  | .lio c => s.isOn (.domain 10) && !s.on (LIO_GRP_STAT (lioGroup c)) LIO_GRP_STAT_LOW

/-- The units that depend on u (R25). -/
def dependants : UnitId → List UnitId
  | .domain d =>
    if h : d.val < 8 then [.grove ⟨d.val, h⟩]
    else if d.val = 8 then ((List.finRange 24).filter (fun k => decide (k.val < 12))).flatMap fun k => [.portS k, .portP k]
    else if d.val = 9 then ((List.finRange 24).filter (fun k => decide (12 ≤ k.val))).flatMap fun k => [.portS k, .portP k]
    else if d.val = 10 then (List.finRange 4).map .eth ++ (List.finRange 8).map .can ++ (List.finRange 32).map .lio
    else [.lane 0, .lane 1]
  | .eth n => (List.finRange 16).map (.ring n)
  | _ => []

/-- Minimum off-time in ns (R404). -/
def minOff : UnitId → Nat
  | .domain _ => 1000000
  | _ => 0

/-- Receive bits of a module's ring port: SIG, SYNC, FRX, KRX. -/
def modRx (p : Bool) : Fld × Fld × Fld × Fld :=
  if p then (VGX_LINK_P_SIG, VGX_LINK_P_SYNC, VGX_LINK_P_FRX, VGX_LINK_P_KRX)
  else (VGX_LINK_S_SIG, VGX_LINK_S_SYNC, VGX_LINK_S_FRX, VGX_LINK_S_KRX)

/-- The receive bits of a module's port take new values; a change of SIG or SYNC sets SIGCHG (08 R203). -/
def setModRx (s : State) (k : Nat) (p sig sync f kk : Bool) : State :=
  let (a, b, c, d) := modRx p
  let chg := s.on (VGX_LINK k) a != sig || s.on (VGX_LINK k) b != sync
  let t := (((s.flag (VGX_LINK k) a sig).flag (VGX_LINK k) b sync).flag (VGX_LINK k) c f).flag (VGX_LINK k) d kk
  if chg then t.raise (32 + k) (VGX_STATUS k) VGX_STATUS_SIGCHG else t

/-- A module's ring port enters loopback (08 R225): LOOP is shown and counted, the ring is no longer closed, and a start-up in phases 3 to 6
returns to phase 2 (09 R249). -/
def enterLoop (s : State) (k : Nat) (p : Bool) : State :=
  let f := if p then VGX_LINK_P_LOOP else VGX_LINK_S_LOOP
  let s := s.setRing k fun r =>
    let r := { r with closed := false }
    if p then { r with portP := { r.portP with kTx := false, clean := 0 } } else { r with portS := { r.portS with kTx := false, clean := 0 } }
  if s.on (VGX_LINK k) f then s
  else
    let s := dropLine s k .module p
    let t := ((s.wr (VGX_LINK k) f 1).bump (VGX_CNT k (if p then 1 else 0) 9) VGX_CNT_COUNT 1).raise (32 + k) (VGX_STATUS k) VGX_STATUS_LOOP
    let ph := t.rd (VGX_RMODE k) VGX_RMODE_START
    if 3 ≤ ph ∧ ph ≤ 6 then (t.wr (VGX_RMODE k) VGX_RMODE_START 2).setRing k fun r => { r with phTicks := 0 } else t

/-- A ring port that stops loops and receives nothing (08 R230): SIG and SYNC read 0, and a start begins with no clean reception. -/
def portDark (s : State) (k : Nat) (p : Bool) : State :=
  (enterLoop (setModRx s k p false false false false) k p).setRing k fun r =>
    if p then { r with portP := { r.portP with loss := 0 } } else { r with portS := { r.portS with loss := 0 } }

/-- Bits of RDY_VEC that clear when a unit stops (14 R373): with a domain those of the units it powers. -/
def rdyBits : UnitId → List Nat
  | .domain d => if d.val = 8 then [15] else if d.val = 9 then [16] else if d.val = 10 then [10, 11, 12, 13, 14]
    else if d.val = 11 then [17] else []
  | .grove g => [20 + g.val]
  | _ => []

/-- What stopping does in the unit itself: a Grove's engines stop (R159); a ring port loops (08 R230); a local channel's driver switches
off, and D12 takes both isolated links down (13 R359, 16 R405). -/
def onStop (s : State) (u : UnitId) : State :=
  let s := (rdyBits u).foldl (fun t i => t.wr RDY_VEC ⟨i, i⟩ 0) s
  match u with
  | .domain d =>
    if d.val = 10 then (s.wr (LIO_GRP_STAT 0) LIO_GRP_STAT_READY 0).wr (LIO_GRP_STAT 1) LIO_GRP_STAT_READY 0 else s
  | .grove g => (List.range 8).foldl (fun t i => t.wr (ENG_STATUS (8 * g + i)) ENG_STATUS_STATE 4) s
  | .portS k => portDark s k false
  | .portP k => portDark s k true
  | .lio c => s.wr (LIO_DIAG c) LIO_DIAG_DRIVE 0
  | _ => s

/-- The unit enters STOPPING. -/
def enterStopping (s : State) (u : UnitId) : State := onStop (s.wr (enAddr u) U_STATE 3) u

/-- The module stops a unit by itself (R25, R26): EN and PEND cleared, HWSTOP set; a unit that is OFF stays so. -/
def hwStopOne (s : State) (u : UnitId) : State :=
  if s.unitState u = 0 then s
  else
    let t := ((s.wr (enAddr u) U_EN 0).wr (enAddr u) U_PEND 0).wr (enAddr u) U_HWSTOP 1
    if s.unitState u = 3 then t else enterStopping t u

/-- Stop the dependants of u, and theirs (R25). -/
def stopDependants (s : State) (u : UnitId) : State :=
  (dependants u).foldl (fun t v => (dependants v).foldl hwStopOne (hwStopOne t v)) s

/-- The module stops u and what depends on it (R25). -/
def hwStop (s : State) (u : UnitId) : State := stopDependants (hwStopOne s u) u

/-- Whether the minimum off-time has elapsed (R420). -/
def offTimeOver (s : State) (u : UnitId) : Bool :=
  match (s.unit (enAddr u)).stopped with
  | some t0 => decide (t0 + minOff u ≤ s.clk.mono)
  | none => true

/-- The comparator tests of a unit's start (06 R164, R165): the transfer of ring k has one comparator for both ports, tested when the port
starts while the other is OFF, since no test runs on a unit that carries traffic. Engine comparators are tested in step 2 of a Grove start. -/
def startTests (s : State) : UnitId → List Nat
  | .portS k => if s.unitState (.portP k) = 0 then [72 + k.val] else []
  | .portP k => if s.unitState (.portS k) = 0 then [72 + k.val] else []
  | .eth n => [96 + n.val]
  | .can n => [100 + n.val]
  | _ => []

/-- A comparator test starts (06 R164). -/
def cmpTestStart (s : State) (k : Nat) : State := s.wr (LSC_CMP k) LSC_CMP_BUSY 1

/-- Whether no comparator test of the unit runs (06 R165). -/
def testsDone (s : State) : UnitId → Bool
  | .portS k => !s.on (LSC_CMP (72 + k)) LSC_CMP_BUSY
  | .portP k => !s.on (LSC_CMP (72 + k)) LSC_CMP_BUSY
  | .eth n => !s.on (LSC_CMP (96 + n)) LSC_CMP_BUSY
  | .can n => !s.on (LSC_CMP (100 + n)) LSC_CMP_BUSY
  | _ => true

/-- The unit enters STARTING; its start work begins at once, or waits for the minimum off-time (R420). Ring ports, ETH and CAN have none, so
their comparator tests start at once (06 R165). -/
def enterStarting (s : State) (u : UnitId) : State :=
  let t := s.wr (enAddr u) U_STATE 1
  let wait := !offTimeOver s u
  let t := t.setUnit (enAddr u) { t.unit (enAddr u) with waiting := wait, started := s.clk.mono }
  match u with
  | .grove g => if wait then t else t.setGrove g { t.grove g with start := 1 }
  | .lio c => t.setLioCh c fun r => { r with settled := false }
  | _ => (startTests s u).foldl cmpTestStart t

/-- MIN_OFF_ELAPSED: a unit that waits in STARTING begins its start work once the off-time has elapsed (R420). -/
def beginStart (s : State) (u : UnitId) : State :=
  let r := s.unit (enAddr u)
  if s.unitState u = 1 ∧ r.waiting = true ∧ offTimeOver s u = true then
    s.setUnit (enAddr u) { r with waiting := false, started := s.clk.mono }
  else s

/-- A start fails (R24): FAIL set, EN cleared, through STOPPING to OFF. -/
def startFails (s : State) (u : UnitId) : State :=
  if s.unitState u = 1 then enterStopping ((s.wr (enAddr u) U_FAIL 1).wr (enAddr u) U_EN 0) u else s

/-- A start reaches ON: its work is done, and no comparator test of it still runs (06 R165). -/
def startDone (s : State) (u : UnitId) : State :=
  if s.unitState u = 1 ∧ (s.unit (enAddr u)).waiting = false ∧ testsDone s u = true then s.wr (enAddr u) U_STATE 2 else s

/-- Whether every dependant of u is OFF (R25). -/
def dependantsOff (s : State) (u : UnitId) : Bool := (dependants u).all fun v => s.unitState v == 0

/-- A stop completes (R22, R25): OFF, or STARTING through PEND, or the held enable refused. -/
def stopDone (s : State) (u : UnitId) : State :=
  if s.unitState u = 3 ∧ dependantsOff s u then
    let t := s.setUnit (enAddr u) { s.unit (enAddr u) with stopped := some s.clk.mono, waiting := false }
    if s.on (enAddr u) U_PEND then
      let t := t.wr (enAddr u) U_PEND 0
      if parentOn s u then enterStarting t u
      else ((t.wr (enAddr u) U_EN 0).wr (enAddr u) U_FAIL 1).wr (enAddr u) U_STATE 0
    else t.wr (enAddr u) U_STATE 0
  else s

/-- A unit that left STOPPING through PEND goes OFF: an EN write of 0 in the cycle in which its stop completed counts as written during
STOPPING, where it clears PEND (R23). -/
def pendCleared (s : State) (u : UnitId) : State :=
  let a := enAddr u
  let t := ((s.wr a U_EN 0).wr a U_STATE 0).setUnit a { s.unit a with waiting := false }
  match u with
  | .grove g => t.setGrove g { t.grove g with start := 0 }
  | _ => t

/-- Effect of an EN write (R21, R23). -/
def enWriteBase (s : State) (u : UnitId) (en : Bool) : State :=
  let a := enAddr u
  match s.unitState u with
  | 0 => if en then (if parentOn s u then enterStarting (s.wr a U_EN 1) u else s.wr a U_FAIL 1) else s
  | 1 =>
    if en then s
    else if (s.unit a).stopped = some s.clk.mono then pendCleared s u
    else stopDependants (enterStopping (s.wr a U_EN 0) u) u
  | 2 => if en then s else stopDependants (enterStopping (s.wr a U_EN 0) u) u
  | _ => if en then (s.wr a U_EN 1).wr a U_PEND 1 else (s.wr a U_EN 0).wr a U_PEND 0

end Sys2Proof.Machine
end

