-- ==== Sys2Proof/Machine/Role.lean ====
section
/-! DEFINITION. Role states, the pair epoch, and what a module sends of itself on the pair's paths (10 R258 to R271). -/

namespace Sys2Proof.Machine

open Sys2Proof

/-! ### Sending on the pair's paths -/

/-- Header of the messages the module sends (R264). -/
def hdrNow (s : State) : Hdr :=
  { lane := 0, crcOk := true, pos := s.on PAR_STATUS PAR_STATUS_POS, epoch := BitVec.ofNat 16 (s.rd PAR_EPOCH PAR_EPOCH_EPOCH), tickLo := BitVec.ofNat 32 s.seq.tick,
    msgid := BitVec.ofNat 32 s.pair.msgid }

/-- Lane that carries a message: PL0, or PL1 while PL0 is not ON (R266). -/
def laneOf (s : State) : Option Nat :=
  if s.isOn (.lane 0) then some 0 else if s.isOn (.lane 1) then some 1 else none

/-- A list cut into runs whose sizes sum to at most `cap`; an item larger than that stands alone. -/
def packs {α : Type} (size : α → Nat) (cap : Nat) : List α → List α → Nat → List (List α)
  | [], cur, _ => if cur.isEmpty then [] else [cur]
  | x :: l, cur, n =>
    if cur.isEmpty ∨ n + size x ≤ cap then packs size cap l (cur ++ [x]) (n + size x) else cur :: packs size cap l [x] (size x)

/-- Bytes of a ring section of INAGREE_DIG (R273). -/
def sectionLen (d : DigSection) : Nat := 4 + (d.digests.length + 31) / 32 * 4 + 4 * d.digests.length

/-- The fragments of a message (R264): each carries at most 8,192 payload bytes, cut between the message's records. -/
def fragments (m : LaneMsg) : List LaneMsg :=
  let l := match m with
    | .inagreeDig d => (packs sectionLen 7920 d.sections [] 0).map fun x => .inagreeDig { d with sections := x }
    | .inagreeData r => (packs (fun _ => 12) 8192 r [] 0).map .inagreeData
    | .repairReq r =>
      LaneMsg.repairReq { r with lines := [] } :: r.lines.flatMap fun e =>
        [.repairReq { r with lines := [(e.1, e.2.filter fun n => decide (n < 32768))] },
         .repairReq { r with lines := [(e.1, e.2.filter fun n => decide (32768 ≤ n))] }]
    | .lines r => (packs (fun x : LineRec => 8 + x.data.length) 8192 r [] 0).map .lines
    | .force t c => (packs (fun _ => 16) 8184 c [] 0).map (.force t)
    | .stage (.pkg b q) => (packs (fun _ => 1) (8184 - 8 * q.length) b [] 0).map fun x => .stage (.pkg x q)
    | _ => [m]
  if l.isEmpty then [m] else l

/-- Lists of line numbers by Grove, joined. -/
def joinLines (a b : List (Fin 8 × List Nat)) : List (Fin 8 × List Nat) :=
  b.foldl (fun l e =>
    if l.any fun f => f.1 == e.1 then l.map fun f => if f.1 = e.1 then (f.1, f.2 ++ e.2) else f else l ++ [e]) a

/-- Two fragments of a message joined in order. -/
def joinMsg (a b : LaneMsg) : LaneMsg :=
  match a, b with
  | .inagreeDig d, .inagreeDig e => .inagreeDig { d with sections := d.sections ++ e.sections }
  | .inagreeData r, .inagreeData t => .inagreeData (r ++ t)
  | .repairReq r, .repairReq t => .repairReq { r with lines := joinLines r.lines t.lines }
  | .lines r, .lines t => .lines (r ++ t)
  | .force t c, .force _ d => .force t (c ++ d)
  | .stage (.pkg x q), .stage (.pkg y _) => .stage (.pkg (x ++ y) q)
  | _, _ => a

/-- TYPE of a lane message (R265). -/
def msgType : LaneMsg → Nat
  | .heartbeat _ _ => 0x01
  | .leave _ => 0x02
  | .hello _ => 0x03
  | .inagreeDig _ => 0x04
  | .inagreeData _ => 0x05
  | .outdig _ => 0x06
  | .time _ => 0x07
  | .repairReq _ => 0x08
  | .lines _ => 0x09
  | .force _ _ => 0x0A
  | .stage _ => 0x0B

/-- Payload bytes of a lane frame (R264, R265; 11 R299). -/
def payloadLen : LaneMsg → Nat
  | .heartbeat _ _ => 24
  | .leave _ => 12
  | .hello _ => 96
  | .inagreeDig d => 272 + (d.sections.map sectionLen).foldl (· + ·) 0
  | .inagreeData r => 12 * r.length
  | .outdig _ => 384
  | .time _ => 32
  | .repairReq r => if r.lines.isEmpty then 24 else 4100 * r.lines.length
  | .lines r => (r.map fun x : LineRec => 8 + x.data.length).foldl (· + ·) 0
  | .force _ c => 8 + 16 * c.length
  | .stage (.pkg b q) => 8 + b.length + 8 * q.length
  | .stage (.result _ _ _) => 61
  | .stage (.announce _ _) => 64
  | .stage (.ack _ _) => 64
  | .stage (.withdraw _) => 56
  | .stage (.discard _) => 56

/-- A frame of a message sent or received on lane l is counted: header, payload and CRC (15 R387). -/
def laneCount (s : State) (l : Nat) (tx : Bool) (m : LaneMsg) : State := pmcPort s (48 + l) tx (20 + payloadLen m)

/-- A frame on the HB line leaves, 20 bytes (R268, 15 R387). -/
def sendLine (s : State) (leave : Bool) (b : HbBody) : State := (pmcPort s 50 true 20).send (.line leave b)

/-- A frame received on a path is counted (15 R387). -/
def pathCount (s : State) (p : Path) (m : LaneMsg) : State :=
  match p with
  | .lane l => laneCount s l false m
  | .hb => pmcPort s 50 false 20

/-- Send a message on one lane, as its fragments under one MSGID (R264). -/
def sendOn (s : State) (l : Nat) (m : LaneMsg) : State :=
  let fs := fragments m
  let t := fs.zipIdx.foldl (fun (t : State) (x : LaneMsg × Nat) =>
    (laneCount t l true x.1).send (.lane l { hdrNow s with frag := BitVec.ofNat 15 x.2, more := decide (x.2 + 1 < fs.length) } x.1)) s
  { t with pair := { t.pair with msgid := (t.pair.msgid + 1) % 2 ^ 32 } }

/-- Times in ns of PAR_INEND and PAR_OUTEND of the active bank. -/
def inendNs (s : State) : Nat := s.rd (PAR_INEND s.bank) PAR_INEND_END * 100
def outendNs (s : State) : Nat := s.rd (PAR_OUTEND s.bank) PAR_OUTEND_END * 100

/-- Whether an exchange window runs: [PXCH INAGREE, PAR_INEND) or [PXCH OUTDIG, PAR_OUTEND) (R266). -/
def inExchange (s : State) : Bool :=
  (s.pair.ownIn.isSome && !s.pair.inDone && decide (s.clk.trel < inendNs s)) || (s.pair.ownOut.isSome && decide (s.clk.trel < outendNs s))

/-- Whether a message waits while an exchange window runs: LINES and STAGE (R266). -/
def bulky : LaneMsg → Bool
  | .lines _ => true
  | .stage _ => true
  | _ => false

/-- Insert a waiting message in priority order: LINES before STAGE (R266). -/
def queueMsg (q : List LaneMsg) (m : LaneMsg) : List LaneMsg :=
  match m with
  | .lines _ => q.filter (fun x => msgType x == 9) ++ [m] ++ q.filter fun x => msgType x != 9
  | _ => q ++ [m]

/-- Send a message on the lane that carries it; with no lane ON nothing leaves, and LINES and STAGE wait for the end of an exchange window. -/
def sendLane (s : State) (m : LaneMsg) : State :=
  match laneOf s with
  | some l =>
    if bulky m && inExchange s then { s with pair := { s.pair with laneQ := queueMsg s.pair.laneQ m } } else sendOn s l m
  | none => s

/-- The messages that waited leave once no exchange window runs (R266). -/
def laneFlush (s : State) : State :=
  if s.pair.laneQ.isEmpty || inExchange s then s
  else s.pair.laneQ.foldl sendLane { s with pair := { s.pair with laneQ := [] } }

/-- The heartbeat body of now (R265). -/
def hbBody (s : State) : HbBody :=
  { role := BitVec.ofNat 4 (s.rd PAR_STATUS PAR_STATUS_ROLE), pos := s.on PAR_STATUS PAR_STATUS_POS, k := BitVec.ofNat 16 s.pair.period,
    epoch := BitVec.ofNat 16 (s.rd PAR_EPOCH PAR_EPOCH_EPOCH), tickLo := BitVec.ofNat 32 s.seq.tick,
    gate := s.on PAR_STATUS PAR_STATUS_GATE, lpath := s.on HB_STATUS HB_STATUS_PATH_L, hpath := s.on HB_STATUS HB_STATUS_PATH_H,
    aligned := s.on HB_STATUS HB_STATUS_ALIGNED }

/-- LEAVE on every path the module holds (R271). -/
def sendLeave (s : State) : State :=
  let b := hbBody s
  let t := if s.on HB_STATUS HB_STATUS_PATH_L then sendLane s (.leave b) else s
  if s.on HB_STATUS HB_STATUS_PATH_H then sendLine t true b else t

/-! ### Gate hold -/

/-- PAR_STATUS.HOLD: the gate is held closed by a Grove recovery (R169) or a debug halt (R278). -/
def updateHold (s : State) : State :=
  s.flag PAR_STATUS PAR_STATUS_HOLD
    (s.on DBG_STATUS DBG_STATUS_MUTE || (List.range 8).any fun g => (s.grove g).hold)

/-! ### Changing role -/

/-- State of an engine that resumes: the one before its halt, or stopped while its Grove is isolated. -/
def resumeState (s : State) (e : Nat) : Nat := if s.on (GRV_STATUS (e / 8)) GRV_STATUS_ISOLATED then 4 else (s.core e).prev

/-- Put an action into the core's replay queue; a full queue refuses it (06 R174). -/
def replayPush (s : State) (n : Nat) (r : Replay) : Option State :=
  let c := s.core n
  if c.replay.length < 8 then some (s.setCore n { c with replay := c.replay ++ [r] }) else none

/-- Recovery step of a Grove (GRV_STATUS.PHASE). -/
def State.phase (s : State) (g : Nat) : Nat := s.rd (GRV_STATUS g) GRV_STATUS_PHASE
def State.setPhase (s : State) (g ph : Nat) : State := s.wr (GRV_STATUS g) GRV_STATUS_PHASE ph

/-- DBG_STATUS.MUTE ends once no engine is halted. -/
def muteEnd (s : State) : State :=
  if (List.range 64).any fun e => s.rd (ENG_STATUS e) ENG_STATUS_STATE == 3 then s else updateHold (s.wr DBG_STATUS DBG_STATUS_MUTE 0)

/-- Every engine of a debug-halted Grove has resumed: its recovery starts at step 5 (06 R176). -/
def recoverResumed (s : State) (g : Fin 8) : State :=
  muteEnd (if (s.grove g).debugHalt ∧ s.phase g = 1 ∧
      ((List.range 8).all fun i => s.rd (ENG_STATUS (8 * g + i)) ENG_STATUS_STATE != 3) = true then s.setPhase g 5
    else s)

/-- Resume a halted core through its replay queue (06 R177). -/
def resumeOne (s : State) (n : Nat) : State :=
  let t := (replayPush s n .resume).getD s
  let t := t.setCore n { t.core n with haltReq := false }
  if n < 64 then (if t.rd (ENG_STATUS n) ENG_STATUS_STATE = 3 then t.wr (ENG_STATUS n) ENG_STATUS_STATE (resumeState t n) else t)
  else if (t.core n).run = .halt then t.setCore n { t.core n with run := .run } else t

/-- Whether a core is halted, or a halt of it is requested. -/
def haltPending (s : State) (n : Nat) : Bool :=
  (s.core n).haltReq || (if n < 64 then s.rd (ENG_STATUS n) ENG_STATUS_STATE == 3 else (s.core n).run == .halt)

/-- Resume every halted core through the replay queue and disarm every break; a debug-halted Grove begins its recovery (06 R176, R177). -/
def resumeAll (s : State) : State :=
  let t := ((s.rset DBG_BRK_LO 0#32).rset DBG_BRK_HI 0#32).rset DBG_BRK_C 0#32
  let t := (List.range 68).foldl (fun t n => if haltPending t n then resumeOne t n else t) t
  (List.finRange 8).foldl recoverResumed t

/-! ### Computing (01 R17) -/

/-- Whether a module computes the program in role r; in SYNCING after the bulk copy, phase 5 on (10 R283). -/
def roleComputes (s : State) (r : Role) : Bool :=
  match r with
  | .alone => true
  | .standby => true
  | .active => true
  | .solo => true
  | .isolated => true
  | .syncing => decide (5 ≤ s.rd PAR_COPP PAR_COPP_PHASE)
  | _ => false

/-- The module computes the program in its role. -/
def computes (s : State) : Bool := roleComputes s s.role

/-- The module computes no longer: its engines stop, and every task and activation is abandoned. -/
def stopComputing (s : State) : State :=
  let t := (List.range 64).foldl (fun (t : State) (e : Nat) =>
    let t := t.setCore e { t.core e with task := none }
    if t.rd (GRV_EN (e / 8)) U_STATE = 2 ∧ t.rd (ENG_STATUS e) ENG_STATUS_STATE ≠ 3 then t.wr (ENG_STATUS e) ENG_STATUS_STATE 4 else t) s
  { t with tasks := t.tasks.map fun e => (e.1, if e.2.st = .none then e.2 else { e.2 with st := .abandoned, overrun := false }), acts := [] }

/-- State of the staged set, and the change manager's own state. -/
def State.chgState (s : State) : Nat := s.rd CHG_STATE CHG_STATE_STATE
def State.setChg (s : State) (f : ChgSt → ChgSt) : State := { s with chg := f s.chg }

/-- The staged set is discarded (R297). -/
def discardSet (s : State) : State :=
  if s.chgState = 0 then s
  else
    let t := ((s.wr CHG_STATE CHG_STATE_STATE 0).wr CHG_PROG CHG_PROG_SAVED 0).wr CHG_PROG CHG_PROG_PASS_DONE 0
    t.setChg fun c => { c with staged := [], result := none, ack := false, vote := false, saving := c.joinSave }

/-- The module takes role r with the epoch given, or its own + 1 (R259, R261): a change that was pending is dropped, TIM_SRC follows the tick
master (R38), SPLIT clears when ACTIVE is left (R270), no core stays halted in ACTIVE or SOLO (06 R177), a staged set is discarded in any
other role but ALONE and STANDBY (11 R297), and a module whose new role does not compute stops its engines (01 R17). -/
def setRole (s : State) (r : Role) (epoch : Option Nat) : State :=
  let old := s.role
  let e := match epoch with
    | some e => e
    | none => s.rd PAR_EPOCH PAR_EPOCH_EPOCH + 1
  let t := if (r = .active ∨ r = .solo) ∧ old ≠ r then resumeAll s else s
  let t := if r = .stopped then { t with pair := { t.pair with before := roleCode old } } else t
  let t := { t with pair := { t.pair with pend := none } }
  let t := (t.wr PAR_STATUS PAR_STATUS_ROLE (roleCode r)).wr PAR_EPOCH PAR_EPOCH_EPOCH e
  let t := if old = .active ∧ r ≠ .active then t.wr PAR_STATUS PAR_STATUS_SPLIT 0 else t
  let t := if r.master ∧ s.rd TIM_SRC TIM_SRC_SRC = 3 then t.wr TIM_SRC TIM_SRC_SRC 2
    else if old = .active ∧ r = .standby then t.wr TIM_SRC TIM_SRC_SRC 3 else t
  let t := if r.master ∨ r = .standby then t else discardSet t
  let t := if roleComputes s old && !roleComputes t (if r = .syncing then .stopped else r) then stopComputing t else t
  t.raise 10 PAR_EVT PAR_EVT_ROLECHG

/-- The output gate closes at once: no further output frame of this tick leaves the module (06 R166). -/
def closeGate (s : State) : State :=
  ({ s with seq := { s.seq with gate := .closed } }).wr PAR_STATUS PAR_STATUS_GATE 0

/-- The module enters FAULTED at once (R261); it sends LEAVE unless the pair manager's own comparator failed (R271). A running trial is
rejected (14 R377). -/
def enterFaulted (s : State) (leave : Bool) : State :=
  if s.role = .faulted then s
  else rejectTrial (closeGate (setRole (if leave then sendLeave s else s) .faulted none)) 3

/-- A role change waits for the next input instant (R261); a later one replaces it. -/
def requestRole (s : State) (r : Role) (epoch : Option Nat) : State :=
  { s with pair := { s.pair with pend := some ⟨roleCode r, epoch⟩ } }

end Sys2Proof.Machine
end

