-- ==== Sys2Proof/Machine/Gate.lean ====
section
/-! DEFINITION. The address map, the masters, and the access gates (chapter 07). -/

namespace Sys2Proof.Machine

open Sys2Proof

/-- A target of the address map (R179). -/
inductive Target
  | rom
  | sram
  | sapwood (g : Nat)
  | code (e : Nat)
  | image
  | regs
  | mram
  | dram
  | trace
deriving DecidableEq, Repr

/-- Gate in front of the register block at an address, if a unit occupies the block (R180). -/
def blockGate (a : Nat) : Option Nat :=
  let b := (a - 0x0300000000) / 0x10000
  if b = 0 then some 22 else if b = 1 then some 23 else if b = 2 then some 24
  else if 3 ≤ b ∧ b ≤ 5 then some 25 else if b = 6 then some 26 else if b = 7 then some 27
  else if 8 ≤ b ∧ b ≤ 0xF then some 28 else if b = 0x10 then some 29 else if b = 0x11 then some 30
  else if b = 0x12 then some 31 else if b = 0x13 then some 32 else if b = 0x14 then some 33
  else if b = 0x15 then some 34 else if b = 0x16 then some 35 else if b = 0x17 then some 36
  else if b = 0x18 then some 37 else if b = 0x19 then some 38 else if b = 0x1A then some 39
  else if 0x20 ≤ b ∧ b ≤ 0x37 then some 40 else if 0x38 ≤ b ∧ b ≤ 0x3B then some 41
  else if 0x40 ≤ b ∧ b ≤ 0x47 then some 42 else if 0x48 ≤ b ∧ b ≤ 0x4F then some 43
  else if 0x50 ≤ b ∧ b ≤ 0x52 then some 44 else none

/-- Target, gate and whether memory or a unit stands at the address; none where the interconnect answers (R179, R180). -/
def mapOf (a : Nat) : Option (Target × Nat × Bool) :=
  if a ≤ 0x3FFFF then some (.rom, 0, true)
  else if 0x0010000000 ≤ a ∧ a ≤ 0x00103FFFFF then some (.sram, 1, true)
  else if 0x0100000000 ≤ a ∧ a < 0x0108000000 then
    let g := (a - 0x0100000000) / 0x01000000
    some (.sapwood g, 2 + g, decide (a % 0x01000000 < 0x00800000))
  else if 0x0180000000 ≤ a ∧ a < 0x0184000000 then
    let e := (a - 0x0180000000) / 0x00100000
    some (.code e, 10 + e / 8, decide (a % 0x00100000 < 0x00080000))
  else if 0x0200000000 ≤ a ∧ a ≤ 0x02003FFFFF then some (.image, 18, true)
  else if 0x0300000000 ≤ a ∧ a ≤ 0x030052FFFF then (blockGate a).map fun g => (.regs, g, true)
  else if 0x0400000000 ≤ a ∧ a ≤ 0x0400FFFFFF then some (.mram, 19, true)
  else if 0x0800000000 ≤ a ∧ a ≤ 0x09FFFFFFFF then some (.dram, 20, true)
  else if 0x0F00000000 ≤ a ∧ a ≤ 0x0F000FFFFF then some (.trace, 21, true)
  else none

/-- Range of a gate's whole target (14 R372). -/
def gateRange (g : Nat) : Nat × Nat :=
  let blk (lo hi : Nat) : Nat × Nat := (0x0300000000 + lo * 0x10000, 0x0300000000 + (hi + 1) * 0x10000)
  if g = 0 then (0, 0x40000)
  else if g = 1 then (0x0010000000, 0x0010400000)
  else if g < 10 then (0x0100000000 + (g - 2) * 0x01000000, 0x0100000000 + (g - 1) * 0x01000000)
  else if g < 18 then (0x0180000000 + (g - 10) * 0x00800000, 0x0180000000 + (g - 9) * 0x00800000)
  else if g = 18 then (0x0200000000, 0x0200400000)
  else if g = 19 then (0x0400000000, 0x0401000000)
  else if g = 20 then (0x0800000000, 0x0A00000000)
  else if g = 21 then (0x0F00000000, 0x0F00100000)
  else if g < 25 then blk (g - 22) (g - 22)
  else if g = 25 then blk 3 5
  else if g < 28 then blk (g - 20) (g - 20)
  else if g = 28 then blk 8 0xF
  else if g < 40 then blk (g - 13) (g - 13)
  else if g = 40 then blk 0x20 0x37
  else if g = 41 then blk 0x38 0x3B
  else if g = 42 then blk 0x40 0x47
  else if g = 43 then blk 0x48 0x4F
  else blk 0x50 0x52

/-- LOCK of entry n of table t: the entry is copied into the other table and both are locked (R191). -/
def gateLock (s : State) (g t n : Nat) : State :=
  if s.on (GATE_CTL g t n) GATE_CTL_LOCK then s
  else
    let s := (s.wr (GATE_CTL g t n) GATE_CTL_LOCK 1).bump (GATE_STATUS g) GATE_STATUS_NLOCK 1
    (List.range 7).foldl (fun u i => u.rset (GATE_BASE_LO g (1 - t) n + 4 * i) (s.rget (GATE_BASE_LO g t n + 4 * i))) s

/-- Whether the target's power domain, or the Grove holding it, is ON (R187 code 7; domains of the units, 01 R12). -/
def targetOn (s : State) (t : Target) (a : Nat) : Bool :=
  match t with
  | .sapwood g => s.rd (GRV_EN g) U_STATE == 2
  | .code e => s.rd (GRV_EN (e / 8)) U_STATE == 2
  | .regs =>
    let b := (a - 0x0300000000) / 0x10000
    if b = 0x13 ∨ b = 0x1A ∨ (0x38 ≤ b ∧ b ≤ 0x3B) ∨ (0x40 ≤ b ∧ b ≤ 0x47) then s.isOn (.domain 10)
    else if 0x20 ≤ b ∧ b ≤ 0x2B then s.isOn (.domain 8)
    else if 0x2C ≤ b ∧ b ≤ 0x37 then s.isOn (.domain 9)
    else true
  | _ => true

/-- Answer of a gate (R186): admitted; denied with code and deciding entry; or an answer of the interconnect (R180). -/
inductive GateAns
  | allow (gate : Nat) (t : Target)
  | deny (gate : Nat) (code : Nat) (entry : Nat)
  | unmapped
deriving DecidableEq, Repr

/-- What a transfer carries (R182, R183). -/
structure Xfer where
  m : Nat
  prv : Nat
  part : Nat
  attr : Nat
deriving DecidableEq, Repr

def kindCode : AccKind → Nat
  | .read => 0
  | .write => 1
  | .exec => 2

/-- Rights bit of a table entry: read, write, execute in rising order within a level (R185, GATE_CTL). -/
def rightOf (ctl : Word) (prv : Nat) (k : AccKind) : Bool :=
  let f := if prv = 0 then bitsOf ctl GATE_CTL_USER_XWR else if prv = 3 then bitsOf ctl GATE_CTL_MACHINE_XWR
    else bitsOf ctl GATE_CTL_KERNEL_XWR
  wbit f (kindCode k)

/-- Whether entry n of the active table matches address, partition and master (R186). -/
def entryHit (s : State) (g t n : Nat) (x : Xfer) (a : Nat) : Bool :=
  let base := s.rd64 (GATE_BASE_LO g t n) (GATE_BASE_HI g t n)
  let limit := s.rd64 (GATE_LIMIT_LO g t n) (GATE_LIMIT_HI g t n)
  let mask := s.rd (GATE_MID g t n) GATE_MID_MIDMASK
  s.on (GATE_CTL g t n) GATE_CTL_EN && decide (base ≤ a) && decide (a < limit)
    && wbit (s.rd (GATE_PART g t n) GATE_PART_PARTMASK) x.part
    && x.m &&& mask == s.rd (GATE_MID g t n) GATE_MID_MID &&& mask

/-- The entries of the active table from n on decide (R186). -/
def tableDecide (s : State) (g t : Nat) (tgt : Target) (k : AccKind) (x : Xfer) (a : Nat) : List Nat → GateAns
  | [] => .deny g 2 0
  | n :: ns =>
    if entryHit s g t n x a then
      let ctl := s.rget (GATE_CTL g t n)
      if x.m = 0x7F ∧ bitsOf ctl GATE_CTL_LOCK = 1 ∧
          ¬ (s.rd HWD_STATUS HWD_STATUS_LIFECYCLE = 1 ∧ bitsOf ctl GATE_CTL_DEBUG_ALLOW = 1) then .deny g 5 n
      else if rightOf ctl x.prv k = false then .deny g 3 n
      else if x.attr &&& bitsOf ctl GATE_CTL_AMASK ≠ bitsOf ctl GATE_CTL_AREQ &&& bitsOf ctl GATE_CTL_AMASK then .deny g 4 n
      else .allow g tgt
    else tableDecide s g t tgt k x a ns

/-- The gate's decision on a transfer of `size` bytes at a (R186). -/
def gateDecide (s : State) (k : AccKind) (x : Xfer) (a size : Nat) : GateAns :=
  match mapOf a with
  | none => .unmapped
  | some (tgt, g, mapped) =>
    if mapped = false then .deny g 1 0
    else if targetOn s tgt a = false then .deny g 7 0
    else if tgt = .regs ∧ ¬ (size = 4 ∧ a % 4 = 0) then .deny g 6 0
    else if s.on (GATE_CTRL g) GATE_CTRL_ENFORCE = false then
      (if x.m = 0x45 ∨ (0x40 ≤ x.m ∧ x.m < 0x44 ∧ x.prv = 3) then .allow g tgt else .deny g 2 0)
    else tableDecide s g (s.rd (GATE_STATUS g) GATE_STATUS_TBANK) tgt k x a (List.range 32)

/-- A denial at gate g: capture while VALID is 0, count, event record, pending source 18; a LOCKED denial also sets DBG_STATUS.ERR
(R191, R194). -/
def gateDenied (s : State) (k : AccKind) (x : Xfer) (a g code entry : Nat) (split : Bool) : State :=
  let s := s.count { code := 0x22, mid := x.m, prv := x.prv, addr := a } 1
  let s := s.bump (GATE_ERR_CNT g) GATE_ERR_CNT_COUNT 1
  let info := code * 2 ^ 28 + kindCode k * 2 ^ 26 + x.prv * 2 ^ 24 + x.part * 2 ^ 20 + (if split then 2 ^ 19 else 0) + entry * 2 ^ 14 + x.m
  let open0 := !s.on (GATE_ERR_INFO g) GATE_ERR_INFO_VALID
  let t := if open0 then
      ((s.wr64 (GATE_ERR_ADDR_LO g) (GATE_ERR_ADDR_HI g) a).rset (GATE_ERR_INFO g) (BitVec.ofNat 32 info)).raise 18
        (GATE_ERR_INFO g) GATE_ERR_INFO_VALID
    else s
  let t := if open0 || code == 5 then
      t.event 18 31 (GATE_ERR_INFO g) (BitVec.ofNat 32 (2 ^ 31 + info + g * 2 ^ 7))
    else t
  if code = 5 then t.raise 7 DBG_STATUS DBG_STATUS_ERR else t

/-- Present a transfer to its gate: admitted with the bytes counted (15 R385), or denied with the code, everything a denial does done. -/
def present (s : State) (k : AccKind) (x : Xfer) (a size : Nat) (split : Bool) : (Except Nat Target) × State :=
  match gateDecide s k x a size with
  | .allow _ t => (.ok t, s.count { code := if k = .write then 0x21 else 0x20, mid := x.m, prv := x.prv, addr := a } size)
  | .deny g code n => (.error code, gateDenied s k x a g code n split)
  | .unmapped => (.error 1, s)

/-- Only the check of a transfer, with no trace of an admission (05 R137 checks three writes before any is made). -/
def admitted (s : State) (k : AccKind) (x : Xfer) (a size : Nat) : Bool :=
  match gateDecide s k x a size with
  | .allow _ _ => true
  | _ => false

/-- PRV and PART of a master that is no Denma core: GATE_MATTR (R182). -/
def mattrXfer (s : State) (m attr : Nat) : Xfer :=
  { m := m, prv := s.rd (GATE_MATTR (m - 0x44)) GATE_MATTR_PRV, part := s.rd (GATE_MATTR (m - 0x44)) GATE_MATTR_PART, attr := attr }

end Sys2Proof.Machine
end

