-- ==== Sys2Proof/Machine/Mem.lean ====
section
/-! DEFINITION. Memory: the image entries as bytes, the bytes of every target, accesses of system masters piece by piece (07 R192), ECC
errors (06 R155, 07 R196), dirty tracking (11 R306), and the Grove fault (06 R167). -/

namespace Sys2Proof.Machine

open Sys2Proof

/-! ### Image entries (05 R118 to R120) -/

/-- An entry that has never been written. -/
def Entry.zero : Entry := ⟨0#32, 0#8, 0#4, none⟩

def State.entry (s : State) (c i : Nat) : Entry := amGet (fun _ => Entry.zero) s.image (c * 131072 + i)
def State.setEntry (s : State) (c i : Nat) (e : Entry) : State :=
  { s with image := amSet (fun _ => Entry.zero) s.image (c * 131072 + i) e }

/-- AGE of an entry refreshed at `upd`, seen at tick t (R120). -/
def ageAt (t : Nat) (upd : Option Int) : Nat :=
  match upd with
  | some u => min 1048575 ((t : Int) - u).toNat
  | none => 1048575

/-- The tick against which a copy's AGE is taken: the previous output copy holds AGE as it stood at the snapshot (R120). -/
def ageTick (s : State) (c : Nat) : Nat := if c = 2 ∧ s.freeMode = false then s.seq.snapTick else s.seq.tick

/-- An entry as its 64 bits (R119). -/
def entryBits (t : Nat) (e : Entry) : DWord :=
  BitVec.ofNat 64 (ageAt t e.upd * 2 ^ 44 + e.typ.toNat * 2 ^ 40 + e.status.toNat * 2 ^ 32 + e.value.toNat)

/-- The entry that 64 bits describe at tick t; AGE saturated counts as never refreshed. An AGE above t puts the refresh before tick 0, so
that a write of an entry byte by byte keeps every AGE. -/
def entryOfBits (t : Nat) (w : DWord) : Entry :=
  let age := w.toNat / 2 ^ 44
  ⟨w.truncate 32, (w >>> 32).truncate 8, (w >>> 40).truncate 4, if age = 1048575 then none else some ((t : Int) - age)⟩

/-- Descriptor of a signal in the active bank (R122). -/
def State.descOf (s : State) (i : Nat) : Word :=
  amGet (fun _ => 0#32) s.desc (s.rd IMG_STATUS IMG_STATUS_DBANK * 131072 + i)

/-! ### Bytes -/

/-- The 64 bits of image entry i of copy c as memory shows them (R118). -/
def imageWord (s : State) (c i : Nat) : DWord :=
  if c = 3 ∧ s.freeMode = false then amGet (fun _ => 0#64) s.mapArea i else entryBits (ageTick s c) (s.entry c i)

/-- A write to copy 3 clears IMG_MAPCHK.PASS (R122). -/
def mapTouched (s : State) (c : Nat) : State := if c = 3 then s.wr IMG_MAPCHK IMG_MAPCHK_PASS 0 else s

/-- STATUS bits that an entry of a copy can hold: bit 7 is reserved, and an entry of the output copies holds no FORCED, SIMULATED or
DISAGREED (R119, R121). -/
def statusBits (s : State) (c : Nat) : Byte := if c = 1 ∨ (c = 2 ∧ s.freeMode = false) then 0x33#8 else 0x7F#8

/-- Store the 64 bits of an image entry. -/
def setImageWord (s : State) (c i : Nat) (w : DWord) : State :=
  let s := mapTouched s c
  if c = 3 ∧ s.freeMode = false then { s with mapArea := amSet (fun _ => 0#64) s.mapArea i w }
  else
    let e := entryOfBits (ageTick s c) w
    s.setEntry c i { e with status := e.status &&& statusBits s c }

/-- The canonical form of memory: addresses rising, no entry of value 0, which is what an unlisted address reads as. -/
abbrev Memory.wf (m : AMap Byte) : Bool := amWf (fun _ => 0#8) m

/-- The byte at a physical address of a memory (registers are not bytes). What nothing has written reads 0 (notes/assumptions/3). -/
def State.byte (s : State) (a : Nat) : Byte :=
  match mapOf a with
  | some (.rom, _, _) => Config.romByte a
  | some (.image, _, _) =>
    let o := a - 0x0200000000
    byteOf (imageWord s (o / 0x100000) (o % 0x100000 / 8)).toNat (o % 8)
  | some (.regs, _, _) => 0#8
  | _ => amGet (fun _ => 0#8) s.mem a

/-- Write one byte; the ROM and the trace buffer take none (R181). -/
def State.setByte (s : State) (a : Nat) (b : Byte) : State :=
  match mapOf a with
  | some (.rom, _, _) => s
  | some (.trace, _, _) => s
  | some (.regs, _, _) => s
  | some (.image, _, _) =>
    let o := a - 0x0200000000
    let w := imageWord s (o / 0x100000) (o % 0x100000 / 8)
    let k := 8 * (o % 8)
    setImageWord s (o / 0x100000) (o % 0x100000 / 8)
      (BitVec.ofNat 64 (w.toNat - (byteOf w.toNat (o % 8)).toNat * 2 ^ k + b.toNat * 2 ^ k))
  | _ => { s with mem := amSet (fun _ => 0#8) s.mem a b }

/-- n bytes from a, lowest address first. -/
def State.bytes (s : State) (a : Nat) : Nat → List Byte
  | 0 => []
  | n + 1 => s.byte a :: s.bytes (a + 1) n

/-- Store bytes from a on. -/
def State.setBytes (s : State) (a : Nat) : List Byte → State
  | [] => s
  | b :: bs => (s.setByte a b).setBytes (a + 1) bs

/-! ### Grove faults (06 R167, R170, R171) -/

/-- Attempts that still lie in the window of GRV_RECOV_WIN (R171). -/
def recentAttempts (s : State) (g : Nat) : List Nat :=
  (s.grove g).attempts.filter fun t => decide (s.clk.mono < t + s.rd (GRV_RECOV_WIN g) GRV_RECOV_WIN_WIN_S * 1000000000)

/-- Step 2 begins: the attempt is counted, or the limit keeps the Grove OFF and the module enters FAULTED (R171). -/
def beginStep2 (s : State) (g : Fin 8) : State :=
  let a := recentAttempts s g
  let s := s.setGrove g { s.grove g with attempts := a, start := 0, reloaded := false, conv := 0 }
  if s.rd (GRV_CFG g) GRV_CFG_RECOV_MAX < a.length + 1 then
    let t := hwStop s (.grove g)
    let t := (t.wr (GRV_EN g) U_HWSTOP 1).wr (GRV_STATUS g) GRV_STATUS_PHASE 0
    enterFaulted (t.raise (24 + g) (GRV_STATUS g) GRV_STATUS_LIMIT) true
  else
    let t := s.setGrove g { s.grove g with attempts := a ++ [s.clk.mono] }
    let t := (t.wr (GRV_STATUS g) GRV_STATUS_RECOV_CNT (a.length + 1)).wr (GRV_STATUS g) GRV_STATUS_PHASE 2
    hwStop t (.grove g)

/-- Isolation of a Grove (R167): engines stopped, ISOLATED, RESYNC and the cause bit set, first faulting engine and tick recorded, the
gate held closed until a tick of matching digests (R169). -/
def isolate (s : State) (g : Fin 8) (eng : Nat) (cause : Fld) : State :=
  let s := (List.range 8).foldl (fun t i =>
    if t.rd (ENG_STATUS (8 * g + i)) ENG_STATUS_STATE = 3 then t else t.wr (ENG_STATUS (8 * g + i)) ENG_STATUS_STATE 4) s
  let s := if s.on (GRV_STATUS g) GRV_STATUS_ISOLATED then s
    else (s.wr (GRV_STATUS g) GRV_STATUS_FAULT_ENG eng).wr64 (GRV_FAULT_TICK_LO g) (GRV_FAULT_TICK_HI g) s.seq.tick
  let s := ((s.wr (GRV_STATUS g) GRV_STATUS_ISOLATED 1).wr (GRV_STATUS g) GRV_STATUS_RESYNC 1).wr (GRV_STATUS g) GRV_STATUS_PHASE 1
  let s := s.raise (24 + g) (GRV_STATUS g) cause
  updateHold (s.setGrove g { s.grove g with hold := true })

/-- A Grove fault by mismatch or uncorrectable error: isolation, and step 2 of the recovery begins at once (R167, R170). -/
def groveFault (s : State) (g : Fin 8) (eng : Nat) (cause : Fld) : State :=
  if s.on (GRV_STATUS g) GRV_STATUS_ISOLATED then s.raise (24 + g) (GRV_STATUS g) cause
  else beginStep2 (isolate s g eng cause) g

/-! ### ECC and dirty lines -/

/-- ECC error of the 8-byte word that holds an address. -/
def State.eccAt (s : State) (a : Nat) : Option EccErr := amGet (fun _ => none) s.ecc (a / 8 * 8)

/-- Forget an ECC error: the word has been written or corrected. -/
def State.eccClear (s : State) (a : Nat) : State := { s with ecc := amSet (fun _ => none) s.ecc (a / 8 * 8) none }

/-- Whether the Groves keep dirty bitmaps for a change: a set is COPYING, STAGED or ANNOUNCED (R306). -/
def tracking (s : State) : Bool :=
  let c := s.rd CHG_STATE CHG_STATE_STATE
  c == 3 || c == 4 || c == 5

/-- Whether Grove g keeps its dirty lines for the partner: this module serves a Coppice of the module or of the Grove (R170, 10 R283). -/
def trackingP (s : State) (g : Nat) : Bool := s.pair.source || s.pair.serves.contains g

/-- Insert a line number into a rising list. -/
def insertLine (n : Nat) : List Nat → List Nat
  | [] => [n]
  | m :: l => if n < m then n :: m :: l else if n = m then m :: l else m :: insertLine n l

/-- A write to the Canopy Sapwood bank marks its line dirty (R170, R306). -/
def markDirty (s : State) (a : Nat) : State :=
  match mapOf a with
  | some (.sapwood g, _, _) =>
    let o := a % 0x01000000
    if o / 0x400000 = s.rd (GRV_STATUS g) GRV_STATUS_CBANK then
      let l := o % 0x400000 / 64
      let s := if trackingP s g then s.setGrove g { s.grove g with dirtyP := insertLine l (s.grove g).dirtyP } else s
      let r := s.grove g
      if tracking s = false ∨ r.dirty.contains l = true then s
      else (s.setGrove g { r with dirty := insertLine l r.dirty }).count { code := 0x12, grove := some g, addr := a } 1
    else s
  | _ => s

/-- Count bytes of a Sapwood access (15 R385). -/
def countSap (s : State) (x : Xfer) (cls : Nat) (wr : Bool) (a n : Nat) : State :=
  match mapOf a with
  | some (.sapwood g, _, _) =>
    s.count { code := if wr then 0x11 else 0x10, grove := some g, mid := x.m, prv := x.prv, addr := a, cls := cls } n
  | _ => s

/-- Physical Grove, engine and whether the bank holds the Canopy set, of a Sapwood or code address. -/
def groveOfAddr (s : State) (a : Nat) : Option (Fin 8 × Nat × Bool) :=
  match mapOf a with
  | some (.sapwood g, _, _) =>
    if h : g < 8 then some (⟨g, h⟩, 0, a % 0x01000000 / 0x400000 == s.rd (GRV_STATUS g) GRV_STATUS_CBANK) else none
  | some (.code e, _, _) =>
    if h : e / 8 < 8 then some (⟨e / 8, h⟩, e % 8, a % 0x00100000 / 0x40000 == s.rd (GRV_STATUS (e / 8)) GRV_STATUS_CBANK) else none
  | _ => none

/-- GRV_UE_ADDR of an uncorrectable error (GRV_ registers). -/
def recordUe (s : State) (g : Fin 8) (a : Nat) : State :=
  match mapOf a with
  | some (.code e, _, _) =>
    s.rset (GRV_UE_ADDR g) (BitVec.ofNat 32 (2 ^ 31 + e % 8 * 2 ^ 24 + a % 0x00100000))
  | _ => s.rset (GRV_UE_ADDR g) (BitVec.ofNat 32 (a % 0x01000000))

/-- A corrected error is written back and counted (R155; 05 IMG_CE_CNT). -/
def correctEcc (s : State) (a : Nat) : State :=
  let s := s.eccClear a
  match groveOfAddr s a with
  | some (g, _, _) => (s.bump (GRV_CE_CNT g) GRV_CE_CNT_COUNT 1).count { code := 0x13, grove := some g.val, addr := a } 1
  | none =>
    match mapOf a with
    | some (.image, _, _) => (s.bump IMG_CE_CNT IMG_CE_CNT_COUNT 1).raise 2 IMG_STATUS IMG_STATUS_CE
    | _ => s

/-- Address of the first 64-bit word of [a, a + n) that holds an uncorrectable error. -/
def ueWord (s : State) (a n : Nat) : Nat :=
  (((List.range (n / 8 + 2)).map fun i => a / 8 * 8 + 8 * i).find? fun w =>
    decide (w < a + n) && s.eccAt w == some .uncorrectable).getD (a / 8 * 8)

/-- An uncorrectable error read in [a, a + n) of Sapwood or code: by an engine or the scrubber, or by a system master in a bank of the
Canopy set, it is a Grove fault (R155). -/
def ueGrove (s : State) (a n : Nat) (system : Bool) (eng : Nat) : State :=
  match groveOfAddr s a with
  | some (g, e, canopy) =>
    let s := recordUe s g (ueWord s a n)
    if system ∧ canopy = false then s else groveFault s g (if system then e else eng) GRV_STATUS_UE
  | none => s

/-! ### Accesses of system masters (R192, R193) -/

/-- Lengths of the pieces of an access of n bytes at a: cut at every 64-byte boundary. -/
def piecesFrom : Nat → Nat → Nat → List (Nat × Nat)
  | 0, _, _ => []
  | _, _, 0 => []
  | fuel + 1, a, n =>
    let l := min n (64 - a % 64)
    (a, l) :: piecesFrom fuel (a + l) (n - l)

def pieces (a n : Nat) : List (Nat × Nat) := piecesFrom (n / 64 + 2) a n

/-- Whether the 64-bit words of [a, a + n) hold an uncorrectable error. -/
def ueIn (s : State) (a n : Nat) : Bool :=
  (List.range (n / 8 + 2)).any fun i => decide (a / 8 * 8 + 8 * i < a + n) && s.eccAt (a + 8 * i) == some .uncorrectable

/-- Correct the corrected errors met in [a, a + n). -/
def correctIn (s : State) (a n : Nat) : State :=
  (List.range (n / 8 + 2)).foldl (fun t i =>
    if a / 8 * 8 + 8 * i < a + n ∧ t.eccAt (a + 8 * i) = some .corrected then correctEcc t (a + 8 * i) else t) s

/-- Whether the LPDDR5 controller is ready (07 R196; 14 RDY_VEC). -/
def dramReady (s : State) : Bool := wbit (s.rd RDY_VEC RDY_VEC_UNITS) 2

/-- Error of a read at the target: none, or the target's error code, uncorrectable word 1, DRAM not ready 2 (R196); Sapwood and code follow
R155. -/
def targetErr (s : State) (t : Target) (a n : Nat) : Option Nat :=
  if t = .dram ∧ dramReady s = false then some 2 else if ueIn s a n then some 1 else none

/-- One piece read by a system master: its bytes, or an error: a gate error code, or 8 + a target error code (MEMERR). -/
def readPiece (s : State) (x : Xfer) (a n : Nat) (split : Bool) : (Except Nat (List Byte)) × State :=
  match present s .read x a n split with
  | (.error c, t) => (.error c, t)
  | (.ok tgt, t) =>
    let t := countSap (correctIn t a n) x 0 false a n
    match targetErr t tgt a n with
    | some c => (.error (8 + c), if (groveOfAddr t a).isSome then ueGrove t a n true 0 else t)
    | none => (.ok (t.bytes a n), t)

/-- Words that a write covers whole hold no error any more. -/
def eccWritten (s : State) (a n : Nat) : State :=
  (List.range (n / 8)).foldl (fun t i => if (a + 7) / 8 * 8 + 8 * i + 8 ≤ a + n then t.eccClear ((a + 7) / 8 * 8 + 8 * i) else t) s

/-- One piece written by a system master; errors as for a read. -/
def writePiece (s : State) (x : Xfer) (a : Nat) (bs : List Byte) (split : Bool) : (Except Nat Unit) × State :=
  match present s .write x a bs.length split with
  | (.error c, t) => (.error c, t)
  | (.ok tgt, t) =>
    if tgt = .dram ∧ dramReady t = false then (.error 10, t)
    else (.ok (), markDirty (countSap (eccWritten (t.setBytes a bs) a bs.length) x 0 true a bs.length) a)

/-- Read piece by piece until one is denied: the bytes delivered, and the code and address of the denied piece (R192). -/
def readPieces (s : State) (x : Xfer) (first : Bool) : List (Nat × Nat) → List Byte × Option (Nat × Nat) × State
  | [] => ([], none, s)
  | (a, n) :: ps =>
    match readPiece s x a n (!first) with
    | (.error c, t) => ([], some (c, a), t)
    | (.ok bs, t) =>
      let (r, e, u) := readPieces t x false ps
      (bs ++ r, e, u)

/-- Write piece by piece until one is denied. -/
def writePieces (s : State) (x : Xfer) (first : Bool) (bs : List Byte) : List (Nat × Nat) → Option (Nat × Nat) × State
  | [] => (none, s)
  | (a, n) :: ps =>
    match writePiece s x a (bs.take n) (!first) with
    | (.error c, t) => (some (c, a), t)
    | (.ok (), t) => writePieces t x false (bs.drop n) ps

/-- A read of n bytes by a system master. -/
def dmaRead (s : State) (x : Xfer) (a n : Nat) : List Byte × Option (Nat × Nat) × State := readPieces s x true (pieces a n)

/-- A write of bytes by a system master. -/
def dmaWrite (s : State) (x : Xfer) (a : Nat) (bs : List Byte) : Option (Nat × Nat) × State :=
  writePieces s x true bs (pieces a bs.length)

end Sys2Proof.Machine
end

