-- ==== Sys2Proof/Machine/Image.lean ====
section
/-! DEFINITION. The signal image and the force table (chapter 05; free-mode buffers, 03 R70): reading and writing signals through the
force overlay, the map load, force applies, snapshots, and what the output segment sends for a signal. -/

namespace Sys2Proof.Machine

open Sys2Proof

/-! ### Descriptors (R122) -/

def descType (d : Word) : Nat := d.toNat % 16
def descDir (d : Word) : Bool := wbit d.toNat 4
def descOwner (d : Word) : Nat := d.toNat / 2 ^ 8 % 16
def descPart (d : Word) : Nat := d.toNat / 2 ^ 12 % 16
def descSafeMode (d : Word) : Nat := d.toNat / 2 ^ 18 % 4
def descSafeIdx (d : Word) : Nat := d.toNat / 2 ^ 20 % 4096

/-! ### The force overlay (R131) -/

/-- Number of the force entry whose FRC_CTL word of the active block stands at an address. -/
def frcOfAddr (a : Nat) : Option Nat :=
  if 0x0300050000 ≤ a ∧ a < 0x0300060000 ∧ a % 16 = 0 then some ((a - 0x0300050000) / 16) else none

/-- The active force entry with VALID = 1 on signal i, whatever FRC_CTRL.EN reads. -/
def forceEntry (s : State) (i : Nat) : Option Nat :=
  (s.regs.filterMap fun e => (frcOfAddr e.1).bind fun n =>
    if bitsOf e.2 FRCA_CTL_VALID = 1 ∧ bitsOf e.2 FRCA_CTL_SIG = i then some n else none).head?

/-- The entry that overlays signal i (R131). -/
def forceMatch (s : State) (i : Nat) : Option Nat := if s.on FRC_CTRL FRC_CTRL_EN then forceEntry s i else none

/-- STATUS of a forced signal as delivered (R127). -/
def forceStatus (s : State) (n : Nat) : Byte :=
  BitVec.ofNat 8 (s.rd (FRCA_CTL n) FRCA_CTL_Q + (if s.on (FRCA_CTL n) FRCA_CTL_MODE then 0x08 else 0x04))

/-! ### Reading a signal (R127) -/

/-- Uncorrectable error of an image entry: UE, IMG_UE_SIG and an event record (R127). -/
def imageUe (s : State) (c i : Nat) : State :=
  let s := (s.wr IMG_UE_SIG IMG_UE_SIG_COPY c).wr IMG_UE_SIG IMG_UE_SIG_SIG i
  (s.raise 2 IMG_STATUS IMG_STATUS_UE).eventReg 2 IMG_STATUS IMG_STATUS_UE

/-- Whether entry i of copy c holds an uncorrectable error. -/
def imageBad (s : State) (c i : Nat) : Bool := s.eccAt (0x0200000000 + c * 0x100000 + 8 * i) == some .uncorrectable

/-- Address of image entry i of copy c (R118). -/
def imageAddr (c i : Nat) : Nat := 0x0200000000 + c * 0x100000 + 8 * i

/-- A corrected error met in an image entry is written back and counted (IMG_STATUS.CE, IMG_CE_CNT). -/
def imageCorrect (s : State) (c i : Nat) : State :=
  if s.eccAt (imageAddr c i) = some .corrected then correctEcc s (imageAddr c i) else s

/-- The stored entry as the unit reads it: an unassigned signal and an uncorrectable error read as value 0, BAD. -/
def readEntry (s : State) (c i : Nat) : Entry × State :=
  if descType (s.descOf i) = 0 then (⟨0#32, 0x03#8, 0#4, none⟩, s)
  else if imageBad s c i then
    ({ s.entry c i with value := 0#32, status := 0x03#8 }, imageUe s c i)
  else (s.entry c i, imageCorrect s c i)

/-- Write a whole entry: its word holds no error any more (R128, R129). -/
def writeEntry (s : State) (c i : Nat) (e : Entry) : State := (s.setEntry c i e).eccClear (imageAddr c i)

/-- In locked mode the image unit accepts no engine write between HOLD and the next REL: the write has no effect (06 R167; DESIGN CHOICE
that the refused write is dropped and its instruction goes on: notes/assumptions/79). -/
def imageShut (s : State) : Bool := s.seq.held && !s.freeMode

/-- What LDSIG delivers for signal i of physical copy c (R127). -/
def deliver (s : State) (c i : Nat) : DWord × State :=
  let (e, t) := readEntry s c i
  match forceMatch s i with
  | some n => (entryBits 0 { e with value := s.rget (FRCA_VAL n), status := forceStatus s n, upd := some 0 }, t)
  | none => (entryBits (ageTick s c) e, t)

/-- Physical copy that a read of copy cp (0 IN, 1 OUT, 2 PREV) reaches for a task of class c (R118, R70). -/
def copyFor (s : State) (cp c : Nat) : Nat :=
  if s.freeMode then (if cp = 0 then (s.act c).buf else 1) else cp

/-! ### Writing a signal (R128) -/

/-- Clamp to a range; the flag says that it clamped. -/
def clampTo (lo hi v : Int) : Word × Bool :=
  if v < lo then (BitVec.ofInt 32 lo, true) else if hi < v then (BitVec.ofInt 32 hi, true) else (BitVec.ofInt 32 v, false)

/-- convert() of R128. -/
def convert (x : Word) (ty : Nat) : Word × Bool :=
  if ty = 1 then (if x = 0#32 then 0#32 else 1#32, false)
  else if ty = 2 then clampTo (-128) 127 x.toInt
  else if ty = 3 then clampTo (-32768) 32767 x.toInt
  else if ty = 5 then clampTo 0 255 x.toInt
  else if ty = 6 then clampTo 0 65535 x.toInt
  else (x, false)

/-- record_shadow() (R131): what a STSIG to a forced signal leaves in its entry. -/
def recordShadow (s : State) (n : Nat) (value : Bool) (x : Word) (st : Nat) : State :=
  let a := FRCA_CTL n
  let s := ((s.wr a FRCA_CTL_SHV 1).wr a FRCA_CTL_SHQ (st % 4)).wr a FRCA_CTL_SHL (st / 16 % 4)
  let s := if value then (s.wr a FRCA_CTL_SHM 1).rset (FRCA_SHADOW n) x else s
  s.bump FRC_WCNT FRC_WCNT_COUNT 1

/-- A write of the image by engine e joins its ESD (10 R277): address 5 bytes, data 8, strobes 1. -/
def esdWrite (s : State) (e : Nat) (a : Nat) (data : Nat) (strobes : Nat) : State :=
  let c := amGet (fun _ => 0xFFFFFFFF#32) s.esd e
  { s with esd := amSet (fun _ => 0xFFFFFFFF#32) s.esd e ((leBytes 5 a ++ leBytes 8 data ++ leBytes 1 strobes).foldl crcByte c) }

/-- The effect of an admitted STSIG of engine e on signal i (R128): in mode VALUE or QUALITY, source word v; answers whether convert clamped. -/
def storeSignal (s : State) (e i : Nat) (value : Bool) (v : DWord) : State × Bool :=
  let d := s.descOf i
  let st := v.toNat / 2 ^ 32 % 256 &&& 0x33
  let (x, sat) := if value then convert (v.truncate 32) (descType d) else (0#32, false)
  if imageShut s then (s, sat)
  else match forceMatch s i with
  | some n => (recordShadow s n value x st, sat)
  | none =>
    let old := s.entry 1 i
    let new : Entry :=
      if value then ⟨x, BitVec.ofNat 8 st, BitVec.ofNat 4 (descType d), some s.seq.tick⟩
      else { old with status := (old.status &&& 0xCC#8) ||| BitVec.ofNat 8 st }
    let t := if value then writeEntry s 1 i new else s.setEntry 1 i new
    (esdWrite t e (0x0200100000 + 8 * i) (entryBits s.seq.tick new).toNat (if value then 0xFF else 0x10), sat)

/-! ### What the output segment sends for a signal (R123, R131, R210) -/

/-- Safe value of an output signal (R123): by SAFE_MODE, with quality UNCERTAIN. -/
def safeValue (s : State) (i : Nat) : Word × Byte :=
  let d := s.descOf i
  let tab := s.rget (IMG_SAFE (s.rd IMG_STATUS IMG_STATUS_DBANK) (descSafeIdx d))
  let v := if descSafeMode d = 2 then 0#32
    else if descSafeMode d = 1 then
      match amGet (fun _ => none) s.lastSent i with
      | some (x, _) => x
      | none => tab
    else tab
  (v, 0x01#8)

/-- Value and status that a frame carries for output signal i: a safe value, or the output copy through the force overlay. -/
def sentValue (s : State) (safe : Bool) (i : Nat) : Word × Byte :=
  if safe then safeValue s i
  else match forceMatch s i with
    | some n => (s.rget (FRCA_VAL n), forceStatus s n)
    | none => if imageBad s 1 i then (0#32, 0x03#8) else ((s.entry 1 i).value, (s.entry 1 i).status)

/-- A signal has gone out with this value (R123). -/
def markSent (s : State) (i : Nat) (v : Word × Byte) : State :=
  { s with lastSent := amSet (fun _ => none) s.lastSent i (some v) }

/-! ### Copies of whole buffers -/

/-- The entries of copy src placed into copy dst. -/
def copyImage (s : State) (src dst : Nat) : State :=
  let rows := s.image.filterMap fun e => if e.1 / 131072 = src then some (dst * 131072 + e.1 % 131072, e.2) else none
  let keep := s.image.filter fun e => decide (e.1 / 131072 ≠ dst)
  -- raw: the words go with their check bits, so an error goes with its word (DESIGN CHOICE, notes/assumptions/79)
  let marks := s.ecc.filterMap fun e =>
    if imageAddr src 0 ≤ e.1 ∧ e.1 < imageAddr (src + 1) 0 then some (imageAddr dst 0 + (e.1 - imageAddr src 0), e.2) else none
  { s with image := keep.filter (fun e => decide (e.1 < dst * 131072)) ++ rows ++ keep.filter (fun e => decide (dst * 131072 ≤ e.1)),
           ecc := s.ecc.filter (fun e => decide (e.1 < imageAddr dst 0)) ++ marks ++ s.ecc.filter (fun e => decide (imageAddr (dst + 1) 0 ≤ e.1)) }

/-- Every entry of a copy becomes 0, with no error left. -/
def clearCopy (s : State) (c : Nat) : State :=
  { s with image := s.image.filter (fun e => decide (e.1 / 131072 ≠ c)),
           ecc := s.ecc.filter fun e => decide (e.1 < imageAddr c 0) || decide (imageAddr (c + 1) 0 ≤ e.1) }

/-- The snapshot of R124: the output copy into the previous output copy, raw. Snapshot and map load finish within their command, so PREV_BUSY
and MAP_BUSY never read 1 (DESIGN CHOICE, notes/assumptions/77). -/
def snapshot (s : State) : State :=
  let t := copyImage s 1 2
  { t with seq := { t.seq with snapTick := s.seq.tick } }

/-- Free mode takes effect: copy 0 is the newest complete buffer, copies 2 and 3 are free (03 R70). -/
def imageToFree (s : State) : State :=
  let rows := s.mapArea.map fun e => (3 * 131072 + e.1, entryOfBits s.seq.tick e.2)
  { s with image := s.image ++ rows.filter (fun e => decide (e.2 ≠ Entry.zero)), mapArea := [],
           seq := { s.seq with newest := 0, filling := none } }

/-- Locked mode takes effect: newest buffer into copy 0, snapshot into copy 2, copy 3 to 0, which clears IMG_MAPCHK.PASS (03 R70, R122). -/
def imageToLocked (s : State) : State :=
  let t := if s.seq.newest = 0 then s else copyImage s s.seq.newest 0
  let t := mapTouched (clearCopy (snapshot t) 3) 3
  { t with mapArea := [], seq := { t.seq with newest := 0, filling := none } }

/-- The input copy that ring ports and local channels write now: copy 0, or in free mode the buffer the segment fills (03 R70). -/
def inputCopy (s : State) : Option Nat := if s.freeMode then s.seq.filling else some 0

/-- Write an input entry in the running tick (R120). -/
def writeInput (s : State) (i : Nat) (v : Word) (st : Byte) : State :=
  match inputCopy s with
  | some c => writeEntry (mapTouched s c) c i ⟨v, st, BitVec.ofNat 4 (descType (s.descOf i)), some s.seq.tick⟩
  | none => s

/-- An input segment starts in free mode (03 R70): the lowest of copies 0, 2, 3 that is neither newest nor bound is filled. -/
def startFill (s : State) : State :=
  let bound (c : Nat) : Bool := s.acts.any fun e => e.2.live && e.2.buf == c
  match [0, 2, 3].find? fun c => c != s.seq.newest && !bound c with
  | some c => { s with seq := { s.seq with filling := some c } }
  | none => ({ s with seq := { s.seq with filling := none } }).raise 1 TSQ_STATUS TSQ_STATUS_INBUF_FULL

/-- At the end of the segment the filled buffer becomes the newest complete one (03 R70). -/
def endFill (s : State) : State :=
  match s.seq.filling with
  | some c => { s with seq := { s.seq with newest := c, filling := none } }
  | none => s

/-! ### The map load (R122) -/

/-- Failure code of map entry w of signal i, given the entries before it: 1 TYPE, 2 OWNER, 3 SAFE, 4 STABLE; 0 none (IMG_MAPCHK). The spec does
not say which code stands when one entry fails several checks, nor which of two signals with one stable ID failed: the model gives the lowest
code, and the later of the two signals (DESIGN CHOICE, notes/assumptions/77). -/
def mapEntryCode (s : State) (before : List (Nat × DWord)) (w : DWord) : Nat :=
  let d : Word := w.truncate 32
  let st := w.toNat / 2 ^ 32
  if 10 ≤ descType d ∨ (descDir d = true ∧ descType d = 0) then 1
  else if descDir d = true ∧ s.on (TSQ_CLASS_CFG (1 - s.bank) (descOwner d)) TSQ_CLASS_CFG_EN = false then 2
  else if descSafeMode d = 3 then 3
  else if st ≠ 0 ∧ (before.any fun e => e.2.toNat / 2 ^ 32 == st) then 4
  else 0

/-- First failing signal of the map, with its code. -/
def mapCheck (s : State) : List (Nat × DWord) → List (Nat × DWord) → Nat × Nat
  | _, [] => (0, 0)
  | before, (i, w) :: rest =>
    let c := mapEntryCode s before w
    if c = 0 then mapCheck s ((i, w) :: before) rest else (c, i)

/-- IMG_MAPCMD.LOAD: no effect while MAP_BUSY is 1 or in free mode; else the descriptors go to the idle bank and are checked. -/
def mapLoad (s : State) : State :=
  if s.freeMode ∨ s.on IMG_STATUS IMG_STATUS_MAP_BUSY then s
  else
    let b := 1 - s.rd IMG_STATUS IMG_STATUS_DBANK
    let new := s.mapArea.filterMap fun e =>
      if (e.2.truncate 32 : Word) = 0#32 then none else some (b * 131072 + e.1, (e.2.truncate 32 : Word))
    let old := s.desc.filter fun e => decide (e.1 / 131072 ≠ b)
    let t := { s with desc := if b = 0 then new ++ old else old ++ new }
    let (c, i) := mapCheck s [] s.mapArea
    (((t.wr IMG_MAPCHK IMG_MAPCHK_DONE 1).wr IMG_MAPCHK IMG_MAPCHK_PASS (if c = 0 then 1 else 0)).wr IMG_MAPCHK
      IMG_MAPCHK_CODE c).wr IMG_MAPCHK IMG_MAPCHK_SIG i

/-! ### Force applies (R132, R133) -/

/-- The 4,096 staging entries as words by offset in the block. -/
def stagingCopy (s : State) : AMap Word :=
  s.regs.filterMap fun e => if 0x0300040000 ≤ e.1 ∧ e.1 < 0x0300050000 then some (e.1 - 0x0300040000, e.2) else none

/-- The 4,096 active entries in the staging layout, without what they have recorded. -/
def activeCopy (s : State) : AMap Word :=
  s.regs.filterMap fun e =>
    if 0x0300050000 ≤ e.1 ∧ e.1 < 0x0300060000 ∧ e.1 % 16 ≠ 12 then
      some (e.1 - 0x0300050000, if e.1 % 16 = 0 then
        setBits (setBits (setBits (setBits e.2 FRCS_CTL_SHV 0) FRCS_CTL_SHQ 0) FRCS_CTL_SHL 0) FRCS_CTL_SHM 0 else e.2)
    else none

/-- The valid entries of a copy: entry number and SIG. -/
def copySigs (c : AMap Word) : List (Nat × Nat) :=
  c.filterMap fun e => if e.1 % 16 = 0 ∧ bitsOf e.2 FRCS_CTL_VALID = 1 then some (e.1 / 16, bitsOf e.2 FRCS_CTL_SIG) else none

/-- Whether a list of numbers names one twice. -/
def hasDup : List Nat → Bool
  | [] => false
  | n :: l => l.contains n || hasDup l

/-- Whether a SIG of the copy is unassigned in the active descriptors. -/
def copyUnassigned (s : State) (c : AMap Word) : Bool := (copySigs c).any fun e => descType (s.descOf e.2) == 0

/-- Refusal code of an APPLY: 1 DUP, 2 TOO_SOON, 4 TYPE, 0 none (R132). -/
def applyCode (s : State) (c : AMap Word) (t : Nat) : Nat :=
  if hasDup ((copySigs c).map Prod.snd) then 1 else if t < s.seq.tick + 8 then 2 else if copyUnassigned s c then 4 else 0

/-- An apply is refused with a code and disarmed (R132). -/
def frcRefuse (s : State) (code : Nat) : State :=
  (({ s with armed := none }).wr FRC_STATUS FRC_STATUS_PEND 0).wr FRC_STATUS FRC_STATUS_CODE code |>.raise 3 FRC_STATUS FRC_STATUS_REJ

/-- Arm an apply. -/
def frcArm (s : State) (t : Nat) (c : AMap Word) : State :=
  ({ s with armed := some ⟨t, c, false, s.seq.tick⟩ }).wr FRC_STATUS FRC_STATUS_PEND 1

/-- FRC_CMD.APPLY (R132). -/
def frcApply (s : State) : State :=
  if s.on FRC_STATUS FRC_STATUS_PEND then s
  else
    let c := stagingCopy s
    let t := s.rd64 FRC_APPLY_LO FRC_APPLY_HI
    let code := applyCode s c t
    if code ≠ 0 then frcRefuse s code
    else sendLane (frcArm s t c) (.force (BitVec.ofNat 64 t) c)

/-- Disarm a pending apply. -/
def frcDisarm (s : State) : State := ({ s with armed := none }).wr FRC_STATUS FRC_STATUS_PEND 0

/-- FRC_CMD.CANCEL: before the apply tick, on both modules (R132); the FORCE message that carries it has apply tick 0 (notes/assumptions/22). -/
def frcCancel (s : State) : State :=
  match s.armed with
  | some a => if s.seq.tick < a.tick then sendLane (frcDisarm s) (.force 0#64 []) else s
  | none => s

/-- The recorded writes of a force that an apply removes take effect as the STSIG that was recorded: in mode VALUE, or in mode QUALITY (R133). -/
def releaseForce (s : State) (n : Nat) : State :=
  let c := s.rget (FRCA_CTL n)
  let i := bitsOf c FRCA_CTL_SIG
  if bitsOf c FRCA_CTL_SHV = 1 ∧ descDir (s.descOf i) = true then
    let old := s.entry 1 i
    let st := BitVec.ofNat 8 (bitsOf c FRCA_CTL_SHQ + 16 * bitsOf c FRCA_CTL_SHL)
    if bitsOf c FRCA_CTL_SHM = 1 then
      writeEntry s 1 i ⟨s.rget (FRCA_SHADOW n), st, BitVec.ofNat 4 (descType (s.descOf i)), some s.seq.tick⟩
    else s.setEntry 1 i { old with status := (old.status &&& 0xCC#8) ||| st }
  else s

/-- Entry n of the active block takes the words of the copy; an entry that stays valid with the same SIG keeps its recorded writes (R132). -/
def activateEntry (c : AMap Word) (s : State) (n : Nat) : State :=
  let get (o : Nat) : Word := amGet (fun _ => 0#32) c (16 * n + o)
  let old := s.rget (FRCA_CTL n)
  let new := get 0
  let keep := bitsOf old FRCA_CTL_VALID = 1 ∧ bitsOf new FRCS_CTL_VALID = 1 ∧ bitsOf old FRCA_CTL_SIG = bitsOf new FRCS_CTL_SIG
  let base := setBits (setBits (setBits (setBits new FRCA_CTL_SHV 0) FRCA_CTL_SHQ 0) FRCA_CTL_SHL 0) FRCA_CTL_SHM 0
  let w := if keep then setBits (setBits (setBits (setBits base FRCA_CTL_SHV (bitsOf old FRCA_CTL_SHV)) FRCA_CTL_SHQ
      (bitsOf old FRCA_CTL_SHQ)) FRCA_CTL_SHL (bitsOf old FRCA_CTL_SHL)) FRCA_CTL_SHM (bitsOf old FRCA_CTL_SHM) else base
  let s := ((s.rset (FRCA_CTL n) w).rset (FRCA_VAL n) (get 4)).rset (FRCA_STABLE n) (get 8)
  let s := ((s.rset (FRCS_CTL n) base).rset (FRCS_VAL n) (get 4)).rset (FRCS_STABLE n) (get 8)
  if keep then s else s.rset (FRCA_SHADOW n) 0#32

/-- Numbers of the entries whose FRC_CTL stands in the active or staging block. -/
def frcListed (s : State) : List Nat :=
  (s.regs.filterMap fun e => if 0x0300040000 ≤ e.1 ∧ e.1 < 0x0300060000 then some (e.1 % 0x10000 / 16) else none).dedup

/-- The copy takes effect: removed forces write what they recorded, entries are replaced, counters follow (R132, R133, 10 R277). -/
def frcActivate (s : State) (c : AMap Word) : State :=
  let sigs := (copySigs c).map Prod.snd
  let ns : List Nat := (frcListed s ++ List.map (fun e : Nat × Word => e.1 / 16) c).dedup
  let t := ns.foldl (fun (t : State) (n : Nat) =>
    if t.on (FRCA_CTL n) FRCA_CTL_VALID && !sigs.contains (t.rd (FRCA_CTL n) FRCA_CTL_SIG) then releaseForce t n else t) s
  let t := ns.foldl (activateEntry c) t
  (({ t with armed := none, frcGen := (t.frcGen + 1) % 65536 }).wr FRC_STATUS FRC_STATUS_PEND 0).wr FRC_STATUS FRC_STATUS_ACTIVE sigs.length

/-- The armed apply at the Clearing of the running tick (R132, 10 R279): `inPair` asks for the partner's confirmation. -/
def forceAtClear (s : State) (inPair : Bool) : State :=
  match s.armed with
  | none => s
  | some a =>
    if s.seq.tick < a.tick then s
    else if a.tick < s.seq.tick ∨ (inPair = true ∧ a.conf = false) then frcRefuse s 3
    else if copyUnassigned s a.copy then frcRefuse s 4
    else frcActivate s a.copy

/-! ### Meanings -/

/-- MAP_LOAD (R122). -/
def execMapLoad (_m : Master) (s : State) : Out3 := .next (mapLoad s)

/-- FRC_APPLY (R132). -/
def execFrcApply (_m : Master) (s : State) : Out3 := .next (frcApply s)

/-- FRC_CANCEL (R132). -/
def execFrcCancel (_m : Master) (s : State) : Out3 := .next (frcCancel s)

end Sys2Proof.Machine
end

