-- ==== Sys2Proof/Machine/Tasks.lean ====
section
/-! DEFINITION. Tasks on engines: the engine's view of memory (06 R151), context save and restore (05 R139, R140), scheduling (03 R57),
release, tick points, budgets and overrun (03 R54 to R72). -/

namespace Sys2Proof.Machine

open Sys2Proof

/-! ### System registers -/

/-- A stored system register of a core. -/
def Core.srGet (n : Nat) (c : Core) (r : Nat) : DWord :=
  amGet (fun k => if k = 0x010 then BitVec.ofNat 64 (trapLevel n) else 0#64) c.sr r

/-- Store a system register of a core. -/
def Core.srSet (n : Nat) (c : Core) (r : Nat) (v : DWord) : Core :=
  { c with sr := amSet (fun k => if k = 0x010 then BitVec.ofNat 64 (trapLevel n) else 0#64) c.sr r v }

def State.srGet (s : State) (n r : Nat) : DWord := (s.core n).srGet n r
def State.srSet (s : State) (n r : Nat) (v : DWord) : State := s.setCore n ((s.core n).srSet n r v)

/-- Current privilege of a core (STATUS.PRV). -/
def prvOf (s : State) (n : Nat) : Nat := (s.srGet n 0x010).toNat % 4

/-- Partition of a core's transfers (R79 PART). -/
def partOf (s : State) (n : Nat) : Nat := (s.srGet n 0x017).toNat % 16

/-- A general register; v0 reads zero (R77). -/
def State.vget (s : State) (n : Nat) (r : Reg) : DWord :=
  if r.val = 0 then 0#64 else amGet (fun _ => 0#64) (s.core n).v r.val

/-- Write a general register; a write to v0 is discarded (R77). -/
def State.vset (s : State) (n : Nat) (r : Reg) (x : DWord) : State :=
  if r.val = 0 then s else s.setCore n { s.core n with v := amSet (fun _ => 0#64) (s.core n).v r.val x }

/-! ### The engine's view of memory (06 R151, R152) -/

/-- Physical address that an engine's access reaches; none: refused at the crossbar with code 1. -/
def engPhys (s : State) (e a : Nat) : Option Nat :=
  let g := e / 8
  let sb := 0x0100000000 + g * 0x01000000
  let cb := 0x0180000000 + e * 0x00100000
  let k := s.rd (GRV_STATUS g) GRV_STATUS_CBANK
  if sb ≤ a ∧ a < sb + 0x01000000 then
    (if a < sb + 0x00400000 then some (a + k * 0x00400000) else none)
  else if cb ≤ a ∧ a < cb + 0x00100000 then
    (if a < cb + 0x00040000 then some (a + k * 0x00040000) else none)
  else some a

/-- Answer of an access of at most 8 bytes by an engine: the value, a gate denial with its code, an error of the target, or a Grove fault
that stops the engine (R155). -/
inductive EngAns
  | ok (v : Nat)
  | denied (code : Nat)
  | memErr (code : Nat)
  | fault
deriving DecidableEq, Repr

/-- Class of the running task of an engine, 0 where none runs. -/
def classOf (s : State) (e : Nat) : Nat := ((s.core e).task).getD 0

/-- An engine reads n bytes of memory, as one piece of a split access or not. -/
def engReadP (split : Bool) (s : State) (e prv part a n : Nat) : EngAns × State :=
  match engPhys s e a with
  | none => (.denied 1, s)
  | some p =>
    let x : Xfer := ⟨e, prv, part, 2⟩
    match present s .read x a n split with
    | (.error c, t) => (.denied c, t)
    | (.ok tgt, t) =>
      let t := countSap (correctIn t p n) x (classOf s e) false p n
      if (groveOfAddr t p).isSome ∧ ueIn t p n = true then (.fault, ueGrove t p n false (e % 8))
      else match targetErr t tgt p n with
        | some c => (.memErr c, t)
        | none => (.ok (leVal (t.bytes p n)), t)

/-- An engine reads n bytes of memory. -/
def engRead (s : State) (e prv part a n : Nat) : EngAns × State := engReadP false s e prv part a n

/-- An engine writes n bytes of memory, as one piece of a split access or not: the bytes, its ESD and the lines it wrote while the execution window is open (10 R277, R281). -/
def engWriteP (split : Bool) (s : State) (e prv part a n v : Nat) : EngAns × State :=
  match engPhys s e a with
  | none => (.denied 1, s)
  | some p =>
    let x : Xfer := ⟨e, prv, part, 2⟩
    match present s .write x a n split with
    | (.error c, t) => (.denied c, t)
    | (.ok tgt, t) =>
      if tgt = .dram ∧ dramReady t = false then (.memErr 2, t)
      else if tgt = .image ∧ imageShut t = true then (.ok 0, t)
      else
        let t := countSap (eccWritten (t.setBytes p (leBytes n v)) p n) x (classOf s e) true p n
        let t := markDirty t p
        match mapOf p with
        | some (.sapwood g, _, _) =>
          if t.seq.held then (.ok 0, t)
          else
            let t := esdWrite t e (a / 8 * 8) (v * 2 ^ (8 * (a % 8))) ((2 ^ n - 1) * 2 ^ (a % 8))
            (.ok 0, t.setGrove g { t.grove g with wrote := insertLine (p % 0x400000 / 64) (t.grove g).wrote })
        | _ => (.ok 0, t)

/-- An engine writes n bytes of memory. -/
def engWrite (s : State) (e prv part a n v : Nat) : EngAns × State := engWriteP false s e prv part a n v

/-! ### Context save and restore (05 R139, R140) -/

/-- What a save stores, by offset from TCTX. -/
def ctxWords (c : Core) (n : Nat) : List (Nat × DWord) :=
  [(0x028, c.srGet n 0x010), (0x030, c.pc), (0x038, c.srGet n 0x005), (0x040, c.srGet n 0x000), (0x048, c.srGet n 0x001)]
  ++ (List.range 31).map (fun i => (0x050 + 8 * i, amGet (fun _ => 0#64) c.v (i + 1)))
  ++ [(0x148, c.srGet n 0x012), (0x150, c.srGet n 0x013), (0x158, c.srGet n 0x014), (0x160, c.srGet n 0x015), (0x168, c.srGet n 0x016)]

/-- Writes of a save, each presented at KERNEL with the task's PART; stops at the first that is not admitted. -/
def ctxWrites (s : State) (e part tctx : Nat) : List (Nat × DWord) → EngAns × State
  | [] => (.ok 0, s)
  | (o, w) :: rest =>
    match engWrite s e 1 part (tctx + o) 8 w.toNat with
    | (.ok _, t) => ctxWrites t e part tctx rest
    | (a, t) => (a, t)

/-- Reads at the offsets given, at KERNEL with the task's PART. -/
def ctxReads (s : State) (e part tctx : Nat) : List Nat → (Except EngAns (List DWord)) × State
  | [] => (.ok [], s)
  | o :: rest =>
    match engRead s e 1 part (tctx + o) 8 with
    | (.ok v, t) =>
      match ctxReads t e part tctx rest with
      | (.ok l, u) => (.ok (BitVec.ofNat 64 v :: l), u)
      | (.error a, u) => (.error a, u)
    | (a, t) => (.error a, t)

/-- A task is stopped as for a double trap (04 R115): DTRAP and DT_CAUSE; its class takes its overrun action at HOLD. -/
def dtrapTask (s : State) (e c cause : Nat) : State :=
  let s := s.setTask e c { s.task e c with st := .stopped, overrun := true }
  (s.wr (ENG_STATUS e) ENG_STATUS_DT_CAUSE cause).raise 4 (ENG_STATUS e) ENG_STATUS_DTRAP

/-- What a task leaves in its record when it gives up the engine: TCTX and PART (notes/assumptions/21). -/
def keepTask (s : State) (e c : Nat) (st : TaskState) : State :=
  s.setTask e c { s.task e c with st := st, tctx := s.srGet e 0x006, part := s.srGet e 0x017 }

/-- Count cycles of a task (R61). -/
def addCyc (s : State) (e c n : Nat) : State :=
  (s.setTask e c { s.task e c with cyc := (s.task e c).cyc + n }).count
    { code := 0x09, grove := some (e / 8), mid := e, prv := prvOf s e, cls := c } n

/-- The context save of a task that leaves the engine with state st: 80 cycles, charged to it (R57); a denial stops the task (R139). -/
def ctxSave (s : State) (e c : Nat) (st : TaskState) : State :=
  let s := addCyc (keepTask s e c st) e c 80
  match ctxWrites s e (partOf s e) (s.srGet e 0x006).toNat (ctxWords (s.core e) e) with
  | (.ok _, t) => t
  | (.fault, t) => t
  | (_, t) => dtrapTask t e c 8

/-- A field map that a restored or written STATUS of an engine keeps: TIP, PIE, PPRV, PRV; IE reads 0 (R79). -/
def statusMask (n : Nat) (v : DWord) : DWord := if 0x40 ≤ n ∧ n < 0x44 then v &&& 0x7F#64 else v &&& 0x6F#64

/-- Registers of a core from the 41 words of a saved context, in the order of `ctxWords`. -/
def ctxLoad (n : Nat) (c : Core) (l : List DWord) : Core :=
  let at_ (i : Nat) : DWord := l.getD i 0#64
  let v := (List.range 31).foldl (fun v i => amSet (fun _ => 0#64) v (i + 1) (at_ (5 + i))) ([] : AMap DWord)
  let c := { c with v := v, pc := at_ 1 &&& 0xFFFFFFFFFC#64 }
  ((((((((c.srSet n 0x010 (statusMask n (at_ 0))).srSet n 0x005 (at_ 2 &&& 0xFFFFFFFFC0#64)).srSet n 0x000 (at_ 3 &&& 7#64)).srSet n 0x001
    (at_ 4 &&& 31#64)).srSet n 0x012 (at_ 36 &&& 0xFFFFFFFFFC#64)).srSet n 0x013 (at_ 37 &&& 0x0FFF003F#64)).srSet n 0x014 (at_ 38)).srSet n 0x015
      (at_ 39)).srSet n 0x016 (at_ 40)

/-- Registers at the start of an activation (R140). -/
def ctxFresh (n : Nat) (c : Core) (entry root dstack : DWord) : Core :=
  let c := { c with v := amSet (fun _ => 0#64) [] 29 dstack, pc := entry &&& 0xFFFFFFFFFC#64 }
  [0x000, 0x001, 0x010, 0x012, 0x013, 0x014, 0x015, 0x016].foldl (fun c r => c.srSet n r 0#64) (c.srSet n 0x005 (root &&& 0xFFFFFFFFC0#64))

/-- The context restore of task c on engine e: 80 cycles charged to it; a denied access stops the task, with cause 7 for a read and 8 for
a write (R139). Answers whether the task runs. -/
def ctxRestore (s : State) (e c : Nat) : Bool × State :=
  let tk := s.task e c
  let s := addCyc ((s.srSet e 0x006 tk.tctx).srSet e 0x017 tk.part) e c 80
  let part := tk.part.toNat % 16
  let base := tk.tctx.toNat
  if tk.fresh then
    match engWrite s e 1 part base 8 0x180 with
    | (.fault, t) => (false, t)
    | (.ok _, t) =>
      match ctxReads t e part base [0x010, 0x018, 0x020] with
      | (.ok l, u) =>
        let u := u.setCore e (ctxFresh e (u.core e) (l.getD 0 0#64) (l.getD 1 0#64) (l.getD 2 0#64))
        (true, u.setTask e c { u.task e c with fresh := false })
      | (.error .fault, u) => (false, u)
      | (.error _, u) => (false, dtrapTask u e c 7)
    | (_, t) => (false, dtrapTask t e c 8)
  else
    match ctxReads s e part base ((ctxWords (s.core e) e).map Prod.fst) with
    | (.ok l, u) => (true, u.setCore e (ctxLoad e (u.core e) l))
    | (.error .fault, u) => (false, u)
    | (.error _, u) => (false, dtrapTask u e c 7)

/-! ### Scheduling (R57) -/

/-- Whether engine e may run tasks: its Grove is ON and not isolated, and it is not halted. -/
def engUsable (s : State) (e : Nat) : Bool :=
  s.rd (GRV_EN (e / 8)) U_STATE == 2 && !s.on (GRV_STATUS (e / 8)) GRV_STATUS_ISOLATED && s.rd (ENG_STATUS e) ENG_STATUS_STATE != 3

/-- Start task c on engine e. -/
def startTask (s : State) (e c : Nat) : State :=
  let s := s.setTask e c { s.task e c with st := .running }
  let s := s.setCore e { s.core e with task := some c }
  let s := (s.wr (ENG_STATUS e) ENG_STATUS_STATE 1).wr (ENG_STATUS e) ENG_STATUS_CLASS c
  match ctxRestore s e c with
  | (true, t) => t
  | (false, t) => t.setCore e { t.core e with task := none }

/-- The engine's state when no task of it runs: YIELD while one of its tasks is in YIELD, else IDLE (ENG_STATUS). -/
def engIdle (s : State) (e : Nat) : State :=
  if engUsable s e ∧ (s.core e).task = none then
    s.wr (ENG_STATUS e) ENG_STATUS_STATE (if (List.range 16).any fun c => (s.task e c).st == .yielded then 2 else 0)
  else s

/-- The engine runs its next ready task, in ascending class number (R57). -/
def schedule (s : State) (e : Nat) : State :=
  engIdle ((List.range 16).foldl (fun t c =>
    if engUsable t e && (t.core e).task == none && (t.task e c).st == .ready then startTask t e c else t) s) e

/-- The running task leaves engine e; the engine runs its next ready task. -/
def leaveEngine (s : State) (e : Nat) : State :=
  schedule (s.setCore e { s.core e with task := none }) e

/-! ### Classes -/

/-- Whether class c exists in the active bank. -/
def classOn (s : State) (c : Nat) : Bool := s.on (TSQ_CLASS_CFG s.bank c) TSQ_CLASS_CFG_EN

/-- Whether class c runs a task on engine e. -/
def classEng (s : State) (c e : Nat) : Bool :=
  if e < 32 then wbit (s.rget (TSQ_CLASS_ENG_LO s.bank c)).toNat e else wbit (s.rget (TSQ_CLASS_ENG_HI s.bank c)).toNat (e - 32)

def classPeriod (s : State) (c : Nat) : Nat := s.rd (TSQ_CLASS_CFG s.bank c) TSQ_CLASS_CFG_PERIOD
def classPhase (s : State) (c : Nat) : Nat := s.rd (TSQ_CLASS_CFG s.bank c) TSQ_CLASS_CFG_PHASE

/-- Budget and action in force for class c (R58). -/
def deadlOf (s : State) (c : Nat) : Deadline := amGet (fun _ => ⟨0, false⟩) s.seq.deadl c

/-- Whether the running tick is the activation's final one (R58). -/
def finalTick (s : State) (c : Nat) : Bool := decide ((s.act c).rel + classPeriod s c ≤ s.seq.tick + 1)

/-- The activation of class c has ended when none of its tasks has anything left to run. -/
def actSettle (s : State) (c : Nat) : State :=
  let busy := (List.range 64).any fun e =>
    let st := (s.task e c).st
    st == .ready || st == .running || st == .yielded || st == .suspended
  if busy then s else s.setAct c { s.act c with live := false }

/-- A new activation of class c on every engine of its mask (R56, R140); tasks of engines that cannot run count as ended (06 R168). -/
def activate (s : State) (c : Nat) : State :=
  let s := s.setAct c ⟨true, s.seq.tick, s.seq.newest, 0⟩
  let s := s.count { code := 0x40, cls := c } 1
  (List.range 64).foldl (fun t e =>
    if classEng t c e then
      t.setTask e c { t.task e c with
        st := (if engUsable t e then .ready else .ended), fresh := true, cyc := 0, actCyc := 0, overrun := false, trapped := false }
    else t) s

/-- REL of class c in locked mode (R56). -/
def relClass (s : State) (c : Nat) : State :=
  if s.seq.tick % classPeriod s c = classPhase s c then activate s c
  else (List.range 64).foldl (fun t e =>
    if (t.task e c).st = .suspended then t.setTask e c { t.task e c with st := .ready } else t) s

/-- REL of class c in free mode: a new activation when the previous one has ended (R69). -/
def relFree (s : State) (c : Nat) : State := if (s.act c).live then s else activate s c

/-- REL m (R56, R69). -/
def relMask (s : State) (mask : Nat) : State :=
  if computes s then
    let s := (List.range 16).foldl (fun t c =>
      if wbit mask c && classOn t c then (if t.freeMode then relFree t c else relClass t c) else t) s
    let s := (List.range 64).foldl (fun t e => if engUsable t e then schedule t e else t) s
    (List.range 16).foldl actSettle s
  else s

/-! ### Tick points and barriers -/

/-- TP n (R54, R55): signalled to enabled Canopy cores; every task in YIELD on an engine that enables it resumes, while the module computes
(01 R17). -/
def tickPoint (s : State) (n : Nat) : State :=
  let s := (List.range 4).foldl (fun t c =>
    let en := if n < 32 then wbit (t.rget (TSQ_CTPEN_LO c)).toNat n else wbit (t.rget (TSQ_CTPEN_HI c)).toNat (n - 32)
    if en then t.setCore (0x40 + c) { t.core (0x40 + c) with tps := (t.core (0x40 + c)).tps ||| 2 ^ n } else t) s
  (List.range 64).foldl (fun t e =>
    let en := if n < 32 then wbit (t.rget (ENG_TPEN_LO e)).toNat n else wbit (t.rget (ENG_TPEN_HI e)).toNat (n - 32)
    if en && computes t then
      schedule ((List.range 16).foldl (fun t c =>
        if (t.task e c).st = .yielded then t.setTask e c { t.task e c with st := .ready } else t) t) e
    else t) s

/-- Whether BAR m returns: no task of its classes is still ready or running; an isolated Grove's tasks count as ended (R60, 06 R168). -/
def barDone (s : State) (mask : Nat) : Bool :=
  (List.range 16).all fun c => !wbit mask c || (List.range 64).all fun e =>
    s.on (GRV_STATUS (e / 8)) GRV_STATUS_ISOLATED || ((s.task e c).st != .ready && (s.task e c).st != .running)

/-! ### Budgets and overrun -/

/-- Whether the running task of engine e has used its budget (R61); no budget in free mode (R69). -/
def budgetUsed (s : State) (e : Nat) : Bool :=
  match (s.core e).task with
  | some c => !s.freeMode && decide ((deadlOf s c).budget ≤ (s.task e c).cyc)
  | none => false

/-- The running task has exhausted its budget and overrun (R62, R63). -/
def overrunTask (s : State) (e c : Nat) : State :=
  let t := keepTask s e c .exhausted
  t.setTask e c { t.task e c with overrun := true }

/-- The engine stops or suspends its running task at its budget (R58, R61, R63). -/
def exhaust (s : State) (e : Nat) : State :=
  match (s.core e).task with
  | none => s
  | some c =>
    if budgetUsed s e = false then s
    else
      actSettle (leaveEngine (if finalTick s c then overrunTask s e c else ctxSave s e c .suspended) e) c

/-- Every activation in progress is abandoned (R68, 11 R313). -/
def abandonAll (s : State) : State :=
  let s := (List.range 64).foldl (fun t e =>
    let t := match (t.core e).task with
      | some c => keepTask t e c .abandoned
      | none => t
    let t := (List.range 16).foldl (fun t c =>
      if (t.task e c).st = .none then t else t.setTask e c { t.task e c with st := .abandoned, overrun := false }) t
    engIdle (t.setCore e { t.core e with task := none }) e) s
  (List.range 16).foldl (fun t c => t.setAct c { t.act c with live := false }) s

/-- Every engine stops (R63, R72). -/
def stopEngines (s : State) : State :=
  (List.range 64).foldl (fun t e =>
    if t.rd (GRV_EN (e / 8)) U_STATE = 2 ∧ t.rd (ENG_STATUS e) ENG_STATUS_STATE ≠ 3 then t.wr (ENG_STATUS e) ENG_STATUS_STATE 4 else t)
    (abandonAll s)

/-- The task of class c on engine e at HOLD: late, or in YIELD in its final tick (R66, R147). -/
def holdTask (s : State) (e c : Nat) : State :=
  if s.on (GRV_STATUS (e / 8)) GRV_STATUS_ISOLATED then s
  else
    let tk := s.task e c
    match tk.st with
    | .running =>
      let t := keepTask s e c .abandoned
      let t := t.setTask e c { t.task e c with overrun := true }
      (engIdle (t.setCore e { t.core e with task := none }) e).raise 1 TSQ_STATUS TSQ_STATUS_LATE_TASK
    | .ready => (s.setTask e c { tk with st := .abandoned, overrun := true }).raise 1 TSQ_STATUS TSQ_STATUS_LATE_TASK
    | .yielded => if finalTick s c then s.setTask e c { tk with st := .abandoned, overrun := true } else s
    | _ => s

/-- The output entries owned by class c take their previous values (R63 SKIP). -/
def restoreOutputs (s : State) (c : Nat) : State :=
  (s.desc.filter fun e => e.1 / 131072 == s.rd IMG_STATUS IMG_STATUS_DBANK && descDir e.2 && descOwner e.2 == c).foldl
    (fun t e => t.setEntry 1 (e.1 % 131072) (t.entry 2 (e.1 % 131072))) s

/-- Abandon the activation of class c. -/
def abandonClass (s : State) (c : Nat) : State :=
  let s := (List.range 64).foldl (fun t e =>
    let t := if (t.core e).task = some c then
        let t := keepTask t e c .abandoned
        engIdle (t.setCore e { t.core e with task := none }) e
      else t
    if (t.task e c).st = .none then t else t.setTask e c { t.task e c with st := .abandoned, overrun := false }) s
  s.setAct c { s.act c with live := false }

/-- SKIP of class c (R63). -/
def skipClass (s : State) (c : Nat) : State :=
  let s := abandonClass (restoreOutputs s c) c
  let s := (s.raise 1 TSQ_OVR ⟨c, c⟩).bump TSQ_SKIP_CNT TSQ_SKIP_CNT_COUNT 1
  (s.count { code := 0x41, cls := c } 1).eventReg 1 TSQ_OVR ⟨c, c⟩

/-- STOP for the classes given (R63): engines stop, safe values in this tick, STOPPED at CLEAR. -/
def stopClasses (s : State) (cs : List Nat) : State :=
  let s := cs.foldl (fun t c => (t.raise 1 TSQ_OVR ⟨16 + c, 16 + c⟩).eventReg 1 TSQ_OVR ⟨16 + c, 16 + c⟩) s
  let s := stopEngines s
  { s with seq := { s.seq with stopDue := true } }

/-- Classes that have overrun (R63): one of their tasks outside an isolated Grove is marked. -/
def overrunClasses (s : State) : List Nat :=
  (List.range 16).filter fun c => (List.range 64).any fun e =>
    (s.task e c).overrun && !s.on (GRV_STATUS (e / 8)) GRV_STATUS_ISOLATED

/-- HOLD in locked mode (R63 to R66, R147): late tasks stop, then STOP alone, or every SKIP in ascending class number (R64). -/
def holdTasks (s : State) : State :=
  let s := (List.range 16).foldl (fun t c => (List.range 64).foldl (fun t e => holdTask t e c) t) s
  let cs := overrunClasses s
  let stops := cs.filter fun c => (deadlOf s c).stop
  let s := if stops ≠ [] then stopClasses s stops else cs.foldl skipClass s
  (List.range 16).foldl actSettle s

/-- FREE_WD_EXPIRY of class c (R72; paused while one of its engines is halted, 06 R176). -/
def freeWd (s : State) (c : Nat) : State :=
  let wd := s.rd (TSQ_CLASS_WD s.bank c) TSQ_CLASS_WD_FREE_WD
  let a := s.act c
  if s.freeMode = true ∧ a.live = true ∧ wd ≠ 0 ∧ a.rel + a.paused + wd ≤ s.seq.tick then
    stopClasses (s.raise 1 TSQ_STATUS TSQ_STATUS_WDSTOP) [c]
  else s

/-! ### Meanings -/

/-- BUDGET_EXHAUSTED (R61). -/
def execBudgetExhausted (e : Fin 64) (s : State) : Out3 := .next (exhaust s e)

/-- FREE_WD_EXPIRY (R72). -/
def execFreeWdExpiry (c : Fin 16) (s : State) : Out3 := .next (freeWd s c)

end Sys2Proof.Machine
end

