-- ==== Sys2Proof/Machine/Flags.lean ====
section
/-! DEFINITION. The sticky status of Denma (04 R79, R80): ASTAT and FSTAT are only ever set by hardware. -/

namespace Sys2Proof.Machine

open Sys2Proof

/-- Set bits of a sticky register of core n. -/
def stick (s : State) (n r : Nat) (bits : Nat) : State :=
  if bits = 0 then s else s.srSet n r (s.srGet n r ||| BitVec.ofNat 64 bits)

/-- ASTAT.IDZ, IOV and SAT. -/
def stickA (s : State) (n : Nat) (idz iov sat : Bool) : State :=
  stick s n 0x000 ((if idz then 1 else 0) + (if iov then 2 else 0) + (if sat then 4 else 0))

/-- FSTAT flags. -/
def stickF (s : State) (n : Nat) (fl : Nat) : State := stick s n 0x001 fl

end Sys2Proof.Machine
end

