-- ==== Sys2Proof/Machine/Fp.lean ====
section
/-! DEFINITION. Floating point of Denma (04 R96 to R101): IEEE 754-2019 binary32 and binary64, round to nearest even, subnormals in
full, canonical NaN results, sticky flags. Finite values are exact integers times powers of two; every function evaluates. -/

namespace Sys2Proof.Machine

open Sys2Proof

/-- Flags of FSTAT (04 R79): NV 16, DZ 8, OF 4, UF 2, NX 1. -/
abbrev FpFlags := Nat

/-- A floating-point operand taken apart: NaN (signalling or not), infinity, or (-1)^s × m × 2^e. -/
inductive Fp
  | nan (signalling : Bool)
  | inf (neg : Bool)
  | fin (neg : Bool) (m : Nat) (e : Int)
deriving DecidableEq, Repr

/-- Significand bits of a format, the hidden bit included. -/
def fpPrec : Fmt → Nat
  | .f32 => 24
  | .f64 => 53

/-- Exponent of the least subnormal. -/
def fpEmin : Fmt → Int
  | .f32 => -149
  | .f64 => -1074

/-- Exponent field of infinities and NaNs. -/
def fpExpMax : Fmt → Nat
  | .f32 => 255
  | .f64 => 2047

/-- Width of a format in bits. -/
def fpWidth : Fmt → Nat
  | .f32 => 32
  | .f64 => 64

/-- The bits of a register that an operand of the format reads (04 R78). -/
def fpBits (f : Fmt) (x : DWord) : Nat := x.toNat % 2 ^ fpWidth f

/-- Sign bit of an operand. -/
def fpSign (f : Fmt) (x : DWord) : Bool := decide (1 ≤ fpBits f x / 2 ^ (fpWidth f - 1))

/-- Fraction field of an operand. -/
def fpFrac (f : Fmt) (x : DWord) : Nat := fpBits f x % 2 ^ (fpPrec f - 1)

/-- Exponent field of an operand. -/
def fpExp (f : Fmt) (x : DWord) : Nat := fpBits f x / 2 ^ (fpPrec f - 1) % (fpExpMax f + 1)

/-- Take an operand apart. -/
def fpUnpack (f : Fmt) (x : DWord) : Fp :=
  if fpExp f x = fpExpMax f then
    if fpFrac f x = 0 then .inf (fpSign f x)
    else .nan (decide (fpFrac f x < 2 ^ (fpPrec f - 2)))
  else if fpExp f x = 0 then .fin (fpSign f x) (fpFrac f x) (fpEmin f)
  else .fin (fpSign f x) (fpFrac f x + 2 ^ (fpPrec f - 1)) (fpEmin f + (fpExp f x : Int) - 1)

/-- Put sign, exponent field and fraction together. -/
def fpPack (f : Fmt) (neg : Bool) (ex fr : Nat) : DWord :=
  BitVec.ofNat 64 ((if neg then 2 ^ (fpWidth f - 1) else 0) + ex * 2 ^ (fpPrec f - 1) + fr)

/-- The canonical quiet NaN (04 R96). -/
def fpNaN (f : Fmt) : DWord := fpPack f false (fpExpMax f) (2 ^ (fpPrec f - 2))

/-- An infinity. -/
def fpInf (f : Fmt) (neg : Bool) : DWord := fpPack f neg (fpExpMax f) 0

/-- A zero. -/
def fpZero (f : Fmt) (neg : Bool) : DWord := fpPack f neg 0 0

/-- m shifted by k bits, right for k above 0, rounded to nearest even; `sticky`: the exact value lies above m by less than one unit.
Answers the rounded integer and whether it differs from the exact value. -/
def rneShift (m : Nat) (k : Int) (sticky : Bool) : Nat × Bool :=
  if k ≤ 0 then (m * 2 ^ (-k).toNat, sticky)
  else
    let n := k.toNat
    let q := m / 2 ^ n
    let r := m % 2 ^ n
    let up := decide (2 ^ (n - 1) < r) || (r == 2 ^ (n - 1) && (sticky || q % 2 == 1))
    (if up then q + 1 else q, sticky || r != 0)

/-- Round (-1)^neg × (m, or above m by less than one unit where sticky) × 2^e to the format, with the flags OF, UF and NX; tininess after
rounding (04 R96). A caller with sticky gives m at least two bits more than the format holds. -/
def fpRound (f : Fmt) (neg : Bool) (m : Nat) (e : Int) (sticky : Bool) : DWord × FpFlags :=
  if m = 0 ∧ sticky = false then (fpZero f neg, 0)
  else
    let p := fpPrec f
    let len : Int := (Nat.log2 m : Int) + 1
    let qFree : Int := e + len - p
    let q : Int := max qFree (fpEmin f)
    let (r, nx) := rneShift m (q - e) sticky
    let (rf, _) := rneShift m (qFree - e) sticky
    -- tiny: rounded with an unbounded exponent, the result lies below the least normal 2^(emin + p - 1)
    let tiny := decide (qFree < fpEmin f) && !(decide (qFree + 1 = fpEmin f) && rf == 2 ^ p)
    let (r', q') : Nat × Int := if r = 2 ^ p then (2 ^ (p - 1), q + 1) else (r, q)
    if r' < 2 ^ (p - 1) then
      (fpPack f neg 0 r', (if nx then 1 else 0) + (if nx && tiny then 2 else 0))
    else
      let ex : Int := q' - fpEmin f + 1
      if (fpExpMax f : Int) ≤ ex then (fpInf f neg, 4 + 1)
      else (fpPack f neg ex.toNat (r' - 2 ^ (p - 1)), (if nx then 1 else 0) + (if nx && tiny then 2 else 0))

/-- A signed exact sum rounded; a zero sum takes the given sign. -/
def fpRoundInt (f : Fmt) (v : Int) (e : Int) (zneg : Bool) : DWord × FpFlags :=
  if v = 0 then (fpZero f zneg, 0) else fpRound f (decide (v < 0)) v.natAbs e false

/-- Signed integer of a finite operand's significand. -/
def fpSigned (neg : Bool) (m : Nat) : Int := if neg then -(m : Int) else (m : Int)

/-- Exact sum of two finite values as an integer and an exponent. -/
def fpAddExact (n1 : Bool) (m1 : Nat) (e1 : Int) (n2 : Bool) (m2 : Nat) (e2 : Int) : Int × Int :=
  let e := min e1 e2
  (fpSigned n1 (m1 * 2 ^ (e1 - e).toNat) + fpSigned n2 (m2 * 2 ^ (e2 - e).toNat), e)

/-- Whether an operand is a signalling NaN. -/
def Fp.isSnan : Fp → Bool
  | .nan s => s
  | _ => false

/-- Whether an operand is a NaN. -/
def Fp.isNan : Fp → Bool
  | .nan _ => true
  | _ => false

/-- NV where one of the operands is a signalling NaN. -/
def nvSnan (l : List Fp) : FpFlags := if l.any Fp.isSnan then 16 else 0

/-- Sum of two operands (FADD; FSUB with the second negated). -/
def fpAddCore (f : Fmt) (a b : Fp) : DWord × FpFlags :=
  match a, b with
  | .nan _, _ => (fpNaN f, nvSnan [a, b])
  | _, .nan _ => (fpNaN f, nvSnan [a, b])
  | .inf s, .inf t => if s = t then (fpInf f s, 0) else (fpNaN f, 16)
  | .inf s, .fin _ _ _ => (fpInf f s, 0)
  | .fin _ _ _, .inf t => (fpInf f t, 0)
  | .fin n1 m1 e1, .fin n2 m2 e2 =>
    let (v, e) := fpAddExact n1 m1 e1 n2 m2 e2
    fpRoundInt f v e (n1 && n2)

/-- Sign inverted. -/
def Fp.neg : Fp → Fp
  | .nan s => .nan s
  | .inf n => .inf (!n)
  | .fin n m e => .fin (!n) m e

def fpAdd (f : Fmt) (x y : DWord) : DWord × FpFlags := fpAddCore f (fpUnpack f x) (fpUnpack f y)
def fpSub (f : Fmt) (x y : DWord) : DWord × FpFlags := fpAddCore f (fpUnpack f x) (fpUnpack f y).neg

/-- Product. -/
def fpMul (f : Fmt) (x y : DWord) : DWord × FpFlags :=
  match fpUnpack f x, fpUnpack f y with
  | .nan s, b => (fpNaN f, nvSnan [.nan s, b])
  | a, .nan s => (fpNaN f, nvSnan [a, .nan s])
  | .inf s, .inf t => (fpInf f (s != t), 0)
  | .inf s, .fin t m _ => if m = 0 then (fpNaN f, 16) else (fpInf f (s != t), 0)
  | .fin s m _, .inf t => if m = 0 then (fpNaN f, 16) else (fpInf f (s != t), 0)
  | .fin s m e, .fin t n g => fpRound f (s != t) (m * n) (e + g) false

/-- Quotient. -/
def fpDiv (f : Fmt) (x y : DWord) : DWord × FpFlags :=
  match fpUnpack f x, fpUnpack f y with
  | .nan s, b => (fpNaN f, nvSnan [.nan s, b])
  | a, .nan s => (fpNaN f, nvSnan [a, .nan s])
  | .inf _, .inf _ => (fpNaN f, 16)
  | .inf s, .fin t _ _ => (fpInf f (s != t), 0)
  | .fin s _ _, .inf t => (fpZero f (s != t), 0)
  | .fin s m e, .fin t n g =>
    if n = 0 then (if m = 0 then (fpNaN f, 16) else (fpInf f (s != t), 8))
    else if m = 0 then (fpZero f (s != t), 0)
    else
      let k := 2 * fpPrec f + 4
      let q := m * 2 ^ k / n
      fpRound f (s != t) q (e - g - k) (m * 2 ^ k % n != 0)

/-- Square root: 2^(2k) × m with an even exponent, its integer root and whether it is exact. -/
def fpSqrt (f : Fmt) (x : DWord) : DWord × FpFlags :=
  match fpUnpack f x with
  | .nan s => (fpNaN f, nvSnan [.nan s])
  | .inf s => if s then (fpNaN f, 16) else (fpInf f false, 0)
  | .fin s m e =>
    if m = 0 then (fpZero f s, 0)
    else if s then (fpNaN f, 16)
    else
      let (m', e') : Nat × Int := if e % 2 = 0 then (m, e) else (2 * m, e - 1)
      let k := fpPrec f + 2
      let v := m' * 2 ^ (2 * k)
      let r := natRoot v
      fpRound f false r (e' / 2 - k) (r * r != v)
where
  /-- Integer square root, bit by bit from bit 90 down. -/
  natRoot (v : Nat) : Nat :=
    (List.range 90).foldl (fun r i => if (r + 2 ^ (89 - i)) * (r + 2 ^ (89 - i)) ≤ v then r + 2 ^ (89 - i) else r) 0

/-- a × b + c, rounded once (04 R100); (0 × ∞) + c sets NV whatever c is (04 R96). -/
def fpFma (f : Fmt) (a b c : Fp) : DWord × FpFlags :=
  let zeroInf := match a, b with
    | .inf _, .fin _ m _ => m == 0
    | .fin _ m _, .inf _ => m == 0
    | _, _ => false
  if a.isNan || b.isNan || c.isNan then (fpNaN f, if zeroInf then 16 else nvSnan [a, b, c])
  else if zeroInf then (fpNaN f, 16)
  else match a, b, c with
    | .fin s m e, .fin t n g, .fin u k h =>
      let (v, x) := fpAddExact (s != t) (m * n) (e + g) u k h
      fpRoundInt f v x ((s != t) && u)
    | .fin _ _ _, .fin _ _ _, .inf u => (fpInf f u, 0)
    | a', b', .inf u => if (fpNegOf a' != fpNegOf b') = u then (fpInf f u, 0) else (fpNaN f, 16)
    | a', b', _ => (fpInf f (fpNegOf a' != fpNegOf b'), 0)
where
  /-- Sign of an operand that is no NaN. -/
  fpNegOf : Fp → Bool
    | .nan _ => false
    | .inf n => n
    | .fin n _ _ => n

/-- Comparison of two operands that are no NaN: negative, zero or positive; −0 equals +0. -/
def fpCmp (a b : Fp) : Int :=
  match a, b with
  | .inf s, .inf t => if s = t then 0 else if s then -1 else 1
  | .inf s, _ => if s then -1 else 1
  | _, .inf t => if t then 1 else -1
  | .fin n1 m1 e1, .fin n2 m2 e2 => (fpAddExact n1 m1 e1 (!n2) m2 e2).1
  | _, _ => 0

/-- Equal, less, less or equal, unordered (04 R97). -/
def fpEq (f : Fmt) (x y : DWord) : DWord × FpFlags :=
  let a := fpUnpack f x; let b := fpUnpack f y
  if a.isNan || b.isNan then (0#64, nvSnan [a, b]) else (if fpCmp a b = 0 then 1#64 else 0#64, 0)

def fpLt (f : Fmt) (x y : DWord) : DWord × FpFlags :=
  let a := fpUnpack f x; let b := fpUnpack f y
  if a.isNan || b.isNan then (0#64, 16) else (if fpCmp a b < 0 then 1#64 else 0#64, 0)

def fpLe (f : Fmt) (x y : DWord) : DWord × FpFlags :=
  let a := fpUnpack f x; let b := fpUnpack f y
  if a.isNan || b.isNan then (0#64, 16) else (if fpCmp a b ≤ 0 then 1#64 else 0#64, 0)

def fpUn (f : Fmt) (x y : DWord) : DWord × FpFlags :=
  let a := fpUnpack f x; let b := fpUnpack f y
  (if a.isNan || b.isNan then 1#64 else 0#64, nvSnan [a, b])

/-- Whether x is less than y with −0 below +0, both no NaN (04 R98). -/
def fpBelow (f : Fmt) (x y : DWord) : Bool :=
  let c := fpCmp (fpUnpack f x) (fpUnpack f y)
  if c = 0 then fpSign f x && !fpSign f y else decide (c < 0)

/-- The operand's bits alone, as a binary32 result leaves [63:32] at 0 (04 R78). -/
def fpSelf (f : Fmt) (x : DWord) : DWord := BitVec.ofNat 64 (fpBits f x)

/-- FMIN and FMAX (04 R98); `big` for FMAX. -/
def fpMinMax (big : Bool) (f : Fmt) (x y : DWord) : DWord × FpFlags :=
  let a := fpUnpack f x; let b := fpUnpack f y
  (if a.isNan && b.isNan then fpNaN f
   else if a.isNan then fpSelf f y
   else if b.isNan then fpSelf f x
   else if fpBelow f x y != big then fpSelf f x else fpSelf f y, nvSnan [a, b])

/-- Sign operations: bits only, no flag (04 R97). -/
def fpSetSign (f : Fmt) (neg : Bool) (x : DWord) : DWord :=
  BitVec.ofNat 64 (fpBits f x % 2 ^ (fpWidth f - 1) + if neg then 2 ^ (fpWidth f - 1) else 0)

/-- Class mask of FCLS (04 R97). -/
def fpClass (f : Fmt) (x : DWord) : DWord :=
  match fpUnpack f x with
  | .nan s => if s then 0x200#64 else 0x100#64
  | .inf n => if n then 0x080#64 else 0x008#64
  | .fin n m _ =>
    if m = 0 then (if n then 0x010#64 else 0x001#64)
    else if fpExp f x = 0 then (if n then 0x020#64 else 0x002#64)
    else (if n then 0x040#64 else 0x004#64)

/-- FCVF: the other format into f. -/
def fpCvf (f : Fmt) (x : DWord) : DWord × FpFlags :=
  let g : Fmt := match f with
    | .f32 => .f64
    | .f64 => .f32
  match fpUnpack g x with
  | .nan s => (fpNaN f, nvSnan [.nan s])
  | .inf n => (fpInf f n, 0)
  | .fin n m e => fpRound f n m e false

/-- Integer types of the conversions (04 R97). -/
inductive ITy
  | i32 | i64 | u32 | u64
deriving DecidableEq, Repr

def ityMin : ITy → Int
  | .i32 => -2 ^ 31
  | .i64 => -2 ^ 63
  | .u32 => 0
  | .u64 => 0

def ityMax : ITy → Int
  | .i32 => 2 ^ 31 - 1
  | .i64 => 2 ^ 63 - 1
  | .u32 => 2 ^ 32 - 1
  | .u64 => 2 ^ 64 - 1

/-- FRND and FTRC (04 R99); `rne`: round to nearest even, else toward zero. -/
def fpToInt (rne : Bool) (t : ITy) (f : Fmt) (x : DWord) : DWord × FpFlags :=
  match fpUnpack f x with
  | .nan _ => (0#64, 16)
  | .inf n => (BitVec.ofInt 64 (if n then ityMin t else ityMax t), 16)
  | .fin n m e =>
    let (r, nx) : Nat × Bool :=
      if rne then rneShift m (-e) false
      else if 0 ≤ e then (m * 2 ^ e.toNat, false)
      else (m / 2 ^ (-e).toNat, m % 2 ^ (-e).toNat != 0)
    let v := fpSigned n r
    if ityMax t < v then (BitVec.ofInt 64 (ityMax t), 16)
    else if v < ityMin t then (BitVec.ofInt 64 (ityMin t), 16)
    else (BitVec.ofInt 64 v, if nx then 1 else 0)

/-- IFLT: the integer operand of type t converted to f (04 R97). -/
def fpFromInt (t : ITy) (f : Fmt) (x : DWord) : DWord × FpFlags :=
  let v : Int := match t with
    | .i32 => (x.truncate 32).toInt
    | .i64 => x.toInt
    | .u32 => (x.toNat % 2 ^ 32 : Nat)
    | .u64 => (x.toNat : Int)
  fpRoundInt f v 0 false

/-- CLAMP.S and CLAMP.D (04 R101): min(max(a, lo), hi); one of the operands, or the canonical NaN. -/
def fpClamp (f : Fmt) (x lo hi : DWord) : DWord × FpFlags :=
  let a := fpUnpack f x; let b := fpUnpack f lo; let c := fpUnpack f hi
  if a.isNan || b.isNan || c.isNan then (fpNaN f, nvSnan [a, b, c])
  else
    let m := if fpBelow f x lo then lo else x
    (fpSelf f (if fpBelow f hi m then hi else m), 0)

end Sys2Proof.Machine
end

