-- ==== Sys2Proof/Machine/Halt.lean ====
section
/-! DEFINITION. Halting a core by the debug port (06 R174 to R177): which halts are allowed, what a halt does, the replay queue. -/

namespace Sys2Proof.Machine

open Sys2Proof

/-- CORE number of a debug target (DBG_TARGET.CORE): engines 0 to 63, Canopy cores 64 to 67. -/
def targetCore (t : Nat) : Nat := t

/-- Whether a core is halted. -/
def halted (s : State) (n : Nat) : Bool :=
  if n < 64 then s.rd (ENG_STATUS n) ENG_STATUS_STATE == 3 else (s.core n).run == .halt

/-- Whether a halt of core n is allowed in the module's role and mode (R176). -/
def haltAllowed (s : State) (n : Nat) : Bool :=
  match s.role with
  | .alone => decide (n < 64) && s.freeMode
  | .standby => decide (n < 64)
  | .isolated => decide (n < 64)
  | .stopped => true
  | .faulted => true
  | .maintenance => true
  | _ => false

/-- A refused debug action: REFUSED; a refused halt also writes an event record (R176). -/
def dbgRefuse (s : State) (record : Bool) : State :=
  let t := s.raise 7 DBG_STATUS DBG_STATUS_REFUSED
  if record then t.eventReg 7 DBG_STATUS DBG_STATUS_REFUSED else t

/-- The core halts at this boundary. In STANDBY and ISOLATED an engine halt is a Grove fault without power-cycle, and the gate is held
closed (R176); in a Grove that is already isolated it starts nothing anew. -/
def haltCore (s : State) (n : Nat) : State :=
  if h : n < 64 then
    let t := s.setCore n { s.core n with prev := if halted s n then (s.core n).prev else s.rd (ENG_STATUS n) ENG_STATUS_STATE, haltReq := false }
    let t := t.wr (ENG_STATUS n) ENG_STATUS_STATE 3
    if halted s n then t
    else if s.role = .standby ∨ s.role = .isolated then
      let g : Fin 8 := ⟨n / 8, by omega⟩
      let t := if s.on (GRV_STATUS g) GRV_STATUS_ISOLATED then t
        else
          let t := isolate t g (n % 8) GRV_STATUS_MISMATCH
          t.setGrove g { t.grove g with debugHalt := true }
      updateHold (t.wr DBG_STATUS DBG_STATUS_MUTE 1)
    else t
  else s.setCore n { s.core n with run := .halt, haltReq := false }

/-- Whether a break is armed on core n (DBG_BRK). -/
def brkArmed (s : State) (n : Nat) : Bool :=
  if n < 32 then wbit (s.rget DBG_BRK_LO).toNat n else if n < 64 then wbit (s.rget DBG_BRK_HI).toNat (n - 32)
  else wbit (s.rget DBG_BRK_C).toNat (n - 64)

/-- Whether trace is enabled on core n (R178). -/
def traceOn (s : State) (n : Nat) : Bool :=
  if n < 32 then wbit (s.rget DBG_TRACE_LO).toNat n else if n < 64 then wbit (s.rget DBG_TRACE_HI).toNat (n - 32)
  else wbit (s.rget DBG_TRACE_C).toNat (n - 64)

/-- A trace record of 16 bytes into the trace buffer, circularly (07 R181). -/
def traceRecord (s : State) (n : Nat) (branch : Bool) (pc : DWord) : State :=
  if traceOn s n && decide (n < 68) then
    let bs := leBytes 4 s.short.toNat ++ leBytes 1 (n % 128 + if branch then 128 else 0) ++ leBytes 2 s.traceSeq ++ [0#8]
      ++ leBytes 5 pc.toNat ++ [0#8, 0#8, 0#8]
    let base := 0x0F00000000 + s.tracePos
    let m := (bs.zipIdx).foldl (fun m b => amSet (fun _ => 0#8) m (base + b.2) b.1) s.mem
    { s with mem := m, tracePos := (s.tracePos + 16) % 0x100000, traceSeq := (s.traceSeq + 1) % 2048 }
  else s

end Sys2Proof.Machine
end

