-- ==== Sys2Proof/Machine/Operands.lean ====
section
/-! DEFINITION. Operand forms of Denma: widths (04 R90), immediates and branch offsets, the Denma integer operations as functions of their
operands (04 R91 to R95, R100). -/

namespace Sys2Proof.Machine

open Sys2Proof

/-- Bits of a width. -/
def wdBits : Wd → Nat
  | .w8 => 8
  | .w16 => 16
  | .w32 => 32
  | .w64 => 64

/-- Operand in mode u: bits [w−1:0], zero-extended (R90). -/
def opU (w : Wd) (x : DWord) : Nat := x.toNat % 2 ^ wdBits w

/-- Operand in mode s: bits [w−1:0], sign-extended (R90). -/
def opS (w : Wd) (x : DWord) : Int :=
  if opU w x < 2 ^ (wdBits w - 1) then (opU w x : Int) else (opU w x : Int) - 2 ^ wdBits w

/-- Result in mode u: the low w bits of the exact result, zero-extended. -/
def resU (w : Wd) (v : Int) : DWord := BitVec.ofNat 64 (v.emod (2 ^ wdBits w)).toNat

/-- Result in mode s: the low w bits of the exact result, sign-extended. -/
def resS (w : Wd) (v : Int) : DWord := BitVec.ofInt 64 (opS w (resU w v))

/-- 1 or 0. -/
def res01 (b : Bool) : DWord := if b then 1#64 else 0#64

/-- Shift or rotate amount (R91). -/
def shAmt (w : Wd) (x : DWord) : Nat := x.toNat % wdBits w

/-- Rotation right by n within w bits. -/
def rotR (w : Wd) (a n : Nat) : Nat := a / 2 ^ n + a % 2 ^ n * 2 ^ (wdBits w - n)

/-- Leading zeros of a within n bits. -/
def clzN : Nat → Nat → Nat
  | 0, _ => 0
  | n + 1, a => if wbit a n then 0 else 1 + clzN n a

/-- Trailing zeros of a within n bits. -/
def ctzN : Nat → Nat → Nat
  | 0, _ => 0
  | n + 1, a => if a % 2 = 1 then 0 else 1 + ctzN n (a / 2)

/-- Number of 1 bits of a within n bits. -/
def popN : Nat → Nat → Nat
  | 0, _ => 0
  | n + 1, a => a % 2 + popN n (a / 2)

/-- Least and greatest signed value of a width. -/
def minS (w : Wd) : Int := -(2 ^ (wdBits w - 1))
def maxS (w : Wd) : Int := 2 ^ (wdBits w - 1) - 1

/-- Greatest unsigned value of a width. -/
def maxU (w : Wd) : Int := 2 ^ wdBits w - 1

/-- Saturation to a range: the nearest bound, and whether it limited (R95). -/
def satTo (lo hi v : Int) : Int × Bool := if v < lo then (lo, true) else if hi < v then (hi, true) else (v, false)

/-- Signed division (R92): quotient, remainder, IDZ, IOV. -/
def divS (w : Wd) (a b : Int) : Int × Int × Bool × Bool :=
  if b = 0 then (0, a, true, false)
  else if a = minS w ∧ b = -1 then (minS w, 0, false, true)
  else (Int.tdiv a b, Int.tmod a b, false, false)

/-- Unsigned division (R92): quotient, remainder, IDZ. -/
def divU (a b : Nat) : Nat × Nat × Bool := if b = 0 then (0, a, true) else (a / b, a % b, false)

/-- Sign-extended 16-bit immediate as 64 bits. -/
def sext16 (i : BitVec 16) : DWord := i.signExtend 64

/-- A pc: bits [63:40] and [1:0] are zero (R77). -/
def pcMask (x : DWord) : DWord := x &&& 0xFFFFFFFFFC#64

/-- Target of a branch by a word offset (R107). -/
def branchTo (pc : DWord) (off : DWord) : DWord := pcMask (pc + 4#64 * off)

end Sys2Proof.Machine
end

