-- ==== Sys2Proof/Machine/Denma.lean ====
section
/-! DEFINITION. How a Denma processor runs one instruction (chapter 04): fetch check, instruction groups, trap entry and double trap,
system registers, memory accesses of a core. -/

namespace Sys2Proof.Machine

open Sys2Proof

/-- What an instruction does (R112, R113): it goes on at a pc having taken cycles; it traps with cause, SUB and EADDR; or the task or the
core stops and nothing more is to do. -/
inductive DRes
  | go (s : State) (pc : DWord) (cyc : Nat)
  | trap (cause sub : Nat) (ea : DWord) (s : State)
  | stop (s : State)

/-- Instruction groups of R76. -/
inductive Grp
  | int | satg | shi | imm | mem | branch | fp | fmag | amo | sysReg | sysCall | sysCanopy | sig
deriving DecidableEq, Repr

/-- The registers as a processor reaches them: a 32-bit read and write by a master at an address. -/
structure Bus where
  rd : Nat → Nat → Nat → State → Word × State
  wr : Nat → Nat → Nat → Word → State → State

def isEng (n : Nat) : Bool := decide (n < 64)
def isCanopy (n : Nat) : Bool := decide (0x40 ≤ n) && decide (n < 0x44)

/-- Whether a group belongs to the processor (R76). -/
def inGroup (n : Nat) (g : Grp) : Bool :=
  if isEng n then g != .sysCanopy
  else if isCanopy n then g != .sig
  else match g with
    | .int => true
    | .satg => true
    | .shi => true
    | .imm => true
    | .mem => true
    | .branch => true
    | .sysReg => true
    | _ => false

/-- pc of the next instruction (R77). -/
def nextPc (s : State) (n : Nat) : DWord := pcMask ((s.core n).pc + 4#64)

/-- Store the pc of a core; an engine's pc shows in ENG_PC at read. -/
def State.setPc (s : State) (n : Nat) (pc : DWord) : State := s.setCore n { s.core n with pc := pc }

/-- Transfers of a Denma core (R83, 07 R182, R183): its ID, PRV and PART; a Canopy core's DRAM transfers carry CACHE and POST. -/
def coreXfer (s : State) (n : Nat) (dram : Bool) : Xfer := ⟨n, prvOf s n, partOf s n, if isCanopy n && dram then 5 else 2⟩

/-! ### Counting -/

/-- Cycles charged to the engine's running task, if one runs (R61). -/
def charge (s : State) (n cyc : Nat) : State :=
  if isEng n then
    match (s.core n).task with
    | some c => addCyc s n c cyc
    | none => s
  else s

/-- One instruction issued (15 R385 ENG_INSTR). -/
def countInstr (s : State) (n : Nat) : State :=
  if isEng n then s.count { code := 0x08, grove := some (n / 8), mid := n, prv := prvOf s n, cls := classOf s n } 1 else s

/-! ### Traps -/

/-- Trap entry (R113) with cause, SUB and EADDR; `epc` is the trapping instruction, or for an interrupt the next one. -/
def trapEntry (s : State) (n cause sub : Nat) (ea epc : DWord) : State :=
  let c := s.core n
  let st := (c.srGet n 0x010).toNat
  let prv := st % 4
  let ie := st / 16 % 2
  let status := 64 + 32 * ie + 4 * prv + trapLevel n
  let c := ((((c.srSet n 0x012 epc).srSet n 0x013 (BitVec.ofNat 64 (cause + sub * 2 ^ 16))).srSet n 0x014
    (if 2 ≤ cause ∧ cause ≤ 10 then ea else 0#64))).srSet n 0x010 (BitVec.ofNat 64 status)
  s.setCore n { c with pc := pcMask (c.srGet n 0x011 + BitVec.ofNat 64 (64 * cause)) }

/-- A double trap (R115). -/
def doubleTrap (s : State) (n cause : Nat) : State :=
  if isEng n then
    match (s.core n).task with
    | some c =>
      let t := keepTask s n c .stopped
      actSettle (leaveEngine (dtrapTask t n c cause) n) c
    | none => (s.wr (ENG_STATUS n) ENG_STATUS_DT_CAUSE cause).raise 4 (ENG_STATUS n) ENG_STATUS_DTRAP
  else if isCanopy n then
    let t := s.setCore n { s.core n with run := .halt }
    enterFaulted (t.event 7 31 DBG_STATUS (BitVec.ofNat 32 (cause + (n - 0x40) * 2 ^ 8))) true
  else s.setCore n { s.core n with run := .off, routine := none }

/-- The engine's task has taken an exception: the runtime ends it for every cause but SCALL (R117). -/
def markTrap (s : State) (n cause : Nat) : State :=
  if isEng n && cause != 11 then
    match (s.core n).task with
    | some c => s.setTask n c { s.task n c with trapped := true }
    | none => s
  else s

/-- A synchronous exception (R111 to R115): entry in 8 cycles, or a double trap while TIP is 1. -/
def takeTrap (s : State) (n cause sub : Nat) (ea : DWord) : State :=
  if (s.srGet n 0x010).toNat / 64 % 2 = 1 then doubleTrap s n cause
  else
    let s := markTrap s n cause
    let t := if isEng n then
        s.count { code := 0x0E, grove := some (n / 8), mid := n, prv := prvOf s n, cls := classOf s n } 1 else s
    trapEntry (charge (countInstr t n) n 8) n cause sub ea (s.core n).pc

/-! ### Memory as a core reaches it -/

/-- Whether an address lies in the register space. -/
def isRegs (a : Nat) : Bool :=
  match mapOf a with
  | some (.regs, _, _) => true
  | _ => false

def isDram (a : Nat) : Bool :=
  match mapOf a with
  | some (.dram, _, _) => true
  | _ => false

/-- The memory part of a read by a system core, once the gate has admitted it (06 R155, 07 R196). -/
def sysFetch (t : State) (x : Xfer) (tgt : Target) (a n : Nat) : EngAns × State :=
  let t := countSap (correctIn t a n) x 0 false a n
  match targetErr t tgt a n with
  | some c => (.memErr c, if (groveOfAddr t a).isSome then ueGrove t a n true 0 else t)
  | none => (.ok (leVal (t.bytes a n)), t)

/-- The line of an address in core n's data cache. -/
def cacheLine (s : State) (n la : Nat) : Option CLine := amGet (fun _ => none) (s.core n).cache la

/-- The line of an address in core n's instruction cache. -/
def icacheLine (s : State) (n la : Nat) : Option (List Byte) := amGet (fun _ => none) (s.core n).icache la

/-- Write back a dirty line and drop it; a denied write-back discards the line (07 R188). -/
def cacheFlush (s : State) (n la : Nat) : State :=
  match cacheLine s n la with
  | none => s
  | some l =>
    let t := s.setCore n { s.core n with cache := amSet (fun _ => none) (s.core n).cache la none }
    if l.dirty then (writePiece t (coreXfer s n true) la l.bytes false).2 else t

/-- Drop a line of both caches without write-back. -/
def cacheDrop (s : State) (n la : Nat) : State :=
  let c := s.core n
  s.setCore n { c with cache := amSet (fun _ => none) c.cache la none, icache := amSet (fun _ => none) c.icache la none }

/-- Lines of a cache: 32 KiB (R76) in lines of 64 bytes. -/
def cacheLines : Nat := 512

/-- Room for one more line in the data cache. The spec does not say which line of a full cache gives way: a free value chooses it
(notes/assumptions/27). -/
def cacheRoom (s : State) (n : Nat) : State :=
  if (s.core n).cache.length < cacheLines then s
  else
    let (v, t) := s.takeFree
    match (t.core n).cache[v.toNat % cacheLines]? with
    | some (la, _) => cacheFlush t n la
    | none => t

/-- Room for one more line in the instruction cache, in the same way. -/
def icacheRoom (s : State) (n : Nat) : State :=
  let c := s.core n
  if c.icache.length < cacheLines then s
  else
    let (v, t) := s.takeFree
    match c.icache[v.toNat % cacheLines]? with
    | some (la, _) => t.setCore n { c with icache := amSet (fun _ => none) c.icache la none }
    | none => t

/-- A line of a Canopy data cache filled by a READ of 64 bytes (R105, 07 R183); the answer holds no value. -/
def cacheFill (s : State) (n la : Nat) : EngAns × State :=
  match present s .read (coreXfer s n true) la 64 false with
  | (.error c, t) => (.denied c, t)
  | (.ok tgt, t) =>
    match sysFetch t (coreXfer s n true) tgt la 64 with
    | (.ok _, u) =>
      let u := cacheRoom u n
      (.ok 0, u.setCore n { u.core n with cache := amSet (fun _ => none) (u.core n).cache la (some ⟨u.bytes la 64, false⟩) })
    | (a, u) => (a, u)

/-- A line of a Canopy instruction cache filled by a fetch of 64 bytes (R105, 07 R183). -/
def icacheFill (s : State) (n la : Nat) : EngAns × State :=
  match present s .exec (coreXfer s n true) la 64 false with
  | (.error c, t) => (.denied c, t)
  | (.ok tgt, t) =>
    match sysFetch t (coreXfer s n true) tgt la 64 with
    | (.ok _, u) =>
      let u := icacheRoom u n
      (.ok 0, u.setCore n { u.core n with icache := amSet (fun _ => none) (u.core n).icache la (some (u.bytes la 64)) })
    | (a, u) => (a, u)

/-- The line is in the cache, filled if need be. -/
def cacheHold (s : State) (n la : Nat) : EngAns × State :=
  match cacheLine s n la with
  | some _ => (.ok 0, s)
  | none => cacheFill s n la

/-- Put bytes into a line at an offset. -/
def lineSet (l : List Byte) (o : Nat) (bs : List Byte) : List Byte := l.take o ++ bs ++ l.drop (o + bs.length)

/-- A read of n bytes by core n at privilege prv and partition part. -/
def coreRead (bus : Bus) (s : State) (n prv part a sz : Nat) : EngAns × State :=
  let x : Xfer := ⟨n, prv, part, if isCanopy n && isDram a then 5 else 2⟩
  if isRegs a then
    match present s .read x a sz false with
    | (.error c, t) => (.denied c, t)
    | (.ok _, t) =>
      let (w, u) := bus.rd n prv a t
      (.ok w.toNat, u)
  else if isEng n then engRead s n prv part a sz
  else if isCanopy n && isDram a then
    match cacheHold s n (a / 64 * 64) with
    | (.ok _, t) =>
      match cacheLine t n (a / 64 * 64) with
      | some l => (.ok (leVal ((l.bytes.drop (a % 64)).take sz)), t)
      | none => (.ok 0, t)
    | (e, t) => (e, t)
  else
    match present s .read x a sz false with
    | (.error c, t) => (.denied c, t)
    | (.ok tgt, t) => sysFetch t x tgt a sz

/-- A write of sz bytes by core n. A Canopy core's store to DRAM fills its line first; when that fill meets an uncorrectable error, or DRAM
that is not ready, the store raises MEMERR, where R110 names a fetch or a load only. DESIGN CHOICE, notes/assumptions/77. -/
def coreWrite (bus : Bus) (s : State) (n prv part a sz v : Nat) : EngAns × State :=
  let x : Xfer := ⟨n, prv, part, if isCanopy n && isDram a then 5 else 2⟩
  if isRegs a then
    match present s .write x a sz false with
    | (.error c, t) => (.denied c, t)
    | (.ok _, t) => (.ok 0, bus.wr n prv a (BitVec.ofNat 32 v) t)
  else if isEng n then engWrite s n prv part a sz v
  else if isCanopy n && isDram a then
    match cacheHold s n (a / 64 * 64) with
    | (.ok _, t) =>
      match cacheLine t n (a / 64 * 64) with
      | some l =>
        (.ok 0, t.setCore n { t.core n with
          cache := amSet (fun _ => none) (t.core n).cache (a / 64 * 64) (some ⟨lineSet l.bytes (a % 64) (leBytes sz v), true⟩) })
      | none => (.ok 0, t)
    | (e, t) => (e, t)
  else
    match present s .write x a sz false with
    | (.error c, t) => (.denied c, t)
    | (.ok tgt, t) =>
      if tgt = .dram ∧ dramReady t = false then (.memErr 2, t)
      else (.ok 0, markDirty (countSap (eccWritten (t.setBytes a (leBytes sz v)) a sz) x 0 true a sz) a)

/-- Whether an access of a core would be admitted (R106, R111, 05 R137), without a trace of it. -/
def coreMay (k : AccKind) (s : State) (n prv part a sz : Nat) : Bool :=
  if isEng n then
    match engPhys s n a with
    | none => false
    | some _ => admitted s k ⟨n, prv, part, 2⟩ a sz
  else admitted s k ⟨n, prv, part, if isCanopy n && isDram a then 5 else 2⟩ a sz

/-- Whether a write of a core would be admitted. -/
def coreMayWrite : State → Nat → Nat → Nat → Nat → Nat → Bool := coreMay .write

/-- The gate's denial of an access, if it denies it, with its capture; an access that it admits leaves no trace here (R111, R112). -/
def gateFirst (k : AccKind) (s : State) (n prv part a sz : Nat) : Option (Nat × State) :=
  if coreMay k s n prv part a sz then none
  else if isEng n && (engPhys s n a).isNone then some (1, s)
  else
    match present s k ⟨n, prv, part, if isCanopy n && isDram a then 5 else 2⟩ a sz false with
    | (.error c, t) => some (c, t)
    | (.ok _, _) => none

/-- An instruction that reads and then writes one place: a denied read is LOAD_GATE and a denied write STORE_GATE before anything is
accessed, since both stand before MEMERR on the load in R111 and a trapping instruction leaves no access (R112). -/
def rmwGate (s : State) (n prv part a sz : Nat) (ea : DWord) (k : DRes) : DRes :=
  match gateFirst .read s n prv part a sz with
  | some (c, t) => .trap 7 c ea t
  | none =>
    match gateFirst .write s n prv part a sz with
    | some (c, t) => .trap 8 c ea t
    | none => k

/-- What an answer of a read or write makes of the instruction: the value, or the trap it raises (R110). -/
def ansTrap (load : Bool) (ea : DWord) : EngAns → State → DRes
  | .ok _, t => .stop t
  | .denied c, t => .trap (if load then 7 else 8) c ea t
  | .memErr c, t => .trap 10 c ea t
  | .fault, t => .stop t

/-- Least duration of an access of core n (R88, R104): the Cycles column, and for an engine's access to any other target at least
that, the rest a free value. -/
def accCycles (s : State) (n a sap code : Nat) : Nat × State :=
  if isEng n then
    let g := n / 8
    if 0x0100000000 + g * 0x01000000 ≤ a ∧ a < 0x0100000000 + (g + 1) * 0x01000000 then (sap, s)
    else if 0x0180000000 + n * 0x00100000 ≤ a ∧ a < 0x0180000000 + (n + 1) * 0x00100000 then (code, s)
    else
      let (v, t) := s.takeFree
      (sap + v.toNat, t)
  else (sap, s)

/-! ### Fetch (06 R152; R110 causes 6 and 10) -/

/-- An engine fetches n bytes of its code window (06 R152). -/
def engFetch (split : Bool) (s : State) (e prv part a n : Nat) : EngAns × State :=
  let cb := 0x0180000000 + e * 0x00100000
  if cb ≤ a ∧ a < cb + 0x00040000 then
    let p := a + s.rd (GRV_STATUS (e / 8)) GRV_STATUS_CBANK * 0x00040000
    match present s .exec ⟨e, prv, part, 2⟩ a n split with
    | (.error c, t) => (.denied c, t)
    | (.ok _, t) =>
      let t := correctIn t p n
      if ueIn t p n then (.fault, ueGrove t p n false (e % 8)) else (.ok (leVal (t.bytes p n)), t)
  else (.denied 1, s)

/-- Fetch of the instruction at the pc: admitted (the command carries the word), denied, or with an error. -/
def fetch (s : State) (n : Nat) : EngAns × State :=
  let a := (s.core n).pc.toNat
  let x : Xfer := ⟨n, prvOf s n, partOf s n, 2⟩
  if isEng n then
    match engFetch false s n (prvOf s n) (partOf s n) a 4 with
    | (.ok _, t) => (.ok 0, t)
    | r => r
  else if isCanopy n && isDram a then
    match icacheLine s n (a / 64 * 64) with
    | some _ => (.ok 0, s)
    | none => icacheFill s n (a / 64 * 64)
  else
    match present s .exec x a 4 false with
    | (.error c, t) => (.denied c, t)
    | (.ok tgt, t) => if tgt = .regs then (.ok 0, t) else sysFetch t x tgt a 4

/-! ### Running one instruction -/

/-- Whether a processor issues instructions now: an engine in RUN with a task within its budget, in a module that computes
(01 R17); a Canopy core or the helper that runs. -/
def canIssue (s : State) (n : Nat) : Bool :=
  if isEng n then
    engUsable s n && s.rd (ENG_STATUS n) ENG_STATUS_STATE == 1 && (s.core n).task.isSome && !budgetUsed s n && computes s
  else (s.core n).run == .run

/-- What becomes of an instruction's result. -/
def settle (n : Nat) : DRes → State
  | .go t pc cyc => (charge (countInstr t n) n cyc).setPc n pc
  | .trap cause sub ea t => takeTrap t n cause sub ea
  | .stop t => t

/-- Processor n runs one instruction of a group, the one that stands at its pc. -/
def perform (g : Grp) (f : Nat → State → DRes) (n : Nat) (s : State) : State :=
  match fetch s n with
  | (.ok _, t) => if inGroup n g then settle n (f n t) else takeTrap t n 0 0 0#64
  | (.denied c, t) => takeTrap t n 6 c (s.core n).pc
  | (.memErr c, t) => takeTrap t n 10 c (s.core n).pc
  | (.fault, t) => t

/-- A processor issues an instruction; one that issues nothing now is left as it is. -/
def issue (p : Proc) (g : Grp) (f : Nat → State → DRes) (s : State) : State :=
  if canIssue s (coreNo p) then perform g f (coreNo p) s else s

/-- The instruction writes a register and goes on. -/
def wb (s : State) (n : Nat) (rd : Reg) (x : DWord) (cyc : Nat) : DRes := .go (s.vset n rd x) (nextPc s n) cyc

/-! ### System registers (R79, R82) -/

/-- Whether a system register exists on processor n. -/
def srExists (n r : Nat) : Bool :=
  decide (r ≤ 0x006) || (decide (0x010 ≤ r) && decide (r ≤ 0x017)) || (isCanopy n && (r == 0x020 || r == 0x021))

/-- Whether no level may write the register. -/
def srNoWrite (r : Nat) : Bool := r == 0x002 || r == 0x003 || r == 0x004 || r == 0x021

/-- Whether level prv of processor n may read the register. -/
def srMayRead (n prv r : Nat) : Bool :=
  if r ≤ 0x006 then true
  else if r = 0x017 then prv != 0
  else if r = 0x020 ∨ r = 0x021 then prv == 3
  else prv == trapLevel n

/-- Whether level prv of processor n may write the register. -/
def srMayWrite (n prv r : Nat) : Bool :=
  if r ≤ 0x001 then true
  else if r = 0x005 ∨ r = 0x006 ∨ r = 0x017 then prv != 0
  else if r = 0x020 then prv == 3
  else prv == trapLevel n

/-- Lowest pending unit source of Canopy core c (07 R195). -/
def unitSource (s : State) (c : Nat) : Option Nat := ((List.range 18).map fun i => c + 4 * i).find? s.srcPending

/-- IPEND of Canopy core c (R79, R110). -/
def ipend (s : State) (c : Nat) : Nat :=
  let k := s.core (0x40 + c)
  (if k.tps = 0 then 0 else 1) + (if (unitSource s c).isSome then 2 else 0) + (if k.xcore = 0 then 0 else 4) + (if k.dreq then 8 else 0)

/-- Value of a system register, with the state after the read. CYC on the helper, which runs no task, is a free value. -/
def srRead (s : State) (n r : Nat) : DWord × State :=
  if r = 0x002 then (BitVec.ofNat 64 s.seq.tick, s)
  else if r = 0x003 then
    (if isEng n then (BitVec.ofNat 64 (s.task n (classOf s n)).cyc, s) else if isCanopy n then (0#64, s) else s.takeFree)
  else if r = 0x004 then (BitVec.ofNat 64 n, s)
  else if r = 0x021 then (BitVec.ofNat 64 (ipend s (n - 0x40)), s)
  else (s.srGet n r, s)

/-- What a write of v leaves in a system register (R79): reserved bits 0, PRV kept, PPRV only a level not above PRV. -/
def srWritten (s : State) (n r : Nat) (v : DWord) : DWord :=
  let old := s.srGet n r
  if r = 0x000 then v &&& 7#64
  else if r = 0x001 then v &&& 31#64
  else if r = 0x005 ∨ r = 0x006 then v &&& 0xFFFFFFFFC0#64
  else if r = 0x010 then
    let p := v.toNat / 4 % 4
    let pprv := if p = 2 ∨ old.toNat % 4 < p then old.toNat / 4 % 4 else p
    (statusMask n v &&& 0x70#64) ||| BitVec.ofNat 64 (4 * pprv + old.toNat % 4)
  else if r = 0x011 then v &&& 0xFFFFFFF000#64
  else if r = 0x012 then v &&& 0xFFFFFFFFFC#64
  else if r = 0x013 then v &&& 0x0FFF003F#64
  else if r = 0x017 ∨ r = 0x020 then v &&& 15#64
  else v

/-- Check of a read: the cause it raises, if any. -/
def srReadTrap (s : State) (n r : Nat) : Option Nat :=
  if srExists n r = false then some 0 else if srMayRead n (prvOf s n) r = false then some 1 else none

/-- Check of a write. -/
def srWriteTrap (s : State) (n r : Nat) : Option Nat :=
  if srExists n r = false ∨ srNoWrite r = true then some 0 else if srMayWrite n (prvOf s n) r = false then some 1 else none

end Sys2Proof.Machine
end

