-- ==== Sys2Proof/Machine/DenmaAlu.lean ====
section
/-! DEFINITION. What each core instruction of Denma does once it has been fetched and belongs to its processor (04 R90 to R109): one
definition per instruction over the shapes of its groups. -/

namespace Sys2Proof.Machine

open Sys2Proof

/-! ### Shapes -/

/-- INT group, three registers: cycles and operation (R91). -/
def dInt (cyc : Nat) (op : Wd → DWord → DWord → DWord) (w : Wd) (rd ra rb : Reg) (n : Nat) (s : State) : DRes :=
  wb s n rd (op w (s.vget n ra) (s.vget n rb)) cyc

/-- INT group, one source (R91). -/
def dInt1 (op : Wd → DWord → DWord) (w : Wd) (rd ra : Reg) (n : Nat) (s : State) : DRes := wb s n rd (op w (s.vget n ra)) 1

/-- Division and remainder (R92). -/
def shDiv (signed rem : Bool) (w : Wd) (rd ra rb : Reg) (n : Nat) (s : State) : DRes :=
  let cyc := if w = .w64 then 22 else 12
  if signed then
    let (q, r, idz, iov) := divS w (opS w (s.vget n ra)) (opS w (s.vget n rb))
    wb (stickA s n idz iov false) n rd (resS w (if rem then r else q)) cyc
  else
    let (q, r, idz) := divU (opU w (s.vget n ra)) (opU w (s.vget n rb))
    wb (stickA s n idz false false) n rd (resU w (if rem then r else q : Nat)) cyc

/-- SATG group (R95): the exact result limited to the signed or unsigned range of w. -/
def dSat (cyc : Nat) (signed : Bool) (op : Wd → DWord → DWord → Int) (w : Wd) (rd ra rb : Reg) (n : Nat) (s : State) : DRes :=
  let (v, lim) := if signed then satTo (minS w) (maxS w) (op w (s.vget n ra) (s.vget n rb))
    else satTo 0 (maxU w) (op w (s.vget n ra) (s.vget n rb))
  wb (stickA s n false false lim) n rd (if signed then resS w v else resU w v) cyc

/-- SHI group (R93): a shift constant of w or more is ILLEGAL. -/
def dShi (op : Wd → DWord → Nat → DWord) (w : Wd) (rd ra : Reg) (sh : BitVec 6) (n : Nat) (s : State) : DRes :=
  if wdBits w ≤ sh.toNat then .trap 0 0 0#64 s else wb s n rd (op w (s.vget n ra) sh.toNat) 1

/-- Immediate instructions (R94). -/
def dImm (op : DWord → DWord) (rd ra : Reg) (n : Nat) (s : State) : DRes := wb s n rd (op (s.vget n ra)) 1

/-- Cycles of a floating-point instruction by format. -/
def fpCyc (a b : Nat) : Fmt → Nat
  | .f32 => a
  | .f64 => b

/-- FP group (R97): result and FSTAT flags. -/
def dFp (cyc : Nat) (op : DWord → DWord → DWord × FpFlags) (rd ra rb : Reg) (n : Nat) (s : State) : DRes :=
  let (v, fl) := op (s.vget n ra) (s.vget n rb)
  wb (stickF s n fl) n rd v cyc

/-- Fused multiply-add with the product or the addend negated (R100). -/
def dFma (f : Fmt) (negP negC : Bool) (rd ra rb rc : Reg) (n : Nat) (s : State) : DRes :=
  let a := fpUnpack f (s.vget n ra)
  let c := fpUnpack f (s.vget n rc)
  let (v, fl) := fpFma f (if negP then a.neg else a) (fpUnpack f (s.vget n rb)) (if negC then c.neg else c)
  wb (stickF s n fl) n rd v 5

/-- CLAMP and CLAMPU (R100): SAT when the result differs from ra. -/
def shClamp (op : DWord → DWord → DWord → DWord) (rd ra rb rc : Reg) (n : Nat) (s : State) : DRes :=
  let v := op (s.vget n ra) (s.vget n rb) (s.vget n rc)
  wb (stickA s n false false (v != s.vget n ra)) n rd v 1

/-- CLAMP.S and CLAMP.D (R101). -/
def dFclamp (f : Fmt) (rd ra rb rc : Reg) (n : Nat) (s : State) : DRes :=
  let (v, fl) := fpClamp f (s.vget n ra) (s.vget n rb) (s.vget n rc)
  wb (stickF s n fl) n rd v 2

/-- Select (R100). -/
def selOp (a b c : DWord) : DWord := if a = 0#64 then c else b

/-- Base of a memory instruction: INST when the ra field is 0 (R102). -/
def memBase (s : State) (n : Nat) (ra : Reg) : DWord := if ra.val = 0 then s.srGet n 0x005 else s.vget n ra

/-- Effective address (R102). -/
def memEa (s : State) (n : Nat) (ra : Reg) (imm : BitVec 16) : DWord := memBase s n ra + sext16 imm

/-- A loaded value of sz bytes, sign- or zero-extended (R104). -/
def loadExt (sz : Nat) (signed : Bool) (v : Nat) : DWord :=
  if signed && decide (2 ^ (8 * sz - 1) ≤ v) then BitVec.ofInt 64 ((v : Int) - 2 ^ (8 * sz)) else BitVec.ofNat 64 v

/-- Loads (R102 to R104). -/
def dLoad (bus : Bus) (sz : Nat) (signed : Bool) (rd ra : Reg) (imm : BitVec 16) (n : Nat) (s : State) : DRes :=
  let ea := memEa s n ra imm
  if 2 ^ 40 ≤ ea.toNat then .trap 2 0 ea s
  else if ea.toNat % sz ≠ 0 then .trap 4 0 ea s
  else
    match coreRead bus s n (prvOf s n) (partOf s n) ea.toNat sz with
    | (.ok v, t) =>
      let (cyc, t) := accCycles t n ea.toNat 3 2
      wb t n rd (loadExt sz signed v) cyc
    | (e, t) => ansTrap true ea e t

/-- Stores (R102 to R104). -/
def dStore (bus : Bus) (sz : Nat) (rs ra : Reg) (imm : BitVec 16) (n : Nat) (s : State) : DRes :=
  let ea := memEa s n ra imm
  if 2 ^ 40 ≤ ea.toNat then .trap 2 0 ea s
  else if ea.toNat % sz ≠ 0 then .trap 5 0 ea s
  else
    match coreWrite bus s n (prvOf s n) (partOf s n) ea.toNat sz ((s.vget n rs).toNat % 2 ^ (8 * sz)) with
    | (.ok _, t) =>
      let (cyc, t) := accCycles t n ea.toNat 1 1
      .go t (nextPc s n) cyc
    | (e, t) => ansTrap false ea e t

/-- Bytes of an AMO. -/
def amoSize (l : Bool) : Nat := if l then 8 else 4

def amoNat (l : Bool) (x : DWord) : Nat := x.toNat % 2 ^ (8 * amoSize l)
def amoInt (l : Bool) (x : DWord) : Int := if l then x.toInt else (x.truncate 32).toInt

/-- Whether the target takes atomic accesses (R106). -/
def amoTarget (a : Nat) : Bool :=
  match mapOf a with
  | some (.sram, _, _) => true
  | some (.sapwood _, _, _) => true
  | some (.dram, _, _) => true
  | _ => false

/-- Transfers of an AMO of core n: a Canopy core's pass its cache. -/
def amoXfer (s : State) (n a : Nat) : Xfer := coreXfer s n (isDram a)

/-- The read of an AMO. -/
def amoRead (s : State) (n a sz : Nat) : EngAns × State :=
  if isEng n then engRead s n (prvOf s n) (partOf s n) a sz
  else match present s .read (amoXfer s n a) a sz false with
    | (.error c, u) => (.denied c, u)
    | (.ok tgt, u) => sysFetch u (amoXfer s n a) tgt a sz

/-- The write of an AMO. -/
def amoWrite (s : State) (n a sz v : Nat) : EngAns × State :=
  if isEng n then engWrite s n (prvOf s n) (partOf s n) a sz v
  else match writePiece s (amoXfer s n a) a (leBytes sz v) false with
    | (.error c, u) => (.denied c, u)
    | (.ok _, u) => (.ok 0, u)

/-- An AMO (R106): `op` gives the new value from the old one, or nothing to write; the gate admits both accesses before anything is done, a
write that does not take place among them (R111, R112). A Canopy core's own line of the address is then written back. -/
def amoRun (op : DWord → Option DWord) (l : Bool) (rd ra : Reg) (n : Nat) (s : State) : DRes :=
  let ea := memBase s n ra
  let a := ea.toNat
  let sz := amoSize l
  if 2 ^ 40 ≤ a then .trap 2 0 ea s
  else if a % sz ≠ 0 then .trap 4 0 ea s
  else if amoTarget a = false then .trap 9 0 ea s
  else rmwGate s n (prvOf s n) (partOf s n) a sz ea <|
    match amoRead (if isCanopy n && isDram a then cacheFlush s n (a / 64 * 64) else s) n a sz with
    | (.ok v, t) =>
      let old := loadExt sz (!l) v
      let (ans, u) := match op old with
        | some new => amoWrite t n a sz (new.toNat % 2 ^ (8 * sz))
        | none => (.ok 0, t)
      match ans with
      | .ok _ =>
        let (cyc, u) := accCycles u n a 6 6
        wb u n rd old cyc
      | e => ansTrap false ea e u
    | (e, t) => ansTrap true ea e t

/-- AMO with one source (R106). -/
def shAmo (op : Bool → DWord → DWord → Option DWord) (l : Bool) (rd ra rb : Reg) (n : Nat) (s : State) : DRes :=
  amoRun (fun old => op l old (s.vget n rb)) l rd ra n s

/-- AMO.CAS (R106). -/
def shCas (l : Bool) (rd ra rb rc : Reg) (n : Nat) (s : State) : DRes :=
  amoRun (fun old => if amoNat l old = amoNat l (s.vget n rb) then some (s.vget n rc) else none) l rd ra n s

/-- Conditional branches (R107): 1 cycle not taken, 2 taken; a trace record with the branch bit (07 R181). -/
def dBranch (cond : DWord → DWord → Bool) (ra rb : Reg) (off : DWord) (n : Nat) (s : State) : DRes :=
  let pc := (s.core n).pc
  let taken := cond (s.vget n ra) (s.vget n rb)
  let t := traceRecord s n taken pc
  if taken then .go t (branchTo pc off) 2 else .go t (nextPc s n) 1

/-- JMPL (R107). -/
def dJmpl (rd : Reg) (off : BitVec 21) (n : Nat) (s : State) : DRes :=
  let pc := (s.core n).pc
  .go ((traceRecord s n true pc).vset n rd (pc + 4#64)) (branchTo pc (off.signExtend 64)) 2

/-- JMPR (R107). -/
def dJmpr (rd ra : Reg) (imm : BitVec 16) (n : Nat) (s : State) : DRes :=
  let pc := (s.core n).pc
  let t := s.vget n ra + sext16 imm
  if 2 ^ 40 ≤ t.toNat then .trap 2 0 t s
  else if t.toNat % 4 ≠ 0 then .trap 3 0 t s
  else .go ((traceRecord s n true pc).vset n rd (pc + 4#64)) t 3

/-- SEL (R100). -/
def dSel (rd ra rb rc : Reg) (n : Nat) (s : State) : DRes := wb s n rd (selOp (s.vget n ra) (s.vget n rb) (s.vget n rc)) 1

/-! ### The instructions -/

/-- ADD. -/
def dAdd (w : Wd) (rd ra rb : Reg) : Nat → State → DRes := dInt 1 (fun w a b => resS w (opS w a + opS w b)) w rd ra rb

/-- SUB. -/
def dSub (w : Wd) (rd ra rb : Reg) : Nat → State → DRes := dInt 1 (fun w a b => resS w (opS w a - opS w b)) w rd ra rb

/-- AND. -/
def dAnd (w : Wd) (rd ra rb : Reg) : Nat → State → DRes := dInt 1 (fun w a b => resS w ((a &&& b).toNat)) w rd ra rb

/-- OR. -/
def dOr (w : Wd) (rd ra rb : Reg) : Nat → State → DRes := dInt 1 (fun w a b => resS w ((a ||| b).toNat)) w rd ra rb

/-- XOR. -/
def dXor (w : Wd) (rd ra rb : Reg) : Nat → State → DRes := dInt 1 (fun w a b => resS w ((a ^^^ b).toNat)) w rd ra rb

/-- ANDN. -/
def dAndn (w : Wd) (rd ra rb : Reg) : Nat → State → DRes := dInt 1 (fun w a b => resS w ((a &&& ~~~b).toNat)) w rd ra rb

/-- SHL. -/
def dShl (w : Wd) (rd ra rb : Reg) : Nat → State → DRes := dInt 1 (fun w a b => resS w (opS w a * 2 ^ shAmt w b)) w rd ra rb

/-- SHR. -/
def dShr (w : Wd) (rd ra rb : Reg) : Nat → State → DRes := dInt 1 (fun w a b => resU w (opU w a / 2 ^ shAmt w b : Nat)) w rd ra rb

/-- SAR. -/
def dSar (w : Wd) (rd ra rb : Reg) : Nat → State → DRes := dInt 1 (fun w a b => resS w (opS w a / 2 ^ shAmt w b)) w rd ra rb

/-- ROR. -/
def dRor (w : Wd) (rd ra rb : Reg) : Nat → State → DRes := dInt 1 (fun w a b => resU w (rotR w (opU w a) (shAmt w b))) w rd ra rb

/-- MUL. -/
def dMul (w : Wd) (rd ra rb : Reg) : Nat → State → DRes := dInt 3 (fun w a b => resS w (opS w a * opS w b)) w rd ra rb

/-- MULH. -/
def dMulh (w : Wd) (rd ra rb : Reg) : Nat → State → DRes := dInt 3 (fun w a b => resS w (opS w a * opS w b / 2 ^ wdBits w)) w rd ra rb

/-- MULHU. -/
def dMulhu (w : Wd) (rd ra rb : Reg) : Nat → State → DRes := dInt 3 (fun w a b => resU w (opU w a * opU w b / 2 ^ wdBits w : Nat)) w rd ra rb

/-- DIV. -/
def dDiv (w : Wd) (rd ra rb : Reg) : Nat → State → DRes := shDiv true false w rd ra rb

/-- DIVU. -/
def dDivu (w : Wd) (rd ra rb : Reg) : Nat → State → DRes := shDiv false false w rd ra rb

/-- REM. -/
def dRem (w : Wd) (rd ra rb : Reg) : Nat → State → DRes := shDiv true true w rd ra rb

/-- REMU. -/
def dRemu (w : Wd) (rd ra rb : Reg) : Nat → State → DRes := shDiv false true w rd ra rb

/-- MIN. -/
def dMin (w : Wd) (rd ra rb : Reg) : Nat → State → DRes := dInt 1 (fun w a b => resS w (min (opS w a) (opS w b))) w rd ra rb

/-- MAX. -/
def dMax (w : Wd) (rd ra rb : Reg) : Nat → State → DRes := dInt 1 (fun w a b => resS w (max (opS w a) (opS w b))) w rd ra rb

/-- MINU. -/
def dMinu (w : Wd) (rd ra rb : Reg) : Nat → State → DRes := dInt 1 (fun w a b => resU w (min (opU w a) (opU w b) : Nat)) w rd ra rb

/-- MAXU. -/
def dMaxu (w : Wd) (rd ra rb : Reg) : Nat → State → DRes := dInt 1 (fun w a b => resU w (max (opU w a) (opU w b) : Nat)) w rd ra rb

/-- SLT. -/
def dSlt (w : Wd) (rd ra rb : Reg) : Nat → State → DRes := dInt 1 (fun w a b => res01 (decide (opS w a < opS w b))) w rd ra rb

/-- SLTU. -/
def dSltu (w : Wd) (rd ra rb : Reg) : Nat → State → DRes := dInt 1 (fun w a b => res01 (decide (opU w a < opU w b))) w rd ra rb

/-- SEQ. -/
def dSeq (w : Wd) (rd ra rb : Reg) : Nat → State → DRes := dInt 1 (fun w a b => res01 (opU w a == opU w b)) w rd ra rb

/-- SNE. -/
def dSne (w : Wd) (rd ra rb : Reg) : Nat → State → DRes := dInt 1 (fun w a b => res01 (opU w a != opU w b)) w rd ra rb

/-- CLZ. -/
def dClz (w : Wd) (rd ra : Reg) : Nat → State → DRes := dInt1 (fun w a => BitVec.ofNat 64 (clzN (wdBits w) (opU w a))) w rd ra

/-- CTZ. -/
def dCtz (w : Wd) (rd ra : Reg) : Nat → State → DRes := dInt1 (fun w a => BitVec.ofNat 64 (ctzN (wdBits w) (opU w a))) w rd ra

/-- POPC. -/
def dPopc (w : Wd) (rd ra : Reg) : Nat → State → DRes := dInt1 (fun w a => BitVec.ofNat 64 (popN (wdBits w) (opU w a))) w rd ra

/-- SEXT. -/
def dSext (w : Wd) (rd ra : Reg) : Nat → State → DRes := dInt1 (fun w a => resS w (opS w a)) w rd ra

/-- ZEXT. -/
def dZext (w : Wd) (rd ra : Reg) : Nat → State → DRes := dInt1 (fun w a => resU w (opU w a : Nat)) w rd ra

/-- ABS. -/
def dAbs (w : Wd) (rd ra : Reg) : Nat → State → DRes := dInt1 (fun w a => resS w (opS w a).natAbs) w rd ra

/-- ADDS. -/
def dAdds (w : Wd) (rd ra rb : Reg) : Nat → State → DRes := dSat 1 true (fun w a b => opS w a + opS w b) w rd ra rb

/-- SUBS. -/
def dSubs (w : Wd) (rd ra rb : Reg) : Nat → State → DRes := dSat 1 true (fun w a b => opS w a - opS w b) w rd ra rb

/-- ADDUS. -/
def dAddus (w : Wd) (rd ra rb : Reg) : Nat → State → DRes := dSat 1 false (fun w a b => (opU w a : Int) + opU w b) w rd ra rb

/-- SUBUS. -/
def dSubus (w : Wd) (rd ra rb : Reg) : Nat → State → DRes := dSat 1 false (fun w a b => (opU w a : Int) - opU w b) w rd ra rb

/-- MULS. -/
def dMuls (w : Wd) (rd ra rb : Reg) : Nat → State → DRes := dSat 3 true (fun w a b => opS w a * opS w b) w rd ra rb

/-- MULUS. -/
def dMulus (w : Wd) (rd ra rb : Reg) : Nat → State → DRes := dSat 3 false (fun w a b => (opU w a : Int) * opU w b) w rd ra rb

/-- NEGS. -/
def dNegs (w : Wd) (rd ra : Reg) : Nat → State → DRes := dSat 1 true (fun w a _ => -opS w a) w rd ra ra

/-- ABSS. -/
def dAbss (w : Wd) (rd ra : Reg) : Nat → State → DRes := dSat 1 true (fun w a _ => (opS w a).natAbs) w rd ra ra

/-- SATS. -/
def dSats (w : Wd) (rd ra : Reg) : Nat → State → DRes := dSat 1 true (fun _ a _ => a.toInt) w rd ra ra

/-- SATU. -/
def dSatu (w : Wd) (rd ra : Reg) : Nat → State → DRes := dSat 1 false (fun _ a _ => a.toInt) w rd ra ra

/-- SHLI. -/
def dShli (w : Wd) (rd ra : Reg) (sh : BitVec 6) : Nat → State → DRes := dShi (fun w a k => resS w (opS w a * 2 ^ k)) w rd ra sh

/-- SHRI. -/
def dShri (w : Wd) (rd ra : Reg) (sh : BitVec 6) : Nat → State → DRes := dShi (fun w a k => resU w (opU w a / 2 ^ k : Nat)) w rd ra sh

/-- SARI. -/
def dSari (w : Wd) (rd ra : Reg) (sh : BitVec 6) : Nat → State → DRes := dShi (fun w a k => resS w (opS w a / 2 ^ k)) w rd ra sh

/-- RORI. -/
def dRori (w : Wd) (rd ra : Reg) (sh : BitVec 6) : Nat → State → DRes := dShi (fun w a k => resU w (rotR w (opU w a) k)) w rd ra sh

/-- ADDI. -/
def dAddi (rd ra : Reg) (imm : BitVec 16) : Nat → State → DRes := dImm (fun a => a + sext16 imm) rd ra

/-- ANDI. -/
def dAndi (rd ra : Reg) (imm : BitVec 16) : Nat → State → DRes := dImm (fun a => a &&& imm.zeroExtend 64) rd ra

/-- ORI. -/
def dOri (rd ra : Reg) (imm : BitVec 16) : Nat → State → DRes := dImm (fun a => a ||| imm.zeroExtend 64) rd ra

/-- XORI. -/
def dXori (rd ra : Reg) (imm : BitVec 16) : Nat → State → DRes := dImm (fun a => a ^^^ imm.zeroExtend 64) rd ra

/-- SLTI. -/
def dSlti (rd ra : Reg) (imm : BitVec 16) : Nat → State → DRes := dImm (fun a => res01 (a.slt (sext16 imm))) rd ra

/-- SLTIU. -/
def dSltiu (rd ra : Reg) (imm : BitVec 16) : Nat → State → DRes := dImm (fun a => res01 (a.ult (sext16 imm))) rd ra

/-- LIZ. -/
def dLiz (rd : Reg) (hw : Fin 4) (imm : BitVec 16) : Nat → State → DRes := dImm (fun _ => imm.zeroExtend 64 <<< (16 * hw.val)) rd rd

/-- LIK. -/
def dLik (rd : Reg) (hw : Fin 4) (imm : BitVec 16) : Nat → State → DRes := dImm (fun a => (a &&& ~~~(0xFFFF#64 <<< (16 * hw.val))) ||| (imm.zeroExtend 64 <<< (16 * hw.val))) rd rd

/-- FADD. -/
def dFadd (f : Fmt) (rd ra rb : Reg) : Nat → State → DRes := dFp 4 (fun a b => fpAdd f a b) rd ra rb

/-- FSUB. -/
def dFsub (f : Fmt) (rd ra rb : Reg) : Nat → State → DRes := dFp 4 (fun a b => fpSub f a b) rd ra rb

/-- FMUL. -/
def dFmul (f : Fmt) (rd ra rb : Reg) : Nat → State → DRes := dFp 4 (fun a b => fpMul f a b) rd ra rb

/-- FDIV. -/
def dFdiv (f : Fmt) (rd ra rb : Reg) : Nat → State → DRes := dFp (fpCyc 14 24 f) (fun a b => fpDiv f a b) rd ra rb

/-- FSQRT. -/
def dFsqrt (f : Fmt) (rd ra : Reg) : Nat → State → DRes := dFp (fpCyc 16 28 f) (fun a _ => fpSqrt f a) rd ra ra

/-- FMIN. -/
def dFmin (f : Fmt) (rd ra rb : Reg) : Nat → State → DRes := dFp 2 (fun a b => fpMinMax false f a b) rd ra rb

/-- FMAX. -/
def dFmax (f : Fmt) (rd ra rb : Reg) : Nat → State → DRes := dFp 2 (fun a b => fpMinMax true f a b) rd ra rb

/-- FNEG. -/
def dFneg (f : Fmt) (rd ra : Reg) : Nat → State → DRes := dFp 1 (fun a _ => (fpSetSign f (!fpSign f a) a, 0)) rd ra ra

/-- FABS. -/
def dFabs (f : Fmt) (rd ra : Reg) : Nat → State → DRes := dFp 1 (fun a _ => (fpSetSign f false a, 0)) rd ra ra

/-- FSGN. -/
def dFsgn (f : Fmt) (rd ra rb : Reg) : Nat → State → DRes := dFp 1 (fun a b => (fpSetSign f (fpSign f b) a, 0)) rd ra rb

/-- FEQ. -/
def dFeq (f : Fmt) (rd ra rb : Reg) : Nat → State → DRes := dFp 2 (fun a b => fpEq f a b) rd ra rb

/-- FLT. -/
def dFlt (f : Fmt) (rd ra rb : Reg) : Nat → State → DRes := dFp 2 (fun a b => fpLt f a b) rd ra rb

/-- FLE. -/
def dFle (f : Fmt) (rd ra rb : Reg) : Nat → State → DRes := dFp 2 (fun a b => fpLe f a b) rd ra rb

/-- FUN. -/
def dFun (f : Fmt) (rd ra rb : Reg) : Nat → State → DRes := dFp 2 (fun a b => fpUn f a b) rd ra rb

/-- FCLS. -/
def dFcls (f : Fmt) (rd ra : Reg) : Nat → State → DRes := dFp 1 (fun a _ => (fpClass f a, 0)) rd ra ra

/-- FCVF. -/
def dFcvf (f : Fmt) (rd ra : Reg) : Nat → State → DRes := dFp 3 (fun a _ => fpCvf f a) rd ra ra

/-- FRND.I32. -/
def dFrndI32 (f : Fmt) (rd ra : Reg) : Nat → State → DRes := dFp 3 (fun a _ => fpToInt true .i32 f a) rd ra ra

/-- FRND.I64. -/
def dFrndI64 (f : Fmt) (rd ra : Reg) : Nat → State → DRes := dFp 3 (fun a _ => fpToInt true .i64 f a) rd ra ra

/-- FRND.U32. -/
def dFrndU32 (f : Fmt) (rd ra : Reg) : Nat → State → DRes := dFp 3 (fun a _ => fpToInt true .u32 f a) rd ra ra

/-- FRND.U64. -/
def dFrndU64 (f : Fmt) (rd ra : Reg) : Nat → State → DRes := dFp 3 (fun a _ => fpToInt true .u64 f a) rd ra ra

/-- FTRC.I32. -/
def dFtrcI32 (f : Fmt) (rd ra : Reg) : Nat → State → DRes := dFp 3 (fun a _ => fpToInt false .i32 f a) rd ra ra

/-- FTRC.I64. -/
def dFtrcI64 (f : Fmt) (rd ra : Reg) : Nat → State → DRes := dFp 3 (fun a _ => fpToInt false .i64 f a) rd ra ra

/-- FTRC.U32. -/
def dFtrcU32 (f : Fmt) (rd ra : Reg) : Nat → State → DRes := dFp 3 (fun a _ => fpToInt false .u32 f a) rd ra ra

/-- FTRC.U64. -/
def dFtrcU64 (f : Fmt) (rd ra : Reg) : Nat → State → DRes := dFp 3 (fun a _ => fpToInt false .u64 f a) rd ra ra

/-- IFLT.I32. -/
def dIfltI32 (f : Fmt) (rd ra : Reg) : Nat → State → DRes := dFp 3 (fun a _ => fpFromInt .i32 f a) rd ra ra

/-- IFLT.I64. -/
def dIfltI64 (f : Fmt) (rd ra : Reg) : Nat → State → DRes := dFp 3 (fun a _ => fpFromInt .i64 f a) rd ra ra

/-- IFLT.U32. -/
def dIfltU32 (f : Fmt) (rd ra : Reg) : Nat → State → DRes := dFp 3 (fun a _ => fpFromInt .u32 f a) rd ra ra

/-- IFLT.U64. -/
def dIfltU64 (f : Fmt) (rd ra : Reg) : Nat → State → DRes := dFp 3 (fun a _ => fpFromInt .u64 f a) rd ra ra

/-- FMAD.S. -/
def dFmadS (rd ra rb rc : Reg) : Nat → State → DRes := dFma .f32 false false rd ra rb rc

/-- FMAD.D. -/
def dFmadD (rd ra rb rc : Reg) : Nat → State → DRes := dFma .f64 false false rd ra rb rc

/-- FMSB.S. -/
def dFmsbS (rd ra rb rc : Reg) : Nat → State → DRes := dFma .f32 false true rd ra rb rc

/-- FMSB.D. -/
def dFmsbD (rd ra rb rc : Reg) : Nat → State → DRes := dFma .f64 false true rd ra rb rc

/-- FNMA.S. -/
def dFnmaS (rd ra rb rc : Reg) : Nat → State → DRes := dFma .f32 true false rd ra rb rc

/-- FNMA.D. -/
def dFnmaD (rd ra rb rc : Reg) : Nat → State → DRes := dFma .f64 true false rd ra rb rc

/-- FNMS.S. -/
def dFnmsS (rd ra rb rc : Reg) : Nat → State → DRes := dFma .f32 true true rd ra rb rc

/-- FNMS.D. -/
def dFnmsD (rd ra rb rc : Reg) : Nat → State → DRes := dFma .f64 true true rd ra rb rc

/-- CLAMP. -/
def dClamp (rd ra rb rc : Reg) : Nat → State → DRes := shClamp (fun a b c => BitVec.ofInt 64 (min (max a.toInt b.toInt) c.toInt)) rd ra rb rc

/-- CLAMPU. -/
def dClampu (rd ra rb rc : Reg) : Nat → State → DRes := shClamp (fun a b c => BitVec.ofNat 64 (min (max a.toNat b.toNat) c.toNat)) rd ra rb rc

/-- CLAMP.S. -/
def dClampS (rd ra rb rc : Reg) : Nat → State → DRes := dFclamp .f32 rd ra rb rc

/-- CLAMP.D. -/
def dClampD (rd ra rb rc : Reg) : Nat → State → DRes := dFclamp .f64 rd ra rb rc

/-- LB. -/
def dLb (bus : Bus) (rd ra : Reg) (imm : BitVec 16) : Nat → State → DRes := dLoad bus 1 true rd ra imm

/-- LBU. -/
def dLbu (bus : Bus) (rd ra : Reg) (imm : BitVec 16) : Nat → State → DRes := dLoad bus 1 false rd ra imm

/-- LH. -/
def dLh (bus : Bus) (rd ra : Reg) (imm : BitVec 16) : Nat → State → DRes := dLoad bus 2 true rd ra imm

/-- LHU. -/
def dLhu (bus : Bus) (rd ra : Reg) (imm : BitVec 16) : Nat → State → DRes := dLoad bus 2 false rd ra imm

/-- LW. -/
def dLw (bus : Bus) (rd ra : Reg) (imm : BitVec 16) : Nat → State → DRes := dLoad bus 4 true rd ra imm

/-- LWU. -/
def dLwu (bus : Bus) (rd ra : Reg) (imm : BitVec 16) : Nat → State → DRes := dLoad bus 4 false rd ra imm

/-- LD. -/
def dLd (bus : Bus) (rd ra : Reg) (imm : BitVec 16) : Nat → State → DRes := dLoad bus 8 false rd ra imm

/-- SB. -/
def dSb (bus : Bus) (rs ra : Reg) (imm : BitVec 16) : Nat → State → DRes := dStore bus 1 rs ra imm

/-- SH. -/
def dSh (bus : Bus) (rs ra : Reg) (imm : BitVec 16) : Nat → State → DRes := dStore bus 2 rs ra imm

/-- SW. -/
def dSw (bus : Bus) (rs ra : Reg) (imm : BitVec 16) : Nat → State → DRes := dStore bus 4 rs ra imm

/-- SD. -/
def dSd (bus : Bus) (rs ra : Reg) (imm : BitVec 16) : Nat → State → DRes := dStore bus 8 rs ra imm

/-- AMOSWAP. -/
def dAmoSwap (l : Bool) (rd ra rb : Reg) : Nat → State → DRes := shAmo (fun _ _ b => some b) l rd ra rb

/-- AMOADD. -/
def dAmoAdd (l : Bool) (rd ra rb : Reg) : Nat → State → DRes := shAmo (fun _ o b => some (o + b)) l rd ra rb

/-- AMOAND. -/
def dAmoAnd (l : Bool) (rd ra rb : Reg) : Nat → State → DRes := shAmo (fun _ o b => some (o &&& b)) l rd ra rb

/-- AMOOR. -/
def dAmoOr (l : Bool) (rd ra rb : Reg) : Nat → State → DRes := shAmo (fun _ o b => some (o ||| b)) l rd ra rb

/-- AMOXOR. -/
def dAmoXor (l : Bool) (rd ra rb : Reg) : Nat → State → DRes := shAmo (fun _ o b => some (o ^^^ b)) l rd ra rb

/-- AMOMIN. -/
def dAmoMin (l : Bool) (rd ra rb : Reg) : Nat → State → DRes := shAmo (fun l o b => some (if amoInt l o ≤ amoInt l b then o else b)) l rd ra rb

/-- AMOMAX. -/
def dAmoMax (l : Bool) (rd ra rb : Reg) : Nat → State → DRes := shAmo (fun l o b => some (if amoInt l o ≤ amoInt l b then b else o)) l rd ra rb

/-- AMOMINU. -/
def dAmoMinu (l : Bool) (rd ra rb : Reg) : Nat → State → DRes := shAmo (fun l o b => some (if amoNat l o ≤ amoNat l b then o else b)) l rd ra rb

/-- AMOMAXU. -/
def dAmoMaxu (l : Bool) (rd ra rb : Reg) : Nat → State → DRes := shAmo (fun l o b => some (if amoNat l o ≤ amoNat l b then b else o)) l rd ra rb

/-- AMO.CAS. -/
def dAmoCas (l : Bool) (rd ra rb rc : Reg) : Nat → State → DRes := shCas l rd ra rb rc

/-- B.EQ. -/
def dBEq (ra rb : Reg) (off : BitVec 16) : Nat → State → DRes := dBranch (fun a b => a == b) ra rb (off.signExtend 64)

/-- B.NE. -/
def dBNe (ra rb : Reg) (off : BitVec 16) : Nat → State → DRes := dBranch (fun a b => a != b) ra rb (off.signExtend 64)

/-- B.LT. -/
def dBLt (ra rb : Reg) (off : BitVec 16) : Nat → State → DRes := dBranch (fun a b => a.slt b) ra rb (off.signExtend 64)

/-- B.LE. -/
def dBLe (ra rb : Reg) (off : BitVec 16) : Nat → State → DRes := dBranch (fun a b => a.sle b) ra rb (off.signExtend 64)

/-- B.LTU. -/
def dBLtu (ra rb : Reg) (off : BitVec 16) : Nat → State → DRes := dBranch (fun a b => a.ult b) ra rb (off.signExtend 64)

/-- B.LEU. -/
def dBLeu (ra rb : Reg) (off : BitVec 16) : Nat → State → DRes := dBranch (fun a b => a.ule b) ra rb (off.signExtend 64)

/-- BT. -/
def dBt (ra : Reg) (bit : BitVec 6) (off : BitVec 15) : Nat → State → DRes := dBranch (fun a _ => a.getLsbD bit.toNat) ra ra (off.signExtend 64)

/-- BF. -/
def dBf (ra : Reg) (bit : BitVec 6) (off : BitVec 15) : Nat → State → DRes := dBranch (fun a _ => !a.getLsbD bit.toNat) ra ra (off.signExtend 64)

end Sys2Proof.Machine
end

