-- ==== Sys2Proof/Machine/DenmaSys.lean ====
section
/-! DEFINITION. System instructions and interrupts (04 R108 to R116), signals, blocks, edges, timers and task instructions (05 R125 to R149). -/

namespace Sys2Proof.Machine

open Sys2Proof

/-! ### System registers -/

/-- MFSR (R108). -/
def dMfsr (rd : Reg) (sr : BitVec 12) (n : Nat) (s : State) : DRes :=
  match srReadTrap s n sr.toNat with
  | some c => .trap c 0 0#64 s
  | none =>
    let (v, t) := srRead s n sr.toNat
    wb t n rd v 1

/-- MTSR (R108). -/
def dMtsr (sr : BitVec 12) (ra : Reg) (n : Nat) (s : State) : DRes :=
  match srWriteTrap s n sr.toNat with
  | some c => .trap c 0 0#64 s
  | none => .go (s.srSet n sr.toNat (srWritten s n sr.toNat (s.vget n ra))) (nextPc s n) 2

/-- SRSET and SRCLR (R108): the old value to rd, then bits of the register set or cleared. -/
def srModify (op : DWord → DWord → DWord) (rd : Reg) (sr : BitVec 12) (ra : Reg) (n : Nat) (s : State) : DRes :=
  match srWriteTrap s n sr.toNat with
  | some c => .trap c 0 0#64 s
  | none =>
    let old := s.srGet n sr.toNat
    let t := s.srSet n sr.toNat (srWritten s n sr.toNat (op old (s.vget n ra)))
    wb t n rd old 2

/-- SRSET (R108). -/
def dSrset : Reg → BitVec 12 → Reg → Nat → State → DRes := srModify fun old a => old ||| a

/-- SRCLR (R108). -/
def dSrclr : Reg → BitVec 12 → Reg → Nat → State → DRes := srModify fun old a => old &&& ~~~a

/-! ### Traps, halts, waits -/

/-- SCALL (R108, R110). -/
def dScall (code : BitVec 12) (_n : Nat) (s : State) : DRes := .trap 11 code.toNat 0#64 s

/-- BRK (R109): halts when a break is armed and a halt is allowed, the pc at the next instruction; a refused halt sets REFUSED with an
event record, and BRK raises BREAK (06 R176). A BRK that halts is charged no cycle: the Cycles column names a trap entry only. DESIGN CHOICE,
notes/assumptions/77. -/
def dBrk (code : BitVec 12) (n : Nat) (s : State) : DRes :=
  if brkArmed s n then
    if haltAllowed s n then .stop (haltCore ((countInstr s n).setPc n (nextPc s n)) n)
    else .trap 12 code.toNat 0#64 (dbgRefuse s true)
  else .trap 12 code.toNat 0#64 s

/-- RTE (R113). -/
def dRte (n : Nat) (s : State) : DRes :=
  if prvOf s n = 0 then .trap 1 0 0#64 s
  else
    let st := (s.srGet n 0x010).toNat
    let pie := st / 32 % 2
    let ie := if isCanopy n then pie else 0
    .go (s.srSet n 0x010 (BitVec.ofNat 64 (st / 4 % 4 + 16 * ie + 32 * pie))) (s.srGet n 0x012) 4

/-- FENCE (R105): every access of the model is complete when its instruction is. -/
def dFence (n : Nat) (s : State) : DRes := .go s (nextPc s n) 1

/-- Whether an interrupt is pending and enabled in IEN on Canopy core c. -/
def wakes (s : State) (c : Nat) : Bool := ipend s c &&& (s.srGet (0x40 + c) 0x020).toNat % 16 != 0

/-- WFI (R108). -/
def dWfi (n : Nat) (s : State) : DRes :=
  if prvOf s n = 0 then .trap 1 0 0#64 s
  else if wakes s (n - 0x40) then .go s (nextPc s n) 0
  else .go (s.setCore n { s.core n with run := .wait }) (nextPc s n) 0

/-- CFLUSH (R108). -/
def dCflush (ra : Reg) (n : Nat) (s : State) : DRes :=
  if prvOf s n = 0 then .trap 1 0 0#64 s
  else
    let t := cacheFlush s n ((s.vget n ra).toNat / 64 * 64)
    .go t (nextPc t n) 0

/-- CINV (R108): MACHINE only. -/
def dCinv (ra : Reg) (n : Nat) (s : State) : DRes :=
  if prvOf s n ≠ 3 then .trap 1 0 0#64 s
  else
    let t := cacheDrop s n ((s.vget n ra).toNat / 64 * 64)
    .go t (nextPc t n) 0

/-- Lowest pending and enabled interrupt of Canopy core c: 0 tick point, 1 unit, 2 inter-core, 3 debug. -/
def irqLowest (s : State) (c : Nat) : Option Nat :=
  (List.range 4).find? fun k => wbit (ipend s c &&& (s.srGet (0x40 + c) 0x020).toNat) k

/-- SUB of interrupt k of core c (R110): tick point number, source number, sending core, 0. Of several tick points or sending cores that are
pending, the lowest number comes first, one for each interrupt. DESIGN CHOICE, notes/assumptions/77. -/
def irqSub (s : State) (c k : Nat) : Nat :=
  if k = 0 then ctzN 64 (s.core (0x40 + c)).tps
  else if k = 1 then (unitSource s c).getD 0
  else if k = 2 then ctzN 4 (s.core (0x40 + c)).xcore
  else 0

/-- The core takes note of the interrupt: the tick point, the inter-core interrupt or the debug request it took is no longer pending;
a unit source stays pending with its status bit (07 R195). That taking the interrupt clears the first three is DESIGN CHOICE,
notes/assumptions/77. -/
def irqTaken (s : State) (c k : Nat) : State :=
  let r := s.core (0x40 + c)
  if k = 0 then s.setCore (0x40 + c) { r with tps := r.tps - 2 ^ ctzN 64 r.tps }
  else if k = 2 then s.setCore (0x40 + c) { r with xcore := r.xcore - 2 ^ ctzN 4 r.xcore }
  else if k = 3 then s.setCore (0x40 + c) { r with dreq := false }
  else s

/-- INTERRUPT (R116): between two instructions, with IE 1 and TIP 0, the lowest pending and enabled cause. -/
def execInterrupt (c : Fin 4) (s : State) : Out3 :=
  let n := 0x40 + c.val
  let st := (s.srGet n 0x010).toNat
  .next (
    if (s.core n).run = .run ∨ (s.core n).run = .wait then
      if st / 16 % 2 = 1 ∧ st / 64 % 2 = 0 then
        match irqLowest s c with
        | some k =>
          let t := trapEntry (irqTaken s c k) n (32 + k) (irqSub s c k) 0#64 (s.core n).pc
          t.setCore n { t.core n with run := .run }
        | none => s
      else s
    else s)

/-- WFI_WAKE (R108). -/
def execWfiWake (c : Fin 4) (s : State) : Out3 :=
  .next (if (s.core (0x40 + c.val)).run = .wait ∧ wakes s c = true then
      s.setCore (0x40 + c.val) { s.core (0x40 + c.val) with run := .run } else s)

/-! ### Signals (R125 to R129) -/

/-- Signal ID of LDSIG and STSIG (R125). -/
def sigId (s : State) (n : Nat) (ra : Reg) (off : BitVec 14) : DWord := s.vget n ra + off.zeroExtend 64

/-- LDSIG from copy cp (R127): 8 cycles. -/
def shLdsig (cp : Nat) (rd ra : Reg) (off : BitVec 14) (n : Nat) (s : State) : DRes :=
  let s := sigCount s n (classOf s n) 0x0C
  let id := (sigId s n ra off).toNat
  let a := 0x0200000000 + cp * 0x100000 + 8 * id
  if 131071 < id then .trap 16 0 0#64 s
  else match present s .read (coreXfer s n false) a 8 false with
    | (.error c, t) => .trap 7 c (BitVec.ofNat 64 a) t
    | (.ok _, t) =>
      let (v, u) := deliver t (copyFor t cp (classOf t n)) id
      wb u n rd v 8

/-- LDSIG.IN (R127). -/
def dLdsigIn : Reg → Reg → BitVec 14 → Nat → State → DRes := shLdsig 0
/-- LDSIG.OUT (R127). -/
def dLdsigOut : Reg → Reg → BitVec 14 → Nat → State → DRes := shLdsig 1
/-- LDSIG.PREV (R127). -/
def dLdsigPrev : Reg → Reg → BitVec 14 → Nat → State → DRes := shLdsig 2

/-- STSIG (R128): 2 cycles; mode VALUE or QUALITY. -/
def shStsig (value : Bool) (rs ra : Reg) (off : BitVec 14) (n : Nat) (s : State) : DRes :=
  let s := sigCount s n (classOf s n) 0x0D
  let id := (sigId s n ra off).toNat
  let d := s.descOf id
  let a := 0x0200100000 + 8 * id
  if 131071 < id then .trap 16 0 0#64 s
  else if descType d = 0 then .trap 17 0 0#64 s
  else if descDir d = false then .trap 18 0 0#64 s
  else if descOwner d ≠ classOf s n then .trap 18 1 0#64 s
  else if descPart d ≠ partOf s n then .trap 18 2 0#64 s
  else match present s .write (coreXfer s n false) a 8 false with
    | (.error c, t) => .trap 8 c (BitVec.ofNat 64 a) t
    | (.ok _, t) =>
      let (u, sat) := storeSignal t n id value (t.vget n rs)
      .go (stickA u n false false sat) (nextPc u n) 2

/-- STSIG in mode VALUE (R128). -/
def dStsig : Reg → Reg → BitVec 14 → Nat → State → DRes := shStsig true
/-- STSIG in mode QUALITY (R128). -/
def dStsigQ : Reg → Reg → BitVec 14 → Nat → State → DRes := shStsig false

/-! ### Function blocks (R137, R138) -/

/-- An access of 8 bytes or 1 byte of a block instruction: ADDRESS above 40 bits, else the engine's access. -/
def blockRead (s : State) (n prv a sz : Nat) (k : Nat → State → DRes) : DRes :=
  if 2 ^ 40 ≤ a then .trap 2 0 (BitVec.ofNat 64 a) s
  else match engRead s n prv (partOf s n) a sz with
    | (.ok v, t) => k v t
    | (e, t) => ansTrap true (BitVec.ofNat 64 a) e t

/-- The same for a write. -/
def blockWrite (s : State) (n prv a sz v : Nat) (k : State → DRes) : DRes :=
  if 2 ^ 40 ≤ a then .trap 2 0 (BitVec.ofNat 64 a) s
  else match engWrite s n prv (partOf s n) a sz v with
    | (.ok _, t) => k t
    | (e, t) => ansTrap false (BitVec.ofNat 64 a) e t

/-- First of the writes of 8 bytes that the gate does not admit (R137). -/
def firstDenied (s : State) (n : Nat) : List (Nat × Nat) → Option Nat
  | [] => none
  | (a, _) :: ws => if coreMayWrite s n 1 (partOf s n) a 8 then firstDenied s n ws else some a

/-- Writes one after another. -/
def blockWrites (n : Nat) (k : State → DRes) : List (Nat × Nat) → State → DRes
  | [], s => k s
  | (a, v) :: ws, s => blockWrite s n 1 a 8 v (blockWrites n k ws)

/-- CALLFB (R137): 8 cycles. -/
def dCallfb (ri : Reg) (off : BitVec 16) (n : Nat) (s : State) : DRes :=
  let i := s.vget n ri
  let pc := (s.core n).pc
  let tctx := (s.srGet n 0x006).toNat
  let inst := (s.srGet n 0x005).toNat
  if ri.val = 0 then .trap 0 0 0#64 s
  else if i.toNat % 64 ≠ 0 ∨ 2 ^ 40 ≤ i.toNat then .trap 20 0 0#64 s
  else
    blockRead s n 1 tctx 8 fun fsp s => blockRead s n 1 (tctx + 8) 8 fun flim s =>
      if flim < fsp + 16 then .trap 19 0 0#64 s
      else
        let fr := (tctx + fsp) % 2 ^ 64
        let ws := [(fr, pc.toNat + 4), ((fr + 8) % 2 ^ 64, inst), (tctx, fsp + 16)]
        match ws.find? fun w => decide (2 ^ 40 ≤ w.1) with
        | some w => .trap 2 0 (BitVec.ofNat 64 w.1) s
        | none =>
        match firstDenied s n ws with
          | some a => blockWrite s n 1 a 8 0 fun t => .stop t
          | none =>
            blockWrites n (fun t =>
              let t := t.srSet n 0x005 i
              let t := t.count { code := 0x0F, grove := some (n / 8), mid := n, cls := classOf t n } 1
              .go t (branchTo pc (off.signExtend 64)) 8) ws s

/-- RETFB (R138): 8 cycles. -/
def dRetfb (n : Nat) (s : State) : DRes :=
  let tctx := (s.srGet n 0x006).toNat
  blockRead s n 1 tctx 8 fun fsp s =>
    if fsp ≤ 0x180 then .trap 19 1 0#64 s
    else
      let fr := (tctx + (fsp - 16)) % 2 ^ 64
      blockRead s n 1 fr 8 fun t s =>
        if 2 ^ 40 ≤ t then .trap 2 0 (BitVec.ofNat 64 t) s
        else if t % 4 ≠ 0 then .trap 3 0 (BitVec.ofNat 64 t) s
        else blockRead s n 1 ((fr + 8) % 2 ^ 64) 8 fun inst s =>
          blockWrite s n 1 tctx 8 (fsp - 16) fun s =>
            .go (s.srSet n 0x005 (BitVec.ofNat 64 inst &&& 0xFFFFFFFFC0#64)) (BitVec.ofNat 64 t) 8

/-! ### Edges (R142) -/

/-- A block instruction that reads and writes one place: ADDRESS, then both gate checks, then the accesses (R149, 04 R111). -/
def blockRmw (s : State) (n a sz : Nat) (k : DRes) : DRes :=
  if 2 ^ 40 ≤ a then .trap 2 0 (BitVec.ofNat 64 a) s else rmwGate s n (prvOf s n) (partOf s n) a sz (BitVec.ofNat 64 a) k

/-- Previous-state bit of an edge byte, and cur. EDGE, TMR, CALLFB and RETFB take the count of their Cycles column wherever the block lies;
R88 leaves the duration of loads, stores and AMOs alone open. DESIGN CHOICE, notes/assumptions/77. -/
def shEdge (store : Bool) (cyc : Nat) (q : Bool → Bool → Bool) (rd ra : Reg) (bit : Fin 8) (boff : BitVec 10) (n : Nat) (s : State) : DRes :=
  let a := (s.srGet n 0x005).toNat + boff.toNat
  let cur := s.vget n ra != 0#64
  (if store then blockRmw s n a 1 else id) <| blockRead s n (prvOf s n) a 1 fun b s =>
    let prev := wbit b bit
    let r := res01 (q cur prev)
    if store then
      let b' := b - (if prev then 2 ^ bit.val else 0) + (if cur then 2 ^ bit.val else 0)
      blockWrite s n (prvOf s n) a 1 b' fun s => wb s n rd r cyc
    else wb s n rd r cyc

/-- EDGE.RISE. -/
def dEdgeRise : Reg → Reg → Fin 8 → BitVec 10 → Nat → State → DRes := shEdge true 5 fun cur prev => cur && !prev
/-- EDGE.FALL. -/
def dEdgeFall : Reg → Reg → Fin 8 → BitVec 10 → Nat → State → DRes := shEdge true 5 fun cur prev => !cur && prev
/-- EDGE.CHG. -/
def dEdgeChg : Reg → Reg → Fin 8 → BitVec 10 → Nat → State → DRes := shEdge true 5 fun cur prev => cur != prev
/-- EDGE.PREV. -/
def dEdgePrev (rd : Reg) : Fin 8 → BitVec 10 → Nat → State → DRes := shEdge false 3 (fun _ prev => prev) rd 0
/-- EDGE.SETP. -/
def dEdgeSetp : Reg → Reg → Fin 8 → BitVec 10 → Nat → State → DRes := shEdge true 5 fun cur _ => cur

/-! ### Timers and counters (R143) -/

/-- A timer word as RUN, PIN and start tick. -/
structure TmrWord where
  run : Bool
  pin : Bool
  st : Nat
deriving DecidableEq, Repr

def tmrOf (w : Nat) : TmrWord := ⟨wbit w 63, wbit w 62, w % 2 ^ 62⟩
def tmrBits (t : TmrWord) : Nat := (if t.run then 2 ^ 63 else 0) + (if t.pin then 2 ^ 62 else 0) + t.st % 2 ^ 62

/-- TON: on-delay. Elapsed ticks are exact integers (R144). -/
def tonStep (i : Bool) (t pt : Nat) (w : TmrWord) : Bool × TmrWord :=
  if i = false then (false, ⟨false, i, w.st⟩)
  else
    let st := if w.run then w.st else t
    (decide ((pt : Int) ≤ (t : Int) - st), ⟨true, i, st⟩)

/-- TOF: off-delay. -/
def tofStep (i : Bool) (t pt : Nat) (w : TmrWord) : Bool × TmrWord :=
  if i then (true, ⟨false, i, w.st⟩)
  else
    let run := w.pin || w.run
    let st := if w.pin then t else w.st
    let q := run && decide ((t : Int) - st < pt)
    (q, ⟨run && q, i, st⟩)

/-- TPL: pulse, not retriggerable while running. -/
def tplStep (i : Bool) (t pt : Nat) (w : TmrWord) : Bool × TmrWord :=
  let start := !w.run && i && !w.pin
  let run := start || w.run
  let st := if start then t else w.st
  let q := run && decide ((t : Int) - st < pt)
  (q, ⟨run && q, i, st⟩)

/-- Address of the word of a TMR instruction. -/
def tmrAddr (s : State) (n : Nat) (woff : BitVec 8) : Nat := (s.srGet n 0x005).toNat + 8 * woff.toNat

/-- TON, TOF and TPL: 7 cycles. -/
def shTimer (step : Bool → Nat → Nat → TmrWord → Bool × TmrWord) (rd ra rb : Reg) (woff : BitVec 8) (n : Nat) (s : State) : DRes :=
  let a := tmrAddr s n woff
  blockRmw s n a 8 <| blockRead s n (prvOf s n) a 8 fun w s =>
    let (q, w') := step (s.vget n ra != 0#64) s.seq.tick (s.vget n rb).toNat (tmrOf w)
    blockWrite s n (prvOf s n) a 8 (tmrBits w') fun s => wb s n rd (res01 q) 7

/-- TON. -/
def dTon : Reg → Reg → Reg → BitVec 8 → Nat → State → DRes := shTimer tonStep
/-- TOF. -/
def dTof : Reg → Reg → Reg → BitVec 8 → Nat → State → DRes := shTimer tofStep
/-- TPL. -/
def dTpl : Reg → Reg → Reg → BitVec 8 → Nat → State → DRes := shTimer tplStep

/-- TET: elapsed time, no store; 4 cycles. -/
def dTet (rd rb : Reg) (woff : BitVec 8) (n : Nat) (s : State) : DRes :=
  blockRead s n (prvOf s n) (tmrAddr s n woff) 8 fun w s =>
    let t := tmrOf w
    let v : Int := if t.run then min ((s.seq.tick : Int) - t.st) (s.vget n rb).toNat else 0
    wb s n rd (BitVec.ofInt 64 v) 4

/-- CTU and CTD: 7 cycles; the count steps when IN is set, saturating with ASTAT.SAT. -/
def shCount (d : Int) (q : Int → Int → Bool) (rd ra rb : Reg) (woff : BitVec 8) (n : Nat) (s : State) : DRes :=
  let a := tmrAddr s n woff
  blockRmw s n a 8 <| blockRead s n (prvOf s n) a 8 fun w s =>
    let c := (BitVec.ofNat 64 w).toInt
    let (v, sat) := if s.vget n ra != 0#64 then satTo (-2 ^ 63) (2 ^ 63 - 1) (c + d) else (c, false)
    blockWrite s n (prvOf s n) a 8 (BitVec.ofInt 64 v).toNat fun s =>
      wb (stickA s n false false sat) n rd (res01 (q v (s.vget n rb).toInt)) 7

/-- CTU. -/
def dCtu : Reg → Reg → Reg → BitVec 8 → Nat → State → DRes := shCount 1 fun v pv => decide (pv ≤ v)
/-- CTD. -/
def dCtd (rd ra : Reg) : BitVec 8 → Nat → State → DRes := shCount (-1) (fun v _ => decide (v ≤ 0)) rd ra 0

/-- CLD: 2 cycles. -/
def dCld (rd rb : Reg) (woff : BitVec 8) (n : Nat) (s : State) : DRes :=
  blockWrite s n (prvOf s n) (tmrAddr s n woff) 8 (s.vget n rb).toNat fun s => wb s n rd 0#64 2

/-- TRST: 2 cycles. -/
def dTrst (rd : Reg) (woff : BitVec 8) (n : Nat) (s : State) : DRes :=
  blockWrite s n (prvOf s n) (tmrAddr s n woff) 8 0 fun s => wb s n rd 0#64 2

/-! ### Yield and end of task (R146) -/

/-- A task in YIELD whose context save took its count to the budget: it is stopped in its final tick, else suspended (03 R58, R61). -/
def yieldBudget (s : State) (n c : Nat) : State :=
  if budgetUsed s n && (s.task n c).st == .yielded then
    (if finalTick s c then overrunTask s n c else s.setTask n c { s.task n c with st := .suspended })
  else s

/-- YIELD: 2 cycles and the context save; the engine runs its next ready task. A task that has used its budget with these 2 cycles, or with
the 80 of the save, does not wait for a tick point: it is stopped or suspended (03 R61). -/
def dYieldTask (n : Nat) (s : State) : DRes :=
  match (s.core n).task with
  | some c =>
    let t := (charge (countInstr s n) n 2).setPc n (nextPc s n)
    .stop (if budgetUsed t n then exhaust t n else actSettle (leaveEngine (yieldBudget (ctxSave t n c .yielded) n c) n) c)
  | none => .go s (nextPc s n) 2

/-- ENDTASK: 2 cycles; the task's share of its activation ends. Reaching the budget with it is an overrun in any tick (03 R62;
notes/assumptions/44), and a task that has taken an exception other than SCALL ends with one (04 R117). -/
def dEndtask (n : Nat) (s : State) : DRes :=
  match (s.core n).task with
  | some c =>
    let t := (charge (countInstr s n) n 2).setPc n (nextPc s n)
    let t := if budgetUsed t n then overrunTask t n c
      else
        let u := keepTask t n c .ended
        u.setTask n c { u.task n c with overrun := (u.task n c).overrun || (u.task n c).trapped }
    .stop (actSettle (leaveEngine t n) c)
  | none => .go s (nextPc s n) 2

end Sys2Proof.Machine
end

