-- ==== Sys2Proof/Machine/Grove.lean ====
section
/-! DEFINITION. Groves and comparators (chapter 06): the Grove start, comparator tests, the scrubber, and the steps of a Grove recovery. -/

namespace Sys2Proof.Machine

open Sys2Proof

/-! ### Recovery steps (R170 to R172) -/

/-- Step 2 goes on once the Grove is OFF: the module switches its domain off (R170; 01 R25). -/
def cycleDomain (s : State) (g : Fin 8) : State :=
  let u : UnitId := .domain ⟨g.val, by omega⟩
  if s.phase g = 2 ∧ s.unitState (.grove g) = 0 ∧ s.unitState u = 2 then hwStopOne s u else s

/-- Step 2: the module switches the domain of a recovering Grove on again once its off-time is over (R170; EN reads 1 from then on:
notes/assumptions/78). -/
def domainAgain (s : State) (g : Fin 8) : State :=
  let u : UnitId := .domain ⟨g.val, by omega⟩
  if s.phase g = 2 ∧ s.unitState (.grove g) = 0 ∧ s.unitState u = 0 ∧ offTimeOver s u = true then enterStarting (s.wr (enAddr u) U_EN 1) u
  else s

/-- Step 3 begins: the Grove starts (R157). -/
def recoverStart (s : State) (g : Fin 8) : State :=
  if s.unitState (.grove g) = 0 ∧ parentOn s (.grove g) = true then
    enterStarting ((s.setPhase g 3).wr (GRV_EN g) U_EN 1) (.grove g)
  else s

/-- The domain of a recovering Grove is ON again: step 3 begins by itself with AUTO_RECOVER (R170), unless no later step may (R172). -/
def recoverPowered (s : State) (g : Fin 8) : State :=
  if s.phase g = 2 ∧ (s.grove g).stuck = false ∧ s.on (GRV_CFG g) GRV_CFG_AUTO_RECOVER then recoverStart s g else s

/-- The attempt fails: back to step 2 (R171). -/
def recoverFail (s : State) (g : Fin 8) : State :=
  if (s.grove g).stuck then s else cycleDomain (beginStep2 s g) g

/-- Step 6 is complete: the Grove's engines run from the next REL, and one tick of matching digests reopens the gate (R169, R170). -/
def recoverJoin (s : State) (g : Fin 8) : State :=
  let s := (List.range 8).foldl (fun (t : State) (i : Nat) =>
      let e := 8 * g.val + i
      engIdle ((t.setCore e { t.core e with task := none }).wr (ENG_STATUS e) ENG_STATUS_STATE 0) e)
    ((s.wr (GRV_STATUS g) GRV_STATUS_ISOLATED 0).wr (GRV_STATUS g) GRV_STATUS_RESYNC 0)
  (s.setGrove g { s.grove g with conv := 0, debugHalt := false }).setPhase g 7

/-- A tick of matching digests in step 7: the gate stays closed in this tick and opens in the next (R169). -/
def recoverMatch (s : State) : State :=
  (List.finRange 8).foldl (fun t g => if t.phase g = 7 then t.setGrove g { t.grove g with matched := true } else t) s

/-- At the input instant after that tick step 7 is complete (R169, R170). -/
def recoverOpen (s : State) : State :=
  updateHold ((List.finRange 8).foldl (fun t g =>
    if t.phase g = 7 ∧ (t.grove g).matched = true then (t.setGrove g { t.grove g with hold := false, matched := false }).setPhase g 0
    else t) s)

/-- PHASE of the partner's Grove g, as its last OUTDIG gave it. -/
def parPhase (s : State) (g : Nat) : Nat := s.pair.parGrv / 2 ^ (3 * g) % 8

/-- Whether a partner can serve the recovery of Grove g (R172): none in ALONE, SOLO and ISOLATED, where it is lost, and none whose same Grove
is itself isolated (steps 1 to 6). -/
def canServe (s : State) (g : Nat) : Bool :=
  match s.role with
  | .alone => false
  | .solo => false
  | .isolated => false
  | .active => !(decide (1 ≤ parPhase s g) && decide (parPhase s g ≤ 6))
  | .standby => !(decide (1 ≤ parPhase s g) && decide (parPhase s g ≤ 6))
  | _ => true

/-- R172 at CLEAR: a Grove in RESYNC without a partner to recover from goes no further, and the module enters STOPPED. -/
def recoverAlone (s : State) : State :=
  let lost := (List.finRange 8).filter fun g => s.on (GRV_STATUS g) GRV_STATUS_RESYNC && !(s.grove g).stuck && !canServe s g
  if lost ≠ [] then
    let t := sendLeave (lost.foldl (fun t g => t.setGrove g { t.grove g with stuck := true }) s)
    { setRole t .stopped none with seq := { (setRole t .stopped none).seq with gate := .safe } }
  else s

/-- What a Clearing does for Grove g (R157, R159, R170, R172): a stop completes, a finished start reaches ON, a Grove that goes no further
is brought OFF, and the tick counts for step 6. -/
def groveClear (s : State) (g : Fin 8) : State :=
  let st := s.unitState (.grove g)
  if st = 3 then
    let t := stopDone s (.grove g)
    cycleDomain t g
  else if st = 1 ∧ (s.grove g).start = 3 then
    let t := (s.wr (GRV_EN g) U_STATE 2).setGrove g { s.grove g with start := 0 }
    if t.phase g = 3 ∧ (t.grove g).stuck = false then t.setPhase g 4 else t
  else if st = 2 ∧ (s.grove g).stuck = true ∧ ¬ (s.phase g = 4 ∧ (s.grove g).reloaded = false) then
    let t := (s.wr (GRV_EN g) U_EN 0).wr (GRV_EN g) U_HWSTOP 1
    stopDone (enterStopping t (.grove g)) (.grove g)
  else if s.phase g = 6 then s.setGrove g { s.grove g with conv := (s.grove g).conv + 1 }
  else s

/-! ### The Grove start (R157) -/

/-- The bytes of a range read as nothing has written them. -/
def clearMem (s : State) (lo hi : Nat) : State :=
  { s with mem := s.mem.filter (fun e => decide (e.1 < lo) || decide (hi ≤ e.1)),
           ecc := s.ecc.filter (fun e => decide (e.1 < lo) || decide (hi ≤ e.1)) }

/-- All Sapwood and code banks of a Grove cleared with valid ECC. -/
def clearBanks (s : State) (g : Fin 8) : State :=
  let t := clearMem s (0x0100000000 + g * 0x01000000) (0x0100000000 + (g + 1) * 0x01000000)
  let t := clearMem t (0x0180000000 + g * 0x00800000) (0x0180000000 + (g + 1) * 0x00800000)
  t.setGrove g { t.grove g with wrote := [], dirty := [], dirtyP := [] }

/-- Step 3 of a start: every engine reset as R81 states, TVEC loaded from ENG_TVEC, IDLE. -/
def resetEngines (s : State) (g : Fin 8) : State :=
  (List.range 8).foldl (fun t i =>
    let e := 8 * g.val + i
    let c := (coreReset e).srSet e 0x011 (BitVec.ofNat 64 (t.rd (ENG_TVEC e) ENG_TVEC_TVEC * 4096))
    let t := (List.range 16).foldl (fun t c => t.setTask e c Task.idle) (t.setCore e c)
    (t.wr (ENG_STATUS e) ENG_STATUS_STATE 0).wr (ENG_STATUS e) ENG_STATUS_CLASS 0) s
  |> muteEnd

/-- The unit that a comparator serves (R162 table), if it is a switchable unit. -/
def cmpUnits (k : Fin 108) : List UnitId :=
  if h : k.val < 64 then [.grove ⟨k.val / 8, by omega⟩]
  else if h2 : k.val < 72 then []
  else if h3 : k.val < 96 then [.portS ⟨k.val - 72, by omega⟩, .portP ⟨k.val - 72, by omega⟩]
  else if h4 : k.val < 100 then [.eth ⟨k.val - 96, by omega⟩]
  else [.can ⟨k.val - 100, by omega⟩]

/-- Whether the power domain of a comparator is ON (D1 of comparators 64 to 71 always is). -/
def cmpPowered (s : State) (k : Fin 108) : Bool :=
  if h : k.val < 64 then s.isOn (.domain ⟨k.val / 8, by omega⟩)
  else if k.val < 72 then true
  else if k.val < 84 then s.isOn (.domain 8)
  else if k.val < 96 then s.isOn (.domain 9)
  else s.isOn (.domain 10)

/-- Whether a comparator may be tested by LSC_CMD.TEST (R165). -/
def cmpTestable (s : State) (k : Fin 108) : Bool :=
  cmpPowered s k && (s.role == .maintenance || (cmpUnits k != [] && (cmpUnits k).all fun u => s.unitState u == 0))

/-- LSC_CMD.TEST on comparator SEL (R165). -/
def lscTest (s : State) (sel : Nat) : State :=
  let s := s.wr LSC_CMD LSC_CMD_SEL sel
  if h : sel < 108 then (if cmpTestable s ⟨sel, h⟩ then cmpTestStart s sel else s) else s

/-- A failing start of a unit; in step 3 of a recovery the attempt fails (R171). -/
def startFailed (s : State) (u : UnitId) : State :=
  let t := startFails s u
  match u with
  | .grove g => if s.unitState u = 1 ∧ s.phase g = 3 then recoverFail t g else t
  | _ => t

/-- A unit whose other start work is done is ON once its comparator has passed (R165): an ETH port whose link is up, a CAN controller that has
left the bus-off state. -/
def testPassed (s : State) (k : Fin 108) : State :=
  if h : 96 ≤ k.val ∧ k.val < 100 then
    (if s.on (ETH_STATUS (k - 96)) ETH_STATUS_LINK then startDone s (.eth ⟨k.val - 96, by omega⟩) else s)
  else if h : 100 ≤ k.val then
    (if s.rd (CAN_STATUS (k - 100)) CAN_STATUS_ESTATE ≠ 2 then startDone s (.can ⟨k.val - 100, by omega⟩) else s)
  else s

/-- Result of a comparator test (R164), with what a unit's start makes of it (R157, R165): a transfer engine that fails its test stays
stopped. The boot's part stands in Boot.lean. -/
def cmpTestDone (s : State) (k : Fin 108) (failed : BitVec 16) : State :=
  let a := LSC_CMP k
  if s.on a LSC_CMP_BUSY = false then s
  else
    let t := (((s.wr a LSC_CMP_BUSY 0).wr a LSC_CMP_TESTED 1).wr a LSC_CMP_PASS (if failed = 0#16 then 1 else 0)).wr a
      LSC_CMP_LANES failed.toNat
    if h : k.val < 64 then
      let g : Fin 8 := ⟨k.val / 8, by omega⟩
      if (t.grove g).start = 2 then
        if (List.range 8).any fun i => t.on (LSC_CMP (8 * g + i)) LSC_CMP_BUSY then t
        else if (List.range 8).all fun i => t.on (LSC_CMP (8 * g + i)) LSC_CMP_PASS then
          (resetEngines t g).setGrove g { t.grove g with start := 3 }
        else startFailed (t.setGrove g { t.grove g with start := 0 }) (.grove g)
      else t
    else if k.val = 71 then t.setChg fun c => { c with teDown := decide (failed ≠ 0#16) }
    else if failed = 0#16 then testPassed t k
    else if 64 ≤ k.val ∧ k.val ≤ 70 ∧ s.role = .booting then enterFaulted t true
    else (cmpUnits k).foldl startFailed t

/-! ### The scrubber (R156) -/

/-- What the scrubber does with one word that has an error. -/
def scrubWord (s : State) (a : Nat) (e : EccErr) : State :=
  match e with
  | .corrected => correctEcc s a
  | .uncorrectable => ueGrove s a 8 false (match groveOfAddr s a with
    | some (_, i, _) => i
    | none => 0)

/-- Whether a word lies in the banks of a Grove. -/
def inBanks (g : Fin 8) (a : Nat) : Bool :=
  match mapOf a with
  | some (.sapwood h, _, true) => h == g.val
  | some (.code e, _, true) => e / 8 == g.val
  | _ => false

/-- SCRUB: every word of the Grove's banks is read once. -/
def scrub (s : State) (g : Fin 8) : State :=
  if s.isOn (.grove g) then
    (s.ecc.filter fun e => inBanks g e.1).foldl (fun t e =>
      match e.2 with
      | some x => scrubWord t e.1 x
      | none => t) s
  else s

/-! ### Meanings -/

/-- SCRUB (R156). -/
def execScrub (g : Fin 8) (s : State) : Out3 := .next (scrub s g)

/-- TEST (R165). -/
def execTest (_m : Master) (sel : Fin 108) (s : State) : Out3 := .next (lscTest s sel)

/-- GROVE_COPPICE_BULK_DONE (R170): step 5 is complete. -/
def execGroveCoppiceBulkDone (g : Fin 8) (s : State) : Out3 :=
  .next (if s.phase g = 5 ∧ (s.grove g).stuck = false then
      (s.setGrove g { s.grove g with conv := 0 }).setPhase g 6
    else s)

/-- GROVE_RECOVERY_TIMEOUT (R171): step 6 has not completed within 256 ticks. -/
def execGroveRecoveryTimeout (g : Fin 8) (s : State) : Out3 :=
  .next (if s.phase g = 6 ∧ 256 ≤ (s.grove g).conv then recoverFail s g else s)

end Sys2Proof.Machine
end

