-- ==== Sys2Proof/Machine/Pair.lean ====
section
/-! DEFINITION. The pair (chapter 10), first part: heartbeats and paths, the ring witness, joining and HELLO, TIME, commands of PAR_CMD,
swap, and the role change at an input instant. -/

namespace Sys2Proof.Machine

open Sys2Proof

/-! ### Small operations -/

/-- Replace the pair manager's own state. -/
def State.setPair (s : State) (f : PairSt → PairSt) : State := { s with pair := f s.pair }

/-- Raise a PAR_EVT bit. -/
def parEvt (s : State) (f : Fld) : State := s.raise 10 PAR_EVT f

/-- A PAR_CMD write is refused with a code. -/
def parRej (s : State) (code : Nat) : State := (s.wr PAR_CMDSTAT PAR_CMDSTAT_REJ 1).wr PAR_CMDSTAT PAR_CMDSTAT_CODE code

/-- Partner's role as last heard. -/
def State.prole (s : State) : Role := roleOf (s.rd PAR_STATUS PAR_STATUS_PROLE)

/-- Whether either path holds. -/
def anyPath (s : State) : Bool := s.on HB_STATUS HB_STATUS_PATH_L || s.on HB_STATUS HB_STATUS_PATH_H

/-- One fragment of a message and those kept of the same TYPE, TICK_LO and MSGID, if they are the whole of it: the message (R264). -/
def reassemble (fs : List (Hdr × LaneMsg)) : Option LaneMsg :=
  match fs.find? fun e => !e.1.more with
  | none => none
  | some e =>
    match (List.range (e.1.frag.toNat + 1)).mapM fun i => (fs.find? fun x => x.1.frag.toNat == i).map Prod.snd with
    | some (m :: ms) => some (ms.foldl joinMsg m)
    | _ => none

/-- Whether two frames carry parts of one message (R264). -/
def sameMsg (h : Hdr) (m : LaneMsg) (e : Hdr × LaneMsg) : Bool :=
  e.1.tickLo == h.tickLo && e.1.msgid == h.msgid && msgType e.2 == msgType m

/-- A lane message: a wrong CRC is counted and discarded (R264); one of the module's own position is discarded too. -/
def laneMsg (h : Hdr) (f : State → State) (s : State) : State :=
  if h.crcOk = false then s.bump (PAR_PLCNT h.lane 0) PAR_PLCNT_COUNT 1
  else if h.pos = s.on PAR_STATUS PAR_STATUS_POS then s
  else f s

/-- A frame of a message that may come in fragments: with the last of them the message is whole, and f does what it does (R264). -/
def laneFrag (h : Hdr) (m : LaneMsg) (f : LaneMsg → State → State) : State → State :=
  laneMsg h fun s =>
    if h.frag = 0 ∧ h.more = false then f m s
    else
      let own := (s.pair.frags.filter (sameMsg h m)).filter (fun e => e.1.frag != h.frag) ++ [(h, m)]
      let rest := s.pair.frags.filter fun e => !sameMsg h m e
      match reassemble own with
      | some w => f w (s.setPair fun p => { p with frags := rest })
      | none => s.setPair fun p => { p with frags := rest ++ own }

/-- Whether a message belongs to the running tick. -/
def ofTick (s : State) (h : Hdr) : Bool := h.tickLo == BitVec.ofNat 32 s.seq.tick

/-- SHA-384 as a number of 384 bits. -/
def sha (l : List Byte) : BitVec 384 := BitVec.ofNat 384 (leVal (Config.sha384 l))

/-- Digest of the module's Canopy package, zeros where it holds none (R265). -/
def pkgDigest (s : State) : BitVec 384 := if s.chg.canopy = [] then 0#384 else sha s.chg.canopy

/-! ### HELLO and joining (R261, R262, R283, R380) -/

/-- The module's HELLO. -/
def helloNow (s : State) : Hello :=
  { fmt := BitVec.ofNat 16 s.fw.fmt, role := BitVec.ofNat 4 (s.rd PAR_STATUS PAR_STATUS_ROLE), tickLen := BitVec.ofNat 32 s.tickLen,
    tick := BitVec.ofNat 64 s.seq.tick, digest := pkgDigest s, vers := s.fw.vers }

/-- The check of R380 that this module makes of its partner's HELLO. -/
def helloCompat (s : State) (m : Hello) : Bool :=
  let v := (m.vers.getD 1 0#32).toNat
  decide (s.fw.pairMin ≤ v) && decide (v ≤ s.fw.pairMax)
    && (m.fmt.toNat == s.fw.fmt || m.fmt.toNat == s.fw.fmt + 1 || (m.fmt.toNat + 1 == s.fw.fmt && s.fw.conv))

/-- The source answers a HELLO: dirty tracking for the Coppice, the force entries in force, the package where digests differ (R283, R285). An
ACTIVE module whose partner leaves STANDBY to join turns SOLO at the same input instant (R261). -/
def helloAnswer (s : State) : State :=
  match s.pair.hello with
  | none => s
  | some m =>
    let s := if s.role = .active then requestRole s .solo none else s
    let t := sendLane (s.setPair fun p => { p with source := true, helloDue := false, asked := false }) (.hello (helloNow s))
    let t := sendLane t (.force (BitVec.ofNat 64 (max 1 s.seq.tick)) (activeCopy s))
    if m.digest = pkgDigest s ∨ s.chg.canopy = [] then t else sendLane t (.stage (.pkg s.chg.canopy s.chg.quotas))

/-! ### Mode (03 R68 to R70) -/

/-- Replace the sequencer's own state. -/
def State.setSeq (s : State) (f : Seq → Seq) : State := { s with seq := f s.seq }

/-- Whether the role permits free mode (03 R68). -/
def freeAllowed (s : State) : Bool := s.role == .booting || s.role == .alone || s.role == .maintenance

/-- A held answer to a HELLO leaves once the module is in locked mode and has no announced apply (03 R68, R283). -/
def helloServe (s : State) : State :=
  if s.pair.helloDue && !s.freeMode && s.rd CHG_STATE CHG_STATE_STATE != 5 && s.role.master then helloAnswer s else s

/-- A change of mode takes effect: activations are abandoned and the image buffers change their use (03 R68, R70); a held answer to a HELLO
leaves once locked mode is there. -/
def changeMode (s : State) (free : Bool) : State :=
  if s.freeMode = free then s
  else
    let t := abandonAll s
    let t := if free then imageToFree t else imageToLocked t
    helloServe ((t.flag TSQ_STATUS TSQ_STATUS_MODE free).setSeq fun q => { q with held := false })

/-- A request of MODE_REQ that stands takes effect, or is refused because the role no longer permits it (03 R68). -/
def modeTake (s : State) : State :=
  let free := s.on TSQ_CTRL TSQ_CTRL_MODE_REQ
  if free && !s.freeMode && !freeAllowed s then
    (s.raise 1 TSQ_STATUS TSQ_STATUS_MODE_REJ).wr TSQ_CTRL TSQ_CTRL_MODE_REQ 0
  else changeMode s free

/-- Locked mode is asked for; while the sequencer does not run it takes effect at once (03 R68). -/
def askLocked (s : State) : State :=
  let t := s.wr TSQ_CTRL TSQ_CTRL_MODE_REQ 0
  if t.on TSQ_STATUS TSQ_STATUS_RUNNING then t else modeTake t

/-- A change of role into SYNCING is requested; a module in free mode first asks for locked mode (03 R68). -/
def requestSync (s : State) (epoch : Option Nat) : State := askLocked (requestRole s .syncing epoch)

/-- The module is about to enter SYNCING: phase 1, one HELLO (R265, R283). -/
def beginJoin (s : State) : State :=
  if s.rd PAR_COPP PAR_COPP_PHASE = 0 then sendLane (s.wr PAR_COPP PAR_COPP_PHASE 1) (.hello (helloNow s)) else s

/-- Phase 1 fails (R283). -/
def joinFails (s : State) : State :=
  let t := parEvt (s.wr PAR_COPP PAR_COPP_PHASE 0) PAR_EVT_COMPAT
  match s.role with
  | .alone => requestRole t .isolated none
  | .solo => requestRole t .isolated none
  | .standby => requestRole t .isolated none
  | _ => t

/-- Epoch that SYNCING brings: the source's, or own + 1 from STANDBY, where both count (R261). -/
def joinEpoch (s : State) : Option Nat := if s.role = .standby then none else some (s.rd PAR_EPOCH PAR_EPOCH_PEPOCH)

/-- Phase 1 accepts: SYNCING at the next input instant, or first the source's package is taken (R283, R285). -/
def joinAccepts (s : State) (m : Hello) : State :=
  if m.digest = pkgDigest s then requestSync s (joinEpoch s) else s.setPair fun p => { p with taking := true }

/-- Whether the module wins a meeting of tick masters (R262). -/
def meetWins (s : State) : Bool :=
  let own := s.role
  let par := s.prole
  if own = .solo ∧ par = .alone then true
  else if own = .alone ∧ par = .solo then false
  else
    let d := (s.rd PAR_EPOCH PAR_EPOCH_EPOCH + 65536 - s.rd PAR_EPOCH PAR_EPOCH_PEPOCH) % 65536
    if d = 0 ∨ d = 0x8000 then !s.on PAR_STATUS PAR_STATUS_POS else decide (d < 0x8000)

/-- Both modules are tick masters: the loser begins to join (R262). -/
def meeting (s : State) : State :=
  if (s.role = .alone ∨ s.role = .solo) ∧ (s.prole = .alone ∨ s.prole = .solo) ∧ meetWins s = false then beginJoin s else s

/-- A module in BOOTING that hears a partner that is not BOOTING never enters ALONE (R262). -/
def dropAlone (s : State) : State :=
  if s.role = .booting ∧ s.prole ≠ .booting then
    s.setPair fun p => { p with pend := p.pend.filter fun c => c.role != roleCode .alone }
  else s

/-- A released BOOTING module leaves BOOTING as the partner it hears allows (R261, R262). -/
def leaveBooting (s : State) : State :=
  let s := dropAlone s
  if s.role = .booting ∧ s.pair.go = true then
    if s.prole = .booting then
      (if s.on PAR_STATUS PAR_STATUS_POS then s else requestRole s .alone (some 1))
    else if s.prole = .alone ∨ s.prole = .solo then beginJoin s
    else s
  else s

/-- HELLO received (R283, R258): a tick master answers its partner, the winner of a meeting the loser (R262). -/
def helloRecv (h : Hdr) (m : Hello) (s : State) : State :=
  if h.crcOk = false then s.bump (PAR_PLCNT h.lane 0) PAR_PLCNT_COUNT 1
  else if h.pos = s.on PAR_STATUS PAR_STATUS_POS then
    (if s.role = .booting then parEvt (s.setPair fun p => { p with go := false, pend := none }) PAR_EVT_POS_CONFLICT else s)
  else
    let s := (s.wr PAR_STATUS PAR_STATUS_PROLE m.role.toNat).wr PAR_EPOCH PAR_EPOCH_PEPOCH h.epoch.toNat
    let s := s.setPair fun p => { p with hello := some m, quietFrom := s.clk.mono }
    let phase := s.rd PAR_COPP PAR_COPP_PHASE
    let partnerMaster := s.prole.master
    let wins := (s.role = .alone ∨ s.role = .solo) ∧ (s.prole = .alone ∨ s.prole = .solo) ∧ meetWins s = true
    if phase = 1 ∧ partnerMaster = true then (if helloCompat s m then joinAccepts s m else joinFails s)
    else if s.role.master = true ∧ (partnerMaster = false ∨ wins) then
      let t := s.setPair fun p => { p with helloDue := true }
      helloServe (if t.freeMode then askLocked t else t)
    else leaveBooting (meeting s)

/-! ### Heartbeats and paths (R268 to R272, R288) -/

/-- Count of one path at the end of a period (R269). -/
def pathPeriod (s : State) (p : PathSt) (line : Bool) : PathSt × State :=
  let miss := if line then HB_STATUS_MISS_H else HB_STATUS_MISS_L
  if p.got then (⟨false, min (s.rd HB_CFG HB_CFG_RETURN_N) (p.good + 1)⟩, s.wr HB_STATUS miss 0)
  else (⟨false, 0⟩, (s.bump HB_STATUS miss 1).bump (HB_CNT_MISS (if line then 1 else 0)) HB_CNT_MISS_COUNT 1)

/-- HEARTBEAT_PERIOD: the ended period is counted, and one heartbeat leaves on each lane that is ON and on the HB line (R268, R269). -/
def heartbeatPeriod (s : State) : State :=
  let heard := s.pair.lane.got || s.pair.line.got
  let (pl, s) := pathPeriod s s.pair.lane false
  let (ph, s) := pathPeriod s s.pair.line true
  let s := (s.setPair fun p => { p with lane := pl, line := ph }).flag PAR_STATUS PAR_STATUS_PHEARD heard
  let b := hbBody s
  let (etx, erx) := s.pair.echo
  let st : HbStamps := ⟨s.short, etx, BitVec.ofNat 32 ((s.short.toNat + 2 ^ 32 - erx) % 2 ^ 32)⟩
  let s := if s.isOn (.lane 0) then sendOn s 0 (.heartbeat b st) else s
  let s := if s.isOn (.lane 1) then sendOn s 1 (.heartbeat b st) else s
  let s := sendLine s false b
  s.setPair fun p => { p with period := (p.period + 1) % 65536 }

/-- Mean of the lane-delay values (R267). -/
def laneDelay (l : List Nat) : Nat := if l = [] then 0 else l.foldl (· + ·) 0 / l.length

/-- The stamps of a lane heartbeat (R265, R267): delay ((RX − ECHO_TX) − TURN) / 2, and the echo of the next heartbeat. -/
def laneStamps (s : State) (st : HbStamps) : State :=
  let rx := s.short
  let d := (rx - st.echoTx - st.turn).toNat / 2
  let l := if st.echoTx = 0#32 then s.pair.delays else (s.pair.delays ++ [d]).drop (s.pair.delays.length + 1 - 16)
  (s.setPair fun p => { p with delays := l, echo := (st.tx, rx.toNat) }).wr PAR_LANE PAR_LANE_DELAY (laneDelay l)

/-- What the module does with the partner's role and epoch, heard in a heartbeat or an OUTDIG (R261, R262, R279, R288). -/
def partnerRole (s : State) (role epoch : Nat) : State :=
  let old := s.prole
  let new := roleOf role
  let s := (s.wr PAR_STATUS PAR_STATUS_PROLE role).wr PAR_EPOCH PAR_EPOCH_PEPOCH epoch
  let s := if s.role = .active then
      if new = .active ∧ epoch = (s.rd PAR_EPOCH PAR_EPOCH_EPOCH + 1) % 65536 then requestRole s .standby (some epoch)
      else if new = .stopped then s.setPair fun p => { p with parStop := true }
      else if old = .standby ∧ new ≠ .standby ∧ new ≠ .active then requestRole s .solo none
      else s
    else if s.role = .standby ∧ new = .stopped then s.setPair fun p => { p with parStop := true }
    else s
  leaveBooting (meeting s)

/-- A frame of a path with a wrong CRC is discarded and counted (R264; HB_CNT_ERR). -/
def pathCrc (path : Path) (s : State) : State :=
  match path with
  | .lane l => s.bump (PAR_PLCNT l 0) PAR_PLCNT_COUNT 1
  | .hb => s.bump HB_CNT_ERR HB_CNT_ERR_COUNT 1

/-- A heartbeat on a path (R268, R269): it counts for the period in which it arrives, half-open (02 R46), since the command that ends a period
stands between those before and after its end. -/
def heartbeatRecv (path : Path) (crcOk : Bool) (b : HbBody) (st : Option HbStamps) (s : State) : State :=
  if crcOk = false then pathCrc path s
  else if b.pos = s.on PAR_STATUS PAR_STATUS_POS then s
  else
    let s := s.setPair fun p =>
      match path with
      | .lane _ => { p with lane := { p.lane with got := true }, quietFrom := s.clk.mono }
      | .hb => { p with line := { p.line with got := true }, quietFrom := s.clk.mono }
    let s := (s.wr HB_LASTK HB_LASTK_LASTK b.k.toNat).wr HB_STATUS HB_STATUS_LASTK (b.k.toNat % 256)
    let s := match path, st with
      | .lane _, some x => laneStamps s x
      | _, _ => s
    partnerRole s b.role.toNat b.epoch.toNat

/-- A STANDBY module whose lane path is lost while its HB path holds mutes (R272). -/
def laneMute (s : State) : State :=
  if s.role = .standby ∧ s.on HB_STATUS HB_STATUS_PATH_L = false ∧ s.on HB_STATUS HB_STATUS_PATH_H = true then
    s.wr PAR_STATUS PAR_STATUS_LANE_MUTE 1
  else s

/-- A path is lost (R269 to R272): four missed periods in a row while it holds. -/
def pathLost (line : Bool) (s : State) : State :=
  let f := if line then HB_STATUS_PATH_H else HB_STATUS_PATH_L
  let miss := s.rd HB_STATUS (if line then HB_STATUS_MISS_H else HB_STATUS_MISS_L)
  if s.on HB_STATUS f = true ∧ 4 ≤ miss then
    let t := (s.wr HB_STATUS f 0).raise 11 HB_EVT HB_EVT_LOST
    if anyPath t then
      laneMute t
    else
      let t := (t.wr PAR_STATUS PAR_STATUS_LANE_MUTE 0).raise 11 HB_EVT HB_EVT_BOTH
      t.setPair fun p => { p with lostAt := some t.clk.mono }
  else s

/-- A lost path returns after RETURN_N valid periods (R269): the witness window is abandoned, SPLIT clears; a muted STANDBY module and an
ISOLATED module begin to join (R261, R270, R272). -/
def pathReturn (line : Bool) (s : State) : State :=
  let f := if line then HB_STATUS_PATH_H else HB_STATUS_PATH_L
  let p := if line then s.pair.line else s.pair.lane
  if s.on HB_STATUS f = false ∧ s.rd HB_CFG HB_CFG_RETURN_N ≤ p.good then
    let t := (s.wr HB_STATUS f 1).raise 11 HB_EVT HB_EVT_BACK
    let t := (t.wr PAR_STATUS PAR_STATUS_SPLIT 0).wr PAR_STATUS PAR_STATUS_WITNESS 0
    let t := laneMute (t.setPair fun p => { p with lostAt := none, witness := none, decision := none })
    if t.role = .standby ∧ line = false ∧ t.on PAR_STATUS PAR_STATUS_LANE_MUTE = true then
      beginJoin (t.wr PAR_STATUS PAR_STATUS_LANE_MUTE 0)
    else if t.role = .isolated ∧ (t.prole = .active ∨ t.prole = .solo) then beginJoin t
    else if t.role = .syncing ∧ t.rd PAR_COPP PAR_COPP_PHASE = 1 then sendLane t (.hello (helloNow t))
    else t
  else s

/-! ### The ring witness (R270) and LEAVE (R271) -/

/-- WITNESS_WINDOW_START: 200 µs after the loss of both paths. -/
def witnessStart (s : State) : State :=
  match s.pair.lostAt with
  | some d =>
    let samples := s.role = .standby ∨ s.role = .active ∨ s.role = .syncing ∨ s.role = .isolated
    if samples ∧ s.pair.witness = none ∧ s.pair.decision = none ∧ d + 200000 ≤ s.clk.mono then
      (s.setPair fun p => { p with witness := some ⟨s.clk.mono, s.clk.mono + 2 * s.tickLen, false⟩ }).wr PAR_STATUS PAR_STATUS_WITNESS 1
    else s
  | none => s

/-- A frame of the partner's SRC and POS has been received with a good CRC on a ring port: it counts before the window's end (00 R2). -/
def witnessFrame (s : State) (pos : Bool) : State :=
  if pos = s.on PAR_STATUS PAR_STATUS_POS then s
  else s.setPair fun p => { p with
    quietFrom := s.clk.mono,
    witness := match p.witness with
      | some w => some { w with positive := w.positive || decide (s.clk.mono < w.stop) }
      | none => none }

/-- What a module does when the witness is negative, or on LEAVE (R270, R271): one that enters STOPPED alone sends LEAVE on what it holds. -/
def partnerGone (s : State) : State :=
  match s.role with
  | .standby => requestRole s .solo none
  | .active => requestRole s .solo none
  | .isolated => requestRole s .solo none
  | .syncing => requestRole (sendLeave s) .stopped none
  | _ => s

/-- WITNESS_END: the window of the ring witness ends; the decision is taken at the next input instant (R270). -/
def witnessEnd (s : State) : State :=
  match s.pair.witness with
  | some w =>
    if s.clk.mono < w.stop then s
    else (s.setPair fun p => { p with witness := none, decision := some w.positive }).wr PAR_STATUS PAR_STATUS_WITNESS 0
  | none => s

/-- The decision on loss of both paths, at the first input instant after the window (R270). -/
def witnessDecide (s : State) : State :=
  match s.pair.decision with
  | some positive =>
      let t := s.setPair fun p => { p with decision := none }
      if positive = false then partnerGone (t.setPair fun p => { p with lostAt := none })
      else match t.role with
        | .standby => requestRole (t.setPair fun p => { p with lostAt := some t.clk.mono }) .isolated none
        | .active => (parEvt (t.wr PAR_STATUS PAR_STATUS_SPLIT 1) PAR_EVT_SPLIT).setPair fun p => { p with lostAt := some t.clk.mono }
        | .isolated => t.setPair fun p => { p with lostAt := some t.clk.mono }
        | .syncing => (t.wr PAR_COPP PAR_COPP_PHASE 1).setPair fun p => { p with lostAt := none }
        | _ => t
  | none => s

/-- LEAVE received (R271). -/
def leaveRecv (path : Path) (crcOk : Bool) (b : HbBody) (s : State) : State :=
  if crcOk = false then pathCrc path s
  else if b.pos = s.on PAR_STATUS PAR_STATUS_POS then s
  else partnerGone ((s.wr PAR_STATUS PAR_STATUS_PROLE b.role.toNat).raise 11 HB_EVT HB_EVT_LEAVE)

/-! ### TIME (R267) -/

/-- Time of the tick master at reception of TIME, in ns. -/
def masterNow (s : State) (m : TimeMsg) : Int :=
  let ii := m.iiSec.toNat * 1000000000 + m.iiNs.toNat
  (ii : Int) - (BitVec.ofNat 32 ii - m.tx).toInt + laneDelay s.pair.delays

/-- TIME received by a module that follows its partner: the clock is stepped on the first message of a joining module, at the next Clearing
when it is more than 1 µs off, and else steered by RX − TX − lane delay (notes/assumptions/19); the message gives the next input instant. -/
def timeRecv (m : TimeMsg) (s : State) : State :=
  if s.role.master then s
  else
    let d := masterNow s m - (s.nowNs : Int)
    if s.role = .syncing ∧ s.pair.timeSet = false then
      ((applyStep s d).wr TIM_SRC TIM_SRC_SRC 3).setPair fun p => { p with time := some m, timeSet := true }
    else if s.rd TIM_SRC TIM_SRC_SRC = 3 then
      let s := s.setPair fun p => { p with time := some m }
      if 1000 < d.natAbs then { s with clk := { s.clk with stepHeld := some d } } else steerClock s d
    else s

/-- PXCH TIME: the tick master sends the next input instant (R267). -/
def sendTime (s : State) : State :=
  if s.role.master then
    let ii := s.nowNs + (s.tickEnd - s.clk.trel)
    sendLane s (.time { iiSec := BitVec.ofNat 48 (ii / 1000000000), iiNs := BitVec.ofNat 32 (ii % 1000000000), tx := s.short,
                        tickLen := BitVec.ofNat 32 s.tickLen, tick := BitVec.ofNat 64 (s.seq.tick + 1) })
  else s

/-! ### PAR_CMD (R261, R279, R286) -/

/-- Whether this module and its partner work as a pair. -/
def inPair (s : State) : Bool := (s.role == .active && s.prole == .standby) || (s.role == .standby && s.prole == .active)

/-- GO. -/
def parGo (s : State) : State :=
  if s.role = .booting then
    let t := s.setPair fun p => { p with go := true, quietFrom := if p.go then p.quietFrom else s.clk.mono }
    if anyPath t || t.on PAR_STATUS PAR_STATUS_PHEARD || t.pair.hello.isSome then leaveBooting t else t
  else parRej s 1

/-- JOIN_WAIT_EXPIRY: released and nothing heard of a partner for JOIN_WAIT (R261). -/
def joinWait (s : State) : State :=
  if s.role = .booting ∧ s.pair.go = true ∧ s.rd PAR_COPP PAR_COPP_PHASE = 0 ∧
      s.pair.quietFrom + s.rd PAR_CFG PAR_CFG_JOIN_WAIT * 1000000 ≤ s.clk.mono then requestRole s .alone (some 1) else s

/-- Whether a repair, a Coppice or a Grove in RESYNC exists (R286, R308). -/
def coppBusy (s : State) : Bool :=
  s.pair.repair.isSome || s.pair.source || s.rd PAR_COPP PAR_COPP_PHASE != 0 || s.on PAR_COPP PAR_COPP_GROVE
    || (List.range 8).any fun g => s.on (GRV_STATUS g) GRV_STATUS_RESYNC

/-- Refusal code of a swap with swap tick t (R286), 0: accepted. -/
def swapCode (s : State) (t : Nat) : Nat :=
  let within (x : Nat) : Bool := decide (s.seq.tick ≤ x) && decide (x ≤ t)
  let force := match s.armed with
    | some a => within a.tick
    | none => false
  let apply := s.rd CHG_STATE CHG_STATE_STATE == 5 && within (s.rd64 CHG_APPLY_LO CHG_APPLY_HI)
  if !inPair s || !s.on HB_STATUS HB_STATUS_PATH_L then 2
  else if coppBusy s || force || apply then 3
  else if s.pair.matchRun < 16 then 4
  else 0

/-- A swap is proposed for tick t: by the tick master to be committed, by the standby to be proposed by its partner (R286). -/
def swapPropose (s : State) (t : Nat) : State :=
  ((s.setPair fun p => { p with swap := some ⟨t, false, true⟩ }).wr64 PAR_SWAP_LO PAR_SWAP_HI t).wr PAR_CMDSTAT PAR_CMDSTAT_SWAP_PEND 1

/-- PAR_CMD.SWAP. -/
def parSwap (s : State) : State :=
  let t := s.seq.tick + 16
  let code := swapCode s t
  if code ≠ 0 then parRej s code
  else if s.pair.swap.isSome then parRej s 3
  else swapPropose s t

/-- The proposal is withdrawn (R286). -/
def swapAbort (s : State) : State :=
  if s.pair.swap.isSome then
    parEvt (((s.setPair fun p => { p with swap := none }).wr PAR_CMDSTAT PAR_CMDSTAT_SWAP_PEND 0).wr PAR_CMDSTAT
      PAR_CMDSTAT_SWAP_COMMIT 0) PAR_EVT_SWAP_ABORT
  else s

/-- PAR_CMD.SWAP_CANCEL: withdraws an uncommitted swap. -/
def parSwapCancel (s : State) : State := if s.on PAR_CMDSTAT PAR_CMDSTAT_SWAP_COMMIT then s else swapAbort s

/-- Whether a Grove of the module is in RESYNC: such a module takes no part in a commanded swap (06 R173). -/
def groveResync (s : State) : Bool := (List.range 8).any fun g => s.on (GRV_STATUS g) GRV_STATUS_RESYNC

/-- SWAP_COMMIT: the tick master's decision at T − 8 (R286). -/
def swapCommit (s : State) : State :=
  match s.pair.swap with
  | some w =>
    if s.role = .active ∧ w.tick ≤ s.seq.tick + 8 ∧ s.on PAR_CMDSTAT PAR_CMDSTAT_SWAP_COMMIT = false then
      (if w.conf ∧ w.matched ∧ groveResync s = false then s.wr PAR_CMDSTAT PAR_CMDSTAT_SWAP_COMMIT 1 else swapAbort s)
    else s
  | none => s

/-- Whether the role takes a STOP (R261). -/
def stopRole (r : Role) : Bool := r == .alone || r == .active || r == .solo || r == .standby || r == .isolated

/-- PAR_CMD.STOP (R279). -/
def parStopCmd (s : State) : State := if stopRole s.role then s.setPair fun p => { p with stopReq := true } else parRej s 1

/-- PAR_CMD.RESTART (R261, R279): in a pair both modules ask for it, else it takes effect at the next input instant. -/
def parRestartCmd (s : State) : State :=
  if s.role ≠ .stopped ∨ roleOf s.pair.before = .syncing then parRej s 1
  else if (List.range 8).any fun g => s.on (GRV_STATUS g) GRV_STATUS_RESYNC then parRej s 3
  else if anyPath s && s.prole == .stopped then s.setPair fun p => { p with restartReq := true }
  else requestRole s (roleOf s.pair.before) none

/-- PAR_CMD.MAINT (R261), with LEAVE before it (R271). -/
def parMaint (s : State) (force : Bool) : State :=
  let ok := match s.role with
    | .booting => true
    | .standby => true
    | .syncing => true
    | .isolated => true
    | .stopped => true
    | .alone => force
    | .solo => force
    | _ => false
  if ok then sendLeave (requestRole s .maintenance none) else parRej s 1

/-- PAR_CMD.RESYNC (R261). -/
def parResync (s : State) : State := if s.role = .standby then beginJoin s else parRej s 1

/-! ### The Coppice of a module (R283, R284) -/

/-- A Coppice attempt fails: back to phase 4, and FAULTED after three (R284). -/
def coppFail (s : State) : State :=
  let t := parEvt (s.bump PAR_COPP PAR_COPP_FAILS 1) PAR_EVT_COPP_FAIL
  if 3 ≤ t.rd PAR_COPP PAR_COPP_FAILS then enterFaulted t true
  else (t.wr PAR_COPP PAR_COPP_PHASE 4).setPair fun p => { p with coppStart := t.clk.mono, coppTicks := 0, joinOk := false }

/-- COPPICE_BULK_DONE: phase 4 completes, and the Groves in service count as equal from CONVERGE on. -/
def coppBulkDone (s : State) : State :=
  if s.role = .syncing ∧ s.rd PAR_COPP PAR_COPP_PHASE = 4 then
    (s.wr PAR_COPP PAR_COPP_PHASE 5).setPair fun p => { p with coppTicks := 0 }
  else s

/-- COPPICE_TIMEOUT (R284). -/
def coppTimeout (s : State) : State :=
  let ph := s.rd PAR_COPP PAR_COPP_PHASE
  if s.role = .syncing ∧ ((ph = 4 ∧ s.pair.coppStart + 500000000 ≤ s.clk.mono) ∨
      (ph = 5 ∧ s.rd PAR_CFG2 PAR_CFG2_CONV_MAX ≤ s.pair.coppTicks)) then coppFail s else s

/-! ### Meanings -/

/-- HEARTBEAT_PERIOD (R268). -/
def execHeartbeatPeriod (s : State) : Out3 := .next (heartbeatPeriod s)
/-- HEARTBEAT (R269). -/
def execHeartbeat (via : Heard) (b : HbBody) (st : Option HbStamps) (s : State) : Out3 :=
  .next (heartbeatRecv via.path via.crcOk b st (pathCount s via.path (.heartbeat b (st.getD ⟨0, 0, 0⟩))))
/-- PATH_LOST (R269). -/
def execPathLost (line : Bool) (s : State) : Out3 := .next (pathLost line s)
/-- PATH_RETURN (R269). -/
def execPathReturn (line : Bool) (s : State) : Out3 := .next (pathReturn line s)
/-- WITNESS_WINDOW_START (R270). -/
def execWitnessWindowStart (s : State) : Out3 := .next (witnessStart s)
/-- WITNESS_END (R270). -/
def execWitnessEnd (s : State) : Out3 := .next (witnessEnd s)
/-- LEAVE (R271). -/
def execLeave (via : Heard) (b : HbBody) (s : State) : Out3 := .next (leaveRecv via.path via.crcOk b (pathCount s via.path (.leave b)))
/-- HELLO (R283). -/
def execHello (h : Hdr) (m : Hello) (s : State) : Out3 := .next (helloRecv h m (laneCount s h.lane false (.hello m)))
/-- HELLO_PERIOD (R265): every 10 ms in BOOTING. -/
def execHelloPeriod (s : State) : Out3 := .next (if s.role = .booting then sendLane s (.hello (helloNow s)) else s)
/-- JOIN_WAIT_EXPIRY (R261). -/
def execJoinWaitExpiry (s : State) : Out3 := .next (joinWait s)
/-- TIME (R267). -/
def execTime (h : Hdr) (m : TimeMsg) (s : State) : Out3 := .next (laneMsg h (timeRecv m) (laneCount s h.lane false (.time m)))
/-- GO (R261). -/
def execGo (_m : Master) (s : State) : Out3 := .next (parGo s)
/-- SWAP (R286). -/
def execSwap (_m : Master) (s : State) : Out3 := .next (parSwap s)
/-- SWAP_CANCEL (R286). -/
def execSwapCancel (_m : Master) (s : State) : Out3 := .next (parSwapCancel s)
/-- SWAP_COMMIT (R286). -/
def execSwapCommit (s : State) : Out3 := .next (swapCommit s)
/-- STOP (R279). -/
def execStop (_m : Master) (s : State) : Out3 := .next (parStopCmd s)
/-- RESTART (R279). -/
def execRestart (_m : Master) (s : State) : Out3 := .next (parRestartCmd s)
/-- MAINT (R261). -/
def execMaint (_m : Master) (force : Bool) (s : State) : Out3 := .next (parMaint s force)
/-- RESYNC (R261). -/
def execResync (_m : Master) (s : State) : Out3 := .next (parResync s)
/-- COPPICE_BULK_DONE (R283). -/
def execCoppiceBulkDone (s : State) : Out3 := .next (coppBulkDone s)
/-- COPPICE_TIMEOUT (R284). -/
def execCoppiceTimeout (s : State) : Out3 := .next (coppTimeout s)

end Sys2Proof.Machine
end

