-- ==== Sys2Proof/Machine/TickProg.lean ====
section
/-! DEFINITION. The tick program as words (03 R51, R52) and the load check of a bank (03 R53). -/

namespace Sys2Proof.Machine

open Sys2Proof

/-- Bits hi to lo of a word. -/
def wf (w : Word) (hi lo : Nat) : Nat := w.toNat / 2 ^ lo % 2 ^ (hi + 1 - lo)

/-- Word i of the program in a bank. -/
def progWord (s : State) (b i : Nat) : Word := s.rget (TSQ_PROG b i)

/-- Opcode of a word. -/
def tqOp (w : Word) : Nat := wf w 31 26

/-- Whether a word is a listed opcode with its reserved bits 0 and its operands in range (R52, check 1). -/
def tqWordOk (w : Word) : Bool :=
  let op := tqOp w
  let n := wf w 25 12 == 0
  let arg := wf w 11 0
  if op = 0x00 ∨ op = 0x09 ∨ op = 0x0A ∨ op = 0x0B ∨ op = 0x0C then n && arg == 0
  else if op = 0x01 then wf w 25 20 == 0
  else if op = 0x02 then true
  else if op = 0x03 ∨ op = 0x04 then n && decide (arg ≤ 2)
  else if op = 0x05 ∨ op = 0x07 then wf w 25 16 == 0
  else if op = 0x06 then wf w 20 20 == 0
  else if op = 0x08 then n && decide (arg ≤ 63)
  else if op = 0x0D then n && decide (arg ≤ 255)
  else if op = 0x0E then decide (1 ≤ wf w 25 16) && decide (wf w 15 6 < wf w 25 16) && decide (1 ≤ wf w 5 0)
  else if op = 0x0F then n && decide (1 ≤ arg)
  else false

/-- What has been seen on a path. -/
structure ChkPath where
  /-- time of the last WAITT, and words since it -/
  wait : Nat
  since : Nat
  /-- 0 before REL, 1 after REL, 2 after HOLD, 3 after CLEAR -/
  stage : Nat
  rel : Nat
  relWait : Nat
  bars : List (Nat × Nat)
  deadl : List (Nat × Nat)
  /-- INAGREE and OUTDIG: 0 not started, 1 started, 2 synchronised -/
  inag : Nat
  outd : Nat
  ogate : Bool
  time : Bool

/-- The words reached by some path, in ascending order: `seen` is the list of reached words not yet passed. -/
def tqReach (s : State) (b : Nat) : Nat → Nat → List Nat → List Nat
  | 0, _, _ => []
  | fuel + 1, i, seen =>
    if seen.contains i then
      let w := progWord s b i
      let next := if tqOp w = 0x0C then [] else if tqOp w = 0x0E then [i + 1, i + wf w 5 0]
        else if tqOp w = 0x0F then [i + wf w 11 0] else [i + 1]
      i :: tqReach s b fuel (i + 1) (next ++ seen)
    else tqReach s b fuel (i + 1) seen

/-- Largest budget that a DEADL of the program gives class c (R53 BUDGET). -/
def maxBudget (s : State) (b c : Nat) : Nat :=
  ((tqReach s b 4096 0 [0]).filterMap fun i =>
    let w := progWord s b i
    if tqOp w = 0x06 ∧ wf w 25 22 = c then some (wf w 19 0) else none).foldl max 0

/-- Whether class c of bank b is enabled; its period; whether it runs on engine e. -/
def bankClassOn (s : State) (b c : Nat) : Bool := s.on (TSQ_CLASS_CFG b c) TSQ_CLASS_CFG_EN
def bankPeriod (s : State) (b c : Nat) : Nat := s.rd (TSQ_CLASS_CFG b c) TSQ_CLASS_CFG_PERIOD
def bankClassEng (s : State) (b c e : Nat) : Bool :=
  if e < 32 then wbit (s.rget (TSQ_CLASS_ENG_LO b c)).toNat e else wbit (s.rget (TSQ_CLASS_ENG_HI b c)).toNat (e - 32)

/-- Budget of class c on a path, in units of 128 cycles: its last DEADL, else the largest of the program. -/
def pathBudget (s : State) (b : Nat) (p : ChkPath) (c : Nat) : Nat :=
  match p.deadl.find? fun d => d.1 == c with
  | some d => d.2
  | none => maxBudget s b c

/-- Whether the budgets of some engine exceed the window from L to H (times in 100 ns: 120 engine cycles each). -/
def overBudget (s : State) (b : Nat) (p : ChkPath) : Bool :=
  (List.range 64).any fun e =>
    let sum := ((List.range 16).filter fun c => bankClassOn s b c && bankClassEng s b c e).foldl (fun n c => n + 128 * pathBudget s b p c) 0
    decide ((p.wait - p.relWait) * 120 < sum)

/-- First BAR of the path that names a class it may not (R53 BAR_CLASS). -/
def badBar (s : State) (b : Nat) (p : ChkPath) : Option Nat :=
  (p.bars.reverse.find? fun x => (List.range 16).any fun c => wbit x.2 c && !(wbit p.rel c && bankPeriod s b c == 1)).map Prod.fst

/-- Failure of one word on a path, or the path with the word added. The spec does not say whether END itself counts in 'words up to END' of
condition RANGE: the model counts it (DESIGN CHOICE, notes/assumptions/77). -/
def chkWord (s : State) (b len i : Nat) (p : ChkPath) : Except (Nat × Nat) ChkPath :=
  let w := progWord s b i
  let op := tqOp w
  let p := { p with since := p.since + 1 }
  if tqWordOk w = false then .error (1, i)
  else if op = 0x0E ∧ 4096 ≤ i + wf w 5 0 then .error (2, i)
  else if op = 0x0F ∧ 4096 ≤ i + wf w 11 0 then .error (2, i)
  else if op = 0x01 then
    (if wf w 19 0 < p.wait then .error (3, i)
     else if len ≤ wf w 19 0 * 100 then .error (4, i)
     else .ok { p with wait := wf w 19 0, since := 0 })
  else if op = 0x02 then (if p.inag = 1 ∨ p.outd = 1 then .error (8, i) else .ok p)
  else if op = 0x03 then
    (if wf w 11 0 = 0 then (if p.stage = 0 ∧ p.inag = 0 then .ok { p with inag := 1 } else .error (8, i))
     else if wf w 11 0 = 1 then (if p.stage = 2 ∧ p.outd = 0 then .ok { p with outd := 1 } else .error (8, i))
     else if p.stage = 3 ∧ p.time = false then .ok { p with time := true } else .error (8, i))
  else if op = 0x04 then
    .ok (if wf w 11 0 = 0 then { p with inag := if p.inag = 1 then 2 else p.inag }
      else if wf w 11 0 = 1 then { p with outd := if p.outd = 1 then 2 else p.outd } else p)
  else if op = 0x05 then
    (if p.stage ≠ 0 then .error (5, i) else if p.inag = 0 then .error (8, i)
     else .ok { p with stage := 1, rel := wf w 15 0, relWait := p.wait })
  else if op = 0x06 then
    (if p.stage ≠ 0 then .error (5, i) else .ok { p with deadl := (wf w 25 22, wf w 19 0) :: p.deadl })
  else if op = 0x07 then
    (if 2 ≤ p.stage then .error (5, i) else .ok { p with bars := (i, wf w 15 0) :: p.bars })
  else if op = 0x09 then
    (if p.stage ≠ 1 then .error (5, i)
     else match badBar s b p with
       | some j => .error (6, j)
       | none => if overBudget s b p then .error (7, i) else .ok { p with stage := 2 })
  else if op = 0x0A then
    (if p.stage = 2 ∧ p.outd = 2 ∧ p.ogate = false then .ok { p with ogate := true } else .error (8, i))
  else if op = 0x0B then
    (if p.stage ≠ 2 then .error (5, i) else if p.ogate = false then .error (8, i) else .ok { p with stage := 3 })
  else if op = 0x0C then
    (if 2 * (len - 1000) < 200 * p.wait + 5 * p.since ∨ len < 1000 then .error (4, i)
     else if p.stage ≠ 3 then .error (5, i)
     else if p.inag ≠ 2 ∨ p.outd ≠ 2 then .error (8, i)
     else .ok p)
  else .ok p

/-- First failure on the paths from word i (the next word before a branch's target). -/
def chkFrom (s : State) (b len : Nat) : Nat → Nat → ChkPath → Option (Nat × Nat)
  | 0, _, _ => some (5, 0xFFF)
  | fuel + 1, i, p =>
    if 4096 ≤ i then some (5, 0xFFF)
    else match chkWord s b len i p with
      | .error e => some e
      | .ok q =>
        let w := progWord s b i
        if tqOp w = 0x0C then none
        else if tqOp w = 0x0E then
          match chkFrom s b len fuel (i + 1) q with
          | some e => some e
          | none => chkFrom s b len fuel (i + wf w 5 0) q
        else if tqOp w = 0x0F then chkFrom s b len fuel (i + wf w 11 0) q
        else chkFrom s b len fuel (i + 1) q

/-- Result of the load check of bank b: code and word (R53). -/
def loadCheck (s : State) (b : Nat) : Nat × Nat :=
  match chkFrom s b (s.rd (TSQ_LEN b) TSQ_LEN_LEN * 1000) 4097 0 ⟨0, 0, 0, 0, 0, [], [], 0, 0, false, false⟩ with
  | some e => e
  | none => (0, 0)

/-- The result of a load check in TSQ_CHK. -/
def showCheck (s : State) (r : Nat × Nat) : State :=
  let (c, w) := r
  (((s.wr TSQ_CHK TSQ_CHK_DONE 1).wr TSQ_CHK TSQ_CHK_PASS (if c = 0 then 1 else 0)).wr TSQ_CHK TSQ_CHK_CODE c).wr TSQ_CHK TSQ_CHK_WORD w

/-- Run the load check on the staging bank and show its result in TSQ_CHK. A bank holds 4,096 words, and a class table has one bit for each
engine, so that the bank itself never fails with SIZE; a package may (11 R296). -/
def tsqCheck (s : State) : State := showCheck s (loadCheck s (1 - s.bank))

/-- Time in 100 ns of the next WAITT at or after word i of the active bank, following JF and falling through BTICK (R60). -/
def nextWait (s : State) : Nat → Nat → Option Nat
  | 0, _ => none
  | fuel + 1, i =>
    let w := progWord s s.bank i
    if 4096 ≤ i then none
    else if tqOp w = 0x01 then some (wf w 19 0)
    else if tqOp w = 0x0C then none
    else if tqOp w = 0x0F then nextWait s fuel (i + wf w 11 0)
    else if tqOp w = 0x0E ∧ s.seq.tick % wf w 25 16 ≠ wf w 15 6 then nextWait s fuel (i + wf w 5 0)
    else nextWait s fuel (i + 1)

/-- Time in 100 ns of the last WAITT before CLEAR on the path from word i (11 R307). -/
def clearTime (s : State) : Nat → Nat → Nat → Nat
  | 0, _, t => t
  | fuel + 1, i, t =>
    let w := progWord s s.bank i
    if 4096 ≤ i then t
    else if tqOp w = 0x01 then clearTime s fuel (i + 1) (wf w 19 0)
    else if tqOp w = 0x0B then t
    else if tqOp w = 0x0C then t
    else if tqOp w = 0x0F then clearTime s fuel (i + wf w 11 0) t
    else if tqOp w = 0x0E ∧ s.seq.tick % wf w 25 16 ≠ wf w 15 6 then clearTime s fuel (i + wf w 5 0) t
    else clearTime s fuel (i + 1) t

/-- CHECK (R53). -/
def execCheck (_m : Master) (s : State) : Out3 := .next (tsqCheck s)

end Sys2Proof.Machine
end

