-- ==== Sys2Proof/Machine/RingFrame.lean ====
section
/-! DEFINITION. Vangax frames (chapter 08): header bytes, CRC, the checks of a receiver, packing of signals, SYNC, TOKEN, PROBE, DYN and
THRU payloads, ring and station records, and the procedures by which a node forwards and sends. -/

namespace Sys2Proof.Machine

open Sys2Proof

/-! ### Header and CRC (R204, R205) -/

/-- Header bytes 0 to 13. -/
def hdrBytes (f : Frame) : List Byte :=
  [f.typ, BitVec.ofNat 8 ((if f.pos then 1 else 0) + (if f.src then 2 else 0) + 4 * f.r1.toNat), f.prod, f.dst] ++
    leBytes 2 (f.ring.toNat * 2048 + (if f.r2 then 1024 else 0) + f.slot.toNat) ++ leBytes 2 f.epoch.toNat ++ leBytes 4 f.seq.toNat ++
    leBytes 2 f.len.toNat

/-- CRC-32 over header bytes 0 to 13 and the payload. -/
def frameCrc (f : Frame) : Word := crc32 (hdrBytes f ++ f.payload)

/-- Byte 14, and its complement in byte 15. -/
def byte14 (f : Frame) : Byte := BitVec.ofNat 8 ((if f.loop then 128 else 0) + f.hops.toNat)
def withRbc (f : Frame) : Frame := { f with rbc := ~~~(byte14 f) }

/-- The frame with its CRC computed. -/
def withCrc (f : Frame) : Frame := { f with crc := frameCrc f }

/-- Frame types (R204). -/
abbrev T_IN : Byte := 1#8
abbrev T_OUT : Byte := 2#8
abbrev T_DYN : Byte := 3#8
abbrev T_SYNC : Byte := 4#8
abbrev T_TOKEN : Byte := 5#8
abbrev T_THRU : Byte := 6#8
abbrev T_PROBE : Byte := 7#8

/-- Range of LEN of a type; none for a reserved type. -/
def lenRange (t : Byte) : Option (Nat × Nat) :=
  if t = T_IN ∨ t = T_OUT then some (1, 512) else if t = T_DYN then some (8, 512) else if t = T_SYNC then some (32, 32)
  else if t = T_TOKEN ∨ t = T_PROBE then some (16, 16) else if t = T_THRU then some (8, 32768) else none

/-- Whether the header check of byte 15 fails. -/
def rbErr (f : Frame) : Bool := f.rbc != ~~~(byte14 f)

/-- Whether a check counted as TYPE fails (R206). A frame that ends with /E/ or is cut off may be shorter than LEN: that is EFRAME. -/
def typeErr (f : Frame) : Bool :=
  match lenRange f.typ with
  | none => true
  | some (lo, hi) =>
    decide (f.len.toNat < lo) || decide (hi < f.len.toNat) || decide (f.len.toNat < f.payload.length)
      || (f.fin == .t && f.payload.length != f.len.toNat) || decide (0x42 < f.dst.toNat)
      || f.r1 != 0 || f.r2 || (f.src && f.pos) || (!f.src && f.prod != 0) || (f.typ != T_IN && f.typ != T_OUT && f.slot != 0)

def headerBad (f : Frame) : Bool := rbErr f || typeErr f

/-- Whether the frame may be consumed: it ends with /T/ and its CRC is right (R207). -/
def crcGood (f : Frame) : Bool := f.fin == .t && f.crc == frameCrc f

/-! ### Packing of signals (R209 to R211) -/

/-- Payload of a list of signals: whether BOOL, VALUE, STATUS. -/
def packSigs (l : List (Bool × Word × Byte)) : List Byte :=
  let bools := l.filter fun e => e.1
  let bits := bools.map fun e => (if e.2.1.getLsbD 0 then 1 else 0) + (if e.2.2.toNat % 4 = 0 then 0 else 2)
  let n := (bits.zipIdx.map fun e => e.1 * 4 ^ e.2).foldl (· + ·) 0
  leBytes ((bools.length + 3) / 4) n ++
    ((l.filter fun e => !e.1).flatMap fun e => leBytes 4 e.2.1.toNat ++ [e.2.2 &&& 0x3F#8])

/-- Size of the payload of a list of signals. -/
def packedLen (l : List Bool) : Nat := ((l.filter id).length + 3) / 4 + 5 * (l.filter (!·)).length

/-- VALUE and STATUS of each signal of a payload, in list order, as a module writes them (R211). -/
def unpackSigs (l : List Bool) (p : List Byte) : List (Word × Byte) :=
  let nb := (l.filter id).length
  l.zipIdx.map fun e =>
    let before := l.take e.2
    if e.1 then
      let j := (before.filter id).length
      let b := (p.getD (j / 4) 0#8).toNat / 4 ^ (j % 4) % 4
      (BitVec.ofNat 32 (b % 2), if b / 2 = 0 then 0#8 else 3#8)
    else
      let o := (nb + 3) / 4 + 5 * (before.filter (!·)).length
      (BitVec.ofNat 32 (le4 (p.drop o)), (p.getD (o + 4) 0#8) &&& 0x33#8)
where
  le4 (l : List Byte) : Nat := leVal (l.take 4)

/-- Whether each signal of a list is a BOOL in the active descriptors. -/
def sigBools (s : State) (sigs : List Nat) : List Bool := sigs.map fun i => descType (s.descOf i) == 1

/-! ### DYN, SYNC, TOKEN, PROBE and THRU payloads (R214 to R218) -/

def dynBytes (d : Dyn) : List Byte :=
  [d.src, d.svc] ++ leBytes 2 d.tid.toNat ++ leBytes 2 (d.frag.toNat + (if d.more then 32768 else 0)) ++ leBytes 2 d.data.length ++ d.data

def dynOf (p : List Byte) : Dyn :=
  let fr := leVal ((p.drop 4).take 2)
  { src := p.getD 0 0#8, svc := p.getD 1 0#8, tid := BitVec.ofNat 16 (leVal ((p.drop 2).take 2)), frag := BitVec.ofNat 15 fr,
    more := wbit fr 15, data := (p.drop 8).take (leVal ((p.drop 6).take 2)) }

/-- SYNC payload (R215). -/
structure SyncPay where
  iiSec : Nat
  iiNs : Nat
  tx : Nat
  corr : Nat
  tickLen : Nat
  thru : Bool
  hold : Nat
  schedId : Nat
  master : Bool
deriving DecidableEq, Repr

def syncBytes (y : SyncPay) : List Byte :=
  leBytes 6 y.iiSec ++ leBytes 4 y.iiNs ++ leBytes 4 y.tx ++ leBytes 4 y.corr ++ leBytes 4 y.tickLen ++
    leBytes 1 (if y.thru then 1 else 0) ++ leBytes 1 y.hold ++ leBytes 2 y.schedId ++ leBytes 1 (if y.master then 1 else 0) ++ leBytes 5 0

def syncOf (p : List Byte) : SyncPay :=
  let g (o n : Nat) := leVal ((p.drop o).take n)
  { iiSec := g 0 6, iiNs := g 6 4, tx := g 10 4, corr := g 14 4, tickLen := g 18 4, thru := wbit (g 22 1) 0, hold := g 23 1,
    schedId := g 24 2, master := wbit (g 26 1) 0 }

/-- TOKEN payload (R216): tick, KIND, role, tick length. -/
def tokenBytes (tick kind role len : Nat) : List Byte :=
  leBytes 8 tick ++ leBytes 1 kind ++ leBytes 1 role ++ leBytes 2 0 ++ leBytes 4 len

def tokenKind (p : List Byte) : Nat := (p.getD 8 0#8).toNat

/-- PROBE payload (R217). -/
def probeBytes (kind t1 t2 t3 : Nat) : List Byte := leBytes 1 kind ++ leBytes 3 0 ++ leBytes 4 t1 ++ leBytes 4 t2 ++ leBytes 4 t3

def dgramBytes (d : Dgram) : List Byte := [d.cmd, d.addr] ++ leBytes 2 d.data.length ++ [d.rstn, d.res, 0#8, 0#8] ++ d.data

/-- The datagrams of a THRU payload. -/
def dgramsOf : Nat → List Byte → List Dgram
  | 0, _ => []
  | fuel + 1, p =>
    if p.length < 8 then []
    else
      let n := leVal ((p.drop 2).take 2)
      ⟨p.getD 0 0#8, p.getD 1 0#8, p.getD 4 0#8, p.getD 5 0#8, (p.drop 8).take n⟩ :: dgramsOf fuel (p.drop (8 + n))

/-! ### Ring and station records -/

/-- The active schedule, and the one in the idle store. -/
def RingSt.sched (r : RingSt) : Option Sched := if r.active then r.sched1 else r.sched0
def RingSt.idleSched (r : RingSt) : Option Sched := if r.active then r.sched0 else r.sched1

def StnSlot.idle : StnSlot := ⟨0#32, false, false, [], 0, [], false⟩

/-- A port of a station that has just been powered: it loops. -/
def PortRx.dead : PortRx := ⟨true, false, false, false, false, false⟩

/-- A station at power-up (R219, R223): no number, EPOCH_VALID 0, every HAVE 0. -/
def Station.powerUp : Station :=
  { number := 0xFE, epoch := 0, epochValid := false, slots := [], latched := [], ssr := [], lastBank := none, tick := none, schedId := 0, static := false,
    took := none, slave := none, miss := 0, good := 0, listen := false, err := 0, slew := 0, stepped := 0, freq := 0, hold := 16,
    portA := .idle, portB := .idle, rxA := .dead, rxB := .dead, swapAB := false, wincnt := 0, epcnt := 0, dupcnt := 0, misscnt := 0,
    thruA := none, thruB := none, box := .empty, params := [], files := [] }

def State.stn (s : State) (k p : Nat) : Station := amGet (fun _ => Station.powerUp) s.stations (k * 64 + p)
def State.setStn (s : State) (k p : Nat) (f : Station → Station) : State :=
  { s with stations := amSet (fun _ => Station.powerUp) s.stations (k * 64 + p) (f (s.stn k p)) }

def Station.slot (st : Station) (n : Nat) : StnSlot := amGet (fun _ => StnSlot.idle) st.slots n
def Station.setSlot (st : Station) (n : Nat) (x : StnSlot) : Station := { st with slots := amSet (fun _ => StnSlot.idle) st.slots n x }

/-- Own position on the pair: false A, true B. -/
def State.posB (s : State) : Bool := s.on PAR_STATUS PAR_STATUS_POS

/-! ### Ports -/

/-- Whether a module's port loops (VGX_LINK). -/
def modLoop (s : State) (k : Nat) (p : Bool) : Bool := s.on (VGX_LINK k) (if p then VGX_LINK_P_LOOP else VGX_LINK_S_LOOP)

/-- STATE of a module's port. -/
def modPortState (s : State) (k : Nat) (p : Bool) : Nat := s.rd (if p then VGX_EN_P k else VGX_EN_S k) U_STATE

/-- Whether a node's port is in loopback. -/
def looped (s : State) (k : Nat) (n : RNode) (p : Bool) : Bool :=
  match n with
  | .module => modLoop s k p
  | .station i => if p then (s.stn k i).rxB.loop else (s.stn k i).rxA.loop

/-- A node's port record. -/
def portOf (s : State) (k : Nat) (n : RNode) (p : Bool) : PortSt :=
  match n with
  | .module => if p then (s.ring k).portP else (s.ring k).portS
  | .station i => if p then (s.stn k i).portB else (s.stn k i).portA

def setPort (s : State) (k : Nat) (n : RNode) (p : Bool) (f : PortSt → PortSt) : State :=
  match n with
  | .module => s.setRing k fun r => if p then { r with portP := f r.portP } else { r with portS := f r.portS }
  | .station i => s.setStn k i fun r => if p then { r with portB := f r.portB } else { r with portA := f r.portA }

/-- Mean of a port's last link delays, in 1/16 ns (09 R233). -/
def linkDly (q : PortSt) : Nat := if q.dly = [] then 0 else q.dly.foldl (· + ·) 0 / q.dly.length

/-- Residence of a node in 1/16 ns. -/
def residence (k : Nat) : RNode → Nat
  | .module => Config.moduleRes
  | .station i => Config.stationRes k i

/-! ### Counting, forwarding and sending (R206, R220 to R222) -/

/-- Count event i at a module's port. -/
def ringCount (s : State) (k : Nat) (p : Bool) (i : Nat) : State := s.bump (VGX_CNT k (if p then 1 else 0) i) VGX_CNT_COUNT 1

/-- Wire time of a frame with LEN = l, in 1/80 ns (R200, 09 R234). -/
def wireU (l : Nat) : Nat := (l + 22) * 256

/-- Whether a node sends /F/ on a port (R226, R230): its receive fails, or has lost sync within the last CLOSE_HOLD ticks; FLOOP forces it, and
a module's port sends it while STOPPING. -/
def sendsFault (s : State) (k : Nat) (n : RNode) (p : Bool) : Bool :=
  match n with
  | .module =>
    let (a, b, _, _) := modRx p
    let e := modPortState s k p
    e == 3 || (e != 0 && (!s.on (VGX_LINK k) a || !s.on (VGX_LINK k) b || decide (0 < (portOf s k n p).loss)
      || s.on (VGX_CFG k) (if p then VGX_CFG_FLOOP_P else VGX_CFG_FLOOP_S)))
  | .station i =>
    let x := if p then (s.stn k i).rxB else (s.stn k i).rxA
    !x.off && (!x.sig || !x.sync || decide (0 < (portOf s k n p).loss))

/-- Whether a node's port sends frames: a module's while it is ON, a station's while it is in use, and neither in place of /F/ (R226, R230). -/
def mayTransmit (s : State) (k : Nat) (n : RNode) (p : Bool) : Bool :=
  (match n with
   | .module => modPortState s k p == 2
   | .station i => !(if p then (s.stn k i).rxB.off else (s.stn k i).rxA.off)) && !sendsFault s k n p

/-- What a port sends when a frame falls due (09 R239): the frame, after ending at once a frame with LOOP = 1 where this one has LOOP = 0. A
frame with LOOP = 1 that falls due while the port carries one with LOOP = 0 is not sent (notes/assumptions/81). -/
def portSends (s : State) (k : Nat) (n : RNode) (p : Bool) (f : Frame) : List Out :=
  if mayTransmit s k n p = false then []
  else match lineNow s k n p, f.loop with
    | some (_, false), true => []
    | some (_, true), false => [.frameEnd k n p, .frame k n p f]
    | _, _ => [.frame k n p f]

/-- A frame leaves a node's port; one that finds the port busy follows the frame before it. -/
def putFrame (s : State) (k : Nat) (n : RNode) (p : Bool) (f : Frame) : State :=
  match portSends s k n p f with
  | [] => s
  | l =>
    let s := if n = .module then pmcPort s (2 * k + (if p then 1 else 0)) true (f.payload.length + 20) else s
    let start := match lineNow s k n p with
      | some (e, b) => if b && !f.loop then absU s else e
      | none => absU s
    let t := setLine s k n p (some (start + wireU f.payload.length, f.loop))
    { t with out := t.out ++ l }

/-- Whether a node produced the frame (R221). -/
def producer (s : State) (k : Nat) (n : RNode) (f : Frame) : Bool :=
  match n with
  | .module => !f.src && f.pos == s.posB
  | .station i => f.src && f.prod.toNat == (s.stn k i).number

/-- The frame as a node sends it on: CORR of a SYNC grows by residence and arrival-link delay, with its CRC regenerated; a wrong CRC ends
the copy with /E/ (R215, R220). -/
def passOn (s : State) (k : Nat) (n : RNode) (p : Bool) (f : Frame) : Frame :=
  let bad := f.crc != frameCrc f
  let g := if f.typ = T_SYNC then
      let y := syncOf f.payload
      withCrc { f with payload := syncBytes { y with corr := (y.corr + residence k n + linkDly (portOf s k n p)) % 2 ^ 32 } }
    else f
  if f.fin = .t ∧ bad = false then g else { g with fin := .e }

/-- Whether a module may forward: both its ports take part (R199, R230). -/
def mayForward (s : State) (k : Nat) (n : RNode) (p : Bool) : Bool := n != .module || modPortState s k p == 2

/-- Forwarding of a frame received on port p (R222); `lq` is the loopback state of the other port q when forwarding began. -/
def forward (s : State) (k : Nat) (n : RNode) (p lq : Bool) (f : Frame) : State :=
  let q := !p
  if f.typ = T_PROBE ∨ headerBad f = true ∨ mayForward s k n p = false then s
  else if producer s k n f = true ∧ f.loop = false then s
  else if lq = true ∧ f.loop = true then s
  else if f.hops = 127#7 then (if n = .module then ringCount s k p 4 else s)
  else
    let g := { f with hops := f.hops + 1 }
    if lq = false then putFrame s k n q (withRbc g)
    else putFrame s k n p (withRbc { g with loop := true })

/-- The port and the frame by which a module sends a frame it produces (R222): towards the stations, or with LOOP = 1 towards the partner. -/
def ringOutOf (s : State) (k : Nat) (f : Frame) : Bool × Frame :=
  if modLoop s k false = false then (false, withRbc f) else (true, withRbc { f with loop := true })

/-- A module sends a frame it produces; a port that is not ON or whose receive fails sends no frame (R226, R230). -/
def ringSend (s : State) (k : Nat) (f : Frame) : State := putFrame s k .module (ringOutOf s k f).1 (ringOutOf s k f).2

/-- Whether a frame that a module produces would leave it. -/
def ringCanSend (s : State) (k : Nat) (f : Frame) : Bool := !(portSends s k .module (ringOutOf s k f).1 (ringOutOf s k f).2).isEmpty

/-- A station sends a frame it produces on one port; on a looped port it sends nothing. -/
def stnSend (s : State) (k : Nat) (i : Fin 64) (p : Bool) (f : Frame) : State :=
  if looped s k (.station i) p then s else putFrame s k (.station i) p (withRbc f)

/-- What every received frame meets at a node before it is consumed (R206): it is counted where it is discarded; the answer says whether
the node consumes it. -/
def checkFrame (s : State) (k : Nat) (n : RNode) (p : Bool) (f : Frame) : Bool × State :=
  let s := if n = .module then pmcPort s (2 * k + (if p then 1 else 0)) false (f.payload.length + 20) else s
  let cnt (i : Nat) : State := if n = .module then ringCount s k p i else s
  if rbErr f then (false, cnt 3)
  else if typeErr f then (false, cnt 5)
  else if f.fin ≠ .t then (false, cnt 1)
  else if f.crc ≠ frameCrc f then (false, cnt 0)
  else (true, if n = .module ∧ f.src = false ∧ f.typ ≠ T_PROBE then witnessFrame s f.pos else s)

/-- Whether a node's port receives at all: a module's port that is OFF or STOPPING receives nothing (R230). -/
def receives (s : State) (k : Nat) (n : RNode) (p : Bool) : Bool :=
  match n with
  | .module => modPortState s k p == 1 || modPortState s k p == 2
  | .station i => !(if p then (s.stn k i).rxB.off else (s.stn k i).rxA.off)

/-- A frame received on port p: checks, consumption by `use` (which answers what the node sends on), forwarding. On a port that loops the
node drops what it receives (R228, R229), but for a sync frame, which it handles without forwarding it: the close of R228 needs one. -/
def receive (k : Nat) (n : RNode) (p : Bool) (f : Frame) (use : State → State × Frame) (s : State) : State :=
  if receives s k n p = false then s
  else
    let (ok, t) := checkFrame s k n p f
    let lq := looped t k n (!p)
    if looped t k n p then (if ok ∧ f.typ = T_SYNC then (use t).1 else t)
    else if ok then
      let (u, g) := use t
      forward u k n p lq (passOn u k n p g)
    else forward t k n p lq (passOn t k n p f)

end Sys2Proof.Machine
end

