-- ==== Sys2Proof/Machine/RingSched.lean ====
section
/-! DEFINITION. Ring schedules (chapter 09): delays, ranks, action points, windows, fits, the schedule check, and station schedule records.
Times are in units of 1/80 ns, in which a code-group (3.2 ns) is 256, 1 ns is 80 and 1/16 ns is 5. -/

namespace Sys2Proof.Machine

open Sys2Proof

/-- Tick-relative time of now. -/
def nowU (s : State) : Nat := s.clk.trel * 80 + s.clk.half * 40

/-- Nearest ns. -/
def toNs (u : Nat) : Nat := (u + 40) / 80

/-! ### Delays (R233) -/

/-- Delays of the stations by position: towards A, towards B, residence, in 1/16 ns. -/
abbrev Meas := List (Nat × Nat × Nat)

def dA (m : Meas) (p : Nat) : Nat := ((m.take p).map fun x => (x.1 + x.2.2) * 5).foldl (· + ·) 0
def dB (m : Meas) (p : Nat) : Nat := ((m.drop (p - 1)).map fun x => (x.2.1 + x.2.2) * 5).foldl (· + ·) 0
def dAB (m : Meas) : Nat := dA m m.length + 5 * ((m.getLast?.map fun x => x.2.1).getD 0)
def dBA (m : Meas) : Nat := dB m 1 + 5 * ((m.head?.map fun x => x.1).getD 0)

/-- Backplane link delay and module residence. -/
def bpDly (s : State) (k : Nat) : Nat := 5 * linkDly (s.ring k).portP
def modRes : Nat := 5 * Config.moduleRes

/-- D_LOOP. -/
def dLoop (s : State) (k : Nat) (m : Meas) : Nat := max (dAB m + modRes) (dBA m + modRes) + bpDly s k

/-- D_ML (R253): with the loopback only at the backplane link no frame crosses it. Where the own RP(2k) is the loop (R229) the own path has no
length. -/
def dMl (s : State) (k : Nat) (backplane : Bool) : Nat :=
  let r := s.ring k
  5 * ((if modLoop s k false then 0 else r.ownH) + r.parH) + (if backplane then 2 * modRes else 2 * (modRes + bpDly s k))

/-- Delays that the stations of a ring show now, by position. -/
def measNow (s : State) (k n : Nat) : Meas :=
  (List.range n).map fun i =>
    let st := s.stn k (i + 1)
    (linkDly st.portA, linkDly st.portB, residence k (.station (Fin.ofNat 64 (i + 1))))

/-! ### Slots (R234 to R236) -/

/-- Position of a station number: where it was found on the ring, else its place in the schedule's list. -/
def posOf (order : List Nat) (c : Sched) (num : Nat) : Nat :=
  if order.contains num then order.idxOf num + 1 else (c.stations.map StnDef.num).idxOf num + 1

def inSlots (c : Sched) : List SlotDef := (c.slots.filter fun x => !x.out).insertionSort fun a b => a.num ≤ b.num
def outSlots (c : Sched) : List SlotDef := (c.slots.filter fun x => x.out).insertionSort fun a b => a.num ≤ b.num
def slotOf (c : Sched) (n : Nat) (out : Bool) : Option SlotDef := c.slots.find? fun x => x.num == n && x.out == out

/-- Largest LEN of a segment, and its slot length. -/
def lmax (l : List SlotDef) : Nat := (l.map SlotDef.len).foldl max 0
def slotLen (c : Sched) (l : List SlotDef) : Nat := (lmax l + 22 + c.guard) * 256

/-- Right and left rank of an IN slot (R235). -/
def rankR (c : Sched) (x : SlotDef) : Nat := ((inSlots c).filter fun y => decide (y.num < x.num)).length
def rankL (order : List Nat) (c : Sched) (x : SlotDef) : Nat :=
  ((inSlots c).filter fun y => decide (posOf order c x.owner < posOf order c y.owner)
    || (y.owner == x.owner && decide (y.num < x.num))).length

/-- A-rank and B-rank of an OUT slot (R236). -/
def rankOA (c : Sched) (x : SlotDef) : Nat := ((outSlots c).filter fun y => decide (y.num < x.num)).length
def rankOB (c : Sched) (x : SlotDef) : Nat := ((outSlots c).filter fun y => decide (x.num < y.num)).length

def leadU (c : Sched) : Nat := c.lead * 80

/-- Action points of an IN slot, into the right and the left train. -/
def apA (sIn : Nat) (order : List Nat) (c : Sched) (m : Meas) (x : SlotDef) : Nat :=
  sIn + leadU c + rankR c x * slotLen c (inSlots c) + dA m (posOf order c x.owner)
def apB (sIn : Nat) (order : List Nat) (c : Sched) (m : Meas) (x : SlotDef) : Nat :=
  sIn + leadU c + rankL order c x * slotLen c (inSlots c) + dB m (posOf order c x.owner)

/-- Arrival of the two copies of an OUT slot at its station. -/
def tA (sOut : Nat) (order : List Nat) (c : Sched) (m : Meas) (x : SlotDef) : Nat :=
  sOut + leadU c + rankOA c x * slotLen c (outSlots c) + dA m (posOf order c x.owner)
def tB (sOut : Nat) (order : List Nat) (c : Sched) (m : Meas) (x : SlotDef) : Nat :=
  sOut + leadU c + rankOB c x * slotLen c (outSlots c) + dB m (posOf order c x.owner)

/-- Centre of the window of an IN slot at this module's port (R237): S receives the partner's train directly, P the own train after the
partner and the backplane. -/
def inCentre (s : State) (k : Nat) (p : Bool) (c : Sched) (x : SlotDef) : Nat :=
  let r := s.ring k
  let right := r.sIn + leadU c + rankR c x * slotLen c (inSlots c) + dAB r.meas
  let left := r.sIn + leadU c + rankL r.order c x * slotLen c (inSlots c) + dBA r.meas
  let direct := if s.posB then right else left
  let far := (if s.posB then left else right) + modRes + bpDly s k
  if p then far else direct

/-- Acceptance window [centre − W, centre + W), with an instant in ns. -/
def inWindow (centre w at_ : Nat) : Bool := decide (centre ≤ at_ * 80 + w * 80) && decide (at_ * 80 < centre + w * 80)

/-! ### The dynamic segment (R240) -/

def miniLen (c : Sched) : Nat := (c.dynMax + 22 + c.guard) * 256
def roundLen (c : Sched) (n : Nat) : Nat := (n + 1) * miniLen c

/-! ### Fits (R238, R240, R253) -/

def staticFit (s : State) (k : Nat) (c : Sched) (order : List Nat) (m : Meas) : Bool :=
  let ins := inSlots c
  (ins.isEmpty || decide (leadU c + (ins.length - 1) * slotLen c ins + wireU (lmax ins) + dLoop s k m ≤ c.tIn * 80))
    && (outSlots c).all (fun x =>
      decide (leadU c + rankOA c x * slotLen c (outSlots c) + wireU x.len + dA m (posOf order c x.owner) ≤ c.tOut * 80)
        && decide (leadU c + rankOB c x * slotLen c (outSlots c) + wireU x.len + dB m (posOf order c x.owner) ≤ c.tOut * 80))
    && decide (leadU c + c.rounds * roundLen c m.length + dLoop s k m ≤ c.tDyn * 80)

/-- LEN of the THRU frame of the input or the output segment. -/
def thruLen (c : Sched) (out : Bool) : Nat :=
  8 * c.stations.length + ((c.slots.filter fun x => x.out == out).map SlotDef.len).foldl (· + ·) 0

/-- Whether a through-frame plan fits a closed ring in every segment (R253). -/
def closedFit (s : State) (k : Nat) (c : Sched) (m : Meas) : Bool :=
  let d := leadU c + dLoop s k m + 80000
  decide (d + wireU (thruLen c false) ≤ c.tIn * 80) && decide (d + wireU (thruLen c true) ≤ c.tOut * 80)

/-- Whether a through-frame plan fits a healed ring in every segment (R253). -/
def healedFit (s : State) (k : Nat) (c : Sched) (backplane : Bool) : Bool :=
  let d := leadU c + dMl s k backplane + 80000
  decide (d + 2 * wireU (thruLen c false) ≤ c.tIn * 80) && decide (d + 2 * wireU (thruLen c true) ≤ c.tOut * 80)

/-! ### The schedule check (R241, R242) -/

def limitBad (c : Sched) : Bool :=
  let owned (n : Nat) := c.slots.filter fun x => x.owner == n
  c.stations.isEmpty || decide (63 < c.stations.length) || c.slots.isEmpty || decide (1024 < c.slots.length)
    || hasDup (c.slots.map SlotDef.num) || c.slots.any (fun x => decide (1023 < x.num) || x.len == 0 || decide (512 < x.len))
    || c.stations.any (fun d => decide (64 < (owned d.num).length) || (owned d.num).all fun x => x.out)
    || decide (32768 < (c.slots.map fun x => x.sigs.length).foldl (· + ·) 0)
    || decide (c.lead < 1000) || decide (20000 < c.lead) || c.lead % 100 != 0 || decide (c.guard < 38) || decide (255 < c.guard)
    || decide (c.w < 50) || decide (1000 < c.w) || decide (c.dynMax < 8) || decide (512 < c.dynMax) || c.id == 0 || decide (65535 < c.id)

/-- Whether a list falls somewhere, or rises somewhere. -/
def falls : List Nat → Bool
  | a :: b :: l => decide (b < a) || falls (b :: l)
  | _ => false
def rises : List Nat → Bool
  | a :: b :: l => decide (a < b) || rises (b :: l)
  | _ => false

def orderBad (order : List Nat) (c : Sched) : Bool :=
  falls ((inSlots c).map fun x => posOf order c x.owner) || rises ((outSlots c).map fun x => posOf order c x.owner)

/-- Descriptor of a signal in the bank that a check looks at. -/
def descIn (s : State) (bank i : Nat) : Word := amGet (fun _ => 0#32) s.desc (bank * 131072 + i)

def lenBad (s : State) (bank : Nat) (c : Sched) : Bool :=
  c.slots.any fun x => x.len != packedLen (x.sigs.map fun i => descType (descIn s bank i) == 1)

def stationBad (c : Sched) : Bool :=
  hasDup (c.stations.map StnDef.num) || c.stations.any (fun d => d.num == 0 || decide (63 < d.num))
    || c.slots.any fun x => !(c.stations.map StnDef.num).contains x.owner

/-- Signals of every slot of the module's schedules that stand in the same store. -/
def allSigs (l : List Sched) : List Nat := l.flatMap fun c => c.slots.flatMap SlotDef.sigs

def signalBad (s : State) (bank : Nat) (c : Sched) (all : List Nat) : Bool :=
  c.slots.any fun x => x.sigs.any fun i => decide (1 < (all.filter (· == i)).length) || descDir (descIn s bank i) != x.out

/-- One path of the tick program: whether each segment of ring k ends in time (SEGMENT). `t` is the time of the last WAITT and `n` the
words since it; a, d, o are the ends of the three segments, once begun. -/
def segPath (s : State) (b k : Nat) (c : Sched) : Nat → Nat → Nat → Nat → Nat × Nat × Nat → Bool
  | 0, _, _, _, _ => true
  | fuel + 1, i, t, n, (a, d, o) =>
    let w := progWord s b i
    let op := tqOp w
    let now := t * 8000 + n * 200
    if 4096 ≤ i ∨ op = 0x0C then true
    else if op = 0x01 then segPath s b k c fuel (i + 1) (wf w 19 0) 0 (a, d, o)
    else if op = 0x02 then
      let e := if wbit (wf w 23 0) k then
          (if wf w 25 24 = 0 then (now + c.tIn * 80, d, o) else if wf w 25 24 = 1 then (a, now + c.tDyn * 80, o)
           else if wf w 25 24 = 2 then (a, d, now + c.tOut * 80) else (a, d, o))
        else (a, d, o)
      segPath s b k c fuel (i + 1) t (n + 1) e
    else if op = 0x03 ∧ wf w 11 0 = 0 ∧ now < a then false
    else if op = 0x09 ∧ now < d then false
    else if op = 0x0B ∧ now < o then false
    else if op = 0x0E then
      segPath s b k c fuel (i + 1) t (n + 1) (a, d, o) && segPath s b k c fuel (i + wf w 5 0) t (n + 1) (a, d, o)
    else if op = 0x0F then segPath s b k c fuel (i + wf w 11 0) t (n + 1) (a, d, o)
    else segPath s b k c fuel (i + 1) t (n + 1) (a, d, o)

/-- Instant of RING sel for ring k on the first path of a program, falling through every BTICK. -/
def segStart (s : State) (b k sel : Nat) : Nat → Nat → Nat → Nat → Nat
  | 0, _, _, _ => 0
  | fuel + 1, i, t, n =>
    let w := progWord s b i
    let op := tqOp w
    if 4096 ≤ i ∨ op = 0x0C then 0
    else if op = 0x02 ∧ wf w 25 24 = sel ∧ wbit (wf w 23 0) k = true then t * 8000 + n * 200
    else if op = 0x01 then segStart s b k sel fuel (i + 1) (wf w 19 0) 0
    else if op = 0x0F then segStart s b k sel fuel (i + wf w 11 0) t (n + 1)
    else segStart s b k sel fuel (i + 1) t (n + 1)

/-! ### Station schedule records (R243, R244) -/

/-- SSR of the station at position p, from the program of bank b. -/
def ssrBytes (s : State) (b k : Nat) (c : Sched) (order : List Nat) (m : Meas) (d : StnDef) : List Byte :=
  let p := posOf order c d.num
  let sIn := segStart s b k 0 4097 0 0 0
  let sDyn := segStart s b k 1 4097 0 0 0
  let sOut := segStart s b k 2 4097 0 0 0
  let own := (inSlots c ++ outSlots c).filter fun x => x.owner == d.num
  let n := m.length
  let hdr := leBytes 2 c.id ++ leBytes 1 own.length ++ leBytes 1 d.holdT ++ leBytes 1 d.act ++ leBytes 1 4 ++ leBytes 1 3 ++ leBytes 1 p ++
    leBytes 2 c.w ++ leBytes 2 100 ++ leBytes 4 (toNs (sDyn + leadU c + p * miniLen c + dA m p)) ++
    leBytes 4 (toNs (sDyn + leadU c + (n + 1 - p) * miniLen c + dB m p)) ++ leBytes 4 (toNs (roundLen c n)) ++ leBytes 2 c.rounds ++
    leBytes 2 c.dynMax ++ leBytes 4 0
  hdr ++ (own.zipIdx.flatMap fun e =>
    let x := e.1
    leBytes 2 x.num ++ leBytes 1 (if x.out then 1 else 0) ++ leBytes 1 0 ++ leBytes 2 x.len ++ leBytes 2 e.2 ++
      leBytes 4 (toNs (if x.out then tA sOut order c m x else apA sIn order c m x)) ++
      leBytes 4 (toNs (if x.out then tB sOut order c m x else apB sIn order c m x)))

/-- SCHED_ID of an SSR bank of a station. -/
def ssrId (st : Station) (bank : Nat) : Nat :=
  (amGet (fun _ => 0#8) st.ssr (bank * 2048)).toNat + 256 * (amGet (fun _ => 0#8) st.ssr (bank * 2048 + 1)).toNat

/-- SSR bank that the station uses: the one whose SCHED_ID is that of the sync frame that set its tick (R244). -/
def ssrBank (st : Station) : Option Nat :=
  if st.schedId = 0 then none else if ssrId st 0 = st.schedId then some 0 else if ssrId st 1 = st.schedId then some 1 else none

/-- Write an SSR into a bank of a station, the rest of the bank 0. -/
def writeSsr (st : Station) (bank : Nat) (l : List Byte) : Station :=
  let other := st.ssr.filter fun e => decide (e.1 / 2048 ≠ bank)
  { st with ssr := (l.take 2048).zipIdx.foldl (fun m e => amSet (fun _ => 0#8) m (bank * 2048 + e.2) e.1) other }

/-- Whether ring k runs a schedule. -/
def ringRuns (s : State) (k : Nat) : Bool := s.rd (VGX_SCHED k) VGX_SCHED_SCHED_ID != 0

/-- Stations that a staging has not reached with the new record (code 8): those of a running ring without a bank of the new SCHED_ID. -/
def ssrMissing (s : State) (k : Nat) (c : Sched) (order : List Nat) : Bool :=
  c.stations.any fun d =>
    let st := s.stn k (posOf order c d.num)
    ssrId st 0 != c.id && ssrId st 1 != c.id

/-- Code of the schedule check of a ring (R242): `b` is the program bank, `db` the descriptor bank, `all` every signal of the set's
schedules, `staging` whether it is a staging check. -/
def schedCode (s : State) (k b db : Nat) (c : Sched) (all : List Nat) (m : Meas) (staging : Bool) : Nat :=
  let order := (s.ring k).order
  let old := ((s.ring k).sched.map Sched.id).getD 0
  if limitBad c || (staging && c.id == old) then 1
  else if lenBad s db c then 2
  else if orderBad order c then 3
  else if !(staging && !ringRuns s k) && !staticFit s k c order m then 4
  else if segPath s b k c 4097 0 0 0 (0, 0, 0) = false then 5
  else if stationBad c then 6
  else if signalBad s db c all then 7
  else if staging && ringRuns s k && ssrMissing s k c order then 8
  else 0

end Sys2Proof.Machine
end

