-- ==== Sys2Proof/Machine/Station.lean ====
section
/-! DEFINITION. The stations of a ring (chapters 08, 09): register space, output slots, sync frames, datagrams, parameter and file
services, listen-only. -/

namespace Sys2Proof.Machine

open Sys2Proof

/-! ### SSR fields -/

/-- A byte, and a little-endian field, of an SSR bank. -/
def ssrByte (st : Station) (bank o : Nat) : Byte := amGet (fun _ => 0#8) st.ssr (bank * 2048 + o)
def ssrField (st : Station) (bank o n : Nat) : Nat := leVal ((List.range n).map fun i => ssrByte st bank (o + i))

/-- A slot entry of an SSR: number, OUT, LEN, TA, TB. -/
structure StnEntry where
  num : Nat
  out : Bool
  len : Nat
  ta : Nat
  tb : Nat
deriving DecidableEq, Repr

/-- Slot entries of an SSR bank. -/
def Station.bankEntries (st : Station) : Option Nat → List StnEntry
  | none => []
  | some b => (List.range (min 64 (ssrField st b 2 1))).map fun i =>
      let o := 32 + 16 * i
      ⟨ssrField st b o 2, ssrField st b (o + 2) 1 == 1, ssrField st b (o + 4) 2, ssrField st b (o + 8) 4, ssrField st b (o + 12) 4⟩

/-- Slot entries of the bank in use; none without a matching bank. -/
def Station.entries (st : Station) : List StnEntry := st.bankEntries (ssrBank st)

/-- The bank whose slots count their misses: the one in use, or where none matches the one last in use (R244, R256). -/
def Station.heldBank (st : Station) : Option Nat := (ssrBank st).or st.lastBank

def Station.outs (st : Station) : List StnEntry := (st.entries.filter fun e => e.out).insertionSort fun a b => a.num ≤ b.num
def Station.ins (st : Station) : List StnEntry := (st.entries.filter fun e => !e.out).insertionSort fun a b => a.num ≤ b.num

/-- A field of the SSR in use, or a default where no bank matches. -/
def Station.cfg (st : Station) (o n dflt : Nat) : Nat :=
  match ssrBank st with
  | none => dflt
  | some b => ssrField st b o n

/-! ### Register space (R243) -/

/-- A field of an SSR bank, or a default without one. -/
def Station.bankCfg (st : Station) (bank : Option Nat) (o n dflt : Nat) : Nat :=
  match bank with
  | none => dflt
  | some b => ssrField st b o n

/-- Whether a comms-loss action is in force on some slot. -/
def Station.commsOn (st : Station) : Bool := st.slots.any fun e => e.2.comms

/-- STATE byte. -/
def Station.stateByte (st : Station) : Byte :=
  let b (x : Bool) (n : Nat) : Nat := if x then 2 ^ n else 0
  let towA := if st.swapAB then st.rxB.loop else st.rxA.loop
  let towB := if st.swapAB then st.rxA.loop else st.rxB.loop
  BitVec.ofNat 8 (b (st.tick.isSome && st.miss == 0) 0 + b st.listen 1 + b st.static 2 + b (ssrBank st == some 1) 3 + b towA 4 + b towB 5
    + b st.commsOn 6)

/-- Register space as bytes below 0x38. -/
def stnRegs (k p : Nat) (st : Station) : List Byte :=
  let id := Config.stationIdent k p
  leBytes 4 id.vendor ++ leBytes 4 id.device ++ leBytes 8 id.serial ++ leBytes 2 id.profile ++ leBytes 2 0x0100 ++ leBytes 1 st.number ++
    [st.stateByte] ++ leBytes 2 st.miss ++ leBytes 4 (linkDly (if st.swapAB then st.portB else st.portA)) ++
    leBytes 4 (linkDly (if st.swapAB then st.portA else st.portB)) ++ leBytes 4 (Config.stationRes k p) ++
    leBytes 4 (BitVec.ofInt 32 st.err).toNat ++ leBytes 4 st.wincnt ++ leBytes 4 st.epcnt ++ leBytes 4 st.dupcnt ++ leBytes 4 st.misscnt

/-- A byte of the register space; none outside it. -/
def stnReg (k p : Nat) (st : Station) (o : Nat) : Option Byte :=
  if o < 0x38 then (stnRegs k p st)[o]? else if 0x1000 ≤ o ∧ o < 0x2000 then some (amGet (fun _ => 0#8) st.ssr (o - 0x1000)) else none

/-- A read of [o, o + n) clears the RC counters it touches. -/
def stnClear (st : Station) (o n : Nat) : Station :=
  let hit (a : Nat) : Bool := n != 0 && decide (o < a + 4) && decide (a < o + n)
  { st with wincnt := if hit 0x28 then 0 else st.wincnt, epcnt := if hit 0x2C then 0 else st.epcnt,
            dupcnt := if hit 0x30 then 0 else st.dupcnt, misscnt := if hit 0x34 then 0 else st.misscnt }

/-- The leading bytes of the space from o on, at most n. -/
def stnRead (k p : Nat) (st : Station) (o n : Nat) : List Byte :=
  ((List.range n).map fun i => stnReg k p st (o + i)).takeWhile Option.isSome |>.map fun b => b.getD 0#8

/-- Whether every byte of [o, o + n) may be written: in an SSR bank that is not in use. -/
def stnWritable (st : Station) (o n : Nat) : Bool :=
  (List.range n).all fun i => decide (0x1000 ≤ o + i) && decide (o + i < 0x2000) && ssrBank st != some ((o + i - 0x1000) / 2048)

def stnWrite (st : Station) (o : Nat) (l : List Byte) : Station :=
  { st with ssr := l.zipIdx.foldl (fun m e => amSet (fun _ => 0#8) m (o - 0x1000 + e.2) e.1) st.ssr }

/-! ### Output slots (R223, R224, R256) -/

/-- An OUT payload for slot n: on_out of R223. -/
def stnOut (st : Station) (epoch : BitVec 16) (seq : Word) (n : Nat) (payload : List Byte) : Station :=
  let x := st.slot n
  let d : Int := (epoch - BitVec.ofNat 16 st.epoch).toInt
  if st.epochValid = false ∨ d < 0 ∨ 1 < d then { st with epcnt := min (2 ^ 32 - 1) (st.epcnt + 1) }
  else if x.have_ = true ∧ (seq - x.lastSeq).toInt ≤ 0 then { st with dupcnt := min (2 ^ 32 - 1) (st.dupcnt + 1) }
  else
    let t := st.setSlot n { x with pend := payload, lastSeq := seq, have_ := true, fresh := true }
    if d = 1 then { t with epoch := epoch.toNat } else t

/-- The station counts a frame outside its window, or dropped. -/
def stnWin (st : Station) : Station := { st with wincnt := min (2 ^ 32 - 1) (st.wincnt + 1) }

/-- An OUT frame reaches the station's procedure when it is addressed to it and lies in its window (R223, R237). -/
def stnOutFrame (k : Nat) (f : Frame) (start : Nat) (st : Station) : Station :=
  if f.ring.toNat = k ∧ f.dst.toNat = st.number then
    match st.outs.find? fun e => e.num == f.slot.toNat with
    | none => st
    | some e =>
      if inWindow ((if f.pos then e.tb else e.ta) * 80) (st.cfg 8 2 150) start then stnOut st f.epoch f.seq e.num f.payload else stnWin st
  else st

/-- At the input instant one OUT slot applies its fresh payload or counts a miss. -/
def stnApply (st : Station) (e : StnEntry) : Station :=
  let x := st.slot e.num
  if x.fresh ∧ st.listen = false ∧ (ssrBank st).isSome then
    st.setSlot e.num { x with fresh := false, out := x.pend, miss := 0, comms := false }
  else st.setSlot e.num { x with fresh := false, miss := x.miss + 1 }

/-- Whether the tick counts as missed (R244, R247, MISSCNT of R243): no matching bank, listen-only, or an OUT slot without a fresh payload. -/
def stnMissed (st : Station) : Bool :=
  (ssrBank st).isNone || st.listen || st.outs.any fun e => !(st.slot e.num).fresh

/-- OUT slots whose misses count. -/
def Station.heldOuts (st : Station) : List StnEntry := (st.bankEntries st.heldBank).filter fun e => e.out

/-- COMMS_LOSS_ACTION on a slot (R256). -/
def stnComms (k p : Nat) (n : Nat) (st : Station) : Station :=
  let x := st.slot n
  if st.heldOuts.any (fun e => e.num == n) ∧ st.bankCfg st.heldBank 3 1 1 ≤ x.miss ∧ x.comms = false then
    let out := match st.bankCfg st.heldBank 4 1 0 with
      | 0 => x.out
      | 1 => Config.stationSafe k p n
      | _ => x.out.map fun _ => 0#8
    st.setSlot n { x with out := out, comms := true }
  else st

/-! ### Sync frames (R246, R247) -/

/-- Timing from the frame that a Clearing has given: slew, or step and listen-only. -/
def stnTiming (st : Station) (y : SyncTake) : Station :=
  let lim := st.cfg 10 2 100
  let st := { st with err := y.err, hold := y.hold, tick := some (y.seq - 1) }
  if y.err.natAbs ≤ lim then
    { st with slew := -y.err, freq := st.freq - (y.err : Rat) / (y.tickLen : Rat),
              good := if y.err.natAbs ≤ 40 then st.good + 1 else 0 }
  else { st with stepped := st.stepped - y.err, slew := 0, listen := true, good := 0 }

/-- on_sync of R223. -/
def stnRearm (st : Station) (y : SyncTake) : Station :=
  let t := { st with epoch := y.epoch, epochValid := true }
  (Station.outs { t with schedId := y.schedId }).foldl (fun t e => t.setSlot e.num { t.slot e.num with lastSeq := y.seq - 1, have_ := true }) t

/-- A port counts a clean tick (R226, R228): a station counts the Clearings with a sync frame that it accepts. -/
def cleanTick (rx : PortRx) (q : PortSt) : PortSt :=
  let q := { q with loss := q.loss - 1 }
  if rx.sig && rx.sync && !rx.f then { q with clean := q.clean + 1 } else q

/-- Both ports count one tick. -/
def stnTick (st : Station) : Station := { st with portA := cleanTick st.rxA st.portA, portB := cleanTick st.rxB st.portB }

/-- A sync frame at a station, with the station's own time of its /S/ in ns (R246); the answer is the station afterwards. -/
def stnSync (p : Bool) (f : Frame) (own : Int) (st : Station) : Station :=
  let y := syncOf f.payload
  let tx := y.iiSec * 1000000000 + y.iiNs
  let sent : Int := (tx : Int) - (BitVec.ofNat 32 tx - BitVec.ofNat 32 y.tx).toInt
  let val : Int := sent + ((y.corr + linkDly (if p then st.portB else st.portA)) / 16 : Nat)
  let nextOk := match st.tick with
    | none => true
    | some t => f.seq == t + 1
  if nextOk = false ∨ (tx : Int) ≤ val then st
  else
    let take : SyncTake := ⟨f.seq, f.epoch.toNat, y.schedId, y.thru, y.hold, own - val, y.tickLen⟩
    let st := if st.took.isNone && st.slave.isNone then stnTick st else st
    let st := { st with swapAB := if f.pos = false ∧ f.loop = false then p else st.swapAB }
    if y.master then
      if st.took.isSome then st else stnRearm (stnTiming { st with took := some take } take) take
    else if st.slave.isSome then st else { st with slave := some take }

/-- A station leaves loopback on the ports that both send and receive /K/ (R228). -/
def stnClose (st : Station) : Station :=
  let shut (rx : PortRx) (q : PortSt) : Bool := rx.loop && q.kTx && rx.k
  let a := shut st.rxA st.portA
  let b := shut st.rxB st.portB
  { st with rxA := if a then { st.rxA with loop := false } else st.rxA, portA := if a then { st.portA with kTx := false } else st.portA,
            rxB := if b then { st.rxB with loop := false } else st.rxB, portB := if b then { st.portB with kTx := false } else st.portB }

/-- An IN payload as a station writes it (R211): FORCED, SIMULATED and the fixed bits of every wire status are 0; `b` BOOL signals stand first. -/
def inClean (b : Nat) (l : List Byte) : List Byte :=
  let h := (b + 3) / 4
  l.take h ++ (l.drop h).zipIdx.map fun e => if e.2 % 5 = 4 then e.1 &&& 0x33#8 else e.1

/-- The input instant at a station (R223, R246, R247, R256): the slave's frame gives timing where no MASTER frame came; outputs apply or
count a miss; the tick moves on; inputs are latched as they will be sent. A station that has accepted no sync frame yet counts the ticks of R228 by
its own input instants (notes/assumptions/81). -/
def stnInstant (k p : Nat) (inputs : List (Nat × List Byte)) (st : Station) : Station :=
  let st := match st.took, st.slave with
    | none, some y => stnTiming st y
    | _, _ => st
  let took := match st.took with
    | some y => some y
    | none => st.slave
  let st := if st.tick.isNone then stnTick st else st
  let st := { st with lastBank := st.heldBank, misscnt := if stnMissed st then min (2 ^ 32 - 1) (st.misscnt + 1) else st.misscnt }
  let st := st.heldOuts.foldl stnApply st
  let st := match took with
    | some y => { st with tick := some y.seq, schedId := y.schedId, static := !y.thru, miss := 0 }
    | none => { st with tick := st.tick.map (· + 1), miss := min 65535 (st.miss + 1), good := 0 }
  { st with took := none, slave := none, latched := inputs.foldl (fun m e => amSet (fun _ => []) m e.1 (inClean (Config.stationBools k p e.1) e.2)) st.latched }

/-- LISTEN_ONLY (R247). -/
def stnListen (st : Station) : Station := if st.cfg 5 1 4 ≤ st.miss then { st with listen := true, good := 0 } else st

/-- LO_EXIT (R247). -/
def stnLoExit (st : Station) : Station := if st.listen ∧ st.cfg 6 1 3 ≤ st.good then { st with listen := false } else st

/-! ### Datagrams (R218, R219, R252) -/

/-- Cut a byte string into pieces of the lengths given. -/
def cutInto : List Nat → List Byte → List (List Byte)
  | [], _ => []
  | n :: ns, l => l.take n :: cutInto ns (l.drop n)

/-- Feed the data of an OUT datagram slot by slot (R223). -/
def stnOutData (epoch : BitVec 16) (seq : Word) (data : List Byte) (st : Station) : Station :=
  (st.outs.zip (cutInto (st.outs.map StnEntry.len) data)).foldl
    (fun t e => if e.2.length = e.1.len then stnOut t epoch seq e.1.num e.2 else t) st

/-- OUT datagram: the addressed station answers and, when the frame's CRC is right and its SEQ is the current tick, takes the data; a good
frame of another tick lies outside the window (R252). -/
def dgOut (epoch : BitVec 16) (seq : Word) (crcOk : Bool) (st : Station) (d : Dgram) : Station × Dgram :=
  if d.addr.toNat = st.number ∧ st.number ≠ 0xFE ∧ st.listen = false then
    (if crcOk = false then st else if st.tick = some seq then stnOutData epoch seq d.data st else stnWin st, { d with rstn := BitVec.ofNat 8 st.number, res := 1#8 })
  else (st, d)

/-- IN datagram: the inputs latched at this tick's input instant. -/
def dgIn (st : Station) (d : Dgram) : Station × Dgram :=
  if d.addr.toNat = st.number ∧ st.number ≠ 0xFE ∧ st.listen = false then
    let own := st.ins.flatMap fun e => (amGet (fun _ => []) st.latched e.num ++ List.replicate e.len 0#8).take e.len
    let n := d.data.length
    (st, { d with rstn := BitVec.ofNat 8 st.number, res := if own.length = n then 1#8 else 3#8,
                  data := (own ++ List.replicate n 0#8).take n })
  else (st, d)

/-- ASSIGN: the station at hop index ADDR takes the number in data byte 0, once the frame's CRC has proved good (R207). -/
def dgAssign (crcOk loop : Bool) (hops : Nat) (st : Station) (d : Dgram) : Station × Dgram :=
  let n := (d.data.getD 0 0#8).toNat
  if loop = false ∧ d.addr.toNat = hops + 1 ∧ ((1 ≤ n ∧ n ≤ 63) ∨ n = 0xFE) then
    (if crcOk then { st with number := n } else st, { d with rstn := BitVec.ofNat 8 n, res := 1#8 })
  else (st, d)

/-- REGRD. -/
def dgRegrd (k p : Nat) (st : Station) (d : Dgram) : Station × Dgram :=
  if d.addr.toNat = st.number ∧ st.number ≠ 0xFE then
    let o := leVal (d.data.take 4)
    let n := d.data.length - 4
    let l := stnRead k p st o n
    (stnClear st o l.length, { d with rstn := BitVec.ofNat 8 st.number,
                                      res := if l.length = n then 1#8 else if l.isEmpty then 2#8 else 3#8,
                                      data := if l.isEmpty ∧ n ≠ 0 then d.data else d.data.take 4 ++ (l ++ List.replicate n 0#8).take n })
  else (st, d)

/-- REGWR; the data takes effect once the frame's CRC has proved good (R207). -/
def dgRegwr (crcOk : Bool) (st : Station) (d : Dgram) : Station × Dgram :=
  if d.addr.toNat = st.number ∧ st.number ≠ 0xFE then
    let o := leVal (d.data.take 4)
    let l := d.data.drop 4
    let a := { d with rstn := BitVec.ofNat 8 st.number }
    if stnWritable st o l.length then (if crcOk then stnWrite st o l else st, { a with res := 1#8 }) else (st, { a with res := 2#8 })
  else (st, d)

/-- One datagram at a station. -/
def dgAny (k p : Nat) (f : Frame) (crcOk : Bool) (st : Station) (d : Dgram) : Station × Dgram :=
  if d.cmd = 1#8 then dgOut f.epoch f.seq crcOk st d
  else if d.cmd = 2#8 then dgIn st d
  else if d.cmd = 3#8 then dgAssign crcOk f.loop f.hops.toNat st d
  else if d.cmd = 4#8 then dgRegrd k p st d
  else if d.cmd = 5#8 then dgRegwr crcOk st d
  else (st, d)

/-- The first passage of a THRU frame at a station (R252): the station afterwards and the frame with its CRC regenerated. -/
def stnThru (k p : Nat) (f : Frame) (st : Station) : Station × Frame :=
  let seen := if f.pos then st.thruB else st.thruA
  if seen = some f.seq then (st, f)
  else
    let ok := crcGood f
    let st := if f.pos then { st with thruB := some f.seq } else { st with thruA := some f.seq }
    let (st, ds) := (dgramsOf 4096 f.payload).foldl (fun x d => let (t, e) := dgAny k p f ok x.1 d; (t, x.2 ++ [e])) (st, [])
    let g := { f with payload := ds.flatMap dgramBytes }
    (st, if ok then withCrc g else { withCrc g with fin := .e })

/-! ### DYN services of a station (R214) -/

/-- A DYN message is consumed once within 256 ticks. -/
def boxTake (tick : Nat) (d : Dyn) (b : DynBox) : DynBox :=
  let key := (d.src.toNat, d.tid.toNat, d.frag.toNat)
  let live := b.seen.filter fun x => decide (tick < x.2.2.2 + 256)
  if live.any fun x => decide ((x.1, x.2.1, x.2.2.1) = key) then { b with seen := live }
  else { b with seen := live ++ [(key.1, key.2.1, key.2.2, tick)], inbox := b.inbox ++ [d] }

/-- The data of a DYN message from its fragments, i-th and later, and the box without them; none while one is missing (R214). -/
def dynParts (key : Dyn) : Nat → Nat → List Dyn → Option (List Byte × List Dyn)
  | 0, _, _ => none
  | fuel + 1, i, box =>
    match box.find? fun d => d.src == key.src && d.tid == key.tid && d.svc == key.svc && d.frag.toNat == i with
    | none => none
    | some d =>
      if d.more then (dynParts key fuel (i + 1) (box.erase d)).map fun r => (d.data ++ r.1, r.2) else some (d.data, box.erase d)

/-- The oldest whole message among those named, put together from its fragments, and the box without it. -/
def dynWhole (want : Dyn → Bool) (box : List Dyn) : Option (Dyn × List Dyn) :=
  box.findSome? fun d =>
    if want d && d.frag == 0 then (dynParts d (box.length + 1) 0 box).map fun r => ({ d with data := r.1, more := false }, r.2) else none

/-- The answer of a station to a request; a long one is cut into fragments when it is sent. -/
def dynAnswer (st : Station) (d : Dyn) (svc : Byte) (data : List Byte) : Station :=
  { st with box := { st.box with outbox := st.box.outbox ++ [(d.src, { src := BitVec.ofNat 8 st.number, svc := svc, tid := d.tid, frag := 0,
                                                                       more := false, data := data })] } }

/-- Serve the oldest waiting request of a service that is there whole; it leaves the queue. -/
def dynServe (svc : Byte) (use : Station → Dyn → Station) (st : Station) : Station :=
  match dynWhole (fun d => d.svc == svc) st.box.inbox with
  | some (d, rest) => use { st with box := { st.box with inbox := rest } } d
  | none => st

/-- An error response, with the device profile's code. -/
def dynError (k p : Nat) (st : Station) (d : Dyn) (idx : Nat) : Station :=
  dynAnswer st d 6#8 (leBytes 2 (Config.profileErr (Config.stationIdent k p) d.svc.toNat idx))

/-- PARAMETER_READ: index and byte count; indices from 0x8000_0000 on are the register space (R243). -/
def stnParamRead (k p : Nat) (st : Station) (d : Dyn) : Station :=
  let idx := leVal (d.data.take 4)
  let n := leVal ((d.data.drop 4).take 2)
  let dev := Config.stationIdent k p
  if 0x80000000 ≤ idx then
    let l := stnRead k p st (idx - 0x80000000) n
    if l.length = n then dynAnswer (stnClear st (idx - 0x80000000) n) d 5#8 (leBytes 4 idx ++ l) else dynError k p st d idx
  else match Config.profileParam dev idx with
    | none => dynError k p st d idx
    | some m =>
      let v := (amGet (fun _ => none) st.params idx).getD (Config.profileInit dev idx)
      dynAnswer st d 5#8 (leBytes 4 idx ++ (v ++ List.replicate m 0#8).take (min n m))

/-- PARAMETER_WRITE: index and value. -/
def stnParamWrite (k p : Nat) (st : Station) (d : Dyn) : Station :=
  let idx := leVal (d.data.take 4)
  let v := d.data.drop 4
  if 0x80000000 ≤ idx then
    let o := idx - 0x80000000
    if stnWritable st o v.length then dynAnswer (stnWrite st o v) d 5#8 (leBytes 4 idx ++ leBytes 2 0) else dynError k p st d idx
  else match Config.profileParam (Config.stationIdent k p) idx with
    | none => dynError k p st d idx
    | some m =>
      if v.length = m then
        dynAnswer { st with params := amSet (fun _ => none) st.params idx (some v) } d 5#8 (leBytes 4 idx ++ leBytes 2 0)
      else dynError k p st d idx

/-- DIAGNOSTIC_READ: page; its bytes are the device's at that moment. -/
def stnDiag (k p n : Nat) (st : Station) (d : Dyn) : Station :=
  let page := leVal (d.data.take 2)
  match Config.profilePage (Config.stationIdent k p) page n with
  | some l => dynAnswer st d 5#8 (leBytes 2 page ++ l)
  | none => dynError k p st d page

/-- FILE_SEGMENT: file, offset, bytes; stored and answered with the next offset. -/
def stnFile (k p : Nat) (st : Station) (d : Dyn) : Station :=
  let file := leVal (d.data.take 4)
  let off := leVal ((d.data.drop 4).take 4)
  let l := d.data.drop 8
  if Config.profileFile (Config.stationIdent k p) file off l.length then
    let t := { st with files := l.zipIdx.foldl (fun m e => amSet (fun _ => 0#8) m (file * 2 ^ 32 + off + e.2) e.1) st.files }
    dynAnswer t d 5#8 (leBytes 4 file ++ leBytes 4 (off + l.length))
  else dynError k p st d file

/-- An answer that is there whole is delivered to the requester of its transaction. -/
def boxAnswer (svc : Byte) (tid : Nat) (b : DynBox) : DynBox :=
  match dynWhole (fun d => d.svc == svc && d.tid.toNat == tid) b.inbox with
  | some (d, rest) =>
    if b.asked.contains tid then { b with inbox := rest, answers := b.answers ++ [d], asked := b.asked.erase tid }
    else { b with inbox := rest }
  | none => b

/-! ### Sending (R235, R237) -/

/-- Whether a station sends IN, DYN and TOKEN frames: it has a number, a matching bank, and is not in listen-only. -/
def Station.sends (st : Station) : Bool := st.number != 0xFE && (ssrBank st).isSome && !st.listen

/-- IN_ACTION_POINT: the frame of a slot into the right train (away from A) or the left train, started at `start` ns, or dropped. -/
def stnInFrame (s : State) (k : Nat) (i : Fin 64) (slot : BitVec 10) (left : Bool) (start : Nat) : State :=
  let st := s.stn k i
  match st.ins.find? fun e => e.num == slot.toNat with
  | none => s
  | some e =>
    if st.sends = false ∨ st.static = false then s
    else
      let p := left == st.swapAB
      if looped s k (.station i) p then s
      else
        let ap := if left then e.tb else e.ta
        if inWindow (ap * 80) (st.cfg 8 2 150) start = false then s.setStn k i stnWin
        else
          let pay := (amGet (fun _ => []) st.latched e.num ++ List.replicate e.len 0#8).take e.len
          stnSend s k i p (withCrc { typ := T_IN, pos := false, src := true, r1 := 0, prod := BitVec.ofNat 8 st.number, dst := 0x42#8,
                                     ring := BitVec.ofNat 5 k, r2 := false, slot := slot, epoch := BitVec.ofNat 16 st.epoch, seq := st.tick.getD 0#32,
                                     len := BitVec.ofNat 16 e.len, loop := false, hops := 0, rbc := 0, payload := pay, crc := 0, fin := .t })
                                     
/-! ### Meanings -/

/-- OUT_FRAME (R223). -/
def execOutFrame (k : Fin 24) (pos : Fin 64) (port : Bool) (f : Frame) (start : Nat) (s : State) : Out3 :=
  .next (receive k (.station pos) port f
    (fun t => (if f.typ = T_OUT then t.setStn k pos (stnOutFrame k f start) else t, f)) s)

/-- PARAMETER_READ (R214). -/
def execParameterRead (k : Fin 24) (pos : Fin 64) (s : State) : Out3 := .next (s.setStn k pos (dynServe 1#8 (stnParamRead k pos)))
/-- PARAMETER_WRITE (R214). -/
def execParameterWrite (k : Fin 24) (pos : Fin 64) (s : State) : Out3 := .next (s.setStn k pos (dynServe 2#8 (stnParamWrite k pos)))
/-- DIAGNOSTIC_READ (R214). -/
def execDiagnosticRead (k : Fin 24) (pos : Fin 64) (s : State) : Out3 :=
  .next ({ s with free := s.free + 1 }.setStn k pos (dynServe 3#8 (stnDiag k pos s.free)))
/-- FILE_SEGMENT (R214). -/
def execFileSegment (k : Fin 24) (pos : Fin 64) (s : State) : Out3 := .next (s.setStn k pos (dynServe 4#8 (stnFile k pos)))

/-- DATAGRAM_OUT (R218). -/
def execDatagramOut (k : Fin 24) (pos : Fin 64) (epoch : BitVec 16) (seq : Word) (d : Dgram) (s : State) : Out3 :=
  let (t, e) := dgOut epoch seq true (s.stn k pos) d
  .next ((s.setStn k pos fun _ => t).send (.dgram k pos e))
/-- DATAGRAM_IN (R218). -/
def execDatagramIn (k : Fin 24) (pos : Fin 64) (d : Dgram) (s : State) : Out3 :=
  let (t, e) := dgIn (s.stn k pos) d
  .next ((s.setStn k pos fun _ => t).send (.dgram k pos e))
/-- ASSIGN (R218). -/
def execAssign (k : Fin 24) (pos : Fin 64) (loop : Bool) (hops : BitVec 7) (d : Dgram) (s : State) : Out3 :=
  let (t, e) := dgAssign true loop hops.toNat (s.stn k pos) d
  .next ((s.setStn k pos fun _ => t).send (.dgram k pos e))
/-- REGRD (R218). -/
def execRegrd (k : Fin 24) (pos : Fin 64) (d : Dgram) (s : State) : Out3 :=
  let (t, e) := dgRegrd k pos (s.stn k pos) d
  .next ((s.setStn k pos fun _ => t).send (.dgram k pos e))
/-- REGWR (R218). -/
def execRegwr (k : Fin 24) (pos : Fin 64) (d : Dgram) (s : State) : Out3 :=
  let (t, e) := dgRegwr true (s.stn k pos) d
  .next ((s.setStn k pos fun _ => t).send (.dgram k pos e))

/-- IN_ACTION_POINT (R235). -/
def execInActionPoint (k : Fin 24) (pos : Fin 64) (slot : BitVec 10) (left : Bool) (start : Nat) (s : State) : Out3 :=
  .next (stnInFrame s k pos slot left start)
/-- STATION_INPUT_INSTANT (R223). -/
def execStationInputInstant (k : Fin 24) (pos : Fin 64) (inputs : List (Nat × List Byte)) (s : State) : Out3 :=
  .next (s.setStn k pos (stnInstant k pos inputs))
/-- COMMS_LOSS_ACTION (R256). -/
def execCommsLossAction (k : Fin 24) (pos : Fin 64) (slot : BitVec 10) (s : State) : Out3 :=
  .next (s.setStn k pos (stnComms k pos slot.toNat))
/-- LISTEN_ONLY (R247). -/
def execListenOnly (k : Fin 24) (pos : Fin 64) (s : State) : Out3 := .next (s.setStn k pos stnListen)
/-- LO_EXIT (R247). -/
def execLoExit (k : Fin 24) (pos : Fin 64) (s : State) : Out3 := .next (s.setStn k pos stnLoExit)

end Sys2Proof.Machine
end

