-- ==== Sys2Proof/Machine/Rings.lean ====
section
/-! DEFINITION. The module's side of its rings (chapters 08, 09): accepting inputs, sending outputs, sync frames and the contest, start-up,
link faults and closing, mode decision, lost stations, ring schedules. -/

namespace Sys2Proof.Machine

open Sys2Proof

/-! ### Small operations -/

/-- A loopback only at the backplane link: the partner's frames still come straight from the stations (R254). -/
def backplaneOnly (s : State) (k : Nat) : Bool :=
  !modLoop s k false && (match (s.ring k).parDirect with
    | some t => decide (s.seq.tick ≤ t + 1)
    | none => false)

/-- Whether the role sends sync frames (R245). -/
def syncRole (s : State) : Bool := s.role.master || s.role == .standby || s.role == .stopped

/-- Set bit n of the station bit map in a _LO and _HI register. -/
def stnBit (s : State) (lo hi n : Nat) (b : Bool) : State :=
  if n < 32 then s.flag lo ⟨n, n⟩ b else s.flag hi ⟨n - 32, n - 32⟩ b

/-- Raise a VGX_EVT bit. -/
def vgxEvt (s : State) (k : Nat) (f : Fld) : State := s.raise (32 + k) (VGX_EVT k) f

/-- Current mode of ring k: through-frame (VGX_RMODE.MODE). -/
def ringThru (s : State) (k : Nat) : Bool := s.on (VGX_RMODE k) VGX_RMODE_MODE

/-- Start-up phase. -/
def ringPhase (s : State) (k : Nat) : Nat := s.rd (VGX_RMODE k) VGX_RMODE_START

/-- Low 32 bits of the tick number. -/
def seqNow (s : State) : Word := BitVec.ofNat 32 s.seq.tick

/-- Whether the module may send frames of its own on ring k (R248). -/
def ringMaySend (s : State) (k : Nat) : Bool := !s.on (VGX_RMODE k) VGX_RMODE_CEDED

/-- A frame that this module produces now. -/
def ownFrame (s : State) (k : Nat) (typ dst : Byte) (slot : Nat) (payload : List Byte) : Frame :=
  withCrc { typ := typ, pos := s.posB, src := false, r1 := 0, prod := 0, dst := dst, ring := BitVec.ofNat 5 k, r2 := false,
            slot := BitVec.ofNat 10 slot, epoch := BitVec.ofNat 16 (s.rd PAR_EPOCH PAR_EPOCH_EPOCH), seq := seqNow s,
            len := BitVec.ofNat 16 payload.length, loop := false, hops := 0, rbc := 0, payload := payload, crc := 0, fin := .t }

/-! ### Ring DMA (08 R213) -/

/-- A ring DMA access was denied after n entries. -/
def dmaErr (s : State) (k n code : Nat) (out : Bool) (slot : Nat) : State :=
  (s.rset (VGX_DMAERR k) (BitVec.ofNat 32 (8 * n * 2 ^ 16 + code * 2 ^ 13 + (if out then 2 ^ 12 else 0) + slot))).raise (32 + k)
    (VGX_STATUS k) VGX_STATUS_DMAERR

/-- Write input entries in list order until one access is denied: n entries are done. -/
def dmaIn (k slot : Nat) (c : Nat) : Nat → List (Nat × Word × Byte) → State → State
  | _, [], s => s
  | n, (i, v, st) :: l, s =>
    match present s .write (mattrXfer s (0x50 + k) 3) (0x0200000000 + c * 0x100000 + 8 * i) 8 false with
    | (.error code, t) => dmaErr t k n code false slot
    | (.ok _, t) => dmaIn k slot c (n + 1) l ((writeInput t i v st).eccClear (0x0200000000 + c * 0x100000 + 8 * i))

/-- Read output entries in list order; none where one access is denied. -/
def dmaOut (k slot : Nat) : Nat → List Nat → State → Bool × State
  | _, [], s => (true, s)
  | n, i :: l, s =>
    match present s .read (mattrXfer s (0x50 + k) 2) (0x0200100000 + 8 * i) 8 false with
    | (.error code, t) => (false, dmaErr t k n code true slot)
    | (.ok _, t) => dmaOut k slot (n + 1) l t

/-- Write the payload of an accepted IN slot into the input copy (R211). -/
def writeSlot (s : State) (k : Nat) (x : SlotDef) (p : List Byte) : State :=
  match inputCopy s with
  | none => s
  | some c => dmaIn k x.num c 0 (x.sigs.zip (unpackSigs (sigBools s x.sigs) p)) s

/-- Values of an OUT slot's signals as the segment sends them. -/
def outVals (s : State) (x : SlotDef) : List (Nat × Word × Byte) := x.sigs.map fun i => (i, sentValue s (s.seq.gate = .safe) i)

/-- OUT payload without sending it: what RING_DIG covers (10 R277). -/
def outPayloadView (s : State) (x : SlotDef) : List Byte := packSigs ((sigBools s x.sigs).zip ((outVals s x).map Prod.snd))

/-- Payload of an OUT slot as the segment sends it, after its DMA reads; none where a read is denied (R210, R213). -/
def outPayload (s : State) (k : Nat) (x : SlotDef) : Option (List Byte) × State :=
  let (ok, t) := if s.seq.gate = .safe then (true, s) else dmaOut k x.num 0 x.sigs s
  (if ok then some (outPayloadView t x) else none, t)

/-- The values of slots that have gone out are the ones last sent (05 R123). -/
def markSlots (xs : List SlotDef) (s : State) : State :=
  xs.foldl (fun t x => (outVals s x).foldl (fun u e => markSent u e.1 e.2) t) s

/-! ### Inputs (R212, R219, R257) -/

/-- One of a station's IN slots has been refreshed: the station is not lost (R257). -/
def ringFresh (s : State) (k stn : Nat) : State :=
  let s := s.setRing k fun r => { r with fresh := insertLine stn r.fresh, lost := amSet (fun _ => 0) r.lost stn 0 }
  if wbit (s.rd64 (VGX_LOST_LO k) (VGX_LOST_HI k)) stn then vgxEvt (stnBit s (VGX_LOST_LO k) (VGX_LOST_HI k) stn false) k VGX_EVT_STN_BACK
  else s

/-- End of the input static segment of ring k. -/
def inEnd (s : State) (k : Nat) : Nat := (s.ring k).sIn + (((s.ring k).sched.map Sched.tIn).getD 0) * 80

/-- An IN frame with a good CRC at a module port whose /S/ arrived at `start` ns (R212, R75). -/
def inAccept (k : Nat) (p : Bool) (f : Frame) (start : Nat) (s : State) : State :=
  match (s.ring k).sched.bind fun c => (slotOf c f.slot.toNat false).map fun x => (c, x) with
  | none => ringCount s k p 5
  | some (c, x) =>
    if f.ring.toNat ≠ k ∨ f.src = false ∨ f.prod.toNat ≠ x.owner ∨ f.len.toNat ≠ x.len then ringCount s k p 5
    else if f.seq ≠ seqNow s then ringCount s k p 7
    else if inWindow (inCentre s k p c x) c.w start = false then ringCount s k p 6
    else if s.seq.agree ∨ inEnd s k ≤ start * 80 + wireU x.len then ringCount s k p 7
    else if (s.ring k).acc.any fun e => e.1 == x.num then ringCount s k p 8
    else
      let t := s.setRing k fun r => { r with acc := r.acc ++ [(x.num, f.crc)] }
      ringFresh (writeSlot t k x f.payload) k x.owner

/-- IN slots of a station, in slot order. -/
def stnInSlots (c : Sched) (n : Nat) : List SlotDef := (inSlots c).filter fun x => x.owner == n
def stnOutSlots (c : Sched) (n : Nat) : List SlotDef := (outSlots c).filter fun x => x.owner == n

/-- Whether a datagram carries IN data that a station has answered (R219). -/
def dgServed (d : Dgram) : Bool := d.cmd == 2#8 && d.res == 1#8 && d.rstn == d.addr

/-- An IN datagram that a module reads from a THRU frame (R219): its data is accepted once a tick, a repeat is counted as DUP. -/
def dgAccept (k : Nat) (p : Bool) (c : Sched) (s : State) (d : Dgram) : State :=
  let n := d.addr.toNat
  if dgServed d = false then s
  else if (s.ring k).thruAcc.any fun e => e.1 == n then ringCount s k p 8
  else
    let xs := stnInSlots c n
    let t := s.setRing k fun r => { r with thruAcc := r.thruAcc ++ [(n, crc32 d.data)] }
    ringFresh ((xs.zip (cutInto (xs.map SlotDef.len) d.data)).foldl (fun u e => writeSlot u k e.1 e.2) t) k n

/-- Identity of a station from the bytes of its register space. -/
def identOf (l : List Byte) : StnIdent :=
  ⟨leVal (l.take 4), leVal ((l.drop 4).take 4), leVal ((l.drop 8).take 8), leVal ((l.drop 16).take 2)⟩

/-- Number that start-up phase 4 gives the station at hop index h: that of the listed station with the identity read there, or none (R249). -/
def hopNumber (s : State) (k h : Nat) : Nat :=
  let list := ((s.ring k).sched.map Sched.stations).getD []
  (((amGet (fun _ => none) (s.ring k).ids h).bind fun i => list.find? fun d => d.ident == i).map StnDef.num).getD 0xFE

/-- SSR that start-up phase 6 loads into a station. -/
def ssrWanted (s : State) (k n : Nat) : Option (List Byte) :=
  let r := s.ring k
  r.sched.bind fun c => (c.stations.find? fun d => d.num == n).map fun d => ssrBytes s s.bank k c r.order r.meas d

/-- A datagram of the own THRU frame that has come back in start-up phases 4 to 6 (R249): identity, delays, or the SSR read back. -/
def dgStartup (k : Nat) (s : State) (d : Dgram) : State :=
  let n := d.addr.toNat
  let l := d.data.drop 4
  let g (o : Nat) : Nat := leVal ((l.drop o).take 4)
  if d.cmd ≠ 4#8 ∨ d.res ≠ 1#8 ∨ d.rstn ≠ d.addr then s
  else match ringPhase s k with
    | 4 => s.setRing k fun r => { r with ids := amSet (fun _ => none) r.ids n (some (identOf l)) }
    | 5 => s.setRing k fun r => { r with dlys := amSet (fun _ => none) r.dlys n (some (g 0, g 4, g 8)) }
    | 6 => if ssrWanted s k n = some l then s.setRing k fun r => { r with loaded := insertLine n r.loaded } else s
    | _ => s

/-- The own THRU frame that returns during the start-up: the count of phase 3, the answers of phases 4 to 6 (R249). -/
def thruStartup (k : Nat) (f : Frame) (s : State) : State :=
  if f.pos ≠ s.posB then s
  else if ringPhase s k = 3 then s.setRing k fun r => { r with mCnt := f.hops.toNat - 1 }
  else (dgramsOf 4096 f.payload).foldl (dgStartup k) s

/-- The partner's THRU frame of a segment has been handled: on a healed ring the own one may follow (R251). -/
def thruSeen (k : Nat) (f : Frame) (s : State) : State :=
  if f.pos = s.posB ∨ f.seq ≠ seqNow s then s
  else s.setRing k fun r => if r.sOut = 0 then { r with thruIn := true } else { r with thruOut := true }

/-- A THRU frame at a module: the start-up's answers, the launch of R251, and the IN data under the conditions of R212 (R219): an answered IN
datagram of another ring counts as TYPE, of another tick or after the segment as LATE. -/
def thruModule (k : Nat) (p : Bool) (f : Frame) (s : State) : State :=
  let s := thruSeen k f (thruStartup k f s)
  let ds := dgramsOf 4096 f.payload
  match (s.ring k).sched with
  | some c =>
    if ds.any dgServed = false then s
    else if f.ring.toNat ≠ k then ringCount s k p 5
    else if f.seq ≠ seqNow s ∨ s.seq.agree = true ∨ inEnd s k ≤ nowU s then ringCount s k p 7
    else ds.foldl (dgAccept k p c) s
  | none => s

/-- Quality of an input entry becomes STALE (R257). -/
def staleInput (s : State) (i : Nat) : State :=
  match inputCopy s with
  | some c => s.setEntry c i { s.entry c i with status := ((s.entry c i).status &&& 0xFC#8) ||| 2#8 }
  | none => s

/-- INPUT_SEGMENT_END of ring k (R257; 03 R70). -/
def segmentEnd (k : Nat) (s : State) : State :=
  if (s.ring k).inSeg = false then s
  else
    let t := match (s.ring k).sched with
      | none => s
      | some c =>
        let r := s.ring k
        let miss := (inSlots c).filter fun (x : SlotDef) =>
          if ringThru s k then !(r.thruAcc.any fun e => e.1 == x.owner) else !(r.acc.any fun e => e.1 == x.num)
        miss.foldl (fun (u : State) (x : SlotDef) => x.sigs.foldl staleInput u) s
    let t := t.setRing k fun r => { r with inSeg := false }
    if t.freeMode ∧ (List.range 24).all (fun j => !(t.ring j).inSeg) then endFill t else t

/-- STATION_LOST (R257): ticks before this one, and this one once its agreement has ended. -/
def stnLost (k n : Nat) (s : State) : State :=
  let r := s.ring k
  let ended := !r.inSeg && (s.pair.inDone || !inPair s)
  let cnt := amGet (fun _ => 0) r.lost n + (if ended ∧ r.fresh.contains n = false then 1 else 0)
  if n ≠ 0 ∧ ringRuns s k ∧ s.rd (VGX_STNCFG k) VGX_STNCFG_LOST_N ≤ cnt
      ∧ wbit (s.rd64 (VGX_LOST_LO k) (VGX_LOST_HI k)) n = false ∧ (r.sched.map fun c => c.stations.any fun d => d.num == n) = some true then
    (vgxEvt (stnBit s (VGX_LOST_LO k) (VGX_LOST_HI k) n true) k VGX_EVT_STN_LOST).eventReg (32 + k) (VGX_EVT k) VGX_EVT_STN_LOST
  else s

/-! ### Sending (R236, R240, R245, R251) -/

/-- OUT_SLOT_SEND. -/
def outSlotSend (k slot : Nat) (s : State) : State :=
  if ringThru s k ∨ s.seq.gate = .closed ∨ ringMaySend s k = false then s
  else match (s.ring k).sched.bind fun c => slotOf c slot true with
    | none => s
    | some x =>
      match outPayload s k x with
      | (some p, t) =>
        let f := ownFrame t k T_OUT (BitVec.ofNat 8 x.owner) x.num p
        if ringCanSend t k f then markSlots [x] (ringSend t k f) else t
      | (none, t) => t

/-- Datagrams of a THRU frame of this module, in the order of the station list, with the OUT slots that they carry; an OUT datagram whose reads
are denied is left out. -/
def thruDgrams (s : State) (k : Nat) (c : Sched) (inSeg : Bool) : List Dgram × List SlotDef × State :=
  c.stations.foldl (fun (x : List Dgram × List SlotDef × State) (d : StnDef) =>
    let addr := BitVec.ofNat 8 d.num
    if inSeg then
      (x.1 ++ [⟨2#8, addr, 0#8, 0#8, List.replicate ((stnInSlots c d.num).map SlotDef.len).sum 0#8⟩], x.2)
    else
      let (pay, t) := (stnOutSlots c d.num).foldl (fun (y : Option (List Byte) × State) (o : SlotDef) =>
        let (p, u) := outPayload y.2 k o
        (match y.1, p with
         | some a, some b => some (a ++ b)
         | _, _ => none, u)) (some [], x.2.2)
      match pay with
      | some p => (x.1 ++ [⟨1#8, addr, 0#8, 0#8, p⟩], x.2.1 ++ stnOutSlots c d.num, t)
      | none => (x.1, x.2.1, t)) ([], [], s)

/-- An empty THRU frame: one datagram without data that addresses no station. -/
def emptyThru : List Byte := dgramBytes ⟨0#8, 0#8, 0#8, 0#8, []⟩

/-- A THRU payload of datagrams. -/
def thruBytes (ds : List Dgram) : List Byte := if ds.isEmpty then emptyThru else ds.flatMap dgramBytes

/-- A REGRD datagram for n bytes from offset o. -/
def regrdOf (addr o n : Nat) : Dgram := ⟨4#8, BitVec.ofNat 8 addr, 0#8, 0#8, leBytes 4 o ++ List.replicate n 0#8⟩

/-- Datagrams that the winner's THRU frames carry in a start-up phase (R249); `t` counts the phase's ticks from 0. Phase 4: numbers by hop index,
identities, scheduled numbers, one tick each; phase 5: DLY_A, DLY_B and RES; phase 6: the SSRs of eight stations a tick, written in the input segment
and read back in the output segment. -/
def startupDgrams (s : State) (k ph t : Nat) (inSeg : Bool) : List Dgram :=
  let m := s.rd (VGX_RMODE k) VGX_RMODE_STN_CNT
  let hops := (List.range m).map (· + 1)
  let assign (h n : Nat) : Dgram := ⟨3#8, BitVec.ofNat 8 h, 0#8, 0#8, [BitVec.ofNat 8 n]⟩
  match ph, inSeg with
  | 4, true =>
    if t = 0 then hops.map fun h => assign h h
    else if t = 1 then hops.map fun h => regrdOf h 0 18
    else hops.map fun h => assign h (hopNumber s k h)
  | 5, true => ((s.ring k).order.filter fun n => n != 0xFE).map fun n => regrdOf n 0x18 12
  | 6, _ =>
    (((s.ring k).order.drop (8 * t)).take 8).filterMap fun n => (ssrWanted s k n).map fun l =>
      if inSeg then ⟨5#8, BitVec.ofNat 8 n, 0#8, 0#8, leBytes 4 0x1000 ++ l⟩ else regrdOf n 0x1000 l.length
  | _, _ => []

/-- Whether the THRU frame may go now (R251): on a healed ring the partner of the tick master waits until it has handled the master's frame of the
same SEQ, at the latest until D_ML after the launch instant. -/
def thruLaunch (s : State) (k : Nat) (c : Sched) (inSeg : Bool) : Bool :=
  let r := s.ring k
  s.role.master || !s.on (VGX_RMODE k) VGX_RMODE_HEALED || (if inSeg then r.thruIn else r.thruOut)
    || decide ((if inSeg then r.sIn else r.sOut) + leadU c + dMl s k (backplaneOnly s k) ≤ nowU s)

/-- THRU_SEND (R251, R249). -/
def thruSend (k : Nat) (inSeg : Bool) (s : State) : State :=
  let ph := ringPhase s k
  if ringThru s k = false ∨ ringMaySend s k = false then s
  else if 2 ≤ ph ∧ ph ≤ 7 then ringSend s k (ownFrame s k T_THRU 0#8 0 (thruBytes (startupDgrams s k ph (s.ring k).phTicks inSeg)))
  else match s.role.master || s.role == .standby || s.role == .stopped, (s.ring k).sched with
    | true, some c =>
      if (inSeg = false ∧ s.seq.gate = .closed) ∨ thruLaunch s k c inSeg = false then s
      else
        let (ds, xs, t) := thruDgrams s k c inSeg
        let f := ownFrame t k T_THRU 0#8 0 (thruBytes ds)
        if ringCanSend t k f then markSlots xs (ringSend t k f) else t
    | _, _ => s

/-- A DYN message as one frame carries it: whole, or its next fragment and what is left (R214, R240). -/
def dynCut (mx : Nat) (d : Dyn) : Dyn × Option Dyn :=
  if 8 + d.data.length ≤ mx then (d, none)
  else ({ d with data := d.data.take (mx - 8), more := true }, some { d with data := d.data.drop (mx - 8), frag := d.frag + 1 })

/-- The next frame of a node's queue: a longer message goes in fragments, and one that no fragment can carry is never sent (R240). -/
def dynNext (mx : Nat) (own : Option (Byte × Dyn)) (b : DynBox) : Option (Byte × Dyn) × DynBox :=
  let q := (b.outbox ++ own.toList).filter fun e => decide (8 + e.2.data.length ≤ mx) || decide (8 < mx)
  match q with
  | [] => (none, { b with outbox := [] })
  | (dst, d) :: rest =>
    let (h, l) := dynCut mx d
    let ask := decide (1 ≤ d.svc.toNat) && decide (d.svc.toNat ≤ 4) && d.frag == 0
    (some (dst, h), { b with outbox := (l.toList.map fun x => (dst, x)) ++ rest, asked := if ask then b.asked ++ [d.tid.toNat] else b.asked })

/-- DYN_SEND (R240): a module into its own train, a station into both. -/
def dynSend (k : Nat) (n : RNode) (own : Option (Byte × Dyn)) (s : State) : State :=
  match n with
  | .module =>
    match (s.ring k).sched with
    | none => s
    | some c =>
      if ringMaySend s k = false then s
      else
        let (e, b) := dynNext c.dynMax own (s.ring k).box
        let t := s.setRing k fun r => { r with box := b }
        match e with
        | none => t
        | some (dst, d) =>
          ringSend t k (ownFrame t k T_DYN dst 0 (dynBytes { d with src := if s.posB then 0x41#8 else 0x40#8 }))
  | .station i =>
    let st := s.stn k i
    if st.sends = false then s
    else
      let (e, b) := dynNext (st.cfg 26 2 8) own st.box
      let t := s.setStn k i fun x => { x with box := b }
      match e with
      | none => t
      | some (dst, d) =>
        let p := dynBytes { d with src := BitVec.ofNat 8 st.number }
        let f : Frame := withCrc { typ := T_DYN, pos := false, src := true, r1 := 0, prod := BitVec.ofNat 8 st.number, dst := dst,
                                   ring := BitVec.ofNat 5 k, r2 := false, slot := 0, epoch := BitVec.ofNat 16 st.epoch,
                                   seq := st.tick.getD 0#32, len := BitVec.ofNat 16 p.length, loop := false, hops := 0, rbc := 0,
                                   payload := p, crc := 0, fin := .t }
        stnSend (stnSend t k i false f) k i true f

/-! ### Links (R225 to R228) -/

/-- LINK_FAILURE at a module's port; an OFF or STOPPING port receives nothing (R230). /F/ is a valid ordered set: SIG and SYNC are 1 (R203). -/
def modFail (k : Nat) (p : Bool) (why : LinkFail) (s : State) : State :=
  let (a, _, _, _) := modRx p
  let sig := s.on (VGX_LINK k) a
  let lost (t : State) : State := setPort t k .module p fun q => { q with loss := s.rd (VGX_CFG k) VGX_CFG_CLOSE_HOLD }
  if receives s k .module p = false then s
  else match why with
    | .disabled => s
    | .code => setPort (ringCount s k p 2) k .module p fun q => { q with clean := 0, kTx := false }
    | .sig => lost (enterLoop (setModRx s k p false false false false) k p)
    | .sync => lost (enterLoop (setModRx s k p sig false false false) k p)
    | .fault => enterLoop (setModRx s k p true true true false) k p

/-- LINK_FAILURE at a station's port. -/
def stnFail (p : Bool) (why : LinkFail) (st : Station) : Station :=
  let rx := if p then st.rxB else st.rxA
  let q := if p then st.portB else st.portA
  let (rx, q) := match why with
    | .disabled => ({ rx with off := true, loop := true }, { q with kTx := false, clean := 0 })
    | .code => (rx, { q with kTx := false, clean := 0 })
    | .sig => ({ rx with loop := true, sig := false, sync := false, f := false, k := false },
        { q with loss := st.hold, kTx := false, clean := 0 })
    | .sync => ({ rx with loop := true, sync := false, f := false, k := false }, { q with loss := st.hold, kTx := false, clean := 0 })
    | .fault => ({ rx with loop := true, sig := true, sync := true, f := true, k := false }, { q with kTx := false, clean := 0 })
  if p then { st with rxB := rx, portB := q } else { st with rxA := rx, portA := q }

/-- LINK_SYNC_GAINED: signal and sync are there, with the ordered set received (R203); an OFF or STOPPING port receives nothing (R230). -/
def modGain (k : Nat) (p : Bool) (rx : LinkRx) (s : State) : State :=
  if receives s k .module p = false then s else
  let (_, b, c, _) := modRx p
  let fresh := !s.on (VGX_LINK k) b || s.on (VGX_LINK k) c
  let t := setModRx s k p true true (rx = .fault) (rx = .ready)
  let t := if fresh then setPort t k .module p fun q => { q with clean := 0 } else t
  if rx = .fault then enterLoop t k p else t

def stnGain (p : Bool) (rx : LinkRx) (st : Station) : Station :=
  let x := if p then st.rxB else st.rxA
  let q := if p then st.portB else st.portA
  let q := if !x.sync || x.f || rx = .fault then { q with clean := 0, kTx := false } else q
  let x := { x with sig := true, sync := true, f := rx = .fault, k := rx = .ready, loop := x.loop || rx = .fault }
  if p then { st with rxB := x, portB := q } else { st with rxA := x, portA := q }

/-- CLOSE_HOLD_REACHED at a module's port. -/
def modHold (k : Nat) (p : Bool) (s : State) : State :=
  let (a, b, c, _) := modRx p
  let q := portOf s k .module p
  let est := modPortState s k p
  if modLoop s k p ∧ (est = 1 ∨ est = 2) ∧ s.on (VGX_LINK k) a ∧ s.on (VGX_LINK k) b ∧ ¬ s.on (VGX_LINK k) c
      ∧ s.on (VGX_CFG k) (if p then VGX_CFG_FLOOP_P else VGX_CFG_FLOOP_S) = false ∧ s.rd (VGX_CFG k) VGX_CFG_CLOSE_HOLD ≤ q.clean then
    setPort s k .module p fun q => { q with kTx := true }
  else s

def stnHold (p : Bool) (st : Station) : Station :=
  let x := if p then st.rxB else st.rxA
  let q := if p then st.portB else st.portA
  if x.loop ∧ x.sig ∧ x.sync ∧ ¬ x.f ∧ ¬ x.off ∧ st.hold ≤ q.clean then
    (if p then { st with portB := { q with kTx := true } } else { st with portA := { q with kTx := true } })
  else st

/-- Enable word of a ring port. -/
def portUnit (k : Nat) (p : Bool) : UnitId := if p then .portP (Fin.ofNat 24 k) else .portS (Fin.ofNat 24 k)

/-- Whether a port may carry frames once its loop closes: it is ON, or its start has nothing left to wait for (R231; 06 R165). -/
def portReady (s : State) (k : Nat) (p : Bool) : Bool :=
  modPortState s k p == 2
    || (modPortState s k p == 1 && !(s.unit (enAddr (portUnit k p))).waiting && testsDone s (portUnit k p))

/-- A module leaves loopback at the /T/ of a sync frame on each port that sends and receives /K/; a starting port is then ON (R228, R231). -/
def modCloseOne (k : Nat) (s : State) (p : Bool) : State :=
  let (_, _, _, d) := modRx p
  let a := if p then VGX_EN_P k else VGX_EN_S k
  if modLoop s k p ∧ (portOf s k .module p).kTx ∧ s.on (VGX_LINK k) d ∧ portReady s k p then
    let t := setPort (s.wr (VGX_LINK k) (if p then VGX_LINK_P_LOOP else VGX_LINK_S_LOOP) 0) k .module p fun q => { q with kTx := false }
    let t := (t.wr a U_STATE 2).raise (32 + k) (VGX_STATUS k) VGX_STATUS_CLOSE
    let ph := ringPhase t k
    if 3 ≤ ph ∧ ph ≤ 6 then (t.wr (VGX_RMODE k) VGX_RMODE_START 2).setRing k fun r => { r with phTicks := 0 } else t
  else s

def modClose (k : Nat) (s : State) : State := modCloseOne k (modCloseOne k s false) true

/-! ### Health and mode (R253 to R255) -/

/-- What a good frame that a module takes off an unlooped port says of the ring (R254): LOOP = 1 shows a loopback; the own frame back with LOOP = 0,
or the partner's from the stations with LOOP = 0 at a module that sends none, shows the way round open, both own ports being closed. -/
def ringEvidence (k : Nat) (p : Bool) (f : Frame) (s : State) : State :=
  if f.loop then s.setRing k fun r => { r with closed := false }
  else if f.src = false ∧ (f.pos = s.posB ∨ (p = false ∧ (syncRole s && ringMaySend s k) = false)) then
    s.setRing k fun r => { r with closed := !modLoop s k false && !modLoop s k true }
  else s

/-- HEALED, ONE_SIDED, DLOOP and DML of ring k. -/
def ringHealth (s : State) (k : Nat) : State :=
  let r := s.ring k
  let up := s.isOn (.portS (Fin.ofNat 24 k)) || s.isOn (.portP (Fin.ofNat 24 k))
  let healed := up && !r.closed
  let one := healed && !ringThru s k && !backplaneOnly s k
  let was := s.on (VGX_RMODE k) VGX_RMODE_ONE_SIDED
  let t := (s.flag (VGX_RMODE k) VGX_RMODE_HEALED healed).flag (VGX_RMODE k) VGX_RMODE_ONE_SIDED one
  let t := t.rset (VGX_DLOOP k) (if r.closed then BitVec.ofNat 32 (toNs (dLoop s k r.meas)) else 0#32)
  let t := t.rset (VGX_DML k) (if r.closed then 0#32 else BitVec.ofNat 32 (toNs (dMl s k (backplaneOnly s k))))
  if one && !was then vgxEvt t k VGX_EVT_ONE_SIDED else t

/-- The mode decision of R255 for one ring: through-frame or not, and whether FITFAIL is set. -/
def modeChoice (s : State) (k : Nat) : Bool × Bool :=
  let ph := ringPhase s k
  let near := (s.ring k).closed || backplaneOnly s k
  if s.freeMode ∨ s.on (VGX_RCTL k) VGX_RCTL_THRU_FORCE ∨ (1 ≤ ph ∧ ph < 7) then (true, false)
  else match (s.ring k).sched with
    | none => (true, false)
    | some c =>
      if ringRuns s k = false then (true, false)
      else if near then (if s.on (VGX_SCHED k) VGX_SCHED_FIT then (false, false) else (true, true))
      else (s.on (VGX_RCTL k) VGX_RCTL_AUTO_FALLBACK && healedFit s k c (backplaneOnly s k), false)

/-- The tick master decides the ring's mode for the tick after next (R255). -/
def decideMode (s : State) (k : Nat) : State :=
  if s.role.master ∨ s.freeMode then
    let (m, fail) := modeChoice s k
    let t := s.setRing k fun r => { r with dec := m }
    if fail then vgxEvt t k VGX_EVT_FITFAIL else t
  else s

/-- What a Clearing does on ring k: clean ticks count, the mode decided in the last Clearing is announced, and the next is decided. -/
def ringClear (s : State) (k : Nat) : State :=
  let count (p : Bool) (t : State) : State :=
    let (a, b, c, _) := modRx p
    setPort t k .module p fun q =>
      { q with loss := q.loss - 1,
               clean := if t.on (VGX_LINK k) a && t.on (VGX_LINK k) b && !t.on (VGX_LINK k) c then q.clean + 1 else q.clean }
  let t := count true (count false s)
  let t := t.flag (VGX_RMODE k) VGX_RMODE_NEXT (t.ring k).dec
  decideMode (ringHealth t k) k

/-- What the input instant does on ring k: the announced mode takes effect, and the tick's record starts anew (R255, R257). -/
def ringInstant (s : State) (k : Nat) : State :=
  let new := s.on (VGX_RMODE k) VGX_RMODE_NEXT
  let t := if ringThru s k = new then s else vgxEvt (s.flag (VGX_RMODE k) VGX_RMODE_MODE new) k VGX_EVT_MODECHG
  let t := if new then t.wr (VGX_RMODE k) VGX_RMODE_ONE_SIDED 0 else t
  let r := t.ring k
  let stns := match r.sched with
    | some c => if ringRuns t k then c.stations.map StnDef.num else []
    | none => []
  let lost := stns.foldl (fun m n => amSet (fun _ => 0) m n (if r.fresh.contains n then 0 else amGet (fun _ => 0) r.lost n + 1)) []
  t.setRing k fun r => { r with
    acc := [], thruAcc := [], fresh := [], lost := lost, inSeg := false, sIn := 0, sDyn := 0, sOut := 0, thruIn := false, thruOut := false }

/-! ### Sync frames and the contest (R245, R248, R260) -/

/-- Epoch, and MASTER flag, of the role that the next input instant brings (10 R260). -/
def nextEpoch (s : State) : Nat :=
  match s.pair.pend with
  | some c => c.epoch.getD (s.rd PAR_EPOCH PAR_EPOCH_EPOCH + 1) % 65536
  | none => s.rd PAR_EPOCH PAR_EPOCH_EPOCH

def masterFlag (s : State) : Bool :=
  let r := match s.pair.pend with
    | some c => roleOf c.role
    | none => s.role
  if r = .stopped then (if s.role = .stopped then (roleOf s.pair.before).master else s.role.master) else r.master

/-- Whether this module claims the ring (R248). -/
def claims (s : State) (k : Nat) : Bool :=
  s.isOn (.portS (Fin.ofNat 24 k)) && s.role.master && (match (s.ring k).parSync with
    | some t => decide (t + 4 < s.seq.tick)
    | none => true)

/-- The SYNC frame of this Clearing. -/
def syncFrame (s : State) (k : Nat) : Frame :=
  let ii := s.nowNs + (s.tickEnd - s.clk.trel)
  let y : SyncPay := { iiSec := ii / 1000000000 % 2 ^ 48, iiNs := ii % 1000000000, tx := s.short.toNat, corr := 0, tickLen := s.tickLen,
                       thru := s.on (VGX_RMODE k) VGX_RMODE_NEXT, hold := s.rd (VGX_CFG k) VGX_CFG_CLOSE_HOLD,
                       schedId := s.rd (VGX_SCHED k) VGX_SCHED_SCHED_ID, master := masterFlag s }
  let f := ownFrame s k T_SYNC 0#8 0 (syncBytes y)
  withCrc { f with epoch := BitVec.ofNat 16 (nextEpoch s), seq := BitVec.ofNat 32 (s.seq.tick + 1) }

/-- A TOKEN frame. -/
def tokenFrame (s : State) (k kind : Nat) : Frame :=
  ownFrame s k T_TOKEN 0#8 0 (tokenBytes s.seq.tick kind (s.rd PAR_STATUS PAR_STATUS_ROLE) s.tickLen)

/-- Start-up phase 7 (SWITCH): this Clearing announces the schedule, static from the next tick on a closed ring that nothing holds in
through-frame mode (R249, R255). -/
def announceSwitch (s : State) (k : Nat) : State :=
  if ringPhase s k = 7 then
    let id := ((s.ring k).sched.map Sched.id).getD 0
    let t := s.wr (VGX_SCHED k) VGX_SCHED_SCHED_ID id
    if (s.ring k).closed && !s.freeMode && !s.on (VGX_RCTL k) VGX_RCTL_THRU_FORCE then
      (t.wr (VGX_RMODE k) VGX_RMODE_NEXT 0).setRing k fun r => { r with dec := false }
    else t
  else s

/-- Ticks of the running start-up phase count; phase 2 counts only while the ring is closed. -/
def countPhase (s : State) (k : Nat) : State :=
  let ph := ringPhase s k
  if 2 ≤ ph ∧ ph ≤ 7 then s.setRing k fun r => { r with phTicks := if ph = 2 ∧ r.closed = false then 0 else r.phTicks + 1 } else s

/-- RING_SYNC on ring k: a CEDE that is due, a CLAIM, or the SYNC frame of the role; then the ports that are ready close. -/
def ringSync (s : State) (k : Nat) : State :=
  let r := s.ring k
  let claim := ringPhase s k == 1 && claims s k
  let s := s.flag (VGX_RMODE k) VGX_RMODE_MASTER (syncRole s && ringMaySend s k && masterFlag s && !claim)
  if r.cede then (ringSend s k (tokenFrame s k 1)).setRing k fun r => { r with cede := false }
  else if ringMaySend s k = false then s
  else if claim then (ringSend s k (tokenFrame s k 0)).setRing k fun r => { r with claims := r.claims + 1 }
  else if syncRole s then
    let t := announceSwitch s k
    modClose k (countPhase (ringSend t k (syncFrame t k)) k)
  else s

/-- The winner begins phase 2 (R249). -/
def ringWon (s : State) (k : Nat) : State :=
  (s.wr (VGX_RMODE k) VGX_RMODE_START 2).setRing k fun r => { r with claims := 0, phTicks := 0, mCnt := 0 }

/-- CLAIM received from the partner (R248). -/
def claimRecv (k : Nat) (f : Frame) (s : State) : State :=
  if f.src ∨ f.pos = s.posB ∨ tokenKind f.payload ≠ 0 ∨ ringPhase s k ≠ 1 then s
  else
    let d := (s.rd PAR_EPOCH PAR_EPOCH_EPOCH + 65536 - f.epoch.toNat) % 65536
    let wins := if d = 0 ∨ d = 0x8000 then !s.posB else decide (d < 0x8000)
    if wins then s.setRing k fun r => { r with claims := 0 }
    else
      let t := (s.wr (VGX_RMODE k) VGX_RMODE_CEDED 1).wr (VGX_RMODE k) VGX_RMODE_START 0
      (vgxEvt t k VGX_EVT_CONTEST_LOST).setRing k fun r => { r with cede := true, claims := 0 }

/-- CEDE received. -/
def cedeRecv (k : Nat) (f : Frame) (s : State) : State :=
  if f.src = false ∧ f.pos ≠ s.posB ∧ tokenKind f.payload = 1 ∧ ringPhase s k = 1 then ringWon s k else s

/-- TOKEN_WAIT_EXPIRY. -/
def tokenWait (k : Nat) (s : State) : State :=
  if ringPhase s k = 1 ∧ s.rd (VGX_RCTL k) VGX_RCTL_TOKEN_WAIT ≤ (s.ring k).claims then ringWon s k else s

/-- A sync frame at a module (R248, R253): the own one that returns shows whether the ring is closed; the partner's shows its H, and that the
ring has a master. -/
def syncModule (k : Nat) (p : Bool) (f : Frame) (s : State) : State :=
  let y := syncOf f.payload
  let arr := linkDly (portOf s k .module p)
  let s := if f.src then s
    else if f.pos = s.posB then
      s.setRing k fun r => { r with ownH := y.corr + arr }
    else
      let t := if y.master then s.setRing k fun r => { r with parSync := some s.seq.tick } else s
      let t := if p = false ∧ f.loop = false then t.setRing k fun r => { r with parDirect := some s.seq.tick, parH := y.corr + arr }
        else if p = true ∧ f.loop = true then t.setRing k fun r => { r with parH := y.corr - Config.moduleRes }
        else t
      let id := (t.ring k).sched.map Sched.id
      if y.master = true ∧ y.schedId ≠ 0 ∧ id = some y.schedId ∧ ringRuns t k = false ∧ ringPhase t k = 0 then
        ((t.wr (VGX_SCHED k) VGX_SCHED_SCHED_ID y.schedId).flag (VGX_SCHED k) VGX_SCHED_FIT (!y.thru)).setRing k fun r =>
          { r with meas := measNow t k (((t.ring k).sched.map fun c => c.stations.length).getD 0) }
      else t
  let s := modClose k s
  let s := ringHealth s k
  if f.seq = BitVec.ofNat 32 (s.seq.tick + 1) then decideMode s k else s

/-! ### Start-up (R249) -/

/-- START. -/
def ringStart (k : Nat) (s : State) : State :=
  if ringPhase s k = 0 then (s.wr (VGX_RMODE k) VGX_RMODE_START 1).setRing k fun r => { r with claims := 0, phTicks := 0 } else s

/-- IDENTIFY: the number of the listed station with the identity read at each position, or none; the position p is at hop index p from A and
m + 1 − p from B. The stations themselves took these numbers from the last ASSIGN. -/
def identify (k : Nat) (s : State) : State :=
  let m := s.rd (VGX_RMODE k) VGX_RMODE_STN_CNT
  let nums := (List.range m).map fun i => hopNumber s k (if s.posB then m - i else i + 1)
  let s := ((s.rset (VGX_PRES_LO k) 0#32).rset (VGX_PRES_HI k) 0#32).setRing k fun r => { r with order := nums }
  nums.foldl (fun t n => if n = 0xFE then vgxEvt t k VGX_EVT_IDMISMATCH else stnBit t (VGX_PRES_LO k) (VGX_PRES_HI k) n true) s

/-- Every signal of the module's active schedules. -/
def activeSigs (s : State) : List Nat := allSigs ((List.range 24).filterMap fun j => (s.ring j).sched)

/-- MEASURE: delays as the stations have answered them, D_LOOP and the schedule check; the answer is the code. Of a station that has not
answered, one without a number among them, no delay is known: it counts as 0 (notes/assumptions/81). -/
def measure (k : Nat) (s : State) : Nat × State :=
  let m := (s.ring k).order.map fun n => (amGet (fun _ => none) (s.ring k).dlys n).getD (0, 0, 0)
  let s := s.setRing k fun r => { r with meas := m }
  match (s.ring k).sched with
  | none => (1, s.wr (VGX_SCHED k) VGX_SCHED_SCHK 1)
  | some c =>
    let code := schedCode s k s.bank (s.rd IMG_STATUS IMG_STATUS_DBANK) c (activeSigs s) m false
    (code, ringHealth ((s.wr (VGX_SCHED k) VGX_SCHED_SCHK code).flag (VGX_SCHED k) VGX_SCHED_FIT (code == 0)) k)

/-- STARTUP_PHASE_END. -/
def phaseEnd (k : Nat) (s : State) : State :=
  let r := s.ring k
  let goTo (n : Nat) (t : State) : State := (t.wr (VGX_RMODE k) VGX_RMODE_START n).setRing k fun r =>
    if n = 4 then { r with phTicks := 0, ids := [], dlys := [], loaded := [] } else { r with phTicks := 0 }
  match ringPhase s k with
  | 2 => if 16 ≤ r.phTicks then goTo 3 s else s
  | 3 => if 1 ≤ r.phTicks then goTo 4 (s.wr (VGX_RMODE k) VGX_RMODE_STN_CNT (min 63 r.mCnt)) else s
  | 4 => if 3 ≤ r.phTicks then goTo 5 (identify k s) else s
  | 5 =>
    if 1 ≤ r.phTicks then
      match measure k s with
      | (0, t) => goTo 6 t
      | (_, t) => vgxEvt (goTo 8 (t.wr (VGX_SCHED k) VGX_SCHED_SCHED_ID ((r.sched.map Sched.id).getD 0))) k VGX_EVT_FITFAIL
    else s
  | 6 => if (s.rd (VGX_RMODE k) VGX_RMODE_STN_CNT + 7) / 8 ≤ r.phTicks then goTo 7 s else s
  | 7 => if 1 ≤ r.phTicks then goTo 8 s else s
  | _ => s

/-! ### PROBE (R217, R233, R250) -/

/-- A PROBE frame of a node. -/
def probeFrame (s : State) (k : Nat) (n : RNode) (kind t1 t2 t3 : Nat) : Frame :=
  let f := ownFrame s k T_PROBE 0#8 0 (probeBytes kind t1 t2 t3)
  let f := match n with
    | .module => f
    | .station i => { f with pos := false, src := true, prod := BitVec.ofNat 8 (s.stn k i).number }
  withRbc (withCrc { f with epoch := 0, seq := 0 })

/-- Short stamp of a node: the module's own clock, or the station's as the command gives it. -/
def nodeStamp (s : State) (n : RNode) (stamp : Word) : Nat := if n = .module then s.short.toNat else stamp.toNat

/-- Whether a node probes in this Clearing (R233): in ticks whose SEQ mod 16 is 0; a station that has accepted no sync frame by its own time. -/
def probeDue (s : State) (k : Nat) : RNode → Bool
  | .module => s.seq.tick % 16 == 0
  | .station i =>
    match (s.stn k i).tick with
    | some t => t.toNat % 16 == 0
    | none => true

/-- PROBE_REQUEST: sent in the probe period on a port that sends frames, or a received one answered. -/
def probeReq (k : Nat) (n : RNode) (p : Bool) (stamp : Word) (f : Option Frame) (s : State) : State :=
  let now := nodeStamp s n stamp
  match f with
  | none => if receives s k n p && probeDue s k n then putFrame s k n p (probeFrame s k n 0 now 0 0) else s
  | some g =>
    if receives s k n p = false then s
    else
      let (ok, t) := checkFrame s k n p g
      if ok ∧ g.typ = T_PROBE ∧ (g.payload.getD 0 0#8) = 0#8 then
        putFrame t k n p (probeFrame t k n 1 (leVal ((g.payload.drop 4).take 4)) now now)
      else t

/-- Whether a station's path delay has moved by more than W/4 (R250). -/
def drifted (s : State) (k : Nat) : Bool :=
  match (s.ring k).sched with
  | none => false
  | some c =>
    let old := (s.ring k).meas
    let new := measNow s k old.length
    let far (a b : Nat) : Bool := decide (c.w * 80 < 4 * (max a b - min a b))
    (List.range old.length).any fun i => far (dA old (i + 1)) (dA new (i + 1)) || far (dB old (i + 1)) (dB new (i + 1))

/-- PROBE_RESPONSE: the link delay ((T4 − T1) − (T3 − T2)) / 2 joins the last four. -/
def probeResp (k : Nat) (n : RNode) (p : Bool) (stamp : Word) (g : Frame) (s : State) : State :=
  if receives s k n p = false then s
  else
    let (ok, t) := checkFrame s k n p g
    if ok ∧ g.typ = T_PROBE ∧ (g.payload.getD 0 0#8) = 1#8 then
      let w (o : Nat) : Word := BitVec.ofNat 32 (leVal ((g.payload.drop o).take 4))
      let t4 : Word := BitVec.ofNat 32 (nodeStamp t n stamp)
      let d : Int := (t4 - w 4).toInt - (w 12 - w 8).toInt
      let u := setPort t k n p fun q => { q with dly := (q.dly ++ [(d * 8).toNat]).drop (q.dly.length + 1 - 4) }
      if ringRuns u k && drifted u k then vgxEvt u k VGX_EVT_DRIFT else u
    else t

/-! ### DYN at a node (R214) -/

/-- Whether DST names a node. -/
def dstNames (s : State) (k : Nat) (n : RNode) (f : Frame) : Bool :=
  match n with
  | .module => f.dst == (if s.posB then 0x41#8 else 0x40#8) || f.dst == 0x42#8
  | .station i => f.dst.toNat == (s.stn k i).number

/-- DYN_FRAME. -/
def dynTake (k : Nat) (n : RNode) (f : Frame) (s : State) : State :=
  if f.typ = T_DYN ∧ dstNames s k n f then
    match n with
    | .module => s.setRing k fun r => { r with box := boxTake s.seq.tick (dynOf f.payload) r.box }
    | .station i => s.setStn k i fun st => { st with box := boxTake s.seq.tick (dynOf f.payload) st.box }
  else s

/-- RESPONSE and ERROR_RESPONSE at a requester. -/
def deliverAnswer (svc : Byte) (k : Nat) (n : RNode) (tid : Nat) (s : State) : State :=
  match n with
  | .module => s.setRing k fun r => { r with box := boxAnswer svc tid r.box }
  | .station i => s.setStn k i fun st => { st with box := boxAnswer svc tid st.box }

/-! ### Schedules of a configuration set (R242; 11 R291, R298) -/

/-- Whether frames of this module reach the station at position p from one end of its ring (R197, R225): from the end nearer to A, or to B. -/
def pathOpen (s : State) (k n p : Nat) (fromA : Bool) : Bool :=
  let st (i : Nat) := s.stn k i
  if fromA then ((List.range (p - 1)).all fun i => !(st (i + 1)).rxA.loop && !(st (i + 1)).rxB.loop) && !(st p).rxA.loop
  else ((List.range (n - p)).all fun i => !(st (p + 1 + i)).rxA.loop && !(st (p + 1 + i)).rxB.loop) && !(st p).rxB.loop

/-- Whether DYN reaches a station and comes back: from RP(2k), or by the backplane link through the partner; the station sends DYN frames. -/
def stnReach (s : State) (k n p : Nat) : Bool :=
  ((!modLoop s k false && pathOpen s k n p (!s.posB)) || (!modLoop s k true && pathOpen s k n p s.posB)) && (s.stn k p).sends

/-- A station's new SSR into its idle bank by DYN (R244): what is written is read back and compared, and a station that is not reached, or whose
bank reads otherwise, keeps none of that SCHED_ID (code 8). -/
def stageSsr (s : State) (k : Nat) (c : Sched) (m : Meas) (d : StnDef) : State :=
  let r := s.ring k
  let p := posOf r.order c d.num
  let bytes := ssrBytes s (1 - s.bank) k c r.order m d
  let o := 0x1000 + (if ssrBank (s.stn k p) = some 0 then 2048 else 0)
  if r.order.contains d.num && stnReach s k r.order.length p && stnWritable (s.stn k p) o bytes.length then
    let t := s.setStn k p fun x => stnWrite x o bytes
    if stnRead k p (t.stn k p) o bytes.length = bytes then t else s
  else s

/-- The SCHED section into the idle store of every ring; each station of a running ring takes its new SSR into its idle bank (R244), with the
delays as measured (R242); the answer is the first ring that fails, as ring × 16 + code. -/
def schedStage (s : State) (sec : List Byte) : State × Option Nat :=
  let s := (List.range 24).foldl (fun t k => t.setRing k fun r =>
    let c := if sec.isEmpty then none else Config.parseSched sec k
    if r.active then { r with sched0 := c } else { r with sched1 := c }) s
  let all := allSigs ((List.range 24).filterMap fun j => (s.ring j).idleSched)
  let s := (List.range 24).foldl (fun t k =>
    match (t.ring k).idleSched with
    | some c =>
      if ringRuns t k then
        let m := measNow t k (t.ring k).order.length
        (c.stations.foldl (fun u d => stageSsr u k c m d) t).setRing k fun r => { r with staged := m }
      else t
    | none => t) s
  (List.range 24).foldl (fun (x : State × Option Nat) k =>
    match (x.1.ring k).idleSched with
    | some c =>
      let code := schedCode x.1 k (1 - x.1.bank) (1 - x.1.rd IMG_STATUS IMG_STATUS_DBANK) c all (x.1.ring k).staged true
      (x.1.wr (VGX_SCHED k) VGX_SCHED_SCHK code, if code ≠ 0 ∧ x.2 = none then some (16 * k + code) else x.2)
    | none => x) (s, none)

/-- The staged schedules become the active ones (11 R310): a running ring shows the new SCHED_ID and its fit. -/
def schedToggle (s : State) : State :=
  (List.range 24).foldl (fun t k =>
    let t := t.setRing k fun r => { r with active := !r.active }
    if ringRuns t k then
      let t := t.setRing k fun r => { r with meas := r.staged }
      match (t.ring k).sched with
      | some c => (t.wr (VGX_SCHED k) VGX_SCHED_SCHED_ID c.id).flag (VGX_SCHED k) VGX_SCHED_FIT (staticFit t k c (t.ring k).order (t.ring k).meas)
      | none => t.rset (VGX_SCHED k) 0#32
    else t) s

/-- A ceded module sends again from the tick at which it becomes STANDBY or tick master of the pair (R248). -/
def ringRole (s : State) : State :=
  if s.role = .standby ∨ s.role = .active ∨ s.role = .solo then
    (List.range 24).foldl (fun t k => t.wr (VGX_RMODE k) VGX_RMODE_CEDED 0) s
  else s

/-- RING with a mask: an operation on every ring named. -/
def ringMask (mask : BitVec 24) (f : State → Nat → State) (s : State) : State :=
  (List.range 24).foldl (fun t k => if mask.getLsbD k then f t k else t) s

/-- RING sel 0, 1 and 2 on ring k: the segment's action points count from here (R52). -/
def ringIn (s : State) (k : Nat) : State := s.setRing k fun r => { r with sIn := nowU s, inSeg := true, acc := [], thruAcc := [] }
def ringDyn (s : State) (k : Nat) : State := s.setRing k fun r => { r with sDyn := nowU s }
def ringOut (s : State) (k : Nat) : State := s.setRing k fun r => { r with sOut := nowU s }

/-! ### Meanings -/

/-- A frame received by a module: what it says of the ring's health, and its use. -/
def modReceive (k : Fin 24) (port : Bool) (f : Frame) (use : State → State) (s : State) : State :=
  receive k .module port f (fun t => (use (ringHealth (ringEvidence k port f t) k), f)) s

/-- IN_FRAME (R212). -/
def execInFrame (k : Fin 24) (port : Bool) (f : Frame) (start : Nat) (s : State) : Out3 :=
  .next (modReceive k port f (fun t => if f.typ = T_IN ∧ modPortState t k port = 2 then inAccept k port f start t else t) s)
/-- DYN_FRAME (R214). -/
def execDynFrame (k : Fin 24) (node : RNode) (port : Bool) (f : Frame) (s : State) : Out3 :=
  .next (match node with
    | .module => modReceive k port f (dynTake k node f) s
    | .station _ => receive k node port f (fun t => (dynTake k node f t, f)) s)
/-- RESPONSE (R214). -/
def execResponse (k : Fin 24) (node : RNode) (tid : BitVec 16) (s : State) : Out3 := .next (deliverAnswer 5#8 k node tid.toNat s)
/-- ERROR_RESPONSE (R214). -/
def execErrorResponse (k : Fin 24) (node : RNode) (tid : BitVec 16) (s : State) : Out3 := .next (deliverAnswer 6#8 k node tid.toNat s)
/-- SYNC_FRAME (R246): at a station, or at a module. -/
def execSyncFrame (k : Fin 24) (node : RNode) (port : Bool) (f : Frame) (own : Int) (s : State) : Out3 :=
  .next (match node with
    | .module => modReceive k port f (fun t => if f.typ = T_SYNC then syncModule k port f t else t) s
    | .station i =>
      receive k node port f (fun t => (if f.typ = T_SYNC then t.setStn k i fun st => stnClose (stnSync port f own st) else t, f)) s)
/-- CLAIM (R248). -/
def execClaim (k : Fin 24) (port : Bool) (f : Frame) (s : State) : Out3 :=
  .next (modReceive k port f (fun t => if f.typ = T_TOKEN then claimRecv k f t else t) s)
/-- CEDE (R248). -/
def execCede (k : Fin 24) (port : Bool) (f : Frame) (s : State) : Out3 :=
  .next (modReceive k port f (fun t => if f.typ = T_TOKEN then cedeRecv k f t else t) s)
/-- TOKEN_WAIT_EXPIRY (R248). -/
def execTokenWaitExpiry (k : Fin 24) (s : State) : Out3 := .next (tokenWait k s)
/-- THRU_FRAME (R252): at a station its first passage is worked on whatever its CRC, unless its port loops and removes it (R229); a module
reads the IN data of a good frame. -/
def execThruFrame (k : Fin 24) (node : RNode) (port : Bool) (f : Frame) (s : State) : Out3 :=
  .next (
    match node with
    | .module => modReceive k port f (fun t => if f.typ = T_THRU then thruModule k port f t else t) s
    | .station i =>
      if receives s k (.station i) port = false ∨ headerBad f ∨ f.typ ≠ T_THRU ∨ looped s k (.station i) port then s
      else
        let (st, g) := stnThru k i f (s.stn k i)
        forward (s.setStn k i fun _ => st) k (.station i) port (looped s k (.station i) (!port)) (passOn s k (.station i) port g))
/-- PROBE_REQUEST (R217). -/
def execProbeRequest (k : Fin 24) (node : RNode) (port : Bool) (stamp : Word) (f : Option Frame) (s : State) : Out3 :=
  .next (probeReq k node port stamp f s)
/-- PROBE_RESPONSE (R217). -/
def execProbeResponse (k : Fin 24) (node : RNode) (port : Bool) (stamp : Word) (f : Frame) (s : State) : Out3 :=
  .next (probeResp k node port stamp f s)
/-- LINK_FAILURE (R225). -/
def execLinkFailure (k : Fin 24) (node : RNode) (port : Bool) (why : LinkFail) (s : State) : Out3 :=
  .next (match node with
    | .module => ringHealth (modFail k port why s) k
    | .station i =>
      let t := s.setStn k i (stnFail port why)
      if looped t k node port && !looped s k node port then dropLine t k node port else t)
/-- LINK_SYNC_GAINED (R203). -/
def execLinkSyncGained (k : Fin 24) (node : RNode) (port : Bool) (rx : LinkRx) (s : State) : Out3 :=
  .next (match node with
    | .module => modGain k port rx s
    | .station i => s.setStn k i (stnGain port rx))
/-- CLOSE_HOLD_REACHED (R228). -/
def execCloseHoldReached (k : Fin 24) (node : RNode) (port : Bool) (s : State) : Out3 :=
  .next (match node with
    | .module => modHold k port s
    | .station i => s.setStn k i (stnHold port))
/-- OUT_SLOT_SEND (R236). -/
def execOutSlotSend (k : Fin 24) (slot : BitVec 10) (s : State) : Out3 := .next (outSlotSend k slot.toNat s)
/-- DYN_SEND (R240). -/
def execDynSend (k : Fin 24) (node : RNode) (own : Option (Byte × Dyn)) (s : State) : Out3 := .next (dynSend k node own s)
/-- THRU_SEND (R251). -/
def execThruSend (k : Fin 24) (inSeg : Bool) (s : State) : Out3 := .next (thruSend k inSeg s)
/-- INPUT_SEGMENT_END (R257). -/
def execInputSegmentEnd (k : Fin 24) (s : State) : Out3 := .next (segmentEnd k s)
/-- STATION_LOST (R257). -/
def execStationLost (k : Fin 24) (stn : Fin 64) (s : State) : Out3 := .next (stnLost k stn s)
/-- START (R248). -/
def execStart (_m : Master) (k : Fin 24) (s : State) : Out3 := .next (ringStart k s)
/-- STARTUP_PHASE_END (R249). -/
def execStartupPhaseEnd (k : Fin 24) (s : State) : Out3 := .next (phaseEnd k s)

end Sys2Proof.Machine
end

