-- ==== Sys2Proof/Machine/Change.lean ====
section
/-! DEFINITION. Configuration sets and online change (chapter 11): packages, staging and its checks, the transfer map, announcement, vote
and apply. -/

namespace Sys2Proof.Machine

open Sys2Proof

/-! ### Packages (R292 to R294) -/

/-- Directory of a package: type, offset and length of each section. -/
def pkgDir (pk : List Byte) : List (Nat × Nat × Nat) :=
  (List.range (le pk 10 2)).map fun i => (le pk (128 + 16 * i) 2, le pk (128 + 16 * i + 8) 4, le pk (128 + 16 * i + 12) 4)

/-- Section of a type, if the package has it. -/
def pkgSec (pk : List Byte) (ty : Nat) : Option (List Byte) :=
  ((pkgDir pk).find? fun d => d.1 == ty).map fun d => (pk.drop d.2.1).take d.2.2

def pkgSecD (pk : List Byte) (ty : Nat) : List Byte := (pkgSec pk ty).getD []

/-- FLAGS of a package. -/
def pkgRelease (pk : List Byte) : Bool := wbit (le pk 12 4) 0
def pkgOverride (pk : List Byte) : Bool := wbit (le pk 12 4) 1

/-- Whether the bytes [o, o + n) are zeros. -/
def zeros (l : List Byte) (o n : Nat) : Bool := ((l.drop o).take n).all fun b => b == 0#8

/-- CODE records: engine, code bytes. -/
def codeRecs (l : List Byte) : Nat → Nat → List (Nat × List Byte)
  | 0, _ => []
  | fuel + 1, o =>
    if l.length ≤ o then []
    else
      let n := le l (o + 4) 4
      (le l o 1, (l.drop (o + 8)).take n) :: codeRecs l fuel (o + 8 + n)

/-- Whether the CODE records from byte o on fill their section, each with 3 zero bytes and at most 256 KiB for one of the 64 engines (R293). -/
def codeForm (l : List Byte) : Nat → Nat → Bool
  | 0, o => o == l.length
  | fuel + 1, o =>
    o == l.length || (decide (o + 8 + le l (o + 4) 4 ≤ l.length) && decide (le l o 1 < 64) && zeros l (o + 1) 3
      && decide (le l (o + 4) 4 ≤ 0x40000) && codeForm l fuel (o + 8 + le l (o + 4) 4))

/-- INIT runs: address, bytes. -/
def initRuns (l : List Byte) : Nat → Nat → List (Nat × List Byte)
  | 0, _ => []
  | fuel + 1, o =>
    if l.length ≤ o then []
    else
      let n := le l (o + 4) 4
      (le l o 4, (l.drop (o + 8)).take n) :: initRuns l fuel (o + 8 + (n + 7) / 8 * 8)

/-- Whether the INIT runs from byte o on fill their section, padding included (R293). -/
def initForm (l : List Byte) : Nat → Nat → Bool
  | 0, o => o == l.length
  | fuel + 1, o =>
    o == l.length || (decide (o + 8 + le l (o + 4) 4 ≤ l.length)
      && initForm l fuel (o + 8 + (le l (o + 4) 4 + 7) / 8 * 8))

/-- Whether the records of a section fill it; the records of every other section have one length. -/
def secForm (ty : Nat) (l : List Byte) : Bool :=
  if ty = 1 then codeForm l 64 0 else if ty = 3 then initForm l l.length 0 else true

/-- Whether a section of this type may have this length; a TPROG section holds its words and 67 words of tables, and one of more than 4,096
words fails the load check (03 R53). -/
def secLenOk (ty n : Nat) : Bool :=
  if ty = 2 ∨ ty = 4 then n % 16 == 0
  else if ty = 5 then n % 4 == 0 && decide (4 * 67 ≤ n)
  else if ty = 6 then n == 1048576
  else if ty = 7 then n == 16384
  else if ty = 8 then n == 45 * 32 * 32
  else if ty = 10 then n == 128
  else if ty = 11 then n == 256
  else decide (1 ≤ ty) && decide (ty ≤ 11)

/-- Whether directory entry i is bad: type, zero bytes, place, repetition, length. -/
def dirBad (pk : List Byte) (i : Nat) : Bool :=
  match (pkgDir pk)[i]? with
  | none => true
  | some (ty, off, len) =>
    !secLenOk ty len || !zeros pk (128 + 16 * i + 2) 6 || !secForm ty ((pk.drop off).take len) || decide (pk.length < off + len + 104) || decide (off < 128 + 16 * le pk 10 2)
      || ((pkgDir pk).take i).any fun d => d.1 == ty

/-- FORMAT check (R298 code 1): the index of the section at fault, 0 for the header. -/
def formatBad (pk : List Byte) : Option Nat :=
  if le pk 0 4 ≠ 0x50434846 ∨ le pk 4 4 ≠ 0x64800001 ∨ le pk 8 2 ≠ 1 ∨ le pk 10 2 = 0 ∨ 32 < le pk 10 2 ∨ le pk 64 8 ≠ pk.length
      ∨ 67104768 < pk.length ∨ le pk 12 4 / 4 ≠ 0 ∨ zeros pk 72 56 = false then some 0
  else match (List.range (le pk 10 2)).find? (dirBad pk) with
    | some i => some i
    | none => if [2, 3, 4, 5, 6, 8].all fun ty => (pkgSec pk ty).isSome then none else some (le pk 10 2)

/-- OTP key entry with this KEYID, valid, not revoked and of this usage bit (14 R367). -/
def findKey (s : State) (keyid usage : Nat) : Option Nat :=
  (List.range 8).find? fun i =>
    s.on (HWD_KEYST i) HWD_KEYST_VALID && !s.on (HWD_KEYST i) HWD_KEYST_REVOKED && wbit (s.rd (HWD_KEYST i) HWD_KEYST_USAGE) usage
      && (s.rget (HWD_KEYID i)).toNat == keyid

/-- Whether the 104-byte trailer signs everything before it under a key of this usage, with zeros in its bytes 4 to 7. -/
def trailerOk (s : State) (l : List Byte) (usage : Nat) : Bool :=
  let n := l.length - 104
  match findKey s (le l n 4) usage with
  | some i => zeros l (n + 4) 4 && Config.ecdsaOk (s.keys.getD i []) (Config.sha384 (l.take n)) (l.drop (n + 8))
  | none => false

/-- The package's signature verifies under a key with package usage (R292). -/
def pkgSigned (s : State) (pk : List Byte) : Bool := trailerOk s pk 1

/-! ### Layout, transfer map, signal map -/

/-- A LAYOUT record (R293). -/
structure LayRec where
  id : Nat
  part : Nat
  grove : Nat
  off : Nat
  size : Nat
deriving DecidableEq, Repr

def pkgLayout (pk : List Byte) : List LayRec :=
  let l := pkgSecD pk 2
  (List.range (l.length / 16)).map fun i =>
    let a := le l (16 * i) 4; let b := le l (16 * i + 4) 4
    ⟨a % 2 ^ 18, a / 2 ^ 24 % 16, b / 2 ^ 24 % 8, b % 2 ^ 22, le l (16 * i + 8) 4⟩

/-- A TMAP record (R294). -/
structure TmapRec where
  src : Nat
  dst : Nat
  count : Nat
  kind : Nat
  ssz : Nat
  dsz : Nat
  pad : Nat
deriving DecidableEq, Repr

def pkgTmap (pk : List Byte) : List TmapRec :=
  let l := pkgSecD pk 4
  (List.range (l.length / 16)).map fun i =>
    let z := le l (16 * i + 11) 1
    ⟨le l (16 * i) 4, le l (16 * i + 4) 4, le l (16 * i + 8) 2, le l (16 * i + 10) 1, 2 ^ (z % 16), 2 ^ (z / 16), le l (16 * i + 12) 4⟩

/-- Bytes a record reads and writes. -/
def TmapRec.srcLen (r : TmapRec) : Nat := if r.kind = 0 then r.count else r.count * r.ssz
def TmapRec.dstLen (r : TmapRec) : Nat := if r.kind = 0 then r.count else r.count * r.dsz

/-- Grove and offset of an address in TMAP format. -/
def tmGrove (a : Nat) : Nat := a / 2 ^ 24 % 8
def tmOff (a : Nat) : Nat := a % 2 ^ 22
def tmAddrOk (a : Nat) : Bool := a == tmGrove a * 2 ^ 24 + tmOff a

/-- Physical address in the Canopy bank, or in the Understory bank, of a Grove. -/
def bankAddr (s : State) (understory : Bool) (g off : Nat) : Nat :=
  let k := s.rd (GRV_STATUS g) GRV_STATUS_CBANK
  0x0100000000 + g * 0x01000000 + (if understory then 1 - k else k) * 0x400000 + off

/-- SIGMAP entry of a signal: descriptor and stable ID. -/
def pkgSig (pk : List Byte) (i : Nat) : Word × Nat :=
  let l := pkgSecD pk 6
  (BitVec.ofNat 32 (le l (8 * i) 4), le l (8 * i + 4) 4)

def sigAssigned (d : Word) : Bool := descType d != 0

/-- Whether signal i survives from the Canopy package to a new one (R300). -/
def survives (old new : List Byte) (i : Nat) : Bool :=
  sigAssigned (pkgSig old i).1 && sigAssigned (pkgSig new i).1 && (pkgSig old i).2 == (pkgSig new i).2

/-! ### The staging checks (R298) -/

/-- Whether [off, off + n) of Grove g lies inside the instances of a layout, byte for byte. -/
def inLayout (lay : List LayRec) (g off n : Nat) : Bool :=
  (List.range n).all fun i => lay.any fun r => r.grove == g && decide (r.off ≤ off + i) && decide (off + i < r.off + r.size)

/-- Whether two ranges of the same Grove meet. -/
def rangesMeet (g a n h b m : Nat) : Bool := g == h && decide (a < b + m) && decide (b < a + n)

/-- Record i of a layout breaks 05 R135, overlaps an earlier one, or repeats its ID. -/
def layBad (lay : List LayRec) (i : Nat) : Bool :=
  match lay[i]? with
  | none => false
  | some r =>
    r.off % 64 != 0 || r.size % 64 != 0 || r.size == 0 || decide (32768 < r.size) || decide (0x400000 < r.off + r.size)
      || (lay.take i).any fun q => q.id == r.id || rangesMeet q.grove q.off q.size r.grove r.off r.size

/-- Whether sizes and kind of a TMAP record are as R294 says. -/
def tmapForm (r : TmapRec) : Bool :=
  tmAddrOk r.src && tmAddrOk r.dst && decide (1 ≤ r.count) && decide (r.count ≤ 32768) && r.pad == 0
    && (if r.kind = 0 then true
        else if r.kind = 1 ∨ r.kind = 2 then decide (r.ssz < r.dsz)
        else if r.kind = 3 then (r.ssz == 4 && r.dsz == 8) || (r.ssz == 8 && r.dsz == 4)
        else false)

/-- Record i of the transfer map is bad (code 9). -/
def tmapBad (old new : List LayRec) (tm : List TmapRec) (i : Nat) : Bool :=
  match tm[i]? with
  | none => false
  | some r =>
    !tmapForm r || !inLayout old (tmGrove r.src) (tmOff r.src) r.srcLen || !inLayout new (tmGrove r.dst) (tmOff r.dst) r.dstLen
      || (tm.take i).any fun q => rangesMeet (tmGrove q.dst) (tmOff q.dst) q.dstLen (tmGrove r.dst) (tmOff r.dst) r.dstLen

/-- Signal that breaks R301. -/
def sigMoved (old new : List Byte) : Option Nat :=
  (List.range 131072).find? fun i =>
    let o := pkgSig old i; let n := pkgSig new i
    (survives old new i && (descDir o.1 != descDir n.1 || descType o.1 != descType n.1))
      || (sigAssigned n.1 && n.2 != 0 && o.2 != n.2 && (List.range 131072).any fun j => sigAssigned (pkgSig old j).1 && (pkgSig old j).2 == n.2)

/-- Use of a partition: Sapwood bytes and output signals. -/
def quotaUse (pk : List Byte) (p : Nat) : Nat × Nat :=
  (((pkgLayout pk).filter fun r => r.part == p).foldl (fun n r => n + r.size) 0,
   ((List.range 131072).filter fun i => sigAssigned (pkgSig pk i).1 && descDir (pkgSig pk i).1 && descPart (pkgSig pk i).1 == p).length)

/-- Quotas of a set: its QUOTA section, or those in force (R303); a partition with no quota known has none to keep. -/
def pkgQuotas (s : State) (pk : List Byte) : List (Nat × Nat) :=
  match pkgSec pk 10 with
  | some l => (List.range 16).map fun p => (le l (8 * p) 4, le l (8 * p + 4) 4)
  | none => s.chg.quotas

/-- First broken quota, as DETAIL (R298 code 11). -/
def quotaBad (s : State) (pk : List Byte) : Option Nat :=
  (List.range 32).find? fun i =>
    match (pkgQuotas s pk)[i / 2]? with
    | none => false
    | some q =>
      let n := quotaUse pk (i / 2); let o := quotaUse s.chg.canopy (i / 2)
      if i % 2 = 0 then decide (q.1 < n.1) || decide (q.1 < o.1) else decide (q.2 < n.2) || decide (q.2 < o.2)

/-- Smallest DEADL budget of class c in the staged program, in cycles (R304). -/
def minBudget (s : State) (b c : Nat) : Option Nat :=
  ((tqReach s b 4096 0 [0]).filterMap fun i =>
    let w := progWord s b i
    if tqOp w = 0x06 ∧ wf w 25 22 = c then some (128 * wf w 19 0) else none).foldl
      (fun m n => some (match m with
        | some k => min k n
        | none => n)) none

/-- Whether class c breaks R304: by its declared WCET, and by the measured values. -/
def budgetBad (s : State) (pk : List Byte) (c : Nat) : Bool × Bool :=
  let b := 1 - s.bank
  if bankClassOn s s.bank c && bankClassOn s b c then
    let l := pkgSecD pk 11
    let bud := (minBudget s b c).getD 0
    let per := bankPeriod s b c
    let measured := bud < (s.rget (CHG_HWM_SLICE c)).toNat ∨ (1 < per ∧ bud * per < (s.rget (CHG_HWM_ACT c)).toNat)
    ((pkgSec pk 11).isSome && decide (bud < le l (16 * c) 4), !wbit (le l (16 * c + 8) 4) 0 && decide measured)
  else (false, false)

/-- Whether a valid active force entry has no signal after the change (R305). -/
def orphan (s : State) (pk : List Byte) (n : Nat) : Bool :=
  let c := s.rget (FRCA_CTL n)
  bitsOf c FRCA_CTL_VALID == 1 &&
    (if bitsOf c FRCA_CTL_KIND = 0 then !survives s.chg.canopy pk (bitsOf c FRCA_CTL_SIG)
     else !(List.range 131072).any fun i => survives s.chg.canopy pk i && (pkgSig pk i).2 == (s.rget (FRCA_STABLE n)).toNat)

/-- Numbers of the active entries that are orphans. -/
def orphans (s : State) (pk : List Byte) : List Nat := ((frcListed s).filter (orphan s pk)).insertionSort (· ≤ ·)

/-- Reserved bits of the eight words of a gate entry (07, GATE_BASE_LO to GATE_MID and offset 0x1C). -/
def gateReserved (j v : Nat) : Bool :=
  match j with
  | 0 => v % 64 != 0
  | 1 => v / 2 ^ 8 != 0
  | 2 => v % 64 != 0
  | 3 => v / 2 ^ 9 != 0
  | 4 => v &&& 0x188FFE00 != 0
  | 5 => v / 2 ^ 16 != 0
  | 6 => v &&& 0xFFFF8080 != 0
  | _ => v != 0

/-- A gate entry of the package gives a locked entry other contents, or has a reserved encoding (code 7). -/
def gateBad (s : State) (pk : List Byte) : Option Nat :=
  let l := pkgSecD pk 8
  (List.range (45 * 32)).find? fun i =>
    let g := i / 32; let n := i % 32; let t := s.rd (GATE_STATUS g) GATE_STATUS_TBANK
    (s.on (GATE_CTL g t n) GATE_CTL_LOCK && (List.range 7).any fun j =>
      (s.rget (GATE_BASE_LO g t n + 4 * j)).toNat != le l (32 * i + 4 * j) 4)
      || (List.range 8).any fun j => gateReserved j (le l (32 * i + 4 * j) 4)

/-! ### Writing the Understory (R296 step 2) -/

/-- The transfer engine's transfers carry 0b010 (R306). -/
def teXfer (s : State) : Xfer := mattrXfer s 0x47 2

/-- The transfer engine writes bytes; the flag stays while no transfer of the work has been denied. -/
def teWrite (x : State × Bool) (a : Nat) (l : List Byte) : State × Bool :=
  match dmaWrite x.1 (teXfer x.1) a l with
  | (none, t) => (t, x.2)
  | (some _, t) => (t, false)

/-- The transfer engine reads bytes: those read, or none and the code of the piece that was refused. -/
def teRead (s : State) (a n : Nat) : Except Nat (List Byte) × State :=
  match dmaRead s (teXfer s) a n with
  | (l, none, t) => (.ok l, t)
  | (_, some c, t) => (.error c.1, t)

/-- Whether Grove g is ON: its banks can be written. -/
def groveOn (s : State) (g : Nat) : Bool := s.rd (GRV_EN g) U_STATE == 2

/-- Code bank of an engine that holds the Canopy or the Understory set. -/
def codeBank (s : State) (understory : Bool) (e : Nat) : Nat :=
  let k := s.rd (GRV_STATUS (e / 8)) GRV_STATUS_CBANK
  0x0180000000 + e * 0x00100000 + (if understory then 1 - k else k) * 0x40000

/-- Place code into a bank of each engine of the Groves that are ON; an engine without a record has no code (R293). The flag tells whether
every transfer was admitted. -/
def placeCode (s : State) (l : List Byte) (understory : Bool) (groves : Nat → Bool) : State × Bool :=
  let t := (List.range 64).foldl (fun t e =>
    if groves (e / 8) && groveOn s (e / 8) then clearMem t (codeBank s understory e) (codeBank s understory e + 0x40000) else t) s
  (codeRecs l 64 0).foldl (fun x r =>
    if groves (r.1 / 8) && groveOn s (r.1 / 8) then teWrite x (codeBank s understory r.1) r.2 else x) (t, true)

/-- An INIT address with a bit set that R294 keeps at 0. -/
def initBad (l : List Byte) : Option Nat := (initRuns l l.length 0).findIdx? fun r => !tmAddrOk r.1

/-- Initial content of a bank: INIT over zeros (R295). -/
def placeInit (s : State) (l : List Byte) (understory : Bool) (groves : Nat → Bool) : State × Bool :=
  let t := (List.range 8).foldl (fun t g =>
    if groves g then clearMem t (bankAddr t understory g 0) (bankAddr t understory g 0 + 0x400000) else t) s
  (initRuns l l.length 0).foldl (fun x r =>
    if groves (tmGrove r.1) && groveOn s (tmGrove r.1) then teWrite x (bankAddr s understory (tmGrove r.1) (tmOff r.1)) r.2 else x) (t, true)

/-- Words of the program of a TPROG section, before its 67 words of tables. -/
def progLen (l : List Byte) : Nat := l.length / 4 - 67

/-- Program, tables and exchange ends of a TPROG section into a bank; what the program leaves of the bank reads 0. -/
def placeProg (s : State) (l : List Byte) (b : Nat) : State :=
  let n := progLen l
  let w (i : Nat) : Word := BitVec.ofNat 32 (le l (4 * i) 4)
  let t := { s with regs := s.regs.filter fun e => decide (e.1 < TSQ_PROG b 0) || decide (TSQ_PROG b 4096 ≤ e.1) }
  let t := (List.range (min n 4096)).foldl (fun t i => t.rset (TSQ_PROG b i) (w i)) t
  let t := t.rset (TSQ_LEN b) (w n)
  let t := (List.range 16).foldl (fun t c =>
    (((t.rset (TSQ_CLASS_CFG b c) (w (n + 1 + 4 * c))).rset (TSQ_CLASS_ENG_LO b c) (w (n + 2 + 4 * c))).rset (TSQ_CLASS_ENG_HI b c)
      (w (n + 3 + 4 * c))).rset (TSQ_CLASS_WD b c) (w (n + 4 + 4 * c))) t
  (t.rset (PAR_INEND b) (w (n + 65))).rset (PAR_OUTEND b) (w (n + 66))

/-- The map area from a SIGMAP section, and the safe values of a bank. -/
def placeMap (s : State) (sig safe : List Byte) (db : Nat) : State :=
  let t := { s with mapArea := (List.range 131072).filterMap fun i =>
    let v := BitVec.ofNat 64 (le sig (8 * i) 8)
    if v = 0#64 then none else some (i, v) }
  (List.range 4096).foldl (fun t k => t.rset (IMG_SAFE db k) (BitVec.ofNat 32 (le safe (4 * k) 4))) t

/-- The idle gate tables from a GATES section; a locked entry takes no write (07 R190), and a package locks none. -/
def placeGates (s : State) (l : List Byte) : State :=
  (List.range (45 * 32)).foldl (fun t i =>
    let g := i / 32; let n := i % 32; let b := 1 - t.rd (GATE_STATUS g) GATE_STATUS_TBANK
    if t.on (GATE_CTL g b n) GATE_CTL_LOCK then t
    else ((List.range 7).foldl (fun t j => t.rset (GATE_BASE_LO g b n + 4 * j) (BitVec.ofNat 32 (le l (32 * i + 4 * j) 4))) t).wr
      (GATE_CTL g b n) GATE_CTL_LOCK 0) s

/-- Groves that the classes of a bank name. -/
def grovesNamed (s : State) (b : Nat) : List (Fin 8) :=
  (List.finRange 8).filter fun g => (List.range 16).any fun c => bankClassOn s b c && (List.range 8).any fun i => bankClassEng s b c (8 * g + i)

/-- Start a Grove that is OFF, as an EN write does. -/
def startGrove (s : State) (g : Fin 8) : State := if s.unitState (.grove g) = 0 then enWriteBase s (.grove g) true else s

/-- Every section into the Understory copies; the answer is the ring-schedule failure, if any (R296 step 2). The code of a Grove that this
starts is placed once it is ON (`stagingDone`). -/
def placeSet (s : State) (pk : List Byte) : State × Option Nat :=
  let t := placeProg s (pkgSecD pk 5) (1 - s.bank)
  let t := (grovesNamed t (1 - t.bank)).foldl startGrove t
  let t := (placeCode t (pkgSecD pk 1) true fun _ => true).1
  let t := placeGates (placeMap t (pkgSecD pk 6) (pkgSecD pk 7) (1 - t.rd IMG_STATUS IMG_STATUS_DBANK)) (pkgSecD pk 8)
  schedStage (mapLoad t) (pkgSecD pk 9)

/-- Load check of a staged program: SIZE where the package holds more words than a bank, else that of the bank (03 R53). -/
def stagedCheck (s : State) (pk : List Byte) : Nat × Nat :=
  if 4096 < progLen (pkgSecD pk 5) then (9, 0xFFF) else loadCheck s (1 - s.bank)

/-- First record that breaks code 9: an INIT address, or a transfer-map record. -/
def recordBad (s : State) (pk : List Byte) : Option Nat :=
  match initBad (pkgSecD pk 3) with
  | some i => some i
  | none => (List.range (pkgTmap pk).length).find? (tmapBad (pkgLayout s.chg.canopy) (pkgLayout pk) (pkgTmap pk))

/-- First check that fails, with its DETAIL (R298 codes 4 to 14 and 16); the flag says that a measured budget is too small (R304). -/
def stagingCheck (s : State) (pk : List Byte) (sched : Option Nat) : Option (Nat × Nat) × Option Nat :=
  let lay := pkgLayout pk
  let (tc, tw) := stagedCheck s pk
  let wcet := (List.range 16).find? fun c => (budgetBad s pk c).1
  let meas := (List.range 16).find? fun c => (budgetBad s pk c).2
  let und := (List.finRange 8).find? fun g => s.ecc.any fun e =>
    decide (e.2 = some .uncorrectable) && (match groveOfAddr s e.1 with
      | some (h, _, canopy) => h == g && !canopy
      | none => false)
  let off := (grovesNamed s (1 - s.bank)).find? fun (g : Fin 8) => s.on (GRV_EN g) U_FAIL || s.on (GRV_STATUS g) GRV_STATUS_ISOLATED
  let r : Option (Nat × Nat) :=
    if tc ≠ 0 then some (4, tw)
    else if s.on IMG_MAPCHK IMG_MAPCHK_PASS = false then some (5, s.rd IMG_MAPCHK IMG_MAPCHK_SIG)
    else match sched, gateBad s pk, (List.range lay.length).find? (layBad lay),
        recordBad s pk, sigMoved s.chg.canopy pk, quotaBad s pk with
      | some d, _, _, _, _, _ => some (6, d)
      | _, some d, _, _, _, _ => some (7, d)
      | _, _, some d, _, _, _ => some (8, d)
      | _, _, _, some d, _, _ => some (9, d)
      | _, _, _, _, some d, _ => some (10, d)
      | _, _, _, _, _, some d => some (11, d)
      | _, _, _, _, _, _ =>
        match (if pkgOverride pk then none else wcet.orElse fun _ => meas), (if pkgRelease pk then none else (orphans s pk).head?), und, off with
        | some c, _, _, _ => some (12, c)
        | _, some n, _, _ => some (13, n)
        | _, _, some g, _ => some (14, g.val)
        | _, _, _, some g => some (16, g.val)
        | _, _, _, _ => none
  (r, if pkgOverride pk then meas else none)

/-! ### States of a set -/

def chgEvt (s : State) (f : Fld) : State := s.raise 12 CHG_EVT f

/-- Result of a staging check in CHG_CHK. -/
def setChk (s : State) (code detail : Nat) : State :=
  s.rset CHG_CHK (BitVec.ofNat 32 (2 ^ 31 + (if code = 0 then 2 ^ 30 else 0) + code % 32 * 2 ^ 24 + detail % 2 ^ 20))

/-- STAGE RESULT to the partner (R299). -/
def sendResult (s : State) : State :=
  sendLane s (.stage (.result (sha s.chg.staged) (s.rget CHG_CHK) (s.on CHG_PROG CHG_PROG_SAVED)))

/-- Staging fails with a code (R296, R299). -/
def stageFail (s : State) (code detail : Nat) : State :=
  let t := chgEvt (chgEvt ((setChk s code detail).wr CHG_STATE CHG_STATE_STATE 6) CHG_EVT_CHECKED) CHG_EVT_FAILED
  sendResult (t.setChg fun c => { c with saving := c.joinSave })

/-- A transfer abandoned by the transfer engine fails what it served (R298 code 15, 06 R166). -/
def stageXferFail (s : State) : State := if 1 ≤ s.chgState ∧ s.chgState ≤ 5 then stageFail s 15 0 else s

/-- A command of CHG_CMD is refused, or accepted. -/
def chgRej (s : State) (code : Nat) : State := s.wr CHG_STATE CHG_STATE_CMDREJ code
def chgAcc (s : State) : State := s.wr CHG_STATE CHG_STATE_CMDREJ 0

/-! ### Staging (R296) -/

/-- Steps 1 and 2 on a package: header, directory, signature and BASE, then every section into the Understory. -/
def stageRun (s : State) (pk : List Byte) : State :=
  let t := (s.setChg fun c => { c with staged := pk, result := none, ack := false, vote := false }).wr CHG_STATE CHG_STATE_STATE 1
  let t := (t.wr CHG_PROG CHG_PROG_SAVED 0).wr CHG_PROG CHG_PROG_PASS_DONE 0
  match formatBad pk with
  | some i => stageFail t 1 i
  | none =>
    if pkgSigned t pk = false then stageFail t 2 0
    else if BitVec.ofNat 384 (le pk 16 48) ≠ pkgDigest t then stageFail (t.setChg fun c => { c with saving := true }) 3 0
    else
      let t := (t.setChg fun c => { c with saving := true }).wr CHG_STATE CHG_STATE_STATE 2
      (placeSet t pk).1

/-- CHG_CMD.STAGE (R296, R297): the package in DRAM, read by the transfer engine; in a pair it goes to the partner. -/
def chgStage (s : State) : State :=
  let roleOk := s.role = .alone ∨ s.role = .active ∨ s.role = .solo
  if s.freeMode ∨ ¬ (s.chgState = 0 ∨ s.chgState = 6) ∨ ¬ roleOk then chgRej s 1
  else
    match teRead (chgAcc s) (s.rd64 CHG_PKG_LO CHG_PKG_HI) (s.rget CHG_PKG_LEN).toNat with
    | (.error _, t) => stageFail (t.setChg fun c => { c with staged := [], result := none, ack := false, vote := false }) 15 0
    | (.ok pk, t) => stageRun (if inPair t then sendLane t (.stage (.pkg pk [])) else t) pk

/-- Whether a Grove that the staged classes name is still starting: the checks of step 2 cannot be finished (R296). -/
def groveStarts (s : State) : Bool := (grovesNamed s (1 - s.bank)).any fun g => s.unitState (.grove g) == 1

/-- The code of every Grove ON and the INIT content into the Understory banks: the code again, because a Grove start has cleared its banks. -/
def placeBanks (s : State) (pk : List Byte) : State × Bool :=
  let x := placeCode s (pkgSecD pk 1) true fun _ => true
  let y := placeInit x.1 (pkgSecD pk 3) true fun _ => true
  (y.1, x.2 && y.2)

/-- STAGING_CHECK_DONE: the checks of step 2 are finished (R298), the load check shown in TSQ_CHK; a passing set is COPYING, INIT is written,
and dirty tracking starts. -/
def stagingDone (s : State) : State :=
  if s.chgState = 2 ∧ groveStarts s = false then
    let pk := s.chg.staged
    let u := showCheck s (stagedCheck s pk)
    match stagingCheck s pk (placeSet s pk).2 with
    | (some (c, d), _) => stageFail u c d
    | (none, warn) =>
      match placeBanks u pk with
      | (t, false) => stageFail t 15 0
      | (t, true) =>
        let t := match warn with
          | some c => chgEvt (setChk t 0 c) CHG_EVT_BUDGET_WARN
          | none => setChk t 0 0
        let t := (chgEvt t CHG_EVT_CHECKED).wr CHG_STATE CHG_STATE_STATE 3
        sendResult ((List.range 8).foldl (fun t g => t.setGrove g { t.grove g with dirty := [] }) t)
  else s

/-- The banks of a Grove that a staged set uses are cleared: staging fails with code 16 (R298, 06 R170). -/
def stageCleared (s : State) (g : Fin 8) : State :=
  if 3 ≤ s.chgState ∧ s.chgState ≤ 5 ∧ ((grovesNamed s (1 - s.bank)).contains g || (pkgLayout s.chg.staged).any fun r => r.grove == g.val) = true
  then stageFail s 16 g else s

/-! ### The transfer map (R294, R295) -/

/-- One element widened or converted. -/
def tmElem (r : TmapRec) (bs : List Byte) : List Byte :=
  let v := leVal bs
  if r.kind = 1 then
    leBytes r.dsz (if 2 ^ (8 * r.ssz - 1) ≤ v then v + (2 ^ (8 * r.dsz) - 2 ^ (8 * r.ssz)) else v)
  else if r.kind = 2 then leBytes r.dsz v
  else if r.ssz = 4 then leBytes 8 (fpCvf .f64 (BitVec.ofNat 64 v)).1.toNat
  else leBytes 4 (fpCvf .f32 (BitVec.ofNat 64 v)).1.toNat

/-- Bytes that a record of kind SEXT, ZEXT or FCVT makes of those that it reads. -/
def tmConvert (r : TmapRec) : Nat → List Byte → List Byte
  | 0, _ => []
  | n + 1, l => tmElem r (l.take r.ssz) ++ tmConvert r n (l.drop r.ssz)

/-- One read of the transfer engine in a Canopy bank and the write it gives. A read with an uncorrectable error is the Grove's fault (06 R155)
and carries nothing; a denial ends the flag. -/
def tmMove (x : State × Bool) (src n dst : Nat) (f : List Byte → List Byte) : State × Bool :=
  match teRead x.1 src n with
  | (.ok l, t) => teWrite (t, x.2) dst (f l)
  | (.error c, t) => (t, x.2 && decide (8 ≤ c))

/-- Whether the line of Grove g that holds an offset is dirty. -/
def lineDirty (s : State) (g off : Nat) : Bool := (s.grove g).dirty.contains (off / 64)

/-- Whether a record can be carried out: its Groves are ON and neither is isolated (R310). -/
def tmServes (s : State) (r : TmapRec) : Bool :=
  [tmGrove r.src, tmGrove r.dst].all fun g => groveOn s g && !s.on (GRV_STATUS g) GRV_STATUS_ISOLATED

/-- One record carried out: whole, or only what its dirty source lines change (R306, R307). -/
def tmRun (dirtyOnly : Bool) (x : State × Bool) (r : TmapRec) : State × Bool :=
  let s := x.1
  let src := bankAddr s false (tmGrove r.src) (tmOff r.src)
  let dst := bankAddr s true (tmGrove r.dst) (tmOff r.dst)
  let ps := (pieces src r.srcLen).filter fun p => !dirtyOnly || lineDirty s (tmGrove r.src) (tmOff r.src + (p.1 - src))
  if tmServes s r = false then x
  else if r.kind = 0 then ps.foldl (fun y p => tmMove y p.1 p.2 (dst + (p.1 - src)) id) x
  else if ps = [] then x
  else tmMove x src r.srcLen dst (tmConvert r r.count)

/-- Whether a record of the transfer map reads some byte of line n of Grove g. -/
def tmReads (tm : List TmapRec) (g n : Nat) : Bool :=
  tm.any fun r => tmGrove r.src == g && decide (n * 64 < tmOff r.src + r.srcLen) && decide (tmOff r.src < n * 64 + 64)

/-- A pass over the transfer map; the lines read are no longer dirty (R306). The flag tells whether every transfer was admitted. -/
def tmPass (dirtyOnly : Bool) (s : State) : State × Bool :=
  let tm := pkgTmap s.chg.staged
  let (t, ok) := tm.foldl (tmRun dirtyOnly) (s, true)
  ((List.range 8).foldl (fun t g => t.setGrove g { t.grove g with dirty := (t.grove g).dirty.filter fun n => !tmReads tm g n }) t, ok)

/-- TMAP_PASS_DONE: the set reaches STAGED (R296 step 4). -/
def tmapPassDone (s : State) : State :=
  if s.chgState = 3 ∧ s.chg.teDown = false then
    match tmPass false s with
    | (t, true) =>
      -- a Grove fault met in the pass may have led to FAULTED, where the set is gone (R297)
      if t.chgState = 3 then chgEvt ((t.wr CHG_PROG CHG_PROG_PASS_DONE 1).wr CHG_STATE CHG_STATE_STATE 4) CHG_EVT_STAGED else t
    | (t, false) => stageXferFail t
  else s

/-- Lines dirty in all Groves (CHG_PROG.DIRTY). -/
def dirtyLines (s : State) : Nat := (List.range 8).foldl (fun n g => n + (s.grove g).dirty.length) 0

/-- Dirty lines that a range of a Grove overlaps. -/
def dirtyIn (s : State) (g off n : Nat) : Nat :=
  ((s.grove g).dirty.filter fun l => decide (l * 64 < off + n) && decide (off < l * 64 + 64)).length

/-- Cycles of a record in the predicted apply (R307). -/
def tmCost (s : State) (r : TmapRec) : Nat :=
  let d := dirtyIn s (tmGrove r.src) (tmOff r.src) r.srcLen
  if r.kind = 0 then 12 * d else if d = 0 then 0 else 4 + r.count

/-- Predicted apply time A in ns (R307). -/
def applyTime (s : State) : Nat :=
  let tm := pkgTmap s.chg.staged
  let chan (g : Nat) : Nat := (tm.filter fun r => tmGrove r.dst == g || tmGrove r.src == g).foldl (fun n r => n + tmCost s r) 0
  let most := ((List.range 8).map chan).foldl max 0
  let img := ((List.range 131072).filter fun i =>
    (sigAssigned (pkgSig s.chg.canopy i).1 || sigAssigned (pkgSig s.chg.staged i).1) && !survives s.chg.canopy s.chg.staged i).length
  500 + max ((most * 5 + 5) / 6) img

/-- APPLY_PREDICTION at HOLD (R307). -/
def applyPrediction (s : State) : State :=
  if 4 ≤ s.chgState ∧ s.chgState ≤ 5 then s.rset CHG_DELTA (BitVec.ofNat 32 (applyTime s)) else s

/-- The transfer engine re-copies dirty lines outside the Clearing (R306): in the model once per tick, at the input instant. -/
def recopy (s : State) : State :=
  if 4 ≤ s.chgState ∧ s.chgState ≤ 5 ∧ s.chg.teDown = false then
    match tmPass true s with
    | (t, true) => t
    | (t, false) => stageXferFail t
  else s

/-! ### Announcement (R308) -/

/-- Force check of R305: whether it finds an orphan that the package does not release. -/
def orphanBlocks (s : State) : Bool := !pkgRelease s.chg.staged && (orphans s s.chg.staged != [])

/-- CHG_CMD.ANNOUNCE. -/
def chgAnnounce (s : State) : State :=
  let t := s.rd64 CHG_APPLY_LO CHG_APPLY_HI
  let partner := match s.chg.result with
    | some (d, chk, _) => d == sha s.chg.staged && wbit chk.toNat 30
    | none => false
  let saved := s.on CHG_PROG CHG_PROG_SAVED && (!inPair s || (match s.chg.result with
    | some (_, _, sv) => sv
    | none => false))
  if s.role.master = false then chgRej s 1
  else if s.chgState ≠ 4 then chgRej s 2
  else if inPair s ∧ partner = false then chgRej s 3
  else if saved = false then chgRej s 4
  else if t < s.seq.tick + 16 then chgRej s 5
  else if s.pair.swap.isSome ∨ coppBusy s = true then chgRej s 6
  else if orphanBlocks s then stageFail (chgAcc s) 13 ((orphans s s.chg.staged).headD 0)
  else
    let u := ((chgAcc s).wr CHG_STATE CHG_STATE_STATE 5).wr CHG_STATE CHG_STATE_TRIES 0
    let u := u.setChg fun c => { c with ack := false, lastNo := 0 }
    sendLane u (.stage (.announce (BitVec.ofNat 64 t) (sha s.chg.staged)))

/-- An announcement ends without an apply: back to STAGED with a reason (R308, R312). -/
def unannounce (s : State) (why : Nat) : State :=
  chgEvt ((s.wr CHG_STATE CHG_STATE_STATE 4).wr CHG_STATE CHG_STATE_ABANDON why) CHG_EVT_ABANDONED

/-- CHG_CMD.WITHDRAW, until T − 8. -/
def chgWithdraw (s : State) : State :=
  if s.chgState = 5 ∧ s.seq.tick + 8 ≤ s.rd64 CHG_APPLY_LO CHG_APPLY_HI then
    sendLane (unannounce (chgAcc s) 5) (.stage (.withdraw (sha s.chg.staged)))
  else chgAcc s

/-- CHG_CMD.DISCARD. -/
def chgDiscard (s : State) : State :=
  if s.chgState = 0 then chgAcc s else sendLane (discardSet (chgAcc s)) (.stage (.discard (sha s.chg.staged)))

/-- ANNOUNCE_NOACK at the Clearing of T − 8 (R308). -/
def announceNoack (s : State) : State :=
  if s.chgState = 5 ∧ s.role = .active ∧ s.chg.ack = false ∧ s.rd64 CHG_APPLY_LO CHG_APPLY_HI ≤ s.seq.tick + 8 then
    sendLane (unannounce s 3) (.stage (.withdraw (sha s.chg.staged)))
  else s

/-- APPLY_ABANDON: T + RETRY has passed (R312). -/
def applyAbandon (s : State) : State :=
  if s.chgState = 5 ∧ s.rd64 CHG_APPLY_LO CHG_APPLY_HI + s.rd CHG_CFG CHG_CFG_RETRY < s.seq.tick then
    unannounce s (if s.chg.lastNo = 0 then 2 else s.chg.lastNo)
  else s

/-! ### Vote and apply (R309 to R316) -/

/-- Whether the running tick is one in which the announced set may apply. -/
def applyTick (s : State) : Bool :=
  let t := s.rd64 CHG_APPLY_LO CHG_APPLY_HI
  s.chgState == 5 && decide (t ≤ s.seq.tick) && decide (s.seq.tick ≤ t + s.rd CHG_CFG CHG_CFG_RETRY)

/-- Whether the delta fits (R307). -/
def deltaFits (s : State) : Bool :=
  decide (clearTime s 4096 (s.rd TSQ_PC TSQ_PC_PC) (s.clk.trel / 100) * 100 + (s.rget CHG_DELTA).toNat
    + s.rd CHG_CFG CHG_CFG_MARGIN * 1000 ≤ s.tickLen)

/-- The vote of this tick (R309), with the reason of a no. -/
def chgVote (s : State) : State :=
  if applyTick s then
    let fit := deltaFits s
    let grv := (List.range 8).any fun g => s.on (GRV_STATUS g) GRV_STATUS_ISOLATED || s.on (GRV_STATUS g) GRV_STATUS_RESYNC
    let forces := orphanBlocks s || (match s.armed with
      | some a => a.tick == s.seq.tick && !pkgRelease s.chg.staged && orphanBlocks (frcActivate s a.copy)
      | none => false)
    let v := fit && !grv && !s.on PAR_STATUS PAR_STATUS_HOLD && !forces
    s.setChg fun c => { c with vote := v, lastNo := if v then c.lastNo else if forces then 4 else if !fit then 1 else 0 }
  else s.setChg fun c => { c with vote := false }

/-- Whether the announced change applies in this Clearing (R309). -/
def applyNow (s : State) : Bool :=
  applyTick s && s.chg.vote && (s.role == .alone || s.role == .solo || (s.pair.parApply && !s.pair.mismatch))

/-- Release of the orphans that the force table holds, each with an event record (R305, R310 step 2). -/
def dropOrphans (s : State) : State :=
  match orphans s s.chg.staged with
  | [] => s
  | l =>
    let t := l.foldl (fun t n =>
      let sig := t.rd (FRCA_CTL n) FRCA_CTL_SIG
      let t := (t.wr (FRCA_CTL n) FRCA_CTL_VALID 0).wr (FRCS_CTL n) FRCS_CTL_VALID 0
      t.event 12 6 CHG_EVT (BitVec.ofNat 32 (n * 2 ^ 17 + sig))) s
    chgEvt (t.wr FRC_STATUS FRC_STATUS_ACTIVE (t.rd FRC_STATUS FRC_STATUS_ACTIVE - l.length)) CHG_EVT_ORPHAN_DROP

/-- Entry of a signal that is new or no longer assigned (R302, R421): a safe value, BAD until its first refresh, or all zeros, which is AGE 0 in
the tick of the write (05 R120). -/
def newEntry (s : State) (pk : List Byte) (i : Nat) : Entry :=
  let d := (pkgSig pk i).1
  if sigAssigned d = false then ⟨0#32, 0#8, 0#4, some s.seq.tick⟩
  else if descDir d then
    let v := if descSafeMode d = 2 then 0#32 else BitVec.ofNat 32 (le (pkgSecD pk 7) (4 * descSafeIdx d) 4)
    ⟨v, 0x01#8, BitVec.ofNat 4 (descType d), some s.seq.tick⟩
  else ⟨0#32, 0x03#8, BitVec.ofNat 4 (descType d), none⟩

/-- The image update of R302: copies 0 and 1 for every new and every removed signal. -/
def imageUpdate (s : State) : State :=
  (List.range 131072).foldl (fun t i =>
    if (sigAssigned (pkgSig t.chg.canopy i).1 || sigAssigned (pkgSig t.chg.staged i).1) && !survives t.chg.canopy t.chg.staged i then
      let e := newEntry t t.chg.staged i
      (t.setEntry 0 i e).setEntry 1 i e
    else t) s

/-- The pointer toggle of R291. -/
def toggleBanks (s : State) : State :=
  let t := s.wr TSQ_STATUS TSQ_STATUS_BANK (1 - s.bank)
  let t := t.wr IMG_STATUS IMG_STATUS_DBANK (1 - t.rd IMG_STATUS IMG_STATUS_DBANK)
  let t := (List.range 45).foldl (fun t g => t.wr (GATE_STATUS g) GATE_STATUS_TBANK (1 - t.rd (GATE_STATUS g) GATE_STATUS_TBANK)) t
  let t := (List.range 8).foldl (fun t g => t.wr (GRV_STATUS g) GRV_STATUS_CBANK (1 - t.rd (GRV_STATUS g) GRV_STATUS_CBANK)) t
  schedToggle { t with seq := { t.seq with deadl := [] } }

/-- Counts that restart for NEWCODE classes (R313). -/
def resetHwm (s : State) (pk : List Byte) : State :=
  (List.range 16).foldl (fun t c =>
    if wbit (le (pkgSecD pk 11) (16 * c + 8) 4) 0 then (t.rset (CHG_HWM_SLICE c) 0#32).rset (CHG_HWM_ACT c) 0#32 else t) s

/-- Steps 3, 4 and 6 of an apply (R310, R313, R316): image, pointers, counts. -/
def applyToggle (s : State) : State :=
  let t := abandonAll (toggleBanks (imageUpdate s))
  let t := resetHwm t t.chg.staged
  let t := t.wr CHG_GEN CHG_GEN_CFG_GEN (t.rd CHG_GEN CHG_GEN_CFG_GEN + 1)
  let q := pkgQuotas t t.chg.staged
  let t := pkgSlotRecord (t.setChg fun c => { c with canopy := c.staged, quotas := q })
  chgEvt (discardSet t) CHG_EVT_APPLIED

/-- The announced set applies (R310), the snapshot being CLEAR's, unless a Grove fault met in step 2 has led to FAULTED, where the set is
gone (R297). -/
def applySet (s : State) : State :=
  let t := (tmPass true (if pkgRelease s.chg.staged then dropOrphans s else s)).1
  if t.chgState = 5 then applyToggle t else t

/-- The change decision of a Clearing (R309, R312). -/
def chgClear (s : State) : State :=
  if applyNow s then applySet s
  else if applyTick s then
    chgEvt (s.bump CHG_STATE CHG_STATE_TRIES 1) CHG_EVT_POSTPONED
  else s

/-- Largest cycle counts at HOLD (CHG_HWM_SLICE, CHG_HWM_ACT). -/
def hwmHold (s : State) : State :=
  (List.range 16).foldl (fun t c => (List.range 64).foldl (fun t e =>
    let n := (t.task e c).cyc
    let t := t.rset (CHG_HWM_SLICE c) (BitVec.ofNat 32 (max n (t.rget (CHG_HWM_SLICE c)).toNat))
    let a := (t.task e c).actCyc + n
    if (t.task e c).st = .none then t
    else t.rset (CHG_HWM_ACT c) (BitVec.ofNat 32 (min (2 ^ 32 - 1) (max a (t.rget (CHG_HWM_ACT c)).toNat)))) t) s

/-! ### Messages of the partner -/

/-- STAGE PKG (R299, R285): the package that a join takes becomes the Canopy package, and its save begins, whatever set is staged. -/
def stagePkgRecv (pk : List Byte) (q : List (Nat × Nat)) (s : State) : State :=
  if s.pair.taking then
    let ok := (match s.pair.hello with
      | some m => m.digest == sha pk
      | none => false) && pkgSigned s pk
    let t := s.setPair fun p => { p with taking := false }
    if ok then
      requestSync (t.setChg fun c => { c with canopy := pk, quotas := q, saving := true, joinSave := true }) (joinEpoch t)
    else joinFails t
  else if s.role = .standby ∧ (s.chgState = 0 ∨ s.chgState = 6) then stageRun s pk
  else s

/-- STAGE RESULT (R299). -/
def stageResultRecv (d : BitVec 384) (chk : Word) (saved : Bool) (s : State) : State :=
  if s.chgState = 0 ∨ s.chgState = 6 then s
  else if d ≠ sha s.chg.staged ∨ wbit chk.toNat 30 = false then stageFail s 18 (chk.toNat / 2 ^ 24 % 32)
  else s.setChg fun c => { c with result := some (d, chk, saved) }

/-- STAGE ANNOUNCE (R308). -/
def stageAnnounceRecv (t : BitVec 64) (d : BitVec 384) (s : State) : State :=
  if s.chgState = 4 ∧ d = sha s.chg.staged then
    let u := ((s.wr64 CHG_APPLY_LO CHG_APPLY_HI t.toNat).wr CHG_STATE CHG_STATE_STATE 5).wr CHG_STATE CHG_STATE_TRIES 0
    sendLane (u.setChg fun c => { c with lastNo := 0 }) (.stage (.ack t d))
  else s

/-- STAGE ACK (R308). -/
def stageAckRecv (t : BitVec 64) (d : BitVec 384) (s : State) : State :=
  if s.chgState = 5 ∧ d = sha s.chg.staged ∧ t.toNat = s.rd64 CHG_APPLY_LO CHG_APPLY_HI then s.setChg fun c => { c with ack := true } else s

/-- STAGE WITHDRAW (R308). -/
def stageWithdrawRecv (d : BitVec 384) (s : State) : State :=
  if s.chgState = 5 ∧ d = sha s.chg.staged then unannounce s 5 else s

/-- STAGE DISCARD (R297). -/
def stageDiscardRecv (d : BitVec 384) (s : State) : State := if d = sha s.chg.staged then discardSet s else s

/-! ### Loading a set outside an apply (14 R373, 10 R283; R421) -/

/-- The Canopy set loaded from the module's own package: program, map, gates, schedules and image entries. The banks of a Grove follow once it
is ON (`loadBanks`). -/
def loadCanopy (s : State) : State :=
  let pk := s.chg.canopy
  if pk = [] then s
  else
    let t := placeProg s (pkgSecD pk 5) s.bank
    let t := placeMap t (pkgSecD pk 6) (pkgSecD pk 7) (1 - t.rd IMG_STATUS IMG_STATUS_DBANK)
    let t := mapLoad t
    let t := t.wr IMG_STATUS IMG_STATUS_DBANK (1 - t.rd IMG_STATUS IMG_STATUS_DBANK)
    let t := placeGates t (pkgSecD pk 8)
    let t := (List.range 45).foldl (fun t g => t.wr (GATE_STATUS g) GATE_STATUS_TBANK (1 - t.rd (GATE_STATUS g) GATE_STATUS_TBANK)) t
    let t := schedToggle (schedStage t (pkgSecD pk 9)).1
    (List.range 131072).foldl (fun t i =>
      let e := newEntry t pk i
      ((t.setEntry 0 i e).setEntry 1 i e).setEntry 2 i e) t

/-- Code and INIT content of the Canopy package into the Canopy banks of the Groves named that are ON (14 R373; 10 R283). -/
def loadBanks (s : State) (groves : Nat → Bool) : State :=
  let pk := s.chg.canopy
  if pk = [] then s
  else (placeInit (placeCode s (pkgSecD pk 1) false groves).1 (pkgSecD pk 3) false fun g => groves g && groveOn s g).1

/-! ### Meanings -/

/-- STAGE (R296). -/
def execStage (_m : Master) (s : State) : Out3 := .next (chgStage s)
/-- STAGING_CHECK_DONE (R298). -/
def execStagingCheckDone (s : State) : Out3 := .next (stagingDone s)
/-- TMAP_PASS_DONE (R296). -/
def execTmapPassDone (s : State) : Out3 := .next (tmapPassDone s)
/-- ANNOUNCE (R308). -/
def execAnnounce (_m : Master) (s : State) : Out3 := .next (chgAnnounce s)
/-- ANNOUNCE_NOACK (R308). -/
def execAnnounceNoack (s : State) : Out3 := .next (announceNoack s)
/-- WITHDRAW (R308). -/
def execWithdraw (_m : Master) (s : State) : Out3 := .next (chgWithdraw s)
/-- DISCARD (R297). -/
def execDiscard (_m : Master) (s : State) : Out3 := .next (chgDiscard s)
/-- APPLY_ABANDON (R312). -/
def execApplyAbandon (s : State) : Out3 := .next (applyAbandon s)
/-- STAGE_PKG (R299), which may come in fragments (10 R264). -/
def execStagePkg (h : Hdr) (bytes : List Byte) (q : List (Nat × Nat)) (s : State) : Out3 :=
  .next (laneFrag h (.stage (.pkg bytes q)) (fun m => match m with
    | .stage (.pkg l q) => stagePkgRecv l q
    | _ => id) (laneCount s h.lane false (.stage (.pkg bytes q))))
/-- STAGE_RESULT (R299). -/
def execStageResult (h : Hdr) (d : BitVec 384) (chk : Word) (saved : Bool) (s : State) : Out3 :=
  .next (laneMsg h (stageResultRecv d chk saved) (laneCount s h.lane false (.stage (.result d chk saved))))
/-- STAGE_ANNOUNCE (R308). -/
def execStageAnnounce (h : Hdr) (t : BitVec 64) (d : BitVec 384) (s : State) : Out3 :=
  .next (laneMsg h (stageAnnounceRecv t d) (laneCount s h.lane false (.stage (.announce t d))))
/-- STAGE_ACK (R308). -/
def execStageAck (h : Hdr) (t : BitVec 64) (d : BitVec 384) (s : State) : Out3 :=
  .next (laneMsg h (stageAckRecv t d) (laneCount s h.lane false (.stage (.ack t d))))
/-- STAGE_WITHDRAW (R308). -/
def execStageWithdraw (h : Hdr) (d : BitVec 384) (s : State) : Out3 :=
  .next (laneMsg h (stageWithdrawRecv d) (laneCount s h.lane false (.stage (.withdraw d))))
/-- STAGE_DISCARD (R297). -/
def execStageDiscard (h : Hdr) (d : BitVec 384) (s : State) : Out3 :=
  .next (laneMsg h (stageDiscardRecv d) (laneCount s h.lane false (.stage (.discard d))))

end Sys2Proof.Machine
end

