-- ==== Sys2Proof/Machine/Lio.lean ====
section
/-! DEFINITION. The local 24 V channels (chapter 13): raw edges and debouncing, counts and gates, the SOE queue, the sample of the input
instant, output drive, terminal faults, and the field supplies. -/

namespace Sys2Proof.Machine

open Sys2Proof

/-! ### Channels and groups -/

/-- MODE of a channel: 0 DI, 1 COUNT, 2 FREQ, 3 DO (R342). -/
def lioMode (s : State) (c : Nat) : Nat := s.rd (LIO_CFG c) LIO_CFG_MODE

/-- Whether channel c is paralleled with the partner's (R350). -/
def lioPar (s : State) (c : Nat) : Bool := wbit (s.rget LIO_PAR).toNat c

def lioBase (s : State) (b : Bool) : Nat := 32 * (if b then s.rd LIO_MAP LIO_MAP_BASE_B else s.rd LIO_MAP LIO_MAP_BASE_A)

/-- Signal of this module's channel c, and of the partner's (R341). -/
def lioSig (s : State) (c : Nat) : Nat := (lioBase s (s.on PAR_STATUS PAR_STATUS_POS && !lioPar s c) + c) % 131072
def lioParSig (s : State) (c : Nat) : Nat := (lioBase s (!s.on PAR_STATUS PAR_STATUS_POS && !lioPar s c) + c) % 131072

/-- Whether the signal's descriptor matches the channel's mode (R342). -/
def lioMapOk (s : State) (c : Nat) : Bool :=
  let d := s.descOf (lioSig s c)
  match lioMode s c with
  | 0 => !descDir d && descType d == 1
  | 1 => !descDir d && descType d == 7
  | 2 => !descDir d && descType d == 9
  | _ => descDir d && descType d == 1

def lioOn (s : State) (c : Nat) : Bool := s.rd (LIO_EN c) U_STATE == 2

/-- A bit of LIO_DIAG is set: LIO_EVT.DIAG and an event record (R352). -/
def lioDiag (s : State) (c : Nat) (f : Fld) : State :=
  if s.on (LIO_DIAG c) f then s else ((s.wr (LIO_DIAG c) f 1).raise 16 LIO_EVT LIO_EVT_DIAG).eventReg 16 (LIO_DIAG c) f

/-! ### Inputs (R344 to R347) -/

/-- Gates that have ended by an instant, the first with the edges counted so far (R346). -/
def gateRollAt (s : State) (c now : Nat) : State :=
  let r := s.lioCh c
  let g := s.rd (LIO_GATE c) LIO_GATE_G * 1000
  match r.gate with
  | some t =>
    let k := if g = 0 then 0 else (now - t) / g
    if k = 0 then s
    else
      let n := if k = 1 then r.edges else 0
      (s.setLioCh c fun r => { r with gate := some (t + k * g), edges := 0, last := some n }).wr (LIO_MEAS c) LIO_MEAS_MEAS n
  | none => s

/-- Gates that have ended by now. -/
def gateRoll (s : State) (c : Nat) : State := gateRollAt s c s.clk.mono

/-- An SOE record (R347). -/
def soePut (s : State) (c : Nat) (up : Bool) (stamp : Word) : State :=
  let cfg := s.rd (LIO_CFG c) LIO_CFG_SOE_EDGE
  if s.on (LIO_CFG c) LIO_CFG_SOE_EN && wbit cfg (if up then 0 else 1) then
    if s.lio.soe.length < 1024 then { s with lio := { s.lio with soe := s.lio.soe ++ [(c, up, stamp)] } }
    else (s.bump LIO_SOE_INFO LIO_SOE_INFO_LOST 1).raise 16 LIO_EVT LIO_EVT_SOE_OVF
  else s

/-- The level of the terminal is accepted at the instant at which the debounce interval has passed (R344); a rising edge counts in the gate that
holds that instant (02 R46). -/
def debounce (s : State) (c : Nat) : State :=
  match (s.lioCh c).deb with
  | some (t, stamp) =>
    let at_ := t + s.rd (LIO_CFG c) LIO_CFG_DEB * 1000
    if s.clk.mono < at_ then s
    else
      let s := gateRollAt (s.setLioCh c fun r => { r with deb := none }) c at_
      let lvl := s.on (LIO_DIAG c) LIO_DIAG_LEVEL
      if lvl = (s.lioCh c).level then s
      else
        let s := s.setLioCh c fun r =>
          { r with level := lvl, count := if lvl then r.count + 1#32 else r.count,
                   edges := if lvl ∧ (r.gate.any fun g => decide (g ≤ at_)) then r.edges + 1 else r.edges }
        soePut s c lvl stamp
  | none => s

/-- A raw edge at a terminal: the level shows, and on an input channel that is ON the debounce interval starts again (R344). -/
def rawEdge (s : State) (c : Nat) (level : Bool) : State :=
  let s := debounce s c
  if s.on (LIO_DIAG c) LIO_DIAG_LEVEL = level then s
  else
    let t := s.flag (LIO_DIAG c) LIO_DIAG_LEVEL level
    if lioOn t c && lioMode t c != 3 then t.setLioCh c fun r => { r with deb := some (t.clk.mono, t.short) } else t

/-- n × 10^6 / G as binary32, rounded to nearest even (R346). -/
def freqBits (n g : Nat) : Word :=
  if n = 0 then 0#32
  else
    let k := 2 ^ 64
    let num := n * 1000000 * k
    ((fpRound .f32 false (num / g) (-64) (decide (num % g ≠ 0))).1).truncate 32

/-- VALUE of an input channel's entry (R342). -/
def lioValue (s : State) (c : Nat) : Word :=
  match lioMode s c with
  | 0 => if (s.lioCh c).level then 1#32 else 0#32
  | 1 => (s.lioCh c).count
  | _ =>
    match (s.lioCh c).last with
    | some n => freqBits n (s.rd (LIO_GATE c) LIO_GATE_G)
    | none => 0#32

/-- Quality of an input channel's entry: the first row that applies (R343). -/
def lioQuality (s : State) (c : Nat) : Byte :=
  let g := lioGroup c
  if (s.lioGrp g).lost || s.on (LIO_GRP_STAT g) LIO_GRP_STAT_LOW then 3#8
  else if s.on (LIO_DIAG c) LIO_DIAG_OPENWIRE || s.on (LIO_DIAG c) LIO_DIAG_MAP then 3#8
  else if lioMode s c == 2 && (s.lioCh c).last.isNone then 1#8
  else if s.on (LIO_GRP_STAT g) LIO_GRP_STAT_WARN then 1#8
  else 0#8

/-- A starting channel that has settled reaches ON (R359); its count starts at 0, its level is the terminal's; `settled` stays for this
instant, so that the first gate starts at the next one (R346). -/
def lioReach (s : State) (c : Nat) : State :=
  if s.rd (LIO_EN c) U_STATE = 1 ∧ (s.lioCh c).settled = true ∧ s.on (LIO_GRP_STAT (lioGroup c)) LIO_GRP_STAT_LOW = false then
    let lvl := s.on (LIO_DIAG c) LIO_DIAG_LEVEL
    ((s.wr (LIO_EN c) U_STATE 2).setLioCh c fun _ => { LioCh.idle with level := lvl, settled := true }).rset (LIO_MEAS c) 0#32
  else s

/-- The sample of one input channel at the input instant (R342, R343): written now, or held for the buffer that a segment fills. -/
def lioSample (s : State) (c : Nat) : State :=
  if lioOn s c && lioMode s c != 3 then
    let s := if lioMode s c = 2 ∧ (s.lioCh c).gate = none ∧ (s.lioCh c).settled = false then
        s.setLioCh c fun r => { r with gate := some s.clk.mono }
      else s
    let s := gateRoll (debounce s c) c
    let s := if lioMapOk s c then s else lioDiag s c LIO_DIAG_MAP
    let s := if lioMode s c = 1 then s.rset (LIO_CNT c) (s.lioCh c).count else s
    let v := lioValue s c
    let q := lioQuality s c
    let s := { s with lio := { s.lio with sampled := s.lio.sampled ||| BitVec.ofNat 32 (2 ^ c) } }
    if s.freeMode then { s with lio := { s.lio with held := s.lio.held ++ [(lioSig s c, v, q)] } } else writeInput s (lioSig s c) v q
  else s

/-- In free mode the held samples go into the buffer that the input segment has begun to fill (R343). -/
def lioFill (s : State) : State :=
  let t := s.lio.held.foldl (fun t e => writeInput t e.1 e.2.1 e.2.2) s
  { t with lio := { t.lio with held := [] } }

/-! ### Outputs (R348, R349, R351) -/

/-- Command of output channel c: bit 0 of the output entry through the force overlay (R348). -/
def lioCommand (s : State) (c : Nat) : Bool := lioMode s c == 3 && (sentValue s false (lioSig s c)).1.getLsbD 0

/-- At HOLD the commands of the output channels are taken. -/
def lioHold (s : State) : State :=
  let w := (List.range 32).foldl (fun w c => if lioCommand s c then w + 2 ^ c else w) 0
  { s with lio := { s.lio with cmd := BitVec.ofNat 32 w } }

/-- The safe state of output channel c (R349, 05 R123). -/
def lioSafe (s : State) (c : Nat) : Bool :=
  let d := s.descOf (lioSig s c)
  if descSafeMode d = 1 then (s.lioCh c).drv
  else if descSafeMode d = 2 then false
  else (s.rget (IMG_SAFE (s.rd IMG_STATUS IMG_STATUS_DBANK) (descSafeIdx d))).getLsbD 0

/-- Whether the commands of a paralleled channel differ from the partner's of the same tick (R351). -/
def lioDiffers (s : State) (c : Nat) : Bool :=
  match s.lio.par with
  | some w => lioPar s c && (w.getLsbD c != s.lio.cmd.getLsbD c)
  | none => false

/-- What output channel c drives after tick n (R349, R351). -/
def lioDrive (s : State) (c : Nat) : Bool :=
  let cmd := s.lio.cmd.getLsbD c
  let serves := match s.role with
    | .alone => true
    | .active => true
    | .solo => true
    | .standby => true
    | _ => false
  if lioMapOk s c = false then false
  else if serves then
    if s.seq.gate = .frames then (if s.role = .standby ∧ lioDiffers s c = true then false else cmd)
    else if lioPar s c then false
    else if s.on (LIO_CFG c) LIO_CFG_GATEACT then lioSafe s c else (s.lioCh c).drv
  else if s.role = .stopped then lioSafe s c
  else false

/-- Whether the group holds its drivers off (R355, R357, R358). -/
def lioHeldOff (s : State) (g : Nat) : Bool :=
  s.on (LIO_GRP_STAT g) LIO_GRP_STAT_LATCH || s.on (LIO_GRP_STAT g) LIO_GRP_STAT_LOW || (s.lioGrp g).lost

/-- One output channel switches at the input instant (R342, R348). -/
def lioSwitch (s : State) (c : Nat) : State :=
  if lioOn s c && lioMode s c == 3 then
    let s := if lioMapOk s c then s else lioDiag s c LIO_DIAG_MAP
    let d := lioDrive s c
    (s.setLioCh c fun r => { r with drv := d }).flag (LIO_DIAG c) LIO_DIAG_DRIVE (d && !lioHeldOff s (lioGroup c))
  else s

/-- The cross-check once both OUTDIGs of a tick are held (R351): CROSS where the commands of a paralleled output differ. -/
def lioCross (s : State) : State :=
  match s.pair.parOut with
  | some p =>
    let s := { s with lio := { s.lio with par := some p.localOut } }
    (List.range 32).foldl (fun t c => if lioMode t c == 3 && lioOn t c && lioDiffers t c then lioDiag t c LIO_DIAG_CROSS else t) s
  | none => s

/-- The channels at an input instant: `s` is the state before the tick number changes. Outputs switch by the role and gate of the tick that
ends; then channels reach ON, and inputs are sampled in the tick that begins (`begin_`); a link that was lost takes commands again. -/
def lioOutputs (s : State) : State := (List.range 32).foldl lioSwitch s

def lioInputs (s : State) : State :=
  let s := (List.range 32).foldl lioReach { s with lio := { s.lio with sampled := 0#32, held := [], par := none } }
  let s := (List.range 32).foldl lioSample s
  let s := (List.range 32).foldl (fun t c => if lioOn t c then t.setLioCh c fun r => { r with settled := false } else t) s
  (List.range 2).foldl (fun t g => t.setLioGrp g fun r => { r with lost := false }) s

/-! ### Terminal faults (R351 to R354) -/

/-- A driver switches off by itself: the channel stops with HWSTOP (R353). -/
def lioTrip (s : State) (c : Fin 32) (f : Fld) : State :=
  if lioOn s c && lioMode s c == 3 then
    hwStop ((lioDiag s c f).setLioCh c fun r => { r with hw := some s.clk.mono }) (.lio c)
  else s

/-- OPENLOAD: a commanded output without current, not paralleled (R354). -/
def lioOpenLoad (s : State) (c : Nat) : State :=
  if lioOn s c && lioMode s c == 3 && !lioPar s c && s.lio.cmd.getLsbD c then lioDiag s c LIO_DIAG_OPENWIRE else s

/-- OPENWIRE: an input with OW_EN and no current (R354). -/
def lioOpenWire (s : State) (c : Nat) : State :=
  if lioOn s c && lioMode s c != 3 && s.on (LIO_CFG c) LIO_CFG_OW_EN then lioDiag s c LIO_DIAG_OPENWIRE else s

/-- EXTV: a high terminal that should be low, by the own drive, or by both commands of a paralleled channel (R351, R352). -/
def lioExtv (s : State) (c : Nat) : State :=
  let low := if lioPar s c then
      match s.lio.par with
      | some w => !s.lio.cmd.getLsbD c && !w.getLsbD c
      | none => false
    else !s.on (LIO_DIAG c) LIO_DIAG_DRIVE
  if lioOn s c && lioMode s c == 3 && low then lioDiag s c LIO_DIAG_EXTV else s

/-! ### Field supplies (R355 to R358) -/

/-- Every driver of a group switches off. -/
def lioGroupOff (s : State) (g : Nat) : State :=
  (List.range 16).foldl (fun t i => t.wr (LIO_DIAG (16 * g + i)) LIO_DIAG_DRIVE 0) s

/-- A group latches its drivers off (R355, R357). -/
def lioLatch (s : State) (g : Nat) : State :=
  let s := lioGroupOff ((s.wr (LIO_GRP_STAT g) LIO_GRP_STAT_LATCH 1).wr (LIO_GRP_STAT g) LIO_GRP_STAT_REARM_OK 0) g
  (s.raise 16 LIO_EVT LIO_EVT_LOW).eventReg 16 (LIO_GRP_STAT g) LIO_GRP_STAT_LATCH

/-- LATCH clears (R356). -/
def lioUnlatch (s : State) (g : Nat) : State :=
  if s.on (LIO_GRP_STAT g) LIO_GRP_STAT_LATCH then (s.wr (LIO_GRP_STAT g) LIO_GRP_STAT_LATCH 0).raise 16 LIO_EVT LIO_EVT_REARM else s

/-- The re-arm window ends 100 ms after it began (R356). -/
def rearmEnd (s : State) (g : Nat) : State :=
  match (s.lioGrp g).rise with
  | some t =>
    if s.clk.mono < t + 100000000 ∨ s.on (LIO_GRP_STAT g) LIO_GRP_STAT_REARM_OK = true then s
    else
      let s := s.wr (LIO_GRP_STAT g) LIO_GRP_STAT_REARM_OK 1
      if s.on (LIO_GRP_CFG g) LIO_GRP_CFG_AUTO_REARM then lioUnlatch s g else s
  | none => s

/-- The starts of a group's channels fail, its supply being LOW (R355, 01 R24). -/
def lioStartsFail (s : State) (g : Nat) : State :=
  (List.finRange 32).foldl (fun t c => if lioGroup c.val = g then startFails t (.lio c) else t) s

/-- A supply measured at v × 10 mV takes effect (R355, R356); a re-arm window that ends at this instant has ended (02 R46). -/
def supplyMeasure (s : State) (g v : Nat) : State :=
  let a := LIO_GRP_STAT g
  let low := s.on a LIO_GRP_STAT_LOW
  let s := rearmEnd s g
  let s := s.wr a LIO_GRP_STAT_VSUP v
  let s := if v < 1800 then (if s.on a LIO_GRP_STAT_WARN then s else (s.wr a LIO_GRP_STAT_WARN 1).raise 16 LIO_EVT LIO_EVT_WARN)
    else if 1850 ≤ v then s.wr a LIO_GRP_STAT_WARN 0 else s
  let s := if v < 1500 then (if low then s else lioStartsFail (lioLatch (s.wr a LIO_GRP_STAT_LOW 1) g) g) else s.wr a LIO_GRP_STAT_LOW 0
  if v < 1900 then s.setLioGrp g fun r => { r with rise := none }
  else if (s.lioGrp g).ovl then s
  else s.setLioGrp g fun r => { r with rise := some (r.rise.getD s.clk.mono) }

/-- LIO_GRP_CFG.REARM (R356). -/
def lioRearm (s : State) (g : Nat) : State := if s.on (LIO_GRP_STAT g) LIO_GRP_STAT_REARM_OK then lioUnlatch s g else s

/-- A group current of i × 20 mA: above 4.4 A it latches the drivers, below 4 A the re-arm window of an overcurrent starts (R357). -/
def groupCurrent (s : State) (g i : Nat) : State :=
  let a := LIO_GRP_STAT g
  let s := (rearmEnd s g).wr a LIO_GRP_STAT_IGRP (min 255 i)
  if 220 < i then
    (lioLatch (s.wr a LIO_GRP_STAT_GOVL 1) g).setLioGrp g fun r => { r with ovl := true, rise := none }
  else if i < 200 ∧ (s.lioGrp g).ovl = true then
    s.setLioGrp g fun r => { r with ovl := false, rise := if 1900 ≤ s.rd a LIO_GRP_STAT_VSUP then some s.clk.mono else none }
  else s

/-- The link to a group's controller is lost (R358). -/
def lioLinkLoss (s : State) (g : Nat) : State :=
  let s := lioGroupOff ((s.wr (LIO_GRP_STAT g) LIO_GRP_STAT_LINKLOSS 1).setLioGrp g fun r => { r with lost := true }) g
  s.raise 16 LIO_EVT LIO_EVT_LINKLOSS

/-- A read of LIO_SOE_INFO removes the oldest record and latches its stamp for the master (R347). -/
def soeRead (m : Master) (s : State) : Word × State :=
  let lost := s.rd LIO_SOE_INFO LIO_SOE_INFO_LOST
  let s := s.wr LIO_SOE_INFO LIO_SOE_INFO_LOST 0
  match s.lio.soe with
  | (c, up, stamp) :: rest =>
    let w := 2 ^ 31 + rest.length * 2 ^ 16 + lost * 2 ^ 8 + (if up then 64 else 0) + c
    (BitVec.ofNat 32 w, ({ s with lio := { s.lio with soe := rest } }).setLatch m LIO_SOE_STAMP stamp)
  | [] => (BitVec.ofNat 32 (lost * 2 ^ 8), s)

/-- A group's isolated controller runs (14 R373). -/
def groupReady (s : State) (g : Nat) : State :=
  if s.isOn (.domain 10) = false then s else
  let s := s.wr (LIO_GRP_STAT g) LIO_GRP_STAT_READY 1
  (s.wr RDY_VEC ⟨13 + g, 13 + g⟩ 1).raise 0 RDY_EVT ⟨13 + g, 13 + g⟩

/-! ### Meanings -/

/-- RAW_INPUT_EDGE (R344). -/
def execRawInputEdge (c : Fin 32) (level : Bool) (s : State) : Out3 := .next (rawEdge s c level)
/-- DEBOUNCE_ACCEPT (R344). -/
def execDebounceAccept (c : Fin 32) (s : State) : Out3 := .next (debounce s c)
/-- FREQ_GATE_END (R346). -/
def execFreqGateEnd (c : Fin 32) (s : State) : Out3 := .next (gateRoll s c)
/-- OVERLOAD (R353). -/
def execOverload (c : Fin 32) (s : State) : Out3 := .next (lioTrip s c LIO_DIAG_OVERLOAD)
/-- OVERTEMP (R353). -/
def execOvertemp (c : Fin 32) (s : State) : Out3 := .next (lioTrip s c LIO_DIAG_OVERTEMP)
/-- OPENLOAD (R354). -/
def execOpenload (c : Fin 32) (s : State) : Out3 := .next (lioOpenLoad s c)
/-- OPENWIRE (R354). -/
def execOpenwire (c : Fin 32) (s : State) : Out3 := .next (lioOpenWire s c)
/-- EXTV (R352). -/
def execExtv (c : Fin 32) (s : State) : Out3 := .next (lioExtv s c)
/-- SUPPLY_WARN (R355): a measurement of the group's supply in units of 10 mV. -/
def execSupplyWarn (g : Fin 2) (v : BitVec 16) (s : State) : Out3 := .next (supplyMeasure s g v.toNat)
/-- SUPPLY_LOW (R355): a measurement below 15.0 V. -/
def execSupplyLow (g : Fin 2) (v : BitVec 16) (s : State) : Out3 := .next (if v.toNat < 1500 then supplyMeasure s g v.toNat else s)
/-- REARM_WINDOW_END (R356). -/
def execRearmWindowEnd (g : Fin 2) (s : State) : Out3 := .next (rearmEnd s g)
/-- REARM (R356). -/
def execRearm (_m : Master) (g : Fin 2) (s : State) : Out3 := .next (lioRearm s g)
/-- GROUP_OVERCURRENT (R357): the group current in units of 20 mA. -/
def execGroupOvercurrent (g : Fin 2) (i : BitVec 16) (s : State) : Out3 := .next (groupCurrent s g i.toNat)
/-- LINKLOSS (R358). -/
def execLinkloss (g : Fin 2) (s : State) : Out3 := .next (lioLinkLoss s g)
/-- SOE_INFO_READ (R347). -/
def execSoeInfoRead (m : Master) (s : State) : Out3 :=
  let (w, t) := soeRead m s
  .next { t with resp := .word w }
/-- GROUP_CONTROLLER_READY (14 R373). -/
def execGroupControllerReady (g : Fin 2) (s : State) : Out3 := .next (groupReady s g)
/-- CHANNEL_SETTLED (R353, R359): the start work is done; after an overload or over-temperature 10 ms must have passed. -/
def execChannelSettled (c : Fin 32) (s : State) : Out3 :=
  .next (
    let wait := match (s.lioCh c).hw with
      | some t => decide (s.clk.mono < t + 10000000)
      | none => false
    if s.rd (LIO_EN c) U_STATE = 1 ∧ (s.unit (LIO_EN c)).waiting = false ∧ wait = false then s.setLioCh c fun r => { r with settled := true }
    else s)

end Sys2Proof.Machine
end

