-- ==== Sys2Proof/Machine/Boot.lean ====
section
/-! DEFINITION. Boot, readiness and firmware update (chapter 14): verification of images, the reset and Heartwood's boot, slot writes,
trials, keys. -/

namespace Sys2Proof.Machine

open Sys2Proof

/-! ### Verification (R364, R365, R379) -/

/-- Module UID, lowest byte first. -/
def uidBytes (s : State) : List Byte := (List.range 4).flatMap fun i => leBytes 4 (s.rget (HWD_UID i)).toNat

/-- VCODE of the image in slot d of part p (R365); 0: it verifies. -/
def verify (s : State) (p d : Nat) : Nat :=
  let f (o n : Nat) : Nat := slotField s p d o n
  if slotMark s p d = false then 1
  else if f 0 4 ≠ 0x46574648 ∨ f 4 4 ≠ 0x64800001 ∨ f 9 1 ≠ 1 ∨ 64 < f 10 1 ∨ f 8 1 ≠ p ∨ slotSize p < f 72 4 + 4096 then 2
  else match findKey s (f 1536 4) 0 with
    | none => 3
    | some k =>
      if Config.ecdsaOk (s.keys.getD k []) (Config.sha384 (slotBytes s p d 0 1536)) (slotBytes s p d 1544 96) = false then 4
      else if f 10 1 ≠ 0 ∧ ((List.range (f 10 1)).any fun i => slotBytes s p d (512 + 16 * i) 16 == uidBytes s) = false then 5
      else if f 16 4 < s.rd (HWD_SVN p) HWD_SVN_COUNT then 6
      else if slotBytes s p d 84 48 ≠ Config.sha384 (slotBytes s p d 4096 (f 72 4)) then 7
      else 0

/-- Whether a set of slots, one per part, is compatible (R379). -/
def compatible (s : State) (sel : Nat → Nat) : Bool :=
  (List.range 5).all fun p => (List.range 5).all fun q =>
    p == q || (let v := slotField s q (sel q) 12 4
               decide (slotField s p (sel p) (32 + 8 * q) 4 ≤ v) && decide (v ≤ slotField s p (sel p) (36 + 8 * q) 4))

/-- Slot of part p that the confirmed set boots, and whether it is not CONF_SLOT (R371). -/
def confSel (s : State) (l : List Byte) (p : Nat) : Nat × Bool :=
  let c := recConf l p
  if verify s p c ≠ 0 ∧ slotVersion s p (1 - c) = le l (20 + 16 * p) 4 ∧ verify s p (1 - c) = 0 then (1 - c, true) else (c, false)

/-! ### Reset (R371, 00, 01 R11) -/

/-- A register loaded from OTP at reset. -/
def otpReg (a : Nat) : Bool :=
  (decide (HWD_UID 0 ≤ a) && decide (a < HWD_RESET)) || (List.range 4).any fun n => a == ETH_MAC_LO n || a == ETH_MAC_HI n

/-- What the reset of the module leaves (R11): D0 fields, OTP, MRAM, NOR, the stations, the pins and what has been sent stay; every other
field takes its reset value. -/
def resetState (s : State) : State :=
  let t : State := { State.reset with
                     regs := s.boot.otp.filter (fun e => otpReg e.1), keys := s.keys, nor := s.nor, stations := s.stations,
                     mem := s.mem.filter (fun e => decide (0x0400000000 ≤ e.1) && decide (e.1 < 0x0401000000)),
                     clk := { State.reset.clk with rtcSec := s.clk.rtcSec, rtcFrac := s.clk.rtcFrac, rtcAcc := s.clk.rtcAcc },
                     boot := { State.reset.boot with retired := s.boot.retired, otp := s.boot.otp },
                     pwr := s.pwr, tap := s.tap, pending := s.pending, out := s.out, free := s.free }
  let t := t.wr TIM_STATUS TIM_STATUS_RTC_VALID (s.rd TIM_STATUS TIM_STATUS_RTC_VALID)
  let t := t.wr HWD_STATUS HWD_STATUS_TAMPER (s.rd HWD_STATUS HWD_STATUS_TAMPER)
  let t := t.wr PWR_STATUS PWR_STATUS_TSHUT (s.rd PWR_STATUS PWR_STATUS_TSHUT)
  t.flag PAR_STATUS PAR_STATUS_POS s.pwr.strapB

/-- The local clock starts from the RTC, or at 0 (02 R34). -/
def clockLoad (s : State) : State :=
  if s.on TIM_STATUS TIM_STATUS_RTC_VALID then
    ({ s with clk := { s.clk with sec := s.clk.rtcSec, ns := s.clk.rtcFrac * 1000000000 / 32768 } }).wr TIM_SRC TIM_SRC_SRC 1
  else ({ s with clk := { s.clk with sec := 0, ns := 0, acc := 0 } }).wr TIM_SRC TIM_SRC_SRC 0

/-- A ready bit is set (R373). -/
def setReady (s : State) (i : Nat) : State := (s.wr RDY_VEC ⟨i, i⟩ 1).raise 0 RDY_EVT ⟨i, i⟩

/-- Write and lock entry n of gate g (R189, R372): region, master and mask, rights at MACHINE (write 2, read 1, execute 4) or at KERNEL. -/
def putEntry (s : State) (g n : Nat) (r : Nat × Nat) (mid mask mach kern : Nat) (dbg : Bool) : State :=
  let s := (s.wr64 (GATE_BASE_LO g 0 n) (GATE_BASE_HI g 0 n) r.1).wr64 (GATE_LIMIT_LO g 0 n) (GATE_LIMIT_HI g 0 n) r.2
  let s := ((s.wr (GATE_PART g 0 n) GATE_PART_PARTMASK 0xFFFF).wr (GATE_MID g 0 n) GATE_MID_MID mid).wr (GATE_MID g 0 n) GATE_MID_MIDMASK mask
  let s := ((s.wr (GATE_CTL g 0 n) GATE_CTL_MACHINE_XWR mach).wr (GATE_CTL g 0 n) GATE_CTL_KERNEL_XWR kern).flag (GATE_CTL g 0 n)
    GATE_CTL_DEBUG_ALLOW dbg
  gateLock (s.wr (GATE_CTL g 0 n) GATE_CTL_EN 1) g 0 n

/-- The entries that Heartwood writes and locks, the NOBOOT ones among them; then ENFORCE on every gate (R189, R371, R372). -/
def lockGates (s : State) (sramLen : Nat) (noboot : Bool) : State :=
  let s := putEntry s 0 0 (gateRange 0) 0x45 0x7F 5 0 false
  let s := putEntry s 1 0 (0x0010000000, 0x0010000000 + sramLen) 0x40 0x7C 5 0 true
  let s := putEntry s 19 0 (0x0400000000, 0x0400002000) 0x45 0x7F 3 0 false
  let s := putEntry s 19 1 (0x0400000000, 0x0400001000) 0x40 0x7C 0 0 false
  let s := putEntry s 20 0 (0x09FF000000, 0x0A00000000) 0x45 0x7F 3 0 false
  let s := putEntry s 20 1 (0x09FF000000, 0x0A00000000) 0x40 0x7C 0 0 false
  let s := putEntry s 20 2 (gateRange 20) 0x45 0x7F 1 0 false
  let s := putEntry (putEntry s 36 0 (gateRange 36) 0x45 0x7F 3 0 false) 36 1 (gateRange 36) 0x40 0x7C 3 0 false
  let s := putEntry (putEntry s 37 0 (gateRange 37) 0x45 0x7F 3 0 false) 37 1 (gateRange 37) 0x40 0x7C 3 0 false
  let s := if noboot then
      putEntry (putEntry (putEntry s 36 2 (gateRange 36) 0x7F 0x7F 0 3 false) 37 2 (gateRange 37) 0x7F 0x7F 0 3 false) 20 3
        (0x0800000000, 0x0810000000) 0x7F 0x7F 0 3 false
    else s
  (List.range 45).foldl (fun t g => (putEntry t g 31 (gateRange g) 0x40 0x7C 3 0 false).wr (GATE_CTRL g) GATE_CTRL_ENFORCE 1) s

/-- The debug certificate in MRAM opens debugging for this boot and is erased (R368). -/
def debugCert (s : State) : State :=
  let c := s.bytes 0x0400001000 128
  if le c 0 4 = 0x43454244 ∧ zeros c 4 4 = true ∧ (c.drop 8).take 16 = uidBytes s ∧ trailerOk s c 2 = true then
    ((mramSet s 0x0400001000 (List.replicate 128 0#8)).wr HWD_STATUS HWD_STATUS_LIFECYCLE 1).eventReg 13 HWD_STATUS HWD_STATUS_LIFECYCLE
  else s

/-- UPD_SLOT and UPD_VER of every slot, with the codes of this boot. -/
def showSlots (s : State) : State :=
  let s := (List.range 6).foldl (fun t p =>
    let t := (t.flag (UPD_SLOT p) UPD_SLOT_MARK0 (slotMark s p 0)).flag (UPD_SLOT p) UPD_SLOT_MARK1 (slotMark s p 1)
    (t.wr (UPD_VER p 0) UPD_VER_VERSION (slotVersion s p 0)).wr (UPD_VER p 1) UPD_VER_VERSION (slotVersion s p 1)) s
  updShow ((List.range 5).foldl (fun t p => (t.wr (UPD_SLOT p) UPD_SLOT_VCODE0 (verify s p 0)).wr (UPD_SLOT p) UPD_SLOT_VCODE1 (verify s p 1)) s)

/-- The Canopy image in slot d is loaded and what runs is known (R371, R380). -/
def loadImages (s : State) (sel : Nat → Nat) : State :=
  let f (o n : Nat) : Nat := slotField s 1 (sel 1) o n
  let body := slotBytes s 1 (sel 1) 4096 (f 72 4)
  let t := (s.setBytes 0x0010000000 (body.take (f 76 4))).setBytes 0x0800000000 (body.drop (f 76 4))
  -- bodies of parts 2 to 4, one after the other from the start of the firmware area (notes/assumptions/40)
  let t := [(2, 0), (3, 0x200000), (4, 0x400000)].foldl (fun (t : State) (x : Nat × Nat) =>
    t.setBytes (0x09FF000000 + x.2) (slotBytes s x.1 (sel x.1) 4096 (slotField s x.1 (sel x.1) 72 4))) t
  { t with fw := ⟨(List.range 5).map fun p => BitVec.ofNat 32 (slotVersion s p (sel p)), f 20 2, wbit (f 11 1) 0, f 24 4, f 28 4⟩ }

/-- C0 to C3 start at MACHINE (R371 step 6); pc[1:0] are always 0 (04 R77). -/
def startCanopy (s : State) (entry : Nat) : State :=
  (List.range 4).foldl (fun t c =>
    t.setCore (0x40 + c) { coreReset (0x40 + c) with run := .run, pc := pcMask (BitVec.ofNat 64 (0x0010000000 + entry)) }) s

/-- No bootable set, or RETIRED (R372). -/
def noBoot (s : State) (entries : Bool) : State :=
  lockGates (s.wr HWD_STATUS HWD_STATUS_NOBOOT 1) 0 entries

/-- Heartwood releases D1 to the firmware once comparators 64 to 70 have passed their tests (06 R165): the cores start (R371), which is the
instant of a trial boot (R376). -/
def releaseD1 (s : State) : State :=
  match s.boot.entry with
  | none => s
  | some e =>
    if (List.range 7).all fun i => s.on (LSC_CMP (64 + i)) LSC_CMP_PASS && !s.on (LSC_CMP (64 + i)) LSC_CMP_BUSY then
      let t := startCanopy s e
      let trial := if t.on HWD_STATUS HWD_STATUS_TRIALBOOT then some t.clk.mono else none
      [0, 6].foldl setReady { t with boot := { t.boot with entry := none, bootAt := t.clk.mono, trialAt := trial } }
    else s

/-- Heartwood's boot (R369, R371). -/
def heartwood (s : State) : State :=
  let s := ([2, 3, 5, 8, 9, 7, 4].foldl setReady (clockLoad s))
  let s := (List.range 8).foldl (fun t i => cmpTestStart t (64 + i)) s
  if s.boot.retired then noBoot (s.wr HWD_STATUS HWD_STATUS_LIFECYCLE 2) false
  else
    let l := stateRec s
    let s := (List.range 5).foldl (fun t p =>
      let c := max (t.rd (HWD_SVN p) HWD_SVN_COUNT) (min 64 (le l (24 + 16 * p) 4))
      let t := t.wr (HWD_SVN p) HWD_SVN_COUNT c
      { t with boot := { t.boot with otp := amSet (fun _ => 0#32) t.boot.otp (HWD_SVN p) (t.rget (HWD_SVN p)) } }) s
    let s := showSlots s
    let base (p : Nat) : Nat := (confSel s l p).1
    let tr (p : Nat) : Nat := if wbit (recTmask l) p then recTrial l p else base p
    let cause := if recOutcome l ≠ 1 then 0 else if 3 ≤ le l 5 1 then 4
      else if (List.range 5).any fun p => wbit (recTmask l) p && (verify s p (tr p) != 0) then 5
      else if compatible s tr = false then 6 else 0
    let trialBoot := recOutcome l == 1 && cause == 0
    -- a trial of part 0 that the second stage rejects resets the module, which drops the event
    let again := wbit (recTmask l) 0 && cause != 4 && verify s 0 (tr 0) == 0
    let s := if cause ≠ 0 then
        let t := writeRec s fun l => recPatch l 6 [3#8, BitVec.ofNat 8 cause]
        if again then t else t.raise 14 UPD_EVT UPD_EVT_REJECTED
      else if trialBoot then writeRec s fun l => recPatch l 5 (leBytes 1 (le l 5 1 + 1))
      else s
    let sel := if trialBoot then tr else base
    let alt := (List.range 5).foldl (fun n p => if (confSel s l p).2 && !(trialBoot && wbit (recTmask l) p) then n + 2 ^ p else n) 0
    let s := s.wr HWD_STATUS HWD_STATUS_ALTSLOT alt
    let s := debugCert s
    if ((List.range 5).any fun p => verify s p (sel p) != 0) ∨ compatible s sel = false then noBoot s true
    else
      let sram := slotField s 1 (sel 1) 76 4
      let t := lockGates (loadImages s sel) sram false
      let t := { t with boot := { t.boot with entry := some (slotField s 1 (sel 1) 80 4), period := le l 8 4 } }
      releaseD1 (if trialBoot then (t.wr HWD_STATUS HWD_STATUS_TRIALBOOT 1).wr UPD_STATUS UPD_STATUS_STAGE 4 else t)

/-- A comparator test ends (06 R164, R165): the last one of the boot releases D1. -/
def cmpTestEnd (s : State) (k : Fin 108) (failed : BitVec 16) : State := releaseD1 (cmpTestDone s k failed)

/-- The module resets; what holds it decides whether Heartwood boots (R371; 16 R403, R406, R410). -/
def moduleReset (s : State) (hold : Nat) : State :=
  let t := resetState { s with pwr := { s.pwr with held := hold, next := 0 } }
  if hold = 0 then heartwood t else t

/-- A reset that is due takes place (R378). -/
def resetDue (s : State) : State :=
  match s.boot.due with
  | some t => if t ≤ s.clk.mono then moduleReset s s.pwr.next else s
  | none => s

/-- LEAVE, and the reset 100 µs later (R377, R378; 16 R403, R406, R411); `hold` is what keeps the module in reset. -/
def leaveAndReset (s : State) (hold : Nat) : State :=
  let t := sendLeave s
  let d := match t.boot.due with
    | some d => min d (t.clk.mono + 100000)
    | none => t.clk.mono + 100000
  { t with boot := { t.boot with due := some d }, pwr := { t.pwr with next := hold } }

/-! ### Commands of the update unit (R368, R374 to R377) -/

/-- A command is refused with a code. -/
def updRej (s : State) (code : Nat) : State := (s.wr UPD_STATUS UPD_STATUS_CODE code).wr UPD_STATUS UPD_STATUS_REJ 1

/-- Transfers of the update unit: the Heartwood controller. -/
def updXfer (s : State) : Xfer := mattrXfer s 0x45 2

/-- A write or a package save runs. -/
def updBusy (s : State) : Bool := s.boot.write.isSome || s.chg.saving

/-- Whether slot d of part p may not be written (R374). -/
def slotTaken (s : State) (p d : Nat) : Bool :=
  let l := stateRec s
  if 6 ≤ p then true
  else if p = 5 then d == recPkg l || (s.chgState != 0 && s.chgState != 6)
  else (d == recConf l p && !s.on HWD_STATUS HWD_STATUS_NOBOOT) || (recOutcome l == 1 && wbit (recTmask l) p && d == recTrial l p)

/-- UPD_CMD.WRITE (R374): refused, or the slot is erased and the write runs. -/
def updWrite (s : State) : State :=
  let p := s.rd UPD_TGT UPD_TGT_PART
  let d := s.rd UPD_TGT UPD_TGT_SLOT
  let n := (s.rget UPD_LEN).toNat
  if slotTaken s p d then updRej s 1
  else if n < 4096 ∨ slotSize p < n then updRej s 2
  else if updBusy s then updRej s 3
  else
    let t := norErase s d p
    let t := { t with boot := { t.boot with write := some ⟨s.rd64 UPD_SRC_LO UPD_SRC_HI, n, p, d⟩ } }
    let t := t.wr (UPD_SLOT p) (if d = 0 then UPD_SLOT_MARK0 else UPD_SLOT_MARK1) 0
    ((t.wr UPD_STATUS UPD_STATUS_BUSY 1).wr UPD_STATUS UPD_STATUS_STAGE 1).rset UPD_DONE 0#32

/-- A write ends (R374): `bad` is the number of bytes done when a page read back differently. Bytes go from offset 4,096 on, then 0 to
4,091, then MARK. -/
def updWriteDone (s : State) (bad : Option (BitVec 32)) : State :=
  match s.boot.write with
  | none => s
  | some w =>
    let (hi, e1, s) := dmaRead s (updXfer s) (w.src + 4096) (w.len - 4096)
    let (lo, e2, s) := match e1 with
      | some _ => ([], none, s)
      | none => dmaRead s (updXfer s) w.src 4096
    let got := hi.length + lo.length
    let good := bad.isNone && e1.isNone && e2.isNone
    let n := match bad with
      | some b => min b.toNat got
      | none => got
    let o := slotOff w.part
    let s := norSet s w.slot (o + 4096) (hi.take n)
    let s := norSet s w.slot o ((lo.take 4092).take (n - hi.length))
    let s := if good then norSet s w.slot (o + 4092) (lo.drop 4092) else s
    let s := { s with boot := { s.boot with write := none } }
    let s := ((s.wr UPD_STATUS UPD_STATUS_BUSY 0).flag UPD_STATUS UPD_STATUS_WRERR (!good || s.on UPD_STATUS UPD_STATUS_WRERR)).wr
      UPD_STATUS UPD_STATUS_STAGE (if good then 2 else 0)
    let s := s.rset UPD_DONE (BitVec.ofNat 32 n)
    let s := s.flag (UPD_SLOT w.part) (if w.slot = 0 then UPD_SLOT_MARK0 else UPD_SLOT_MARK1) (slotMark s w.part w.slot)
    let s := s.wr (UPD_VER w.part w.slot) UPD_VER_VERSION (slotVersion s w.part w.slot)
    let s := if good ∧ w.part = 5 then writeRec s fun l => recPatch l 96 (leBytes 1 w.slot) else s
    s.raise 14 UPD_EVT UPD_EVT_WRDONE

/-- UPD_CMD.TRIAL (R375). -/
def updTrial (s : State) : State :=
  let l := stateRec s
  let m := s.rd UPD_TMASK UPD_TMASK_TMASK
  if recOutcome l = 1 then updRej s 3
  else if m = 0 then updRej s 5
  else if (List.range 5).any fun p => wbit m p && !slotMark s p (1 - recConf l p) then updRej s 4
  else
    let part (l : List Byte) (p : Nat) : List Byte :=
      if wbit m p then
        recPatch (recPatch l (17 + 16 * p) (leBytes 1 (1 - recConf l p))) (28 + 16 * p) (leBytes 4 (slotVersion s p (1 - recConf l p)))
      else l
    (writeRec s fun l => (List.range 5).foldl part (recPatch (recPatch l 4 [BitVec.ofNat 8 m, 0#8, 1#8, 0#8]) 8
      (leBytes 4 (s.rd UPD_CFG UPD_CFG_PERIOD)))).wr UPD_STATUS UPD_STATUS_STAGE 3

/-- UPD_CMD.CANCEL (R375): before the reset of a pending trial. -/
def updCancel (s : State) : State :=
  if recOutcome (stateRec s) = 1 ∧ trialRuns s = false then
    (writeRec s fun l => recPatch l 6 [0#8]).wr UPD_STATUS UPD_STATUS_STAGE 0
  else updRej s 5

/-- Whether the confirmation window is open (R376, 02 R46). -/
def windowOpen (s : State) : Bool :=
  match s.boot.trialAt with
  | some t => decide (s.clk.mono < t + s.boot.period * 1000000000)
  | none => false

/-- Seconds left in the confirmation window (R376). -/
def updRemain (s : State) : Nat :=
  match s.boot.trialAt with
  | some t => s.boot.period - (s.clk.mono - t) / 1000000000
  | none => 0

/-- UPD_CMD.CONFIRM (R376). -/
def updConfirm (s : State) : State :=
  if windowOpen s && (!s.on UPD_CFG UPD_CFG_CONF_MASTER || s.role.master) then
    let m := recTmask (stateRec s)
    let part (l : List Byte) (p : Nat) : List Byte :=
      if wbit m p then
        let d := recTrial l p
        recPatch l (16 + 16 * p) (leBytes 1 d ++ leBytes 3 d ++ leBytes 4 (slotVersion s p d) ++ leBytes 4 (slotField s p d 16 4))
      else l
    let t := writeRec s fun l => recPatch ((List.range 5).foldl part l) 6 [2#8]
    let t := (List.range 5).foldl (fun t p =>
      if wbit m p then
        let u := t.wr (HWD_SVN p) HWD_SVN_COUNT (max (t.rd (HWD_SVN p) HWD_SVN_COUNT) (min 64 (le (stateRec t) (24 + 16 * p) 4)))
        { u with boot := { u.boot with otp := amSet (fun _ => 0#32) u.boot.otp (HWD_SVN p) (u.rget (HWD_SVN p)) } }
      else t) t
    let t := ({ t with boot := { t.boot with trialAt := none } }).wr UPD_STATUS UPD_STATUS_STAGE 5
    t.raise 14 UPD_EVT UPD_EVT_CONFIRMED
  else updRej s 5

/-- UPD_CMD.REJECT (R377): LEAVE, the record, and the reset. -/
def updReject (s : State) : State := if trialRuns s then rejectTrial (sendLeave s) 2 else updRej s 5

/-- The window ends without CONFIRM (R377). -/
def windowExpiry (s : State) : State := if trialRuns s && !windowOpen s then rejectTrial (sendLeave s) 1 else s

/-- CANOPY not ready within 5 s of the start of the cores (R377, HWD_STATUS.FWTIMEOUT). -/
def canopyTimeout (s : State) : State :=
  if s.on RDY_VEC RDY_VEC_HWD && !s.on RDY_VEC RDY_VEC_CANOPY && decide (s.boot.bootAt + 5000000000 ≤ s.clk.mono) then
    if trialRuns s then rejectTrial (sendLeave s) 7 else s.raise 13 HWD_STATUS HWD_STATUS_FWTIMEOUT
  else s

/-- The record of 136 bytes at UPD_SRC, if it can be read and its signature verifies under a key of revocation usage (R368). -/
def keyRecord (s : State) : Option (List Byte) × State :=
  match dmaRead s (updXfer s) (s.rd64 UPD_SRC_LO UPD_SRC_HI) 136 with
  | (l, none, t) =>
    let uid := (l.drop 8).take 16
    (if trailerOk t l 3 && zeros l 24 8 && (uid == uidBytes t || uid == List.replicate 16 0#8) then some l else none, t)
  | (_, some _, t) => (none, t)

/-- UPD_CMD.REVOKE (R368). -/
def updRevoke (s : State) : State :=
  if updBusy s then updRej s 3
  else
    match keyRecord s with
    | (none, t) => updRej t 6
    | (some l, t) =>
      let id := le l 4 4
      match (List.range 8).find? fun i => t.on (HWD_KEYST i) HWD_KEYST_VALID && (t.rget (HWD_KEYID i)).toNat == id with
      | none => updRej t 6
      | some k =>
        let firmware (i : Nat) : Bool :=
          t.on (HWD_KEYST i) HWD_KEYST_VALID && !t.on (HWD_KEYST i) HWD_KEYST_REVOKED && wbit (t.rd (HWD_KEYST i) HWD_KEYST_USAGE) 0
        if le l 0 4 ≠ 0x4B564652 ∨ le l 32 4 = id then updRej t 6
        else if firmware k && !((List.range 8).any fun i => i != k && firmware i) then updRej t 7
        else
          let u := t.wr (HWD_KEYST k) HWD_KEYST_REVOKED 1
          let u := { u with boot := { u.boot with otp := amSet (fun _ => 0#32) u.boot.otp (HWD_KEYST k) (u.rget (HWD_KEYST k)) } }
          u.raise 14 UPD_EVT UPD_EVT_REVOKED

/-- UPD_CMD.RETIRE (R368). -/
def updRetire (s : State) : State :=
  if updBusy s then updRej s 3
  else
    match keyRecord s with
    | (none, t) => updRej t 6
    | (some l, t) =>
      if le l 0 4 ≠ 0x52544652 ∨ le l 4 4 ≠ 0 then updRej t 6
      else ({ t with boot := { t.boot with retired := true } }).wr HWD_STATUS HWD_STATUS_LIFECYCLE 2

/-- Write of RDY_FWSET (R373). -/
def rdyFwset (s : State) (v : Word) : State :=
  ([1, 18] ++ (List.range 8).map (fun g => 20 + g)).foldl (fun t i => if wbit v.toNat i then t.raise 0 RDY_FAIL ⟨i, i⟩ else t) s

/-- The Canopy package in slot PKG_SLOT, with its quotas, if its signature verifies (R373; 11 R316). -/
def loadPackage (s : State) : State :=
  let d := recPkg (stateRec s)
  let pk := slotBytes s 5 d 4096 (slotField s 5 d 0 4)
  if slotMark s 5 d && decide (slotField s 5 d 0 4 ≤ 67104768) && pkgSigned s pk then
    s.setChg fun c => { c with canopy := pk, quotas := (List.range 16).map fun p => (slotField s 5 d (4 + 8 * p) 4, slotField s 5 d (8 + 8 * p) 4) }
  else s

/-- A write of HWD_RESET (R378). -/
def hwdReset (s : State) (v : Word) : State :=
  if bitsOf v HWD_RESET_KEY = 0x6480 ∧ bitsOf v HWD_RESET_RESET = 1 then leaveAndReset s 0 else s

/-- The save of a package completes (11 R316; 10 R285): the slot other than PKG_SLOT holds it; a package taken from the partner becomes
PKG_SLOT at once. -/
def saveComplete (s : State) : State :=
  if s.chg.saving = true ∧ s.boot.write = none then
    let taken := s.chg.joinSave
    let pk := if taken then s.chg.canopy else s.chg.staged
    let q := if taken then s.chg.quotas else pkgQuotas s pk
    let d := 1 - recPkg (stateRec s)
    let head := leBytes 4 pk.length ++ (List.range 16).flatMap fun p => leBytes 4 (q.getD p (0, 0)).1 ++ leBytes 4 (q.getD p (0, 0)).2
    let t := norSet (norErase s d 5) d (slotOff 5) (head ++ List.replicate 3960 0#8 ++ leBytes 4 markWord ++ pk)
    let more := taken && decide (2 ≤ s.chgState) && decide (s.chgState ≤ 5) && !s.on CHG_PROG CHG_PROG_SAVED
    let t := (t.setChg fun c => { c with saving := more, joinSave := false }).flag (UPD_SLOT 5) (if d = 0 then UPD_SLOT_MARK0 else UPD_SLOT_MARK1) true
    if taken then pkgSlotRecord t
    else
      let t := t.wr CHG_PROG CHG_PROG_SAVED 1
      if anyPath t then sendResult t else t
  else s

/-! ### Meanings -/

/-- COMPARATOR_TEST_DONE (06 R164). -/
def execComparatorTestDone (k : Fin 108) (failed : BitVec 16) (s : State) : Out3 := .next (cmpTestEnd s k failed)
/-- MODULE_RESET (R371): the module resets with the strap as given, and boots unless something holds it in reset. -/
def execModuleReset (strapB : Bool) (s : State) : Out3 :=
  .next (moduleReset { s with pwr := { s.pwr with strapB := strapB } } s.pwr.held)
/-- HWD_RESET (R378). -/
def execHwdReset (_m : Master) (v : Word) (s : State) : Out3 := .next (hwdReset s v)
/-- RDY_FWSET (R373). -/
def execRdyFwset (_m : Master) (v : Word) (s : State) : Out3 := .next (rdyFwset s v)
/-- UPD_WRITE (R374). -/
def execUpdWrite (_m : Master) (s : State) : Out3 := .next (updWrite s)
/-- UPD_WRITE_DONE (R374). -/
def execUpdWriteDone (bad : Option (BitVec 32)) (s : State) : Out3 := .next (updWriteDone s bad)
/-- TRIAL (R375). -/
def execTrial (_m : Master) (s : State) : Out3 := .next (updTrial s)
/-- UPD_CANCEL (R375). -/
def execUpdCancel (_m : Master) (s : State) : Out3 := .next (updCancel s)
/-- CONFIRM (R376). -/
def execConfirm (_m : Master) (s : State) : Out3 := .next (updConfirm s)
/-- REJECT (R377). -/
def execReject (_m : Master) (s : State) : Out3 := .next (updReject s)
/-- CONFIRM_WINDOW_EXPIRY (R377). -/
def execConfirmWindowExpiry (s : State) : Out3 := .next (windowExpiry s)
/-- CANOPY_READY_TIMEOUT (R377). -/
def execCanopyReadyTimeout (s : State) : Out3 := .next (canopyTimeout s)
/-- REVOKE (R368). -/
def execRevoke (_m : Master) (s : State) : Out3 := .next (updRevoke s)
/-- RETIRE (R368). -/
def execRetire (_m : Master) (s : State) : Out3 := .next (updRetire s)
/-- SAVE_COMPLETE (11 R316). -/
def execSaveComplete (s : State) : Out3 := .next (saveComplete s)

end Sys2Proof.Machine
end

