-- ==== Sys2Proof/Machine/Net.lean ====
section
/-! DEFINITION. The plant network (chapter 12): links, DMA rings, transmission, reception, peer frames. -/

namespace Sys2Proof.Machine

open Sys2Proof

/-! ### Records -/

def NetSt.idle : NetSt := ⟨[], none, 0⟩
def State.port (s : State) (n : Nat) : NetSt := amGet (fun _ => NetSt.idle) s.net n
def State.setNet (s : State) (n : Nat) (f : NetSt → NetSt) : State :=
  { s with net := amSet (fun _ => NetSt.idle) s.net n (f (s.port n)) }

def ethEvt (s : State) (n : Nat) (f : Fld) : State := s.raise (56 + n) (ETH_EVT n) f
def ethCount (s : State) (n i : Nat) : State := s.bump (ETH_CNT n i) ETH_CNT_COUNT 1

/-- Number of descriptors, base, HEAD and TAIL of a ring. -/
def ringN (s : State) (n r : Nat) : Nat := 2 ^ s.rd (ETH_RING_CFG n r) ETH_RING_CFG_SIZE
def ringBase (s : State) (n r : Nat) : Nat := s.rd64 (ETH_RING_BASE_LO n r) (ETH_RING_BASE_HI n r)
def ringHead (s : State) (n r : Nat) : Nat := s.rd (ETH_RING_HEAD n r) ETH_RING_HEAD_HEAD
def ringTail (s : State) (n r : Nat) : Nat := s.rd (ETH_RING_TAIL n r) ETH_RING_TAIL_TAIL
def ringOn (s : State) (n r : Nat) : Bool := s.rd (ETH_RING_EN n r) U_STATE == 2

/-- Network DMA of ETHn with the attributes given (R321). -/
def netXfer (s : State) (n attr : Nat) : Xfer := mattrXfer s (0x68 + n) attr

/-- The module stops a DMA ring (R320, R326). -/
def ringStop (s : State) (n r : Nat) : State := hwStop s (.ring (Fin.ofNat 4 n) (Fin.ofNat 16 r))

/-- ETH_RING_ERR of an error: bytes done, error (8 + code is MEMERR), index. -/
def ringErr (s : State) (n r bytes err index : Nat) (own : Bool) : State :=
  let t := s.rset (ETH_RING_ERR n r) (BitVec.ofNat 32 (bytes % 2 ^ 14 * 2 ^ 18 + (if 8 ≤ err then 2 ^ 17 else 0) + (if own then 2 ^ 16 else 0)
    + err % 8 * 2 ^ 12 + index))
  ethEvt (ringStop t n r) n ETH_EVT_RINGERR

/-- HEAD moves past descriptor i. -/
def headPast (s : State) (n r i : Nat) : State := s.wr (ETH_RING_HEAD n r) ETH_RING_HEAD_HEAD ((i + 1) % ringN s n r)

/-- Replace bytes of a descriptor from offset o on. -/
def bytesPut (l : List Byte) (o : Nat) (b : List Byte) : List Byte := l.take o ++ b ++ l.drop (o + b.length)

/-- Write back descriptor i of ring r, OWN cleared; the ring moves on, IRQ sets RDONE (R320); a denied write-back stops the ring (R326). -/
def writeBack (s : State) (n r i : Nat) (d : List Byte) : State :=
  let flags := d.getD 12 0#8
  let d := bytesPut d 12 [flags &&& 0xFE#8]
  match dmaWrite s (netXfer s n 2) (ringBase s n r + 32 * i) d with
  | (some (c, a), t) => ringErr t n r (a - (ringBase s n r + 32 * i)) c i false
  | (none, t) =>
    let t := headPast t n r i
    if flags.getLsbD 4 then t.raise (56 + n) (ETH_RDONE n) ⟨r, r⟩ else t

/-! ### Checksums -/

/-- Ones' complement sum of 16-bit big-endian words. -/
def sum16 : List Byte → Nat
  | a :: b :: l => let x := a.toNat * 256 + b.toNat + sum16 l; x % 65536 + x / 65536
  | [a] => a.toNat * 256
  | [] => 0

/-- Offset of the payload of an Ethernet frame, and its EtherType; one 802.1Q tag is passed over. -/
def be (l : List Byte) (o n : Nat) : Nat := ((l.drop o).take n).foldl (fun v b => v * 256 + b.toNat) 0
def isTagged (l : List Byte) : Bool := be l 12 2 == 0x8100
def l3Off (l : List Byte) : Nat := if isTagged l then 18 else 14
def etherType (l : List Byte) : Nat := be l (l3Off l - 2) 2

/-- IPv4: header length, protocol, and the bytes of the L4 segment. -/
def isIp4 (l : List Byte) : Bool := etherType l == 0x0800 && be l (l3Off l) 1 / 16 == 4
def ipHdr (l : List Byte) : Nat := be l (l3Off l) 1 % 16 * 4
def ipProto (l : List Byte) : Nat := be l (l3Off l + 9) 1
def l4Seg (l : List Byte) : List Byte := ((l.drop (l3Off l)).take (be l (l3Off l + 2) 2)).drop (ipHdr l)
def ipOk (l : List Byte) : Bool := sum16 ((l.drop (l3Off l)).take (ipHdr l)) == 65535

/-- Sum over the pseudo-header and the L4 segment. -/
def l4Sum (l : List Byte) : Nat :=
  let o := l3Off l
  let seg := l4Seg l
  sum16 ((l.drop (o + 12)).take 8 ++ [0#8, BitVec.ofNat 8 (ipProto l), BitVec.ofNat 8 (seg.length / 256), BitVec.ofNat 8 seg.length] ++ seg)

/-- Whether a frame is IPv4 with UDP or TCP in one fragment. -/
def hasL4 (l : List Byte) : Bool :=
  isIp4 l && (ipProto l == 17 || ipProto l == 6) && be l (l3Off l + 6) 2 % 16384 == 0

/-- Whether a received frame carries an L4 checksum: a UDP checksum of 0 is none (IPv4; notes/assumptions/85). -/
def hasSum (l : List Byte) : Bool := hasL4 l && !(ipProto l == 17 && be (l4Seg l) 6 2 == 0)

/-- CSUM: the UDP or TCP checksum is put into the frame (transmit descriptor FLAGS [3]). -/
def putCsum (l : List Byte) : List Byte :=
  if hasL4 l then
    let o := l3Off l + ipHdr l + (if ipProto l = 17 then 6 else 16)
    let z := bytesPut l o [0#8, 0#8]
    let c := 65535 - l4Sum z
    let c := if ipProto l = 17 ∧ c = 0 then 65535 else c
    bytesPut z o [BitVec.ofNat 8 (c / 256), BitVec.ofNat 8 c]
  else l

/-- The frame as it goes on the wire: padded to 64 bytes with the FCS (R318). -/
def onWire (l : List Byte) : List Byte :=
  let p := l ++ List.replicate (60 - l.length) 0#8
  p ++ leBytes 4 (crc32 p).toNat

/-! ### Links (R319) -/

/-- ETH_LINK_UP: a start reaches ON; LINK reads 1. -/
def linkUp (n : Fin 4) (s : State) : State :=
  let st := s.unitState (.eth n)
  if (st = 1 ∧ (s.unit (enAddr (.eth n))).waiting = false) ∨ st = 2 then
    let chg := !s.on (ETH_STATUS n) ETH_STATUS_LINK
    let t := (startDone s (.eth n)).wr (ETH_STATUS n) ETH_STATUS_LINK 1
    let t := t.flag (ETH_STATUS n) ETH_STATUS_AN_DONE (s.on (ETH_CFG n) ETH_CFG_AN_EN)
    let t := t.flag (ETH_STATUS n) ETH_STATUS_FEC_ACT (decide (n.val < 2) && s.on (ETH_CFG n) ETH_CFG_FEC_EN)
    if chg then ethEvt t n ETH_EVT_LINKCHG else t
  else s

/-- ETH_LINK_DOWN. -/
def linkDown (n : Fin 4) (s : State) : State :=
  if s.on (ETH_STATUS n) ETH_STATUS_LINK then
    ethEvt (((s.wr (ETH_STATUS n) ETH_STATUS_LINK 0).wr (ETH_STATUS n) ETH_STATUS_AN_DONE 0).wr (ETH_STATUS n) ETH_STATUS_FEC_ACT 0) n
      ETH_EVT_LINKCHG
  else s

/-! ### Transmission (R322, R323) -/

/-- Whether a frame with launch time L is late by more than the tolerance now (R323, R336), and whether its time has come (R43). -/
def launchLate (s : State) (l : Word) (tol : Nat) : Bool := decide ((l - s.short).toInt < -((tol * 1000 : Nat) : Int))
def launchDue (s : State) (l : Word) : Bool := decide ((l - s.short).toInt ≤ 0)

/-- Bytes in the transmit buffer. -/
def bufUsed (p : NetSt) : Nat := ((p.buf ++ p.medium.toList).map fun f => f.bytes.length).foldl (· + ·) 0

/-- Whether a ring has its head frame in the buffer or on the medium. -/
def headFetched (p : NetSt) (r : Nat) : Bool := (p.buf ++ p.medium.toList).any fun f => f.ring == r

/-- Whether ring r has a head frame to fetch that fits the transmit buffer; LEN is read from the descriptor. -/
def wantsFetch (s : State) (n r : Nat) : Bool :=
  let d := ringBase s n r + 32 * ringHead s n r
  ringOn s n r && ringHead s n r != ringTail s n r && !headFetched (s.port n) r
    && decide (bufUsed (s.port n) + leVal (s.bytes (d + 6) 2) ≤ 16384)

/-- A late frame is dropped: written back with LATE and DROPPED, and counted (R323). -/
def dropLate (s : State) (n r i : Nat) (d : List Byte) : State :=
  (writeBack s n r i (bytesPut d 20 [6#8])).bump (ETH_RING_DROP n r) ETH_RING_DROP_COUNT 1

/-- TX_FETCH: the head frame of ring r, in descending ring number. -/
def txFetch (n r : Nat) (s : State) : State :=
  if wantsFetch s n r = false ∨ ((List.range 8).any fun q => decide (r < q) && wantsFetch s n q) then s
  else
    let i := ringHead s n r
    let da := ringBase s n r + 32 * i
    match dmaRead s (netXfer s n 2) da 32 with
    | (_, some (c, a), t) => ringErr t n r (a - da) c i false
    | (d, none, t) =>
      let flags := d.getD 12 0#8
      if flags.getLsbD 0 = false then ringErr t n r 0 0 i true
      else
        let ba := leVal (d.take 5)
        match dmaRead t (netXfer t n 2) ba (leVal ((d.drop 6).take 2)) with
        | (_, some (c, a), u) =>
          let d := bytesPut d 20 ([if 8 ≤ c then 16#8 else 8#8, BitVec.ofNat 8 (c % 8)] ++ leBytes 2 (a - ba))
          ringErr (writeBack u n r i d) n r (a - ba) c i false
        | (l, none, u) =>
          let launch : Option Word := if flags.getLsbD 1 then some (BitVec.ofNat 32 (leVal ((d.drop 8).take 4))) else none
          let late := match launch with
            | some x => launchLate u x (u.rd (ETH_RING_CFG n r) ETH_RING_CFG_LATE_TOL)
            | none => false
          if late && u.on (ETH_RING_CFG n r) ETH_RING_CFG_LATE_DROP then dropLate u n r i d
          else
            let f : TxFrame := ⟨r, i, d, onWire (if flags.getLsbD 3 then putCsum l else l), launch, launch.isNone || late, late, 0#32⟩
            u.setNet n fun p => { p with buf := p.buf ++ [f] }

/-- LAUNCH_ELIGIBLE: a fetched frame's launch time has come (R43). -/
def launchElig (n r : Nat) (s : State) : State :=
  s.setNet n fun p => { p with buf := p.buf.map fun f =>
    match f.launch with
    | some l => if f.ring = r ∧ launchDue s l then { f with elig := true } else f
    | none => f }

/-- Wire time of a frame in ns with preamble, rounded up: 0.8 ns a byte on ETH0 and ETH1, 8 ns on ETH2 and ETH3. -/
def wireNs (n len : Nat) : Nat := if n < 2 then ((len + 8) * 4 + 4) / 5 else (len + 8) * 8

/-- Whether GUARD keeps the port from starting f: it would reach past the launch time of a higher ring's head frame (R322). -/
def guarded (s : State) (n : Nat) (f : TxFrame) : Bool :=
  s.on (ETH_CFG n) ETH_CFG_GUARD && (s.port n).buf.any fun g => decide (f.ring < g.ring) && (match g.launch with
    | some l => decide ((l - s.short).toInt < (wireNs n f.bytes.length : Int))
    | none => false)

/-- Whether a frame may start by its launch time: none, late, or come (R43); a step of the clock can take it back before its time. -/
def launchOpen (s : State) (f : TxFrame) : Bool :=
  match f.launch with
  | some l => f.late || launchDue s l
  | none => true

/-- The eligible frame of the highest-numbered ring that may start; those of a ring that stops are discarded (R327). -/
def txPick (s : State) (n : Nat) : Option TxFrame :=
  ((List.range 8).reverse.filterMap fun r =>
    (s.port n).buf.find? fun f => f.ring == r && ringOn s n r && f.elig && launchOpen s f && !guarded s n f).head?

/-- TX_START. -/
def txStart (n : Fin 4) (s : State) : State :=
  if s.isOn (.eth n) = false ∨ s.on (ETH_STATUS n) ETH_STATUS_LINK = false ∨ s.on (ETH_STATUS n) ETH_STATUS_PAUSED
      ∨ (s.port n).medium.isSome then s
  else match txPick s n with
    | none => s
    | some f =>
      let st := s.short + BitVec.ofNat 32 (s.rd (PTP_LAT n) PTP_LAT_EGRESS)
      s.setNet n fun p => { p with buf := p.buf.filter (fun g => g.ring != f.ring), medium := some { f with stamp := st } }

/-- TX_DONE: the frame has left; its descriptor is written back and HEAD advances (R320). -/
def txDone (n : Nat) (s : State) : State :=
  match (s.port n).medium with
  | none => s
  | some f =>
    let t := (s.setNet n fun p => { p with medium := none }).send (.eth n f.bytes)
    let t := ethCount (pmcPort t (51 + n) true f.bytes.length) n 1
    let d := if (f.desc.getD 12 0#8).getLsbD 2 then bytesPut f.desc 16 (leBytes 4 f.stamp.toNat) else f.desc
    writeBack t n f.ring f.index (bytesPut d 20 [if f.late then 3#8 else 1#8])

/-- PAUSE_EXPIRY: launched frames that the pause held are late under R323 (R318). -/
def pauseExpiry (n : Nat) (s : State) : State :=
  if s.on (ETH_STATUS n) ETH_STATUS_PAUSED = false ∨ s.clk.mono < (s.port n).pauseEnd then s
  else
    let t := s.wr (ETH_STATUS n) ETH_STATUS_PAUSED 0
    let isLate (f : TxFrame) : Bool := match f.launch with
      | some l => launchLate s l (s.rd (ETH_RING_CFG n f.ring) ETH_RING_CFG_LATE_TOL)
      | none => false
    let drop (f : TxFrame) : Bool := isLate f && s.on (ETH_RING_CFG n f.ring) ETH_RING_CFG_LATE_DROP
    let gone := (t.port n).buf.filter drop
    let t := t.setNet n fun p => { p with buf := (p.buf.filter fun f => !drop f).map fun f => if isLate f then { f with late := true, elig := true } else f }
    gone.foldl (fun u f => dropLate u n f.ring f.index f.desc) t

/-! ### Reception (R318, R324, R325) -/

/-- The port's address, octet 1 first. -/
def ownMac (s : State) (n : Nat) : List Byte :=
  leBytes 4 (s.rget (ETH_MAC_LO n)).toNat ++ leBytes 2 (s.rd (ETH_MAC_HI n) ETH_MAC_HI_MAC_HI)

/-- Whether the destination passes the filter (R324). -/
def addrPass (s : State) (n : Nat) (l : List Byte) : Bool :=
  let d := l.take 6
  s.on (ETH_CFG n) ETH_CFG_PROMISC || d == ownMac s n || d.all (· == 0xFF#8)
    || ((d.getD 0 0#8).getLsbD 0 && (s.on (ETH_CFG n) ETH_CFG_ALLMULTI
      || [0x011B19000000, 0x0180C200000E, 0x01005E000181, 0x01005E00006B].contains (be l 0 6)))

/-- Classifier: step and receive ring (R324). -/
def classify (s : State) (n : Nat) (l : List Byte) : Nat × Nat :=
  let ty := etherType l
  let seg := l4Seg l
  if ty = 0x88F7 ∨ (isIp4 l ∧ ipProto l = 17 ∧ (be seg 2 2 = 319 ∨ be seg 2 2 = 320)) then (1, s.rd (ETH_CLS n) ETH_CLS_PTP_RING)
  else if ty = s.rd (ETH_CLS n) ETH_CLS_PEER_TYPE then (2, s.rd (ETH_CLS n) ETH_CLS_PEER_RING)
  else if isTagged l ∧ s.on (ETH_PCPMAP n) ETH_PCPMAP_VLAN_EN then
    (3, s.rd (ETH_PCPMAP n) ETH_PCPMAP_MAP / 2 ^ (3 * (be l 14 1 / 32)) % 8)
  else (4, s.rd (ETH_CLS n) ETH_CLS_DEF_RING)

/-- A frame is dropped for want of a descriptor (R325). -/
def rxDrop (s : State) (n r : Nat) : State :=
  ethEvt (ethCount (s.bump (ETH_RING_DROP n r) ETH_RING_DROP_COUNT 1) n 4) n ETH_EVT_RXDROP

/-- A frame into the receive ring: buffer write, write-back (R320, R325, R326). The flag tells whether its buffer write was admitted. -/
def rxStore (s : State) (n r cls : Nat) (stamp : Word) (l : List Byte) : Bool × State :=
  if ringOn s n r = false ∨ ringHead s n r = ringTail s n r then (false, rxDrop s n r)
  else
    let i := ringHead s n r
    let da := ringBase s n r + 32 * i
    match dmaRead s (netXfer s n 2) da 32 with
    | (_, some (c, a), t) => (false, ringErr t n r (a - da) c i false)
    | (d, none, t) =>
      if (d.getD 12 0#8).getLsbD 0 = false then (false, rxDrop (ringErr t n r 0 0 i true) n r)
      else
        let ba := leVal (d.take 5)
        let size := leVal ((d.drop 6).take 2)
        let w := l.take size
        let (e, u) := dmaWrite t (netXfer t n 3) ba w
        let status := 1 + (if size < l.length then 2 else 0) + (match e with
            | some (c, _) => if 8 ≤ c then 8 else 4
            | none => 0) + (if isTagged l then 16 else 0) + (if isIp4 l && ipOk l then 32 else 0)
            + (if hasSum l then 128 + (if l4Sum l = 65535 then 64 else 0) else 0)
        let (code, bytes) := match e with
          | some (c, a) => (c % 8, a - ba)
          | none => (0, 0)
        let back := leBytes 4 stamp.toNat ++ leBytes 2 l.length ++ [BitVec.ofNat 8 status, BitVec.ofNat 8 cls] ++
          leBytes 2 (if isTagged l then be l 14 2 else 0) ++ [BitVec.ofNat 8 code, 0#8] ++ leBytes 2 bytes
        let v := writeBack u n r i (bytesPut d 16 back)
        match e with
        | some (c, a) => (false, ringErr v n r (a - ba) c i false)
        | none => (true, v)

/-- A peer frame at the peer service (R328): the first of each source pair, tick and kind is kept, and stale epochs are discarded. -/
def peerTake (s : State) (l : List Byte) : State :=
  let p := l.drop (l3Off l)
  let src := leVal (p.take 2)
  let key := (src, leVal ((p.drop 8).take 8), leVal ((p.drop 3).take 1))
  let ep := leVal ((p.drop 4).take 2)
  let stale : Bool := match amGet (fun _ => none) s.peers.epochs src with
    | some e => decide ((BitVec.ofNat 16 ep - BitVec.ofNat 16 e).toInt < 0)
    | none => false
  if stale || s.peers.seen.contains key then s
  else { s with peers := { seen := s.peers.seen ++ [key], epochs := amSet (fun _ => none) s.peers.epochs src (some ep),
                           kept := s.peers.kept ++ [(p.drop 16).take (leVal ((p.drop 6).take 2))] } }

/-- Whether a frame is a PAUSE to this port: MAC Control of opcode 1 to the reserved multicast address or to its own (Annex 31B). -/
def isPause (s : State) (n : Nat) (f : List Byte) : Bool :=
  etherType f == 0x8808 && be f 14 2 == 1 && (be f 0 6 == 0x0180C2000001 || f.take 6 == ownMac s n)

/-- RX_FRAME: the octets of a frame with its FCS. -/
def rxFrame (n : Fin 4) (l : List Byte) (s : State) : State :=
  if s.isOn (.eth n) = false ∨ s.on (ETH_STATUS n) ETH_STATUS_LINK = false then s
  else
    let stamp := s.short - BitVec.ofNat 32 (s.rd (PTP_LAT n) PTP_LAT_INGRESS)
    let s := pmcPort s (51 + n) false l.length
    let f := l.take (l.length - 4)
    if l.length < 64 ∨ s.rd (ETH_CFG n) ETH_CFG_MAXLEN + (if isTagged f then 4 else 0) < l.length then ethCount s n 3
    else if leVal (l.drop (l.length - 4)) ≠ (crc32 f).toNat then ethCount s n 2
    else
      let s := ethCount s n 0
      if isPause s n f then
        let q := be f 16 2
        let t := ethCount s n 6
        if s.on (ETH_CFG n) ETH_CFG_PAUSE_RX then
          (t.setNet n fun p => { p with pauseEnd := s.clk.mono + (q * 512 + (if n.val < 2 then 9 else 0)) / (if n.val < 2 then 10 else 1) }).flag
            (ETH_STATUS n) ETH_STATUS_PAUSED (q != 0)
        else t
      else if addrPass s n f = false then ethCount s n 5
      else
        let (step, i) := classify s n f
        let (kept, t) := rxStore s n (8 + i) step stamp f
        if step = 2 ∧ kept = true then peerTake t f else t

/-! ### Meanings -/

/-- ETH_LINK_UP (R319). -/
def execEthLinkUp (n : Fin 4) (s : State) : Out3 := .next (linkUp n s)
/-- ETH_LINK_DOWN (R319). -/
def execEthLinkDown (n : Fin 4) (s : State) : Out3 := .next (linkDown n s)
/-- Write of ETH_RING_TAIL (R320). -/
def tailWrite (n r : Nat) (v : Word) (s : State) : State :=
  if v.toNat % 4096 < ringN s n r then s.wr (ETH_RING_TAIL n r) ETH_RING_TAIL_TAIL v.toNat else s
/-- RING_TAIL_WRITE (R320). -/
def execRingTailWrite (_m : Master) (n : Fin 4) (r : Fin 16) (v : Word) (s : State) : Out3 := .next (tailWrite n r v s)
/-- TX_FETCH (R322). -/
def execTxFetch (n : Fin 4) (r : Fin 8) (s : State) : Out3 := .next (txFetch n r s)
/-- LAUNCH_ELIGIBLE (R43). -/
def execLaunchEligible (n : Fin 4) (r : Fin 8) (s : State) : Out3 := .next (launchElig n r s)
/-- TX_START (R322). -/
def execTxStart (n : Fin 4) (s : State) : Out3 := .next (txStart n s)
/-- TX_DONE (R320). -/
def execTxDone (n : Fin 4) (s : State) : Out3 := .next (txDone n s)
/-- RX_FRAME (R324). -/
def execRxFrame (n : Fin 4) (bytes : List Byte) (s : State) : Out3 := .next (rxFrame n bytes s)
/-- PAUSE_EXPIRY (R318). -/
def execPauseExpiry (n : Fin 4) (s : State) : Out3 := .next (pauseExpiry n s)

end Sys2Proof.Machine
end

