-- ==== Sys2Proof/Machine/Can.lean ====
section
/-! DEFINITION. The CAN FD controllers (chapter 12): message buffers, log, selection, errors. -/

namespace Sys2Proof.Machine

open Sys2Proof

/-! ### Records and small operations -/

def CanSt.idle : CanSt := ⟨none, false, 0, [], [], 0#32⟩
def State.canSt (s : State) (n : Nat) : CanSt := amGet (fun _ => CanSt.idle) s.can n
def State.setCan (s : State) (n : Nat) (f : CanSt → CanSt) : State :=
  { s with can := amSet (fun _ => CanSt.idle) s.can n (f (s.canSt n)) }

def canEvt (s : State) (n : Nat) (f : Fld) : State := s.raise (64 + n) (CAN_EVT n) f
def canBevt (s : State) (n b : Nat) : State := s.raise (64 + n) (CAN_BEVT n (b / 32)) ⟨b % 32, b % 32⟩
def canCount (s : State) (n i : Nat) : State := s.bump (CAN_CNT n i) CAN_CNT_COUNT 1

/-- Counter event of an error kind (CAN_CNT). -/
def canCntOf : CanErr → Nat
  | .bit => 2
  | .stuff => 3
  | .form => 4
  | .crc => 5
  | .ack => 6
  | .arb => 7

/-- ESTATE from the error counters; entering error-passive raises EPASSIVE (R329). -/
def canState (s : State) (n : Nat) : State :=
  let a := CAN_STATUS n
  if s.rd a CAN_STATUS_ESTATE = 2 then s
  else
    let passive := 127 < s.rd a CAN_STATUS_TEC ∨ 127 < s.rd a CAN_STATUS_REC
    if passive then
      (if s.rd a CAN_STATUS_ESTATE = 1 then s else canEvt (s.wr a CAN_STATUS_ESTATE 1) n CAN_EVT_EPASSIVE)
    else s.wr a CAN_STATUS_ESTATE 0

/-- Bytes of a DLC. -/
def dlcLen (fd : Bool) (d : Nat) : Nat :=
  if d ≤ 8 then d else if fd = false then 8
  else if d = 9 then 12 else if d = 10 then 16 else if d = 11 then 20 else if d = 12 then 24 else if d = 13 then 32
  else if d = 14 then 48 else 64

/-- The request of a buffer ends (R337). -/
def txEnd (s : State) (n b : Nat) (f : Fld) : State :=
  canBevt ((s.wr (CAN_MB_CTRL n b) CAN_MB_CTRL_TXREQ 0).wr (CAN_MB_CTRL n b) f 1) n b

/-! ### Bit timing (R330) -/

/-- Length of a nominal bit and of a data-phase bit in cycles of the 80 MHz CAN clock, and the bit rates in bit/s. -/
def canNomBit (s : State) (n : Nat) : Nat :=
  (s.rd (CAN_NBT n) CAN_NBT_BRP + 1) * (1 + (s.rd (CAN_NBT n) CAN_NBT_TSEG1 + 1) + (s.rd (CAN_NBT n) CAN_NBT_TSEG2 + 1))
def canDataBit (s : State) (n : Nat) : Nat :=
  (s.rd (CAN_DBT n) CAN_DBT_BRP + 1) * (1 + (s.rd (CAN_DBT n) CAN_DBT_TSEG1 + 1) + (s.rd (CAN_DBT n) CAN_DBT_TSEG2 + 1))
def canNomRate (s : State) (n : Nat) : Nat := 80000000 / canNomBit s n
def canDataRate (s : State) (n : Nat) : Nat := 80000000 / canDataBit s n

/-- Secondary sample point in CAN-clock cycles after the measured transmitter delay, with TDC_EN. -/
def canTdc (s : State) (n delay : Nat) : Option Nat :=
  if s.on (CAN_TDC n) CAN_TDC_TDC_EN then some (delay + s.rd (CAN_TDC n) CAN_TDC_TDCO) else none

/-! ### Requests (R336, R337) -/

/-- A write of 1 to TXREQ. -/
def canTxreq (n b : Nat) (s : State) : State :=
  let a := CAN_MB_CTRL n b
  if s.on a CAN_MB_CTRL_TXREQ then s
  else
    let t := ((s.wr a CAN_MB_CTRL_TXREQ 1).rset (CAN_MB_CNT n b) 0#32).setCan n fun c =>
      { c with raised := c.raised.filter (· != b), lateReq := c.lateReq.filter (· != b) }
    if s.on a CAN_MB_CTRL_LAUNCH ∧ launchLate s (s.rget (CAN_MB_LAUNCH n b)) (s.rd (CAN_CFG n) CAN_CFG_LATE_TOL) = true then
      (if s.on a CAN_MB_CTRL_LATE_DROP then txEnd t n b CAN_MB_CTRL_LATE else (t.wr a CAN_MB_CTRL_LATE 1).setCan n fun c => { c with lateReq := insertLine b c.lateReq })
    else t

/-- A write of 1 to TXABORT. -/
def canTxabort (n b : Nat) (s : State) : State :=
  if s.on (CAN_MB_CTRL n b) CAN_MB_CTRL_TXREQ = false then s
  else match (s.canSt n).onBus with
    | some m => if m = b then s.setCan n fun c => { c with abort := true } else txEnd s n b CAN_MB_CTRL_ABORTED
    | none => txEnd s n b CAN_MB_CTRL_ABORTED

/-- Whether a buffer is eligible: its launch time has come, or had passed when it was requested. A CAN FD frame waits while FDE is 0 (R329;
notes/assumptions/85). -/
def canElig (s : State) (n b : Nat) : Bool :=
  let a := CAN_MB_CTRL n b
  s.on a CAN_MB_CTRL_EN && s.on a CAN_MB_CTRL_DIR && s.on a CAN_MB_CTRL_TXREQ
    && (!s.on a CAN_MB_CTRL_FDF || s.on (CAN_CFG n) CAN_CFG_FDE)
    && (!s.on a CAN_MB_CTRL_LAUNCH || (s.canSt n).lateReq.contains b || launchDue s (s.rget (CAN_MB_LAUNCH n b)))

/-- Arbitration field as a number: the smaller wins. Base identifier, RTR or SRR, IDE, extension, RTR. -/
def arbKey (s : State) (n b : Nat) : Nat :=
  let a := CAN_MB_CTRL n b
  let id := s.rd (CAN_MB_ID n b) CAN_MB_ID_ID
  let rtr := if s.on a CAN_MB_CTRL_RTR && !s.on a CAN_MB_CTRL_FDF then 1 else 0
  if s.on a CAN_MB_CTRL_IDE then id / 2 ^ 18 * 2 ^ 21 + 3 * 2 ^ 19 + id % 2 ^ 18 * 2 + rtr
  else id % 2 ^ 11 * 2 ^ 21 + rtr * 2 ^ 20

/-- The eligible buffer whose frame would win, the lower number on a tie. -/
def canWinner (s : State) (n : Nat) : Option Nat :=
  (List.range 128).foldl (fun w b =>
    if canElig s n b then
      match w with
      | none => some b
      | some v => if arbKey s n b < arbKey s n v then some b else w
    else w) none

/-- CAN_SELECTION: the winner starts; each start of frame counts as an attempt. -/
def canSelect (n : Fin 8) (s : State) : State :=
  if s.isOn (.can n) = false ∨ s.rd (CAN_STATUS n) CAN_STATUS_ESTATE = 2 ∨ s.on (CAN_CFG n) CAN_CFG_LISTEN
      ∨ (s.canSt n).onBus.isSome then s
  else match canWinner s n with
    | none => s
    | some b => (s.setCan n fun c => { c with onBus := some b, abort := false }).bump (CAN_MB_CNT n b) CAN_MB_CNT_ATTEMPTS 1

/-! ### Reception (R332 to R335) -/

/-- CTRL format bits of a frame. -/
def fmtBits (f : CanFrame) : Nat :=
  (if f.fdf then 2 ^ 20 else 0) + (if f.brs then 2 ^ 19 else 0) + (if f.esi then 2 ^ 18 else 0) + (if f.ide then 2 ^ 17 else 0) +
    (if f.rtr then 2 ^ 16 else 0) + f.dlc.toNat

/-- Data bytes of a frame, 64 of them, 0 beyond its length. -/
def canData (f : CanFrame) : List Byte :=
  ((f.data.take (if f.rtr then 0 else dlcLen f.fdf f.dlc.toNat)) ++ List.replicate 64 0#8).take 64

/-- First used RX buffer that takes the frame. -/
def canMatch (s : State) (n : Nat) (f : CanFrame) : Option Nat :=
  (List.range 128).find? fun b =>
    let a := CAN_MB_CTRL n b
    let mask := s.rd (CAN_MB_MASK n b) CAN_MB_MASK_MASK
    s.on a CAN_MB_CTRL_EN && !s.on a CAN_MB_CTRL_DIR && s.on a CAN_MB_CTRL_IDE == f.ide
      && f.id.toNat &&& mask == s.rd (CAN_MB_ID n b) CAN_MB_ID_ID &&& mask

/-- A store into buffer b (R333). -/
def canStore (s : State) (n b : Nat) (f : CanFrame) (stamp : Word) : State :=
  let a := CAN_MB_CTRL n b
  let lost := s.on a CAN_MB_CTRL_NEWDAT
  let w := s.rget a
  let t := s.rset a (BitVec.ofNat 32 (w.toNat / 2 ^ 21 * 2 ^ 21 + fmtBits f))
  let t := (t.wr (CAN_MB_ID n b) CAN_MB_ID_ID f.id.toNat).rset (CAN_MB_STAMP n b) stamp
  let d := canData f
  let t := (List.range 16).foldl (fun t i => t.rset (CAN_MB_DATA n b i) (BitVec.ofNat 32 (leVal ((d.drop (4 * i)).take 4)))) t
  let t := (t.wr a CAN_MB_CTRL_NEWDAT 1).wr (CAN_NEWDAT n (b / 32)) ⟨b % 32, b % 32⟩ 1
  let t := if lost then canEvt (t.wr a CAN_MB_CTRL_MSGLOST 1) n CAN_EVT_MSGLOST else t
  canBevt t n b

/-- The log stops on an error (R335). -/
def logErr (s : State) (n bytes err : Nat) : State :=
  let t := s.rset (CAN_LOG_ERR n) (BitVec.ofNat 32 ((if 8 ≤ err then 2 ^ 15 else 0) + err % 8 * 2 ^ 12 + bytes))
  canEvt (t.wr (CAN_LOG_CFG n) CAN_LOG_CFG_LOG_EN 0) n CAN_EVT_LOGERR

/-- Write the parts of a log record in turn until one is denied; `done` counts the bytes written before. -/
def logParts (n : Nat) : Nat → List (Nat × Nat × List Byte) → State → Bool × State
  | _, [], s => (true, s)
  | done, (attr, a, l) :: rest, s =>
    match dmaWrite s (mattrXfer s (0x70 + n) attr) a l with
    | (some (c, e), t) => (false, logErr t n (done + (e - a)) c)
    | (none, t) => logParts n (done + l.length) rest t

/-- A record into the log: header and data, then SEQ. -/
def canLog (s : State) (n : Nat) (f : CanFrame) (stamp : Word) : State :=
  let i := s.rd (CAN_LOG_CFG n) CAN_LOG_CFG_WIDX
  let base := s.rd64 (CAN_LOG_BASE_LO n) (CAN_LOG_BASE_HI n) + 128 * i
  let q := (s.canSt n).logSeq + 1
  let q := if q = 0#32 then 1#32 else q
  let head := leBytes 4 (fmtBits f) ++ leBytes 4 f.id.toNat ++ leBytes 4 stamp.toNat
  let (ok, t) := logParts n 0 [(3, base, head), (3, base + 16, List.replicate 48 0#8 ++ canData f), (2, base + 12, leBytes 4 q.toNat)] s
  if ok then
    (t.setCan n fun c => { c with logSeq := q }).wr (CAN_LOG_CFG n) CAN_LOG_CFG_WIDX ((i + 1) % 2 ^ s.rd (CAN_LOG_CFG n) CAN_LOG_CFG_LOG_SIZE)
  else t

/-- A valid frame at the receiver: buffer, log. -/
def canDeliver (s : State) (n : Nat) (f : CanFrame) (stamp : Word) : State :=
  let t := canCount (pmcPort s (55 + n) false (canData f).length) n 0
  let m := canMatch t n f
  let t := match m with
    | some b => canStore t n b f stamp
    | none => t
  if t.on (CAN_LOG_CFG n) CAN_LOG_CFG_LOG_EN && (m.isNone || t.on (CAN_LOG_CFG n) CAN_LOG_CFG_LOG_ALL) then canLog t n f stamp else t

/-- REC after a frame received without error (ISO 11898-1): one less, or from above 127 a value from 119 to 127 that the standard leaves
open. -/
def recGood (s : State) (n : Nat) : State :=
  let r := s.rd (CAN_STATUS n) CAN_STATUS_REC
  if 127 < r then
    let (v, t) := s.takeFree
    t.wr (CAN_STATUS n) CAN_STATUS_REC (119 + v.toNat % 9)
  else s.wr (CAN_STATUS n) CAN_STATUS_REC (r - 1)

/-- Whether the controller takes part in the traffic: it is ON, or it stops and a frame in progress runs to its end (R331). -/
def canLive (s : State) (n : Fin 8) : Bool :=
  decide (2 ≤ s.unitState (.can n)) && s.rd (CAN_STATUS n) CAN_STATUS_ESTATE != 2

/-- CAN_RX_ERROR: 1, or 8 where a dominant bit follows the error flag (ISO 11898-1). -/
def canRxErr (n : Fin 8) (k : CanErr) (dominant : Bool) (s : State) : State :=
  if canLive s n = false then s
  else canState ((canCount s n (canCntOf k)).bump (CAN_STATUS n) CAN_STATUS_REC (if dominant then 8 else 1)) n

/-- CAN_RX_FRAME: a frame is valid `since` ns after its start-of-frame bit, whose local time is its stamp (02 R36). With FDE at 0 a CAN FD frame is a form error (R329; notes/assumptions/85). -/
def canRx (n : Fin 8) (f : CanFrame) (since : Word) (s : State) : State :=
  if canLive s n = false then s
  else if f.fdf && !s.on (CAN_CFG n) CAN_CFG_FDE then canRxErr n .form false s
  else canState (canDeliver (recGood s n) n f (s.short - since)) n

/-! ### Transmission (R337 to R340) -/

/-- The frame of a buffer: BRS and ESI belong to CAN FD frames, RTR to classical ones (R329). -/
def mbFrame (s : State) (n b : Nat) : CanFrame :=
  let a := CAN_MB_CTRL n b
  { fdf := s.on a CAN_MB_CTRL_FDF, brs := s.on a CAN_MB_CTRL_BRS && s.on a CAN_MB_CTRL_FDF,
    esi := s.rd (CAN_STATUS n) CAN_STATUS_ESTATE == 1 && s.on a CAN_MB_CTRL_FDF,
    ide := s.on a CAN_MB_CTRL_IDE, rtr := s.on a CAN_MB_CTRL_RTR && !s.on a CAN_MB_CTRL_FDF, id := BitVec.ofNat 29 (s.rd (CAN_MB_ID n b) CAN_MB_ID_ID),
    dlc := BitVec.ofNat 4 (s.rd a CAN_MB_CTRL_DLC),
    data := (List.range 16).flatMap fun i => leBytes 4 (s.rget (CAN_MB_DATA n b i)).toNat }

/-- CAN_TX_SUCCESS: the frame ends `since` ns after its start-of-frame bit was sampled at the RX input (R338). -/
def canTxOk (n : Nat) (since : Word) (s : State) : State :=
  match (s.canSt n).onBus with
  | none => s
  | some b =>
    let stamp := s.short - since
    let f := mbFrame s n b
    let t := s.setCan n fun c => { c with onBus := none, abort := false, acks := 0 }
    let t := (t.wr (CAN_STATUS n) CAN_STATUS_NOACK 0).wr (CAN_STATUS n) CAN_STATUS_TEC (s.rd (CAN_STATUS n) CAN_STATUS_TEC - 1)
    let t := (txEnd t n b CAN_MB_CTRL_TXOK).rset (CAN_MB_STAMP n b) stamp
    let t := (t.wr (CAN_MB_CNT n b) CAN_MB_CNT_COLL 0).send (.can n { f with data := canData f })
    let t := canCount (pmcPort t (55 + n) true (canData f).length) n 1
    canState (if t.on (CAN_CFG n) CAN_CFG_LOOPBACK then canDeliver t n f stamp else t) n

/-- TEC exceeds 255: bus-off (R331). -/
def busOff (n : Fin 8) (s : State) : State :=
  let t := ((s.wr (CAN_STATUS n) CAN_STATUS_TEC 255).wr (CAN_STATUS n) CAN_STATUS_ESTATE 2).wr (CAN_STATUS n) CAN_STATUS_BOREC 1
  canEvt (hwStop t (.can n)) n CAN_EVT_BUSOFF

/-- What an attempt's end means for NO_ACK (R339) and for ID_COLLISION (R340). -/
def ackErr (n : Nat) (k : CanErr) (s : State) : State :=
  let c := if k = .ack then (s.canSt n).acks + 1 else 0
  let t := s.setCan n fun x => { x with acks := c }
  if c = 16 then canEvt (t.wr (CAN_STATUS n) CAN_STATUS_NOACK 1) n CAN_EVT_NO_ACK else t

def collErr (n b : Nat) (k : CanErr) (inData : Bool) (s : State) : State :=
  if k = .bit ∧ inData then
    let t := s.bump (CAN_MB_CNT n b) CAN_MB_CNT_COLL 1
    if t.rd (CAN_CFG n) CAN_CFG_COLL_N ≤ t.rd (CAN_MB_CNT n b) CAN_MB_CNT_COLL ∧ ¬ b ∈ (t.canSt n).raised then
      canEvt ((t.setCan n fun c => { c with raised := insertLine b c.raised }).wr (CAN_COLL_BUF n) CAN_COLL_BUF_BUF b) n CAN_EVT_ID_COLLISION
    else t
  else s.wr (CAN_MB_CNT n b) CAN_MB_CNT_COLL 0

/-- CAN_TX_ERROR: an attempt ends in lost arbitration or an error; TEC grows by 8 except for lost arbitration, and except for an acknowledge
error of an error-passive node that sees no dominant bit during its passive error flag (R337, R339). -/
def canTxErr (n : Fin 8) (k : CanErr) (inData dominant : Bool) (s : State) : State :=
  match (s.canSt n).onBus with
  | none => s
  | some b =>
    let passive := s.rd (CAN_STATUS n) CAN_STATUS_ESTATE = 1
    let add := if k = .arb ∨ (k = .ack ∧ passive ∧ dominant = false) then 0 else 8
    let tec := s.rd (CAN_STATUS n) CAN_STATUS_TEC + add
    let aborted := (s.canSt n).abort
    let t := canCount (s.setCan n fun c => { c with onBus := none, abort := false }) n (canCntOf k)
    let t := collErr n b k inData (ackErr n k t)
    let t := if aborted then txEnd t n b CAN_MB_CTRL_ABORTED else t
    if 255 < tec then busOff n t else canState (t.wr (CAN_STATUS n) CAN_STATUS_TEC tec) n

/-! ### Buffers, start, stop (R331, R334) -/

/-- A write of CAN_NEWDAT_j clears NEWDAT of the named buffers. -/
def newdatClear (n j : Nat) (v : Word) (s : State) : State :=
  (List.range 32).foldl (fun t i =>
    if v.getLsbD i then (t.wr (CAN_MB_CTRL n (32 * j + i)) CAN_MB_CTRL_NEWDAT 0).wr (CAN_NEWDAT n j) ⟨i, i⟩ 0 else t) s

/-- CAN_BUSOFF_RECOVERY: the 128 sequences of a start after bus-off are complete. -/
def busoffRecovered (n : Fin 8) (s : State) : State :=
  if s.unitState (.can n) = 1 then
    ((s.wr (CAN_STATUS n) CAN_STATUS_BOREC 0).wr (CAN_STATUS n) CAN_STATUS_TEC 0).wr (CAN_STATUS n) CAN_STATUS_REC 0
  else s

/-- CAN_INTEGRATION: a starting controller reaches ON, error-active with its counters at 0. -/
def canIntegrate (n : Fin 8) (s : State) : State :=
  if s.unitState (.can n) = 1 ∧ (s.unit (enAddr (.can n))).waiting = false ∧ s.on (CAN_STATUS n) CAN_STATUS_BOREC = false then
    let t := ((s.wr (CAN_STATUS n) CAN_STATUS_TEC 0).wr (CAN_STATUS n) CAN_STATUS_REC 0).wr (CAN_STATUS n) CAN_STATUS_ESTATE 0
    startDone (t.setCan n fun c => { c with acks := 0, onBus := none }) (.can n)
  else s

/-- A controller's stop completes: bus-off state, and every request is aborted (R331). -/
def canStopped (n : Nat) (s : State) : State :=
  (List.range 128).foldl (fun t b =>
    if t.on (CAN_MB_CTRL n b) CAN_MB_CTRL_TXREQ && t.on (CAN_MB_CTRL n b) CAN_MB_CTRL_DIR then txEnd t n b CAN_MB_CTRL_ABORTED else t)
    (s.wr (CAN_STATUS n) CAN_STATUS_ESTATE 2)

/-! ### Meanings -/

/-- TXREQ (R336). -/
def execTxreq (_m : Master) (n : Fin 8) (b : Fin 128) (s : State) : Out3 := .next (canTxreq n b s)
/-- TXABORT (R337). -/
def execTxabort (_m : Master) (n : Fin 8) (b : Fin 128) (s : State) : Out3 := .next (canTxabort n b s)
/-- CAN_SELECTION (R336). -/
def execCanSelection (n : Fin 8) (s : State) : Out3 := .next (canSelect n s)
/-- CAN_TX_SUCCESS (R337). -/
def execCanTxSuccess (x : CanSent) (s : State) : Out3 := .next (canTxOk x.n x.since s)
/-- CAN_TX_ERROR (R337). -/
def execCanTxError (n : Fin 8) (k : CanErr) (inData dominant : Bool) (s : State) : Out3 := .next (canTxErr n k inData dominant s)
/-- CAN_RX_FRAME (R333). -/
def execCanRxFrame (n : Fin 8) (f : CanFrame) (since : Word) (s : State) : Out3 := .next (canRx n f since s)
/-- CAN_RX_ERROR (R329). -/
def execCanRxError (n : Fin 8) (k : CanErr) (dominant : Bool) (s : State) : Out3 := .next (canRxErr n k dominant s)
/-- CAN_NEWDAT_CLEAR (R334). -/
def execCanNewdatClear (_m : Master) (n : Fin 8) (j : Fin 4) (v : Word) (s : State) : Out3 := .next (newdatClear n j v s)
/-- CAN_BUSOFF_RECOVERY (R331). -/
def execCanBusoffRecovery (n : Fin 8) (s : State) : Out3 := .next (busoffRecovered n s)
/-- CAN_INTEGRATION (R331). -/
def execCanIntegration (n : Fin 8) (s : State) : Out3 := .next (canIntegrate n s)

end Sys2Proof.Machine
end

