-- ==== Sys2Proof/Machine/DenmaWord.lean ====
section
/-! DEFINITION. A Denma instruction word (04 R84 to R86; 05, formats G, F, Z, E, K): the row it stands for on a processor, and the group and
effect of a row. A malformed or reserved word is no row and raises ILLEGAL (R85). The debug port's STEP runs the word that stands in memory. -/

namespace Sys2Proof.Machine

open Sys2Proof

/-- The field of n bits from bit lo up. -/
def wbits (w : Word) (lo n : Nat) : Nat := w.toNat / 2 ^ lo % 2 ^ n

/-- A register field. -/
def regAt (w : Word) (lo : Nat) : Reg := ⟨w.toNat / 2 ^ lo % 32, Nat.mod_lt _ (by decide)⟩

/-- Width of the sz field at bit lo (R84). -/
def wdAt (w : Word) (lo : Nat) : Wd :=
  match wbits w lo 2 with
  | 0 => .w8
  | 1 => .w16
  | 2 => .w32
  | _ => .w64

/-- The immediate of formats I, W and C. -/
def imm16 (w : Word) : BitVec 16 := BitVec.ofNat 16 w.toNat

/-- The row if the fields that must be 0 are 0 (R85). -/
def ifZero (z : Nat) (i : Instr) : Option Instr := if z = 0 then some i else none

/-- INT (R91), format A. -/
def intWord (p : Proc) (w : Word) : Option Instr :=
  match wbits w 0 6 with
  | 0x00 => ifZero (wbits w 6 3) (.add p (wdAt w 9) (regAt w 21) (regAt w 16) (regAt w 11))
  | 0x01 => ifZero (wbits w 6 3) (.sub p (wdAt w 9) (regAt w 21) (regAt w 16) (regAt w 11))
  | 0x02 => ifZero (wbits w 6 3) (.and p (wdAt w 9) (regAt w 21) (regAt w 16) (regAt w 11))
  | 0x03 => ifZero (wbits w 6 3) (.or p (wdAt w 9) (regAt w 21) (regAt w 16) (regAt w 11))
  | 0x04 => ifZero (wbits w 6 3) (.xor p (wdAt w 9) (regAt w 21) (regAt w 16) (regAt w 11))
  | 0x05 => ifZero (wbits w 6 3) (.andn p (wdAt w 9) (regAt w 21) (regAt w 16) (regAt w 11))
  | 0x06 => ifZero (wbits w 6 3) (.shl p (wdAt w 9) (regAt w 21) (regAt w 16) (regAt w 11))
  | 0x07 => ifZero (wbits w 6 3) (.shr p (wdAt w 9) (regAt w 21) (regAt w 16) (regAt w 11))
  | 0x08 => ifZero (wbits w 6 3) (.sar p (wdAt w 9) (regAt w 21) (regAt w 16) (regAt w 11))
  | 0x09 => ifZero (wbits w 6 3) (.ror p (wdAt w 9) (regAt w 21) (regAt w 16) (regAt w 11))
  | 0x0A => ifZero (wbits w 6 3) (.mul p (wdAt w 9) (regAt w 21) (regAt w 16) (regAt w 11))
  | 0x0B => ifZero (wbits w 6 3) (.mulh p (wdAt w 9) (regAt w 21) (regAt w 16) (regAt w 11))
  | 0x0C => ifZero (wbits w 6 3) (.mulhu p (wdAt w 9) (regAt w 21) (regAt w 16) (regAt w 11))
  | 0x0D => ifZero (wbits w 6 3) (.div p (wdAt w 9) (regAt w 21) (regAt w 16) (regAt w 11))
  | 0x0E => ifZero (wbits w 6 3) (.divu p (wdAt w 9) (regAt w 21) (regAt w 16) (regAt w 11))
  | 0x0F => ifZero (wbits w 6 3) (.rem p (wdAt w 9) (regAt w 21) (regAt w 16) (regAt w 11))
  | 0x10 => ifZero (wbits w 6 3) (.remu p (wdAt w 9) (regAt w 21) (regAt w 16) (regAt w 11))
  | 0x11 => ifZero (wbits w 6 3) (.min p (wdAt w 9) (regAt w 21) (regAt w 16) (regAt w 11))
  | 0x12 => ifZero (wbits w 6 3) (.max p (wdAt w 9) (regAt w 21) (regAt w 16) (regAt w 11))
  | 0x13 => ifZero (wbits w 6 3) (.minu p (wdAt w 9) (regAt w 21) (regAt w 16) (regAt w 11))
  | 0x14 => ifZero (wbits w 6 3) (.maxu p (wdAt w 9) (regAt w 21) (regAt w 16) (regAt w 11))
  | 0x15 => ifZero (wbits w 6 3) (.slt p (wdAt w 9) (regAt w 21) (regAt w 16) (regAt w 11))
  | 0x16 => ifZero (wbits w 6 3) (.sltu p (wdAt w 9) (regAt w 21) (regAt w 16) (regAt w 11))
  | 0x17 => ifZero (wbits w 6 3) (.seq p (wdAt w 9) (regAt w 21) (regAt w 16) (regAt w 11))
  | 0x18 => ifZero (wbits w 6 3) (.sne p (wdAt w 9) (regAt w 21) (regAt w 16) (regAt w 11))
  | 0x19 => ifZero (wbits w 6 3 + wbits w 11 5) (.clz p (wdAt w 9) (regAt w 21) (regAt w 16))
  | 0x1A => ifZero (wbits w 6 3 + wbits w 11 5) (.ctz p (wdAt w 9) (regAt w 21) (regAt w 16))
  | 0x1B => ifZero (wbits w 6 3 + wbits w 11 5) (.popc p (wdAt w 9) (regAt w 21) (regAt w 16))
  | 0x1C => ifZero (wbits w 6 3 + wbits w 11 5) (.sext p (wdAt w 9) (regAt w 21) (regAt w 16))
  | 0x1D => ifZero (wbits w 6 3 + wbits w 11 5) (.zext p (wdAt w 9) (regAt w 21) (regAt w 16))
  | 0x1E => ifZero (wbits w 6 3 + wbits w 11 5) (.abs p (wdAt w 9) (regAt w 21) (regAt w 16))
  | _ => none

/-- SATG (R95), format A. -/
def satWord (p : Proc) (w : Word) : Option Instr :=
  match wbits w 0 6 with
  | 0x00 => ifZero (wbits w 6 3) (.adds p (wdAt w 9) (regAt w 21) (regAt w 16) (regAt w 11))
  | 0x01 => ifZero (wbits w 6 3) (.subs p (wdAt w 9) (regAt w 21) (regAt w 16) (regAt w 11))
  | 0x02 => ifZero (wbits w 6 3) (.addus p (wdAt w 9) (regAt w 21) (regAt w 16) (regAt w 11))
  | 0x03 => ifZero (wbits w 6 3) (.subus p (wdAt w 9) (regAt w 21) (regAt w 16) (regAt w 11))
  | 0x04 => ifZero (wbits w 6 3) (.muls p (wdAt w 9) (regAt w 21) (regAt w 16) (regAt w 11))
  | 0x05 => ifZero (wbits w 6 3) (.mulus p (wdAt w 9) (regAt w 21) (regAt w 16) (regAt w 11))
  | 0x06 => ifZero (wbits w 6 3 + wbits w 11 5) (.negs p (wdAt w 9) (regAt w 21) (regAt w 16))
  | 0x07 => ifZero (wbits w 6 3 + wbits w 11 5) (.abss p (wdAt w 9) (regAt w 21) (regAt w 16))
  | 0x08 => ifZero (wbits w 6 3 + wbits w 11 5) (.sats p (wdAt w 9) (regAt w 21) (regAt w 16))
  | 0x09 => ifZero (wbits w 6 3 + wbits w 11 5) (.satu p (wdAt w 9) (regAt w 21) (regAt w 16))
  | _ => none

/-- SHI (R93), format S. -/
def shiWord (p : Proc) (w : Word) : Option Instr :=
  match wbits w 0 2 with
  | 0 => ifZero (wbits w 2 6) (.shli p (wdAt w 8) (regAt w 21) (regAt w 16) (BitVec.ofNat 6 (wbits w 10 6)))
  | 1 => ifZero (wbits w 2 6) (.shri p (wdAt w 8) (regAt w 21) (regAt w 16) (BitVec.ofNat 6 (wbits w 10 6)))
  | 2 => ifZero (wbits w 2 6) (.sari p (wdAt w 8) (regAt w 21) (regAt w 16) (BitVec.ofNat 6 (wbits w 10 6)))
  | 3 => ifZero (wbits w 2 6) (.rori p (wdAt w 8) (regAt w 21) (regAt w 16) (BitVec.ofNat 6 (wbits w 10 6)))
  | _ => none

/-- FP (R97), format A with a format. -/
def fpWordOf (p : Proc) (f : Fmt) (w : Word) : Option Instr :=
  match wbits w 0 6 with
  | 0x00 => ifZero (wbits w 6 3) (.fadd p f (regAt w 21) (regAt w 16) (regAt w 11))
  | 0x01 => ifZero (wbits w 6 3) (.fsub p f (regAt w 21) (regAt w 16) (regAt w 11))
  | 0x02 => ifZero (wbits w 6 3) (.fmul p f (regAt w 21) (regAt w 16) (regAt w 11))
  | 0x03 => ifZero (wbits w 6 3) (.fdiv p f (regAt w 21) (regAt w 16) (regAt w 11))
  | 0x04 => ifZero (wbits w 6 3 + wbits w 11 5) (.fsqrt p f (regAt w 21) (regAt w 16))
  | 0x05 => ifZero (wbits w 6 3) (.fmin p f (regAt w 21) (regAt w 16) (regAt w 11))
  | 0x06 => ifZero (wbits w 6 3) (.fmax p f (regAt w 21) (regAt w 16) (regAt w 11))
  | 0x07 => ifZero (wbits w 6 3 + wbits w 11 5) (.fneg p f (regAt w 21) (regAt w 16))
  | 0x08 => ifZero (wbits w 6 3 + wbits w 11 5) (.fabs p f (regAt w 21) (regAt w 16))
  | 0x09 => ifZero (wbits w 6 3) (.fsgn p f (regAt w 21) (regAt w 16) (regAt w 11))
  | 0x0A => ifZero (wbits w 6 3) (.feq p f (regAt w 21) (regAt w 16) (regAt w 11))
  | 0x0B => ifZero (wbits w 6 3) (.flt p f (regAt w 21) (regAt w 16) (regAt w 11))
  | 0x0C => ifZero (wbits w 6 3) (.fle p f (regAt w 21) (regAt w 16) (regAt w 11))
  | 0x0D => ifZero (wbits w 6 3) (.fun p f (regAt w 21) (regAt w 16) (regAt w 11))
  | 0x0E => ifZero (wbits w 6 3 + wbits w 11 5) (.fcls p f (regAt w 21) (regAt w 16))
  | 0x10 => ifZero (wbits w 6 3 + wbits w 11 5) (.fcvf p f (regAt w 21) (regAt w 16))
  | 0x11 => ifZero (wbits w 6 3 + wbits w 11 5) (.frndI32 p f (regAt w 21) (regAt w 16))
  | 0x12 => ifZero (wbits w 6 3 + wbits w 11 5) (.frndI64 p f (regAt w 21) (regAt w 16))
  | 0x13 => ifZero (wbits w 6 3 + wbits w 11 5) (.frndU32 p f (regAt w 21) (regAt w 16))
  | 0x14 => ifZero (wbits w 6 3 + wbits w 11 5) (.frndU64 p f (regAt w 21) (regAt w 16))
  | 0x15 => ifZero (wbits w 6 3 + wbits w 11 5) (.ftrcI32 p f (regAt w 21) (regAt w 16))
  | 0x16 => ifZero (wbits w 6 3 + wbits w 11 5) (.ftrcI64 p f (regAt w 21) (regAt w 16))
  | 0x17 => ifZero (wbits w 6 3 + wbits w 11 5) (.ftrcU32 p f (regAt w 21) (regAt w 16))
  | 0x18 => ifZero (wbits w 6 3 + wbits w 11 5) (.ftrcU64 p f (regAt w 21) (regAt w 16))
  | 0x19 => ifZero (wbits w 6 3 + wbits w 11 5) (.ifltI32 p f (regAt w 21) (regAt w 16))
  | 0x1A => ifZero (wbits w 6 3 + wbits w 11 5) (.ifltI64 p f (regAt w 21) (regAt w 16))
  | 0x1B => ifZero (wbits w 6 3 + wbits w 11 5) (.ifltU32 p f (regAt w 21) (regAt w 16))
  | 0x1C => ifZero (wbits w 6 3 + wbits w 11 5) (.ifltU64 p f (regAt w 21) (regAt w 16))
  | _ => none

/-- FP: sz 0b10 is binary32, 0b11 binary64, and the others are illegal (R84, R85). -/
def fpWord (p : Proc) (w : Word) : Option Instr :=
  match wbits w 9 2 with
  | 2 => fpWordOf p .f32 w
  | 3 => fpWordOf p .f64 w
  | _ => none

/-- FMAG (R100), format Q. -/
def fmagWord (p : Proc) (w : Word) : Option Instr :=
  match wbits w 0 6 with
  | 0x00 => some (.fmadS p (regAt w 21) (regAt w 16) (regAt w 11) (regAt w 6))
  | 0x08 => some (.fmadD p (regAt w 21) (regAt w 16) (regAt w 11) (regAt w 6))
  | 0x01 => some (.fmsbS p (regAt w 21) (regAt w 16) (regAt w 11) (regAt w 6))
  | 0x09 => some (.fmsbD p (regAt w 21) (regAt w 16) (regAt w 11) (regAt w 6))
  | 0x02 => some (.fnmaS p (regAt w 21) (regAt w 16) (regAt w 11) (regAt w 6))
  | 0x0A => some (.fnmaD p (regAt w 21) (regAt w 16) (regAt w 11) (regAt w 6))
  | 0x03 => some (.fnmsS p (regAt w 21) (regAt w 16) (regAt w 11) (regAt w 6))
  | 0x0B => some (.fnmsD p (regAt w 21) (regAt w 16) (regAt w 11) (regAt w 6))
  | 0x10 => some (.clamp p (regAt w 21) (regAt w 16) (regAt w 11) (regAt w 6))
  | 0x11 => some (.clampu p (regAt w 21) (regAt w 16) (regAt w 11) (regAt w 6))
  | 0x12 => some (.clampS p (regAt w 21) (regAt w 16) (regAt w 11) (regAt w 6))
  | 0x13 => some (.clampD p (regAt w 21) (regAt w 16) (regAt w 11) (regAt w 6))
  | 0x14 => some (.sel p (regAt w 21) (regAt w 16) (regAt w 11) (regAt w 6))
  | _ => none

/-- AMO (R106), format Q: fn[5] selects the doubleword. -/
def amoWord (p : Proc) (w : Word) : Option Instr :=
  match wbits w 0 5 with
  | 0 => ifZero (wbits w 6 5) (.amoSwap p (w.getLsbD 5) (regAt w 21) (regAt w 16) (regAt w 11))
  | 1 => ifZero (wbits w 6 5) (.amoAdd p (w.getLsbD 5) (regAt w 21) (regAt w 16) (regAt w 11))
  | 2 => ifZero (wbits w 6 5) (.amoAnd p (w.getLsbD 5) (regAt w 21) (regAt w 16) (regAt w 11))
  | 3 => ifZero (wbits w 6 5) (.amoOr p (w.getLsbD 5) (regAt w 21) (regAt w 16) (regAt w 11))
  | 4 => ifZero (wbits w 6 5) (.amoXor p (w.getLsbD 5) (regAt w 21) (regAt w 16) (regAt w 11))
  | 5 => ifZero (wbits w 6 5) (.amoMin p (w.getLsbD 5) (regAt w 21) (regAt w 16) (regAt w 11))
  | 6 => ifZero (wbits w 6 5) (.amoMax p (w.getLsbD 5) (regAt w 21) (regAt w 16) (regAt w 11))
  | 7 => ifZero (wbits w 6 5) (.amoMinu p (w.getLsbD 5) (regAt w 21) (regAt w 16) (regAt w 11))
  | 8 => ifZero (wbits w 6 5) (.amoMaxu p (w.getLsbD 5) (regAt w 21) (regAt w 16) (regAt w 11))
  | 9 => some (.amoCas p (w.getLsbD 5) (regAt w 21) (regAt w 16) (regAt w 11) (regAt w 6))
  | _ => none

/-- SYS (R108), format Y. -/
def sysWord (p : Proc) (w : Word) : Option Instr :=
  let sr := BitVec.ofNat 12 w.toNat
  match wbits w 12 4 with
  | 0x0 => ifZero (wbits w 16 5) (.mfsr p (regAt w 21) sr)
  | 0x1 => ifZero (wbits w 21 5) (.mtsr p sr (regAt w 16))
  | 0x2 => some (.srset p (regAt w 21) sr (regAt w 16))
  | 0x3 => some (.srclr p (regAt w 21) sr (regAt w 16))
  | 0x4 => ifZero (wbits w 16 10) (.scall p sr)
  | 0x5 => ifZero (wbits w 16 10) (.brk p sr)
  | 0x6 => ifZero (wbits w 16 10 + wbits w 0 12) (.rte p)
  | 0x7 => ifZero (wbits w 16 10 + wbits w 0 12) (.fence p)
  | 0x8 => ifZero (wbits w 16 10 + wbits w 0 12) (.wfi p)
  | 0x9 => ifZero (wbits w 21 5 + wbits w 0 12) (.cflush p (regAt w 16))
  | 0xA => ifZero (wbits w 21 5 + wbits w 0 12) (.cinv p (regAt w 16))
  | _ => none

/-- LDSIG (05 R125), format G. -/
def ldsigWord (p : Proc) (w : Word) : Option Instr :=
  let off := BitVec.ofNat 14 w.toNat
  match wbits w 14 2 with
  | 0 => some (.ldsigIn p (regAt w 21) (regAt w 16) off)
  | 1 => some (.ldsigOut p (regAt w 21) (regAt w 16) off)
  | 2 => some (.ldsigPrev p (regAt w 21) (regAt w 16) off)
  | _ => none

/-- STSIG (05 R125), format G. -/
def stsigWord (p : Proc) (w : Word) : Option Instr :=
  let off := BitVec.ofNat 14 w.toNat
  match wbits w 14 2 with
  | 0 => some (.stsig p (regAt w 21) (regAt w 16) off)
  | 1 => some (.stsigQ p (regAt w 21) (regAt w 16) off)
  | _ => none

/-- EDGE (05 R142), format E. -/
def edgeWord (p : Proc) (w : Word) : Option Instr :=
  let bit : Fin 8 := ⟨w.toNat / 2 ^ 10 % 8, Nat.mod_lt _ (by decide)⟩
  let boff := BitVec.ofNat 10 w.toNat
  match wbits w 13 3 with
  | 0 => some (.edgeRise p (regAt w 21) (regAt w 16) bit boff)
  | 1 => some (.edgeFall p (regAt w 21) (regAt w 16) bit boff)
  | 2 => some (.edgeChg p (regAt w 21) (regAt w 16) bit boff)
  | 3 => ifZero (wbits w 16 5) (.edgePrev p (regAt w 21) bit boff)
  | 4 => some (.edgeSetp p (regAt w 21) (regAt w 16) bit boff)
  | _ => none

/-- TMR (05 R143), format K. -/
def tmrWord (p : Proc) (w : Word) : Option Instr :=
  let wo := BitVec.ofNat 8 w.toNat
  match wbits w 8 3 with
  | 0 => some (.ton p (regAt w 21) (regAt w 16) (regAt w 11) wo)
  | 1 => some (.tof p (regAt w 21) (regAt w 16) (regAt w 11) wo)
  | 2 => some (.tpl p (regAt w 21) (regAt w 16) (regAt w 11) wo)
  | 3 => ifZero (wbits w 16 5) (.tet p (regAt w 21) (regAt w 11) wo)
  | 4 => some (.ctu p (regAt w 21) (regAt w 16) (regAt w 11) wo)
  | 5 => ifZero (wbits w 11 5) (.ctd p (regAt w 21) (regAt w 16) wo)
  | 6 => ifZero (wbits w 16 5) (.cld p (regAt w 21) (regAt w 11) wo)
  | 7 => ifZero (wbits w 11 10) (.trst p (regAt w 21) wo)
  | _ => none

/-- TASK (05 R146), format Z. -/
def taskWord (p : Proc) (w : Word) : Option Instr :=
  match wbits w 0 6 with
  | 0 => ifZero (wbits w 6 20) (.yieldTask p)
  | 1 => ifZero (wbits w 6 20) (.endtask p)
  | _ => none

/-- The row of an instruction word on processor p, by its primary opcode (R86); none: the word raises ILLEGAL (R85). -/
def denmaRow (p : Proc) (w : Word) : Option Instr :=
  match wbits w 26 6 with
  | 0x01 => intWord p w
  | 0x02 => satWord p w
  | 0x03 => shiWord p w
  | 0x04 => fpWord p w
  | 0x05 => fmagWord p w
  | 0x06 => amoWord p w
  | 0x08 => some (.addi p (regAt w 21) (regAt w 16) (imm16 w))
  | 0x09 => some (.andi p (regAt w 21) (regAt w 16) (imm16 w))
  | 0x0A => some (.ori p (regAt w 21) (regAt w 16) (imm16 w))
  | 0x0B => some (.xori p (regAt w 21) (regAt w 16) (imm16 w))
  | 0x0C => some (.slti p (regAt w 21) (regAt w 16) (imm16 w))
  | 0x0D => some (.sltiu p (regAt w 21) (regAt w 16) (imm16 w))
  | 0x0E => ifZero (wbits w 16 3) (.liz p (regAt w 21) ⟨w.toNat / 2 ^ 19 % 4, Nat.mod_lt _ (by decide)⟩ (imm16 w))
  | 0x0F => ifZero (wbits w 16 3) (.lik p (regAt w 21) ⟨w.toNat / 2 ^ 19 % 4, Nat.mod_lt _ (by decide)⟩ (imm16 w))
  | 0x10 => some (.lb p (regAt w 21) (regAt w 16) (imm16 w))
  | 0x11 => some (.lbu p (regAt w 21) (regAt w 16) (imm16 w))
  | 0x12 => some (.lh p (regAt w 21) (regAt w 16) (imm16 w))
  | 0x13 => some (.lhu p (regAt w 21) (regAt w 16) (imm16 w))
  | 0x14 => some (.lw p (regAt w 21) (regAt w 16) (imm16 w))
  | 0x15 => some (.lwu p (regAt w 21) (regAt w 16) (imm16 w))
  | 0x16 => some (.ld p (regAt w 21) (regAt w 16) (imm16 w))
  | 0x18 => some (.sb p (regAt w 21) (regAt w 16) (imm16 w))
  | 0x19 => some (.sh p (regAt w 21) (regAt w 16) (imm16 w))
  | 0x1A => some (.sw p (regAt w 21) (regAt w 16) (imm16 w))
  | 0x1B => some (.sd p (regAt w 21) (regAt w 16) (imm16 w))
  | 0x20 => some (.bEq p (regAt w 21) (regAt w 16) (imm16 w))
  | 0x21 => some (.bNe p (regAt w 21) (regAt w 16) (imm16 w))
  | 0x22 => some (.bLt p (regAt w 21) (regAt w 16) (imm16 w))
  | 0x23 => some (.bLe p (regAt w 21) (regAt w 16) (imm16 w))
  | 0x24 => some (.bLtu p (regAt w 21) (regAt w 16) (imm16 w))
  | 0x25 => some (.bLeu p (regAt w 21) (regAt w 16) (imm16 w))
  | 0x26 => some (.jmpl p (regAt w 21) (BitVec.ofNat 21 w.toNat))
  | 0x27 => some (.jmpr p (regAt w 21) (regAt w 16) (imm16 w))
  | 0x28 => some (.bt p (regAt w 21) (BitVec.ofNat 6 (wbits w 15 6)) (BitVec.ofNat 15 w.toNat))
  | 0x29 => some (.bf p (regAt w 21) (BitVec.ofNat 6 (wbits w 15 6)) (BitVec.ofNat 15 w.toNat))
  | 0x30 => sysWord p w
  | 0x38 => ldsigWord p w
  | 0x39 => stsigWord p w
  | 0x3A => edgeWord p w
  | 0x3B => tmrWord p w
  | 0x3C => ifZero (wbits w 16 5) (.callfb p (regAt w 21) (imm16 w))
  | 0x3D => ifZero (wbits w 0 26) (.retfb p)
  | 0x3E => taskWord p w
  | _ => none

/-- What an instruction means: its group and its effect. -/
abbrev WordSem := Grp × (Nat → State → DRes)

/-- An instruction that raises ILLEGAL (R85). -/
def illegalWord : WordSem := (.int, fun _ s => .trap 0 0 0#64 s)

/-- Group (R76) and effect of a row; a row that is no instruction has none. -/
def rowSem (bus : Bus) : Instr → WordSem
  | .add _ w rd ra rb => (.int, dAdd w rd ra rb)
  | .sub _ w rd ra rb => (.int, dSub w rd ra rb)
  | .and _ w rd ra rb => (.int, dAnd w rd ra rb)
  | .or _ w rd ra rb => (.int, dOr w rd ra rb)
  | .xor _ w rd ra rb => (.int, dXor w rd ra rb)
  | .andn _ w rd ra rb => (.int, dAndn w rd ra rb)
  | .shl _ w rd ra rb => (.int, dShl w rd ra rb)
  | .shr _ w rd ra rb => (.int, dShr w rd ra rb)
  | .sar _ w rd ra rb => (.int, dSar w rd ra rb)
  | .ror _ w rd ra rb => (.int, dRor w rd ra rb)
  | .mul _ w rd ra rb => (.int, dMul w rd ra rb)
  | .mulh _ w rd ra rb => (.int, dMulh w rd ra rb)
  | .mulhu _ w rd ra rb => (.int, dMulhu w rd ra rb)
  | .div _ w rd ra rb => (.int, dDiv w rd ra rb)
  | .divu _ w rd ra rb => (.int, dDivu w rd ra rb)
  | .rem _ w rd ra rb => (.int, dRem w rd ra rb)
  | .remu _ w rd ra rb => (.int, dRemu w rd ra rb)
  | .min _ w rd ra rb => (.int, dMin w rd ra rb)
  | .max _ w rd ra rb => (.int, dMax w rd ra rb)
  | .minu _ w rd ra rb => (.int, dMinu w rd ra rb)
  | .maxu _ w rd ra rb => (.int, dMaxu w rd ra rb)
  | .slt _ w rd ra rb => (.int, dSlt w rd ra rb)
  | .sltu _ w rd ra rb => (.int, dSltu w rd ra rb)
  | .seq _ w rd ra rb => (.int, dSeq w rd ra rb)
  | .sne _ w rd ra rb => (.int, dSne w rd ra rb)
  | .clz _ w rd ra => (.int, dClz w rd ra)
  | .ctz _ w rd ra => (.int, dCtz w rd ra)
  | .popc _ w rd ra => (.int, dPopc w rd ra)
  | .sext _ w rd ra => (.int, dSext w rd ra)
  | .zext _ w rd ra => (.int, dZext w rd ra)
  | .abs _ w rd ra => (.int, dAbs w rd ra)
  | .adds _ w rd ra rb => (.satg, dAdds w rd ra rb)
  | .subs _ w rd ra rb => (.satg, dSubs w rd ra rb)
  | .addus _ w rd ra rb => (.satg, dAddus w rd ra rb)
  | .subus _ w rd ra rb => (.satg, dSubus w rd ra rb)
  | .muls _ w rd ra rb => (.satg, dMuls w rd ra rb)
  | .mulus _ w rd ra rb => (.satg, dMulus w rd ra rb)
  | .negs _ w rd ra => (.satg, dNegs w rd ra)
  | .abss _ w rd ra => (.satg, dAbss w rd ra)
  | .sats _ w rd ra => (.satg, dSats w rd ra)
  | .satu _ w rd ra => (.satg, dSatu w rd ra)
  | .shli _ w rd ra sh => (.shi, dShli w rd ra sh)
  | .shri _ w rd ra sh => (.shi, dShri w rd ra sh)
  | .sari _ w rd ra sh => (.shi, dSari w rd ra sh)
  | .rori _ w rd ra sh => (.shi, dRori w rd ra sh)
  | .addi _ rd ra imm => (.imm, dAddi rd ra imm)
  | .andi _ rd ra imm => (.imm, dAndi rd ra imm)
  | .ori _ rd ra imm => (.imm, dOri rd ra imm)
  | .xori _ rd ra imm => (.imm, dXori rd ra imm)
  | .slti _ rd ra imm => (.imm, dSlti rd ra imm)
  | .sltiu _ rd ra imm => (.imm, dSltiu rd ra imm)
  | .liz _ rd hw imm => (.imm, dLiz rd hw imm)
  | .lik _ rd hw imm => (.imm, dLik rd hw imm)
  | .fadd _ f rd ra rb => (.fp, dFadd f rd ra rb)
  | .fsub _ f rd ra rb => (.fp, dFsub f rd ra rb)
  | .fmul _ f rd ra rb => (.fp, dFmul f rd ra rb)
  | .fdiv _ f rd ra rb => (.fp, dFdiv f rd ra rb)
  | .fsqrt _ f rd ra => (.fp, dFsqrt f rd ra)
  | .fmin _ f rd ra rb => (.fp, dFmin f rd ra rb)
  | .fmax _ f rd ra rb => (.fp, dFmax f rd ra rb)
  | .fneg _ f rd ra => (.fp, dFneg f rd ra)
  | .fabs _ f rd ra => (.fp, dFabs f rd ra)
  | .fsgn _ f rd ra rb => (.fp, dFsgn f rd ra rb)
  | .feq _ f rd ra rb => (.fp, dFeq f rd ra rb)
  | .flt _ f rd ra rb => (.fp, dFlt f rd ra rb)
  | .fle _ f rd ra rb => (.fp, dFle f rd ra rb)
  | .fun _ f rd ra rb => (.fp, dFun f rd ra rb)
  | .fcls _ f rd ra => (.fp, dFcls f rd ra)
  | .fcvf _ f rd ra => (.fp, dFcvf f rd ra)
  | .frndI32 _ f rd ra => (.fp, dFrndI32 f rd ra)
  | .frndI64 _ f rd ra => (.fp, dFrndI64 f rd ra)
  | .frndU32 _ f rd ra => (.fp, dFrndU32 f rd ra)
  | .frndU64 _ f rd ra => (.fp, dFrndU64 f rd ra)
  | .ftrcI32 _ f rd ra => (.fp, dFtrcI32 f rd ra)
  | .ftrcI64 _ f rd ra => (.fp, dFtrcI64 f rd ra)
  | .ftrcU32 _ f rd ra => (.fp, dFtrcU32 f rd ra)
  | .ftrcU64 _ f rd ra => (.fp, dFtrcU64 f rd ra)
  | .ifltI32 _ f rd ra => (.fp, dIfltI32 f rd ra)
  | .ifltI64 _ f rd ra => (.fp, dIfltI64 f rd ra)
  | .ifltU32 _ f rd ra => (.fp, dIfltU32 f rd ra)
  | .ifltU64 _ f rd ra => (.fp, dIfltU64 f rd ra)
  | .fmadS _ rd ra rb rc => (.fmag, dFmadS rd ra rb rc)
  | .fmadD _ rd ra rb rc => (.fmag, dFmadD rd ra rb rc)
  | .fmsbS _ rd ra rb rc => (.fmag, dFmsbS rd ra rb rc)
  | .fmsbD _ rd ra rb rc => (.fmag, dFmsbD rd ra rb rc)
  | .fnmaS _ rd ra rb rc => (.fmag, dFnmaS rd ra rb rc)
  | .fnmaD _ rd ra rb rc => (.fmag, dFnmaD rd ra rb rc)
  | .fnmsS _ rd ra rb rc => (.fmag, dFnmsS rd ra rb rc)
  | .fnmsD _ rd ra rb rc => (.fmag, dFnmsD rd ra rb rc)
  | .clamp _ rd ra rb rc => (.fmag, dClamp rd ra rb rc)
  | .clampu _ rd ra rb rc => (.fmag, dClampu rd ra rb rc)
  | .clampS _ rd ra rb rc => (.fmag, dClampS rd ra rb rc)
  | .clampD _ rd ra rb rc => (.fmag, dClampD rd ra rb rc)
  | .sel _ rd ra rb rc => (.fmag, dSel rd ra rb rc)
  | .lb _ rd ra imm => (.mem, dLb bus rd ra imm)
  | .lbu _ rd ra imm => (.mem, dLbu bus rd ra imm)
  | .lh _ rd ra imm => (.mem, dLh bus rd ra imm)
  | .lhu _ rd ra imm => (.mem, dLhu bus rd ra imm)
  | .lw _ rd ra imm => (.mem, dLw bus rd ra imm)
  | .lwu _ rd ra imm => (.mem, dLwu bus rd ra imm)
  | .ld _ rd ra imm => (.mem, dLd bus rd ra imm)
  | .sb _ rs ra imm => (.mem, dSb bus rs ra imm)
  | .sh _ rs ra imm => (.mem, dSh bus rs ra imm)
  | .sw _ rs ra imm => (.mem, dSw bus rs ra imm)
  | .sd _ rs ra imm => (.mem, dSd bus rs ra imm)
  | .amoSwap _ l rd ra rb => (.amo, dAmoSwap l rd ra rb)
  | .amoAdd _ l rd ra rb => (.amo, dAmoAdd l rd ra rb)
  | .amoAnd _ l rd ra rb => (.amo, dAmoAnd l rd ra rb)
  | .amoOr _ l rd ra rb => (.amo, dAmoOr l rd ra rb)
  | .amoXor _ l rd ra rb => (.amo, dAmoXor l rd ra rb)
  | .amoMin _ l rd ra rb => (.amo, dAmoMin l rd ra rb)
  | .amoMax _ l rd ra rb => (.amo, dAmoMax l rd ra rb)
  | .amoMinu _ l rd ra rb => (.amo, dAmoMinu l rd ra rb)
  | .amoMaxu _ l rd ra rb => (.amo, dAmoMaxu l rd ra rb)
  | .amoCas _ l rd ra rb rc => (.amo, dAmoCas l rd ra rb rc)
  | .bEq _ ra rb off => (.branch, dBEq ra rb off)
  | .bNe _ ra rb off => (.branch, dBNe ra rb off)
  | .bLt _ ra rb off => (.branch, dBLt ra rb off)
  | .bLe _ ra rb off => (.branch, dBLe ra rb off)
  | .bLtu _ ra rb off => (.branch, dBLtu ra rb off)
  | .bLeu _ ra rb off => (.branch, dBLeu ra rb off)
  | .jmpl _ rd off => (.branch, dJmpl rd off)
  | .jmpr _ rd ra imm => (.branch, dJmpr rd ra imm)
  | .bt _ ra bit off => (.branch, dBt ra bit off)
  | .bf _ ra bit off => (.branch, dBf ra bit off)
  | .mfsr _ rd sr => (.sysReg, dMfsr rd sr)
  | .mtsr _ sr ra => (.sysReg, dMtsr sr ra)
  | .srset _ rd sr ra => (.sysReg, dSrset rd sr ra)
  | .srclr _ rd sr ra => (.sysReg, dSrclr rd sr ra)
  | .scall _ code => (.sysCall, dScall code)
  | .brk _ code => (.sysCall, dBrk code)
  | .rte _ => (.sysReg, dRte)
  | .fence _ => (.sysReg, dFence)
  | .wfi _ => (.sysCanopy, dWfi)
  | .cflush _ ra => (.sysCanopy, dCflush ra)
  | .cinv _ ra => (.sysCanopy, dCinv ra)
  | .ldsigIn _ rd ra off => (.sig, dLdsigIn rd ra off)
  | .ldsigOut _ rd ra off => (.sig, dLdsigOut rd ra off)
  | .ldsigPrev _ rd ra off => (.sig, dLdsigPrev rd ra off)
  | .stsig _ rs ra off => (.sig, dStsig rs ra off)
  | .stsigQ _ rs ra off => (.sig, dStsigQ rs ra off)
  | .callfb _ ri off => (.sig, dCallfb ri off)
  | .retfb _ => (.sig, dRetfb)
  | .edgeRise _ rd ra bit boff => (.sig, dEdgeRise rd ra bit boff)
  | .edgeFall _ rd ra bit boff => (.sig, dEdgeFall rd ra bit boff)
  | .edgeChg _ rd ra bit boff => (.sig, dEdgeChg rd ra bit boff)
  | .edgePrev _ rd bit boff => (.sig, dEdgePrev rd bit boff)
  | .edgeSetp _ rd ra bit boff => (.sig, dEdgeSetp rd ra bit boff)
  | .ton _ rd ra rb woff => (.sig, dTon rd ra rb woff)
  | .tof _ rd ra rb woff => (.sig, dTof rd ra rb woff)
  | .tpl _ rd ra rb woff => (.sig, dTpl rd ra rb woff)
  | .tet _ rd rb woff => (.sig, dTet rd rb woff)
  | .ctu _ rd ra rb woff => (.sig, dCtu rd ra rb woff)
  | .ctd _ rd ra woff => (.sig, dCtd rd ra woff)
  | .cld _ rd rb woff => (.sig, dCld rd rb woff)
  | .trst _ rd woff => (.sig, dTrst rd woff)
  | .yieldTask _ => (.sig, dYieldTask)
  | .endtask _ => (.sig, dEndtask)
  | _ => illegalWord

/-- The meaning of an instruction word. -/
def wordSem (bus : Bus) (w : Word) : WordSem :=
  match denmaRow .helper w with
  | some i => rowSem bus i
  | none => illegalWord

end Sys2Proof.Machine
end

