-- ==== Sys2Proof/Machine/Switch.lean ====
section
/-! DEFINITION. Switching units on and off (01 R19 to R26, R420; 06 R159; 14 R373; 16 R404, R405): EN writes with what each kind of unit
adds, and the events of starts and stops. -/

namespace Sys2Proof.Machine

open Sys2Proof

/-- Bit of RDY_VEC that a unit must have before it may start (14 R373); the bits of the Groves follow their start. -/
def rdyNeeded : UnitId → Option Nat
  | .portS k => some (if k.val < 12 then 15 else 16)
  | .portP k => some (if k.val < 12 then 15 else 16)
  | .lane _ => some 17
  | .eth _ => some 11
  | .can _ => some 12
  | .lio c => some (13 + lioGroup c)
  | _ => none

def unitReady (s : State) (u : UnitId) : Bool :=
  match rdyNeeded u with
  | some i => wbit (s.rget RDY_VEC).toNat i
  | none => true

/-- Whether an engine of Grove g carries an enabled class of the active bank (06 R159). -/
def groveInUse (s : State) (g : Nat) : Bool :=
  (List.range 16).any fun c => classOn s c && (List.range 8).any fun i => classEng s c (8 * g + i)

/-- EN = 0 to a Grove in use: a Grove fault with STOPCMD, after which no recovery starts by itself (06 R159). -/
def stopCommand (s : State) (g : Fin 8) : State :=
  let t := isolate s g 0 GRV_STATUS_STOPCMD
  enterStopping ((t.setGrove g { t.grove g with start := 0 }).wr (GRV_EN g) U_EN 0) (.grove g)

/-- EN write to a Grove (06 R159, R170 to R172). -/
def enGrove (s : State) (g : Fin 8) (en : Bool) : State :=
  let st := s.unitState (.grove g)
  if en then
    if st = 0 ∧ (s.grove g).stuck = true then s.wr (GRV_EN g) U_FAIL 1
    else if st = 0 ∧ s.phase g = 1 ∧ s.on (GRV_STATUS g) GRV_STATUS_ISOLATED = true then
      (if parentOn s (.grove g) then cycleDomain (beginStep2 s g) g else s.wr (GRV_EN g) U_FAIL 1)
    else if st = 0 ∧ s.phase g = 2 then (if parentOn s (.grove g) then recoverStart s g else s.wr (GRV_EN g) U_FAIL 1)
    else enWriteBase s (.grove g) true
  else if (st = 1 ∨ st = 2) ∧ groveInUse s g = true then stopCommand s g
  else enWriteBase s (.grove g) false

/-- EN write to a domain (16 R405). -/
def enDomain (s : State) (d : Fin 12) (en : Bool) : State :=
  if h : d.val < 8 then
    let g : Fin 8 := ⟨d.val, h⟩
    if s.phase g = 2 ∨ s.phase g = 3 then s.wr (enAddr (.domain d)) U_FAIL 1
    else if en = false ∧ (s.unitState (.grove g) = 1 ∨ s.unitState (.grove g) = 2) ∧ groveInUse s g = true then enWriteBase (stopCommand s g) (.domain d) false
    else enWriteBase s (.domain d) en
  else enWriteBase s (.domain d) en

/-- A write of EN to the enable word of a unit (R21), with what the unit's chapter adds. -/
def enWrite (s : State) (u : UnitId) (en : Bool) : State :=
  if en ∧ s.unitState u = 0 ∧ unitReady s u = false then s.wr (enAddr u) U_FAIL 1
  else match u with
    | .grove g => enGrove s g en
    | .domain d => enDomain s d en
    | _ => enWriteBase s u en

/-- Time limit of a start in ns (R24 and the units' chapters). -/
def startLimit (s : State) : UnitId → Option Nat
  | .domain d => some (if d.val < 8 then 3000000 else 4000000)
  | .grove _ => some 10000000
  | .portS k => some (100000000 + s.rd (VGX_CFG k) VGX_CFG_CLOSE_HOLD * s.tickLen)
  | .portP k => some (100000000 + s.rd (VGX_CFG k) VGX_CFG_CLOSE_HOLD * s.tickLen)
  | .lane _ => some 500000000
  | .eth _ => some 2000000000
  | .ring _ _ => some 1000
  | .can _ => some 2000000000
  | .lio _ => some 100000000

/-- A start that has not reached ON within its limit fails (R24). -/
def startTimeout (s : State) (u : UnitId) : State :=
  let r := s.unit (enAddr u)
  match startLimit s u with
  | some l => if s.unitState u = 1 ∧ r.waiting = false ∧ r.started + l ≤ s.clk.mono then startFailed s u else s
  | none => s

/-- A stop completes (R22), with what it leaves in the unit. -/
def stopComplete (s : State) (u : UnitId) : State :=
  match u with
  | .can n =>
    if s.unitState u = 3 ∧ (s.canSt n).onBus.isNone then stopDone (canStopped n s) u else s
  | .eth n =>
    if s.unitState u = 3 ∧ (s.port n).medium.isNone then stopDone (linkDown n s) u else s
  | .ring n r =>
    if s.unitState u = 3 ∧ ((s.port n).medium.all fun f => f.ring != r.val) then
      stopDone (s.setNet n fun p => { p with buf := p.buf.filter fun f => f.ring != r.val }) u
    else s
  | .grove g => cycleDomain (stopDone s u) g
  | _ => stopDone s u

/-- A domain's rails are in regulation: ON (16 R404), and the units that it makes ready (14 R373). -/
def domainOn (s : State) (d : Fin 12) : State :=
  let u : UnitId := .domain d
  if s.unitState u = 1 ∧ (s.unit (enAddr u)).waiting = false then
    let t := startDone s u
    if h : d.val < 8 then recoverPowered t ⟨d.val, h⟩
    else ((rdyBits u).filter fun i => decide (i ≠ 13) && decide (i ≠ 14)).foldl setReady t
  else s

/-- A DMA ring's start: SIZE 4 to 12 and a BASE in the address map; HEAD becomes 0 (12 R320, R327). -/
def ringStarted (s : State) (n : Fin 4) (r : Fin 16) : State :=
  let size := s.rd (ETH_RING_CFG n r) ETH_RING_CFG_SIZE
  if s.unitState (.ring n r) = 1 then
    if 4 ≤ size ∧ size ≤ 12 ∧ (mapOf (ringBase s n r)).isSome then
      startDone (s.wr (ETH_RING_HEAD n r) ETH_RING_HEAD_HEAD 0) (.ring n r)
    else startFailed s (.ring n r)
  else s

/-- A pair lane has trained and held block lock for 1 ms (10 R263). -/
def laneTrained (s : State) (l : Fin 2) : State := startDone s (.lane l)

/-- A pair lane is interrupted: the event is counted (10 R263, PAR_PLCNT). -/
def laneFail (s : State) (l : Nat) (why : LaneFail) : State :=
  let i := match why with
    | .fec => 1
    | .block => 2
    | .lock => 3
  s.bump (PAR_PLCNT l i) PAR_PLCNT_COUNT 1

/-- RECOV_WINDOW_EXPIRY: attempts that have left the window no longer count (06 R171). -/
def recovWindow (s : State) (g : Nat) : State :=
  let a := recentAttempts s g
  (s.setGrove g { s.grove g with attempts := a }).wr (GRV_STATUS g) GRV_STATUS_RECOV_CNT a.length

/-! ### Meanings -/

/-- EN_WRITE (R21). -/
def execEnWrite (_m : Master) (u : UnitId) (en : Bool) (s : State) : Out3 := .next (enWrite s u en)
/-- The off-time of a unit is over: a start that waited for it begins (R420), and the domain of a recovering Grove is switched on (06 R170). -/
def minOffOver (s : State) (u : UnitId) : State :=
  match u with
  | .domain d => if h : d.val < 8 then beginStart (domainAgain s ⟨d.val, h⟩) u else beginStart s u
  | _ => beginStart s u

/-- MIN_OFF_ELAPSED (R420). -/
def execMinOffElapsed (u : UnitId) (s : State) : Out3 := .next (minOffOver s u)
/-- START_TIMEOUT (R24). -/
def execStartTimeout (u : UnitId) (s : State) : Out3 := .next (startTimeout s u)
/-- STOP_COMPLETE (R22). -/
def execStopComplete (u : UnitId) (s : State) : Out3 := .next (stopComplete s u)
/-- DOMAIN_IN_REGULATION (16 R404). -/
def execDomainInRegulation (d : Fin 12) (s : State) : Out3 := .next (domainOn s d)
/-- DOMAIN_DISCHARGED (16 R404). -/
def execDomainDischarged (d : Fin 12) (s : State) : Out3 := .next (stopDone s (.domain d))
/-- LANE_TRAINED (10 R263). -/
def execLaneTrained (l : Fin 2) (s : State) : Out3 := .next (laneTrained s l)
/-- DMA_RING_STARTED (12 R327). -/
def execDmaRingStarted (n : Fin 4) (r : Fin 16) (s : State) : Out3 := .next (ringStarted s n r)
/-- LANE_BLOCK_LOCK_LOSS (10 R263). -/
def execLaneBlockLockLoss (l : Fin 2) (why : LaneFail) (s : State) : Out3 := .next (laneFail s l why)
/-- RECOV_WINDOW_EXPIRY (06 R171). -/
def execRecovWindowExpiry (g : Fin 8) (s : State) : Out3 := .next (recovWindow s g)

end Sys2Proof.Machine
end

