-- ==== Sys2Proof/Machine/Recorder.lean ====
section
/-! DEFINITION. The event recorder (15 R391 to R398): records as bytes, writing and delivering them, the scan, the operating seconds, and the
power-fail completion. -/

namespace Sys2Proof.Machine

open Sys2Proof

/-- Transfers of the recorder: master 0x49, attributes 0b010. -/
def evrXfer (s : State) : Xfer := mattrXfer s 0x49 2

/-- Address of slot n (R391). -/
def evrSlot (n : Nat) : Nat := 0x0400080000 + 248 * n

/-- A record's bytes 0 to 243 (R392). -/
def recordBytes (r : EvRec) (seq lost : Nat) : List Byte :=
  let l := leBytes 4 seq ++ leBytes 2 r.source ++ leBytes 2 r.bit ++ leBytes 4 r.short.toNat ++ leBytes 6 r.sec ++ leBytes 4 r.ns
    ++ leBytes 2 r.epoch ++ leBytes 8 r.tick ++ leBytes 4 r.opsec ++ leBytes 4 r.pwrcyc ++ leBytes 1 r.state ++ leBytes 1 r.snap.length
    ++ leBytes 2 ((if r.pfail then 1 else 0) + (if lost = 0 then 0 else 2)) ++ leBytes 4 r.reg ++ leBytes 4 r.trel ++ leBytes 4 r.detail.toNat
    ++ leBytes 4 lost ++ r.snap.flatMap fun e => leBytes 4 e.1 ++ leBytes 4 e.2.toNat
  l ++ List.replicate (244 - l.length) 0#8

/-- A recorder access has received an error response: RUN clears, WERR is set (R396). -/
def evrFail (s : State) : State := (s.wr EVR_CTRL EVR_CTRL_RUN 0).raise 15 EVR_STATUS EVR_STATUS_WERR

/-- Writes of the recorder, in order; the first error ends them. Answers whether all were done. -/
def evrWrites (s : State) : List (Nat × List Byte) → Bool × State
  | [] => (true, s)
  | (a, l) :: rest =>
    match dmaWrite s (evrXfer s) a l with
    | (none, t) => evrWrites t rest
    | (some _, t) => (false, evrFail t)

/-- Recorder state of 64 bytes: SEQ, OPSEC, PWRCYC, zeros, CRC and MARK (the fields' places: notes/assumptions/41). -/
def evrState (s : State) : Option (Nat × List Byte) := recChoose 56 (s.bytes 0x0400002000 64) (s.bytes 0x0400002040 64)

/-- The recorder stores its state into the other copy, as an update state record is written (R396, R397). -/
def evrStore (s : State) : Bool × State :=
  let (c, seq) := match evrState s with
    | some (0, l) => (1, le l 0 4)
    | some (_, l) => (0, le l 0 4)
    | none => (0, 0)
  let a := 0x0400002000 + c * 64
  let l := recSeal 56 (leBytes 4 seq ++ leBytes 4 (s.rd EVR_OPSEC EVR_OPSEC_OPSEC) ++ leBytes 4 (s.rd EVR_PWRCYC EVR_PWRCYC_PWRCYC)
    ++ List.replicate 44 0#8)
  evrWrites s [(a + 60, leBytes 4 0), (a, l.take 60), (a + 60, l.drop 60)]

/-- Whether the recorder writes MRAM. -/
def evrRuns (s : State) : Bool := s.on EVR_CTRL EVR_CTRL_RUN && s.on EVR_STATUS EVR_STATUS_SCANNED

/-- A record of the recorder itself (SOURCE 0x101). -/
def evrOwn (s : State) (bit : Nat) : EvRec := { evrRecord s 0x101 bit 0 0#32 [] with pfail := s.evr.pf }

/-- Replace the queue. -/
def State.setQueue (s : State) (q : List EvRec) : State :=
  ({ s with evr := { s.evr with queue := q } }).wr EVR_STATUS EVR_STATUS_QDEPTH (min 64 q.length)

/-- SEQ after n: it wraps and skips 0. -/
def seqAfter (n : Nat) : Nat := if (n + 1) % 2 ^ 32 = 0 then 1 else (n + 1) % 2 ^ 32

/-- RECORD_WRITTEN: the oldest record goes into slot HEAD (R395); after the PWRFAIL record the state is stored and PFDONE is set (R398). -/
def recordWritten (s : State) : State :=
  match s.evr.queue with
  | [] => s
  | r :: rest =>
    if evrRuns s = false then s
    else
      let seq := (s.rget EVR_NEXT).toNat
      let pwr := r.source == 0x101 && r.bit == 1
      let lost := if pwr then s.evr.pfLost else s.evr.lost
      let a := evrSlot (s.rd EVR_HEAD EVR_HEAD_SLOT)
      match evrWrites s [(a + 244, leBytes 4 0), (a, recordBytes { r with pfail := s.evr.pf } seq lost), (a + 244, leBytes 4 seq)] with
      | (false, t) => t
      | (true, t) =>
        let t := (t.setQueue rest).count { code := 0x44 } 1
        let t := { t with evr := { t.evr with lost := if pwr then t.evr.lost else 0 } }
        let t := (t.rset EVR_NEXT (BitVec.ofNat 32 (seqAfter seq))).wr EVR_HEAD EVR_HEAD_SLOT (s.rd EVR_HEAD EVR_HEAD_SLOT + 1)
        if pwr then
          match evrStore t with
          | (true, u) => u.wr EVR_STATUS EVR_STATUS_PFDONE 1
          | (false, u) => u
        else t

/-- Slots of which a byte is listed: every other slot reads 0 and holds no record. -/
def evrListed (s : State) : List Nat :=
  (s.mem.filterMap fun e => if evrSlot 0 ≤ e.1 ∧ e.1 < evrSlot 65536 then some ((e.1 - evrSlot 0) / 248) else none).dedup

/-- SEQ of the record that a slot holds, if it holds one (R395). -/
def slotSeq (s : State) (n : Nat) : Option Nat :=
  let q := leVal (s.bytes (evrSlot n) 4)
  if q ≠ 0 ∧ leVal (s.bytes (evrSlot n + 244) 4) = q then some q else none

/-- Slot and SEQ of the record with the greatest SEQ. -/
def evrNewest (s : State) : Option (Nat × Nat) :=
  (evrListed s).foldl (fun best n =>
    match slotSeq s n, best with
    | some q, some (_, b) => if 0 < (BitVec.ofNat 32 q - BitVec.ofNat 32 b).toInt then some (n, q) else best
    | some q, none => some (n, q)
    | none, _ => best) none

/-- Slots at which the answer of the MRAM gate (19) may change: those around a bound of an enabled entry. -/
def evrEdges (s : State) : List Nat :=
  let t := s.rd (GATE_STATUS 19) GATE_STATUS_TBANK
  ((List.range 32).flatMap fun n =>
    if s.on (GATE_CTL 19 t n) GATE_CTL_EN then
      [s.rd64 (GATE_BASE_LO 19 t n) (GATE_BASE_HI 19 t n), s.rd64 (GATE_LIMIT_LO 19 t n) (GATE_LIMIT_HI 19 t n)].flatMap fun b =>
        let i := (b - evrSlot 0) / 248
        [i - 1, i, i + 1]
    else []).filter (· < 65536)

/-- Whether the recorder may read its state and every slot: the gate answers alike between two slots of `evrEdges`. -/
def evrMayScan (s : State) : Bool :=
  admitted s .read (evrXfer s) 0x0400002000 64 && admitted s .read (evrXfer s) 0x0400002040 64
    && ([0, 65535] ++ evrEdges s).all fun n =>
      admitted s .read (evrXfer s) (evrSlot n) 4 && admitted s .read (evrXfer s) (evrSlot n + 244) 4

/-- EVR_CTRL.RUN is set; the first time after D1's start the recorder scans MRAM (R396). -/
def evrRun (s : State) : State :=
  let s := s.wr EVR_CTRL EVR_CTRL_RUN 1
  if s.on EVR_STATUS EVR_STATUS_SCANNED then s
  else if evrMayScan s = false then evrFail s
  else
    let (ops, pwr) := match evrState s with
      | some (_, l) => (le l 4 4, le l 8 4)
      | none => (0, 0)
    let (head, next) := match evrNewest s with
      | some (n, q) => ((n + 1) % 65536, seqAfter q)
      | none => (0, 1)
    let s := ((s.wr EVR_HEAD EVR_HEAD_SLOT head).rset EVR_NEXT (BitVec.ofNat 32 next)).wr EVR_STATUS EVR_STATUS_SCANNED 1
    let s := (s.wr EVR_OPSEC EVR_OPSEC_OPSEC (s.rd EVR_OPSEC EVR_OPSEC_OPSEC + ops)).wr EVR_PWRCYC EVR_PWRCYC_PWRCYC (pwr + 1)
    let (_, s) := evrStore s
    s.setQueue (evrOwn s 0 :: s.evr.queue)

/-- EVR_CMD.SWREC (R393). -/
def swRecord (s : State) : State :=
  s.enqueue (evrRecord s 0x100 0xFFFF (s.rd EVR_SW_CODE EVR_SW_CODE_CODE) (s.rget EVR_SW_DATA) (evrSnap s (s.rd EVR_SW_CODE EVR_SW_CODE_LIST)))

/-- OPSEC_STORE (R397). -/
def opsecStore (s : State) : State := if evrRuns s then (evrStore s).2 else s

/-- A write of EVR_RD_SLOT delivers the slot's record into EVR_RD_DATA (R392, R395). -/
def rdSlot (s : State) (n : Nat) : State :=
  let s := s.wr EVR_RD_SLOT EVR_RD_SLOT_SLOT n
  match dmaRead s (evrXfer s) (evrSlot n) 248 with
  | (l, none, t) =>
    let full := l ++ leBytes 4 n ++ leBytes 4 0
    let t := (List.range 64).foldl (fun u w => u.rset (EVR_RD_DATA w) (BitVec.ofNat 32 (le full (4 * w) 4))) t
    t.flag EVR_RD_SLOT EVR_RD_SLOT_VALID (slotSeq t n).isSome
  | (_, some _, t) => evrFail (t.wr EVR_RD_SLOT EVR_RD_SLOT_VALID 0)

/-- The power-fail warning: no further trigger, and the PWRFAIL record behind the queue (R398). -/
def evrPowerFail (s : State) : State :=
  let t := { s with evr := { s.evr with pf := true, pfLost := 0 } }
  t.setQueue (t.evr.queue ++ [evrOwn t 1])

/-! ### Meanings -/

/-- SWREC (R393). -/
def execSwrec (_m : Master) (s : State) : Out3 := .next (swRecord s)
/-- RECORD_WRITTEN (R395). -/
def execRecordWritten (s : State) : Out3 := .next (recordWritten s)
/-- RUN (R396). -/
def execRun (_m : Master) (s : State) : Out3 := .next (evrRun s)
/-- OPSEC_STORE (R397). -/
def execOpsecStore (s : State) : Out3 := .next (opsecStore s)
/-- RD_SLOT_WRITE (R392). -/
def execRdSlotWrite (_m : Master) (slot : BitVec 16) (s : State) : Out3 := .next (rdSlot s slot.toNat)

end Sys2Proof.Machine
end

