-- ==== Sys2Proof/Machine/Power.lean ====
section
/-! DEFINITION. Power, temperature, tamper, insertion and the ejector (16 R401 to R411). -/

namespace Sys2Proof.Machine

open Sys2Proof

/-- The OK bit of a feed. -/
def feedOk : Nat → Fld
  | 0 => PWR_STATUS_FEED1_OK
  | _ => PWR_STATUS_FEED2_OK

/-- A feed measured at v × 10 mV and c × 10 mA (R402): below 18.0 V its OK bit clears, from 18.5 V on it is set. -/
def feedMeasure (s : State) (i v c : Nat) : State :=
  let s := (s.wr (PWR_FEED i) PWR_FEED_VOLTAGE v).wr (PWR_FEED i) PWR_FEED_CURRENT c
  if v < 1800 then
    (s.wr PWR_STATUS (feedOk i) 0).raise 6 PWR_EVT PWR_EVT_FEEDLOW
  else if 1850 ≤ v then s.wr PWR_STATUS (feedOk i) 1 else s

/-- The power-fail warning (R402, 15 R398). -/
def powerFail (s : State) : State :=
  if s.on PWR_STATUS PWR_STATUS_PFW then s
  else
    let s := (s.wr PWR_STATUS PWR_STATUS_PFW 1).raise 6 PWR_EVT PWR_EVT_PFW
    evrPowerFail { s with pwr := { s.pwr with pfwAt := s.clk.mono } }

/-- The OR-ed input has stayed at or above 18.5 V for 1 ms (R402). -/
def powerFailEnd (s : State) : State :=
  if s.on PWR_STATUS PWR_STATUS_PFW then
    let t := { s with evr := { s.evr with pf := false } }
    (t.wr PWR_STATUS PWR_STATUS_PFW 0).raise 6 PWR_EVT PWR_EVT_PFW_END
  else s

/-- PFW has been set for PF_LEAVE ms (R403). -/
def pfLeave (s : State) : State :=
  if s.on PWR_STATUS PWR_STATUS_PFW ∧ s.pwr.pfwAt + s.rd PWR_CFG PWR_CFG_PF_LEAVE * 1000000 ≤ s.clk.mono then leaveAndReset s 1 else s

/-- D1 fails: the module is off, without LEAVE (R403). -/
def holdupGone (s : State) : State := moduleReset s 4

/-- What holds the module in reset ends: it boots with everything at its reset value (R403, R406). -/
def release (s : State) (cause : Nat) : State := if s.pwr.held = cause then moduleReset s 0 else s

/-- The OR-ed input has returned: a module that it held, or whose D1 had failed, boots (R403). -/
def powerReturn (s : State) : State := release (release s 1) 4

/-- The hottest die sensor and the inlet sensor in units of 0.125 °C (R406). -/
def tempMeasure (s : State) (die inlet : BitVec 16) : State :=
  let s := (s.wr PWR_TEMP PWR_TEMP_DIE die.toNat).wr PWR_TEMP PWR_TEMP_INLET inlet.toNat
  let d := die.toInt
  if 880 ≤ d then
    (if s.on PWR_STATUS PWR_STATUS_TWARN then s else (s.wr PWR_STATUS PWR_STATUS_TWARN 1).raise 6 PWR_EVT PWR_EVT_TWARN)
  else if d ≤ 840 then s.wr PWR_STATUS PWR_STATUS_TWARN 0 else s

/-- At 125 °C: LEAVE, an event record, TSHUT, and the reset in which the module is held (R406). -/
def overTemp (s : State) (die inlet : BitVec 16) : State :=
  let s := tempMeasure s die inlet
  if 1000 ≤ die.toInt then leaveAndReset ((s.wr PWR_STATUS PWR_STATUS_TSHUT 1).eventReg 6 PWR_STATUS PWR_STATUS_TSHUT) 2 else s

/-- The die below 90 °C releases the over-temperature reset (R406); the sensors are read in the booted module. -/
def tempRecovered (s : State) (die inlet : BitVec 16) : State :=
  tempMeasure (if die.toInt < 720 then release s 2 else s) die inlet

/-- The tamper latch trips (R408). -/
def tamperTrip (s : State) : State := (s.raise 13 HWD_STATUS HWD_STATUS_TAMPER).wr TIM_STATUS TIM_STATUS_RTC_VALID 0

/-- PARTNER_PRESENT_N (R410). -/
def presence (s : State) (p : Bool) : State :=
  if s.on PWR_STATUS PWR_STATUS_PPRES = p then s else (s.flag PWR_STATUS PWR_STATUS_PPRES p).raise 6 PWR_EVT PWR_EVT_PPRES

/-- ENABLE rises: the ramp starts (R410). -/
def enableRise (s : State) : State := if s.pwr.enable then s else { s with pwr := { s.pwr with enable := true, ramp := true } }

/-- The ramp is complete: conversion starts and the module reset is released (R410). -/
def rampDone (s : State) (strapB : Bool) : State :=
  if s.pwr.enable ∧ s.pwr.ramp then
    moduleReset { s with pwr := { s.pwr with ramp := false, strapB := strapB } } 0
  else s

/-- ENABLE falls: reset at once, nothing further is sent (R410). -/
def enableFall (s : State) : State :=
  if s.pwr.enable then moduleReset { s with pwr := { s.pwr with enable := false, ramp := false } } 3 else s

/-- The ejector switch (R411). -/
def ejector (s : State) (opened : Bool) : State :=
  if opened then
    if s.on PWR_STATUS PWR_STATUS_EJECT then s
    else
      let t := (s.wr PWR_STATUS PWR_STATUS_EJECT 1).raise 6 PWR_EVT PWR_EVT_EJECT
      if t.on PWR_CFG PWR_CFG_EJECT_LEAVE then leaveAndReset t 0 else t
  else s.wr PWR_STATUS PWR_STATUS_EJECT 0

/-! ### Status LEDs (R419)

Where the states of two columns hold at once, the graver shows: red before amber before green (notes/assumptions/84). -/

/-- PWR: whether D1 is powered, PFW, the feeds. -/
def ledPwr (s : State) : Led :=
  if s.pwr.held = 4 ∨ s.pwr.enable = false ∨ s.pwr.ramp = true then .off
  else if s.on PWR_STATUS PWR_STATUS_PFW then .amberFlash
  else if s.on PWR_STATUS (feedOk 0) && s.on PWR_STATUS (feedOk 1) then .green
  else .amber

/-- ROLE: the role state. -/
def ledRole (s : State) : Led :=
  match s.role with
  | .booting => .off
  | .alone => .green
  | .active => .green
  | .solo => .green
  | .standby => .greenFlash
  | .stopped => .amber
  | .isolated => .amber
  | .maintenance => .amber
  | .syncing => .amberFlash
  | .faulted => .red

/-- PAIR: the partner and the paths to it. -/
def ledPair (s : State) : Led :=
  let l := s.on HB_STATUS HB_STATUS_PATH_L
  let h := s.on HB_STATUS HB_STATUS_PATH_H
  if s.on PWR_STATUS PWR_STATUS_PPRES = false then .off
  else if l && h then .green
  else if l || h then .amber
  else .red

/-- FLT: NOBOOT and RETIRED, temperature and tamper, a trial boot. -/
def ledFlt (s : State) : Led :=
  if s.on HWD_STATUS HWD_STATUS_NOBOOT || s.rd HWD_STATUS HWD_STATUS_LIFECYCLE == 2 then .red
  else if s.on PWR_STATUS PWR_STATUS_TWARN || s.on HWD_STATUS HWD_STATUS_TAMPER then .amber
  else if trialRuns s then .greenFlash
  else .off

/-- The front panel: dark while D1 is not powered. -/
def statusLeds (s : State) : Leds :=
  if ledPwr s = .off then ⟨.off, .off, .off, .off⟩ else ⟨ledPwr s, ledRole s, ledPair s, ledFlt s⟩

/-! ### Meanings -/

/-- FEEDLOW (R402): a feed measured in units of 10 mV and 10 mA. -/
def execFeedlow (i : Fin 2) (x : FeedReading) (s : State) : Out3 :=
  .next (if x.v.toNat < 1800 then feedMeasure s i x.v.toNat x.cur.toNat else s)
/-- FEED_RESTORED (R402). -/
def execFeedRestored (i : Fin 2) (x : FeedReading) (s : State) : Out3 :=
  .next (if 1800 ≤ x.v.toNat then feedMeasure s i x.v.toNat x.cur.toNat else s)
/-- PFW (R402). -/
def execPfw (s : State) : Out3 := .next (powerFail s)
/-- PFW_END (R402). -/
def execPfwEnd (s : State) : Out3 := .next (powerFailEnd s)
/-- PF_LEAVE_EXPIRY (R403). -/
def execPfLeaveExpiry (s : State) : Out3 := .next (pfLeave s)
/-- HOLDUP_EXHAUSTED (R403). -/
def execHoldupExhausted (s : State) : Out3 := .next (holdupGone s)
/-- POWER_RETURN (R403). -/
def execPowerReturn (s : State) : Out3 := .next (powerReturn s)
/-- TWARN (R406): die and inlet temperature in units of 0.125 °C. -/
def execTwarn (x : TempReading) (s : State) : Out3 := .next (tempMeasure s x.die x.inlet)
/-- TSHUT (R406). -/
def execTshut (x : TempReading) (s : State) : Out3 := .next (overTemp s x.die x.inlet)
/-- TEMP_RECOVERED (R406). -/
def execTempRecovered (x : TempReading) (s : State) : Out3 := .next (tempRecovered s x.die x.inlet)
/-- TAMPER (R408). -/
def execTamper (s : State) : Out3 := .next (tamperTrip s)
/-- PRESENT_N_CHANGE (R410). -/
def execPresentNChange (present : Bool) (s : State) : Out3 := .next (presence s present)
/-- ENABLE_RISE (R410). -/
def execEnableRise (s : State) : Out3 := .next (enableRise s)
/-- RAMP_COMPLETE (R410). -/
def execRampComplete (strapB : Bool) (s : State) : Out3 := .next (rampDone s strapB)
/-- ENABLE_FALL (R410). -/
def execEnableFall (s : State) : Out3 := .next (enableFall s)
/-- EJECT (R411). -/
def execEject (opened : Bool) (s : State) : Out3 := .next (ejector s opened)

end Sys2Proof.Machine
end

