-- ==== Sys2Proof/Machine/PairX.lean ====
section
/-! DEFINITION. The pair (chapter 10), second part: the role change, input agreement, output digests and the joint decisions they carry, the
output gate, repair, and the messages REPAIR_REQ, LINES and FORCE. -/

namespace Sys2Proof.Machine

open Sys2Proof

/-! ### The role change (R259, R261) -/

/-- What leaving a role and entering one brings with it besides `setRole`. -/
def enterRole (s : State) (r : Role) (epoch : Option Nat) : State :=
  let old := s.role
  let t := setRole s r epoch
  let t := if old = .syncing then t.wr PAR_COPP PAR_COPP_PHASE 0 else t
  let t := if old = .syncing ∧ r = .standby then parEvt t PAR_EVT_COPP_DONE else t
  let t := if r = .syncing then
      (t.wr PAR_COPP PAR_COPP_PHASE 2).setPair fun p => { p with timeSet := false, coppTicks := 0, bulk := 0, joinOk := false, taking := false }
    else t
  let t := if (old = .active ∧ r = .standby) ∨ (old = .standby ∧ r = .active) then
      (parEvt t PAR_EVT_SWAP_DONE).setPair fun p => { p with swap := none }
    else if r = .active ∨ r = .standby then t else swapAbort t
  let t := if (old = .active ∧ r = .standby) ∨ (old = .standby ∧ r = .active) then
      (t.wr PAR_CMDSTAT PAR_CMDSTAT_SWAP_PEND 0).wr PAR_CMDSTAT PAR_CMDSTAT_SWAP_COMMIT 0 else t
  let t := if old = .standby then t.wr PAR_STATUS PAR_STATUS_LANE_MUTE 0 else laneMute t
  let t := if r = .standby then t.wr TIM_SRC TIM_SRC_SRC 3 else t
  let t := t.setPair fun p => { p with
    stopReq := false, parStop := false, restartReq := false, parRestart := false, accept := false, handover := false, joinOk := false,
    repair := none, source := if r.master then p.source && r != .active else false, asked := false }
  if r = .active ∧ (old = .alone ∨ old = .solo) ∧ (t.chgState = 3 ∨ t.chgState = 4) then
    sendLane t (.stage (.pkg t.chg.staged []))
  else t

/-! ### Input agreement (R273 to R276) -/

/-- Section of ring k in INAGREE_DIG (R273). -/
def digSection (s : State) (k : Fin 24) : DigSection :=
  let r := s.ring k
  let thru := ringThru s k
  let ds := match r.sched with
    | none => []
    | some c =>
      if thru then c.stations.map fun d => (r.thruAcc.find? fun e => e.1 == d.num).map Prod.snd
      else (inSlots c).map fun x => (r.acc.find? fun e => e.1 == x.num).map Prod.snd
  ⟨k, thru, ds⟩

/-- The module's INAGREE_DIG. -/
def inDigNow (s : State) : InDig :=
  { tick := BitVec.ofNat 64 s.seq.tick, lmask := s.lio.sampled, localEntries := (List.range 32).map fun c => imageWord s 0 (lioSig s c),
    sections := ((List.finRange 24).filter fun k => s.isOn (.portS k)).map (digSection s) }

/-- Entry of a digest message: ring, through-frame, index. -/
abbrev DigKey := Nat × Bool × Nat

/-- Entries present in a digest message, with their digests. -/
def digEntries (d : InDig) : List (DigKey × Word) :=
  d.sections.flatMap fun x => x.digests.zipIdx.filterMap fun e => e.1.map fun w => ((x.ring.val, x.thru, e.2), w)

/-- X_M: what the tick master holds and the other module lacks or holds otherwise (R274). -/
def setXM (m o : InDig) : List DigKey := ((digEntries m).filter fun e => !(digEntries o).contains e).map Prod.fst

/-- X_O: what only the other module holds. -/
def setXO (m o : InDig) : List DigKey := ((digEntries o).filter fun e => !(digEntries m).any fun f => f.1 == e.1).map Prod.fst

/-- X_M and X_O as this module sees them. -/
def setsX (s : State) : List DigKey × List DigKey :=
  match s.pair.ownIn, s.pair.parIn with
  | some a, some b => if s.role.master then (setXM a b, setXO a b) else (setXM b a, setXO b a)
  | _, _ => ([], [])

/-- Station and signals of an entry. -/
def keyItem (s : State) (e : DigKey) : Nat × List Nat :=
  match (s.ring e.1).sched with
  | none => (0, [])
  | some c =>
    if e.2.1 then
      match c.stations[e.2.2]? with
      | some d => (d.num, (stnInSlots c d.num).flatMap SlotDef.sigs)
      | none => (0, [])
    else
      match (inSlots c)[e.2.2]? with
      | some x => (x.owner, x.sigs)
      | none => (0, [])

def keySigs (s : State) (l : List DigKey) : List Nat := l.flatMap fun e => (keyItem s e).2

/-- DISAGREED is set in an input entry. -/
def disagree (s : State) (i : Nat) : State := s.setEntry 0 i { s.entry 0 i with status := (s.entry 0 i).status ||| 0x40#8 }

/-- The agreement completes once the partner's digest is held and its data, if there is any, has been written (R275). -/
def agreeDone (s : State) : State :=
  let (xm, xo) := setsX s
  let theirs := if s.role.master then xo else xm
  if s.pair.ownIn.isSome ∧ s.pair.parIn.isSome ∧ (theirs.isEmpty ∨ s.pair.inData) then s.setPair fun p => { p with inDone := true } else s

/-- The partner's local entry of channel c (R276): its own signal, or of a paralleled channel the one signal of both, agreed like a ring entry:
the tick master's entry prevails, the only entry where one module alone has sampled the channel, and DISAGREED is set when the two differ. -/
def localTake (a d : InDig) (s : State) (c : Nat) : State :=
  let mine := a.lmask.getLsbD c
  let theirs := d.lmask.getLsbD c
  let e := entryOfBits s.seq.tick (d.localEntries.getD c 0#64)
  let i := lioParSig s c
  if lioPar s c = false then (if theirs then writeEntry s 0 i e else s)
  else
    let o := s.entry 0 i
    let differ := mine != theirs || (theirs && (o.value != e.value || (o.status &&& 0xBF#8) != (e.status &&& 0xBF#8)))
    let t := if theirs && !(mine && s.role.master) then writeEntry s 0 i e else s
    if differ then disagree t i else t

/-- Both digests are held: the local entries are agreed, the two sets counted, and the own data sent (R274, R276). -/
def agreeStep (s : State) : State :=
  match s.pair.ownIn, s.pair.parIn with
  | some a, some d =>
    let s := (List.range 32).foldl (localTake a d) s
    let (xm, xo) := setsX s
    let s := (s.bump PAR_DIS_CNT PAR_DIS_CNT_COUNT (xm.length + xo.length)).count { code := 0x43 } (xm.length + xo.length)
    let sigs := keySigs s (if s.role.master then xm else xo)
    let recs := sigs.map fun i => (⟨BitVec.ofNat 17 i, imageWord s 0 i⟩ : SigRec)
    let s := if sigs.isEmpty then s else sendLane s (.inagreeData recs)
    agreeDone (sigs.foldl disagree s)
  | _, _ => s

/-- A module takes part in the agreement while it computes the program in locked mode. -/
def agrees (s : State) : Bool := computes s && !s.freeMode

/-- A repair that has not been written by PXCH INAGREE fails (R282): a Grove-level Coppice of the Groves of E, or SYNCING. -/
def repairCheck (s : State) : State :=
  match s.pair.repair with
  | none => s
  | some r =>
    let t := s.setPair fun p => { p with repair := none }
    if r.done then t
    else
      let t := parEvt t PAR_EVT_REPAIR_FAIL
      let gs := (List.finRange 8).filter fun g => r.engs / 2 ^ (8 * g.val) % 256 != 0
      if gs.isEmpty then beginJoin t
      else
        let t := gs.foldl (fun (u : State) g =>
          if u.on (GRV_STATUS g) GRV_STATUS_RESYNC then u
          else
            let u := (List.range 8).foldl (fun v i =>
              if v.rd (ENG_STATUS (8 * g + i)) ENG_STATUS_STATE = 3 then v else v.wr (ENG_STATUS (8 * g + i)) ENG_STATUS_STATE 4) u
            let u := ((u.wr (GRV_STATUS g) GRV_STATUS_ISOLATED 1).wr (GRV_STATUS g) GRV_STATUS_RESYNC 1).setPhase g 5
            u.setGrove g { u.grove g with hold := true, conv := 0 }) t
        updateHold (t.wr PAR_COPP PAR_COPP_GROVE 1)

/-- PXCH INAGREE (R273, R282). -/
def pxchInagree (s : State) : State :=
  let s := repairCheck s
  let s := { s with seq := { s.seq with agree := true } }
  if agrees s then
    let d := inDigNow s
    agreeStep (sendLane (s.setPair fun p => { p with ownIn := some d }) (.inagreeDig d))
  else s.setPair fun p => { p with inDone := true }

/-- INAGREE_DIG received (R274). -/
def inagreeDigRecv (h : Hdr) (d : InDig) (s : State) : State :=
  if ofTick s h = false ∨ d.tick.toNat ≠ s.seq.tick ∨ agrees s = false ∨ s.pair.inDone ∨ s.pair.parIn.isSome then s
  else agreeStep (s.setPair fun p => { p with parIn := some d })

/-- A record of INAGREE_DATA written: VALUE, STATUS with DISAGREED, refresh tick by its AGE. -/
def recTake (s : State) (r : SigRec) : State :=
  let e := entryOfBits s.seq.tick r.entry
  s.setEntry 0 r.sig.toNat { e with status := e.status ||| 0x40#8 }

/-- INAGREE_DATA received (R274, R275): stations whose inputs it brings count as refreshed (09 R257). -/
def inagreeDataRecv (h : Hdr) (l : List SigRec) (s : State) : State :=
  if ofTick s h = false ∨ agrees s = false ∨ s.pair.inDone ∨ s.pair.ownIn.isNone ∨ s.pair.parIn.isNone ∨ s.pair.inData then s
  else
    let (xm, xo) := setsX s
    let theirs := if s.role.master then xo else xm
    let t := l.foldl recTake s
    let t := theirs.foldl (fun u e => ringFresh u e.1 (keyItem u e).1) t
    agreeDone (t.setPair fun p => { p with inData := true })

/-- Signals of the partner's channels turn STALE when its digest is missing (R276). -/
def staleLocal (s : State) : State :=
  (List.range 32).foldl (fun t c =>
    let i := lioParSig t c
    let d := t.descOf i
    if lioPar t c || i == lioSig t c || descDir d || descType d == 0 then t else staleInput t i) s

/-- PAR_INEND: an agreement that has not completed ends (R275). -/
def inendEnd (s : State) : State :=
  if s.pair.ownIn.isNone ∨ s.pair.inDone then s
  else
    let t := s.setPair fun p => { p with inDone := true }
    if s.pair.parIn.isNone then parEvt (staleLocal (t.setPair fun p => { p with noagree := true })) PAR_EVT_NOAGREE
    else parEvt (t.setPair fun p => { p with agreeInc := true }) PAR_EVT_AGREE_INC

/-! ### Output digests (R277, R278) -/

/-- Whether this tick's output segment sends safe values, before OGATE has said so. -/
def sendsSafe (s : State) : Bool := s.role == .stopped || s.seq.stopDue

/-- RING_DIG of ring k. -/
def ringDigest (s : State) (k : Nat) : Word :=
  if ringRuns s k = false then 0#32
  else match (s.ring k).sched with
    | none => 0#32
    | some c =>
      let t := { s with seq := { s.seq with gate := if sendsSafe s then .safe else .frames } }
      let xs := if ringThru s k then c.stations.flatMap fun d => stnOutSlots c d.num else outSlots c
      crc32 (xs.flatMap (outPayloadView t))

/-- Number that stands for a task state in an ESD and in a run record. -/
def taskCode : TaskState → Nat
  | .none => 0
  | .ready => 1
  | .running => 2
  | .yielded => 3
  | .suspended => 4
  | .ended => 5
  | .exhausted => 6
  | .stopped => 7
  | .abandoned => 8

def taskOfCode : Nat → TaskState
  | 1 => .ready
  | 2 => .running
  | 3 => .yielded
  | 4 => .suspended
  | 5 => .ended
  | 6 => .exhausted
  | 7 => .stopped
  | 8 => .abandoned
  | _ => .none

/-- State and CYC of each task of engine e, in class order (R277; the byte layout is the model's own: notes/assumptions/42). -/
def taskBytes (s : State) (e : Nat) : List Byte :=
  (List.range 16).flatMap fun c => if (s.task e c).st = .none then [] else leBytes 1 (taskCode (s.task e c).st) ++ leBytes 4 (s.task e c).cyc

/-- ESD of engine e. -/
def esdOf (s : State) (e : Nat) : Word :=
  let l := taskBytes s e
  if l.isEmpty then 0#32 else (l.foldl crcByte (amGet (fun _ => 0xFFFFFFFF#32) s.esd e)) ^^^ 0xFFFFFFFF#32

/-- The module's OUTDIG (R277, R279, R283, R286, R287). -/
def outDigNow (s : State) : OutDig :=
  let hold := s.on PAR_STATUS PAR_STATUS_HOLD
  let conf := match s.armed with
    | some a => decide (a.since < s.seq.tick) && decide (s.seq.tick ≤ a.tick)
    | none => false
  let (prop, sconf) := match s.pair.swap with
    | some w => (s.role == Role.active || (s.role == Role.standby && !w.conf), s.role == Role.standby && w.conf)
    | none => (false, false)
  { tick := BitVec.ofNat 64 s.seq.tick, role := BitVec.ofNat 4 (s.rd PAR_STATUS PAR_STATUS_ROLE), hold := hold,
    agreeInc := s.pair.agreeInc, noagree := s.pair.noagree,
    handover := s.role == Role.active && hold && s.on PAR_CFG2 PAR_CFG2_AUTO_HANDOVER, accept := s.pair.handover,
    swapProp := prop, swapConf := sconf, joinOk := s.pair.joinOk, stopReq := s.pair.stopReq || s.seq.stopDue,
    restartReq := s.pair.restartReq, forceConf := conf, applyYes := s.chg.vote,
    swapTick := BitVec.ofNat 64 (match s.pair.swap with
      | some w => w.tick
      | none => 0),
    mode := BitVec.ofNat 24 ((List.range 24).foldl (fun n k => if (s.ring k).dec then n + 2 ^ k else n) 0), modeValid := s.role.master,
    cfgGen := BitVec.ofNat 16 (s.rd CHG_GEN CHG_GEN_CFG_GEN), frcGen := BitVec.ofNat 16 s.frcGen, localOut := s.lio.cmd,
    ringDig := (List.range 24).map (ringDigest s), esd := (List.range 64).map (esdOf s),
    grv := BitVec.ofNat 24 ((List.range 8).foldl (fun n g => n + s.phase g * 2 ^ (3 * g)) 0) }

/-- Engines and rings in which two OUTDIGs differ, as bit masks. -/
def diffEngs (a b : OutDig) : Nat := (List.range 64).foldl (fun n e => if a.esd.getD e 0#32 = b.esd.getD e 0#32 then n else n + 2 ^ e) 0
def diffRings (a b : OutDig) : Nat :=
  (List.range 24).foldl (fun n k => if a.ringDig.getD k 0#32 = b.ringDig.getD k 0#32 then n else n + 2 ^ k) 0

/-- Whether two OUTDIGs mismatch (R278). -/
def outMismatch (a b : OutDig) : Bool :=
  a.tick != b.tick || diffEngs a b != 0 || diffRings a b != 0 || a.cfgGen != b.cfgGen || a.frcGen != b.frcGen || a.agreeInc || b.agreeInc

/-- Coppice phase 6 on the result of a comparison (R283, R284). -/
def matchPhase (s : State) (mis : Bool) : State :=
  if s.role = .syncing ∧ s.rd PAR_COPP PAR_COPP_PHASE = 6 ∧ s.pair.joinOk = false then
    (if mis then coppFail s else s.setPair fun p => { p with joinOk := true })
  else s

/-- Both modules have sent RESTART_REQ: the role held before the stop returns at the next input instant (R279). -/
def restartBoth (s : State) (a b : OutDig) : State :=
  if s.role = .stopped ∧ a.restartReq ∧ b.restartReq then requestRole s (roleOf s.pair.before) none else s

/-- The two OUTDIGs of this tick are compared once both are there (R278). -/
def outCompare (s : State) : State :=
  match s.pair.ownOut, s.pair.parOut with
  | some a, some b =>
    let mis := outMismatch a b
    let s := if a.tick ≠ b.tick then parEvt s PAR_EVT_TICKERR else s
    let s := if mis then
        let t := s.setPair fun p => { p with
          mismatch := true, matchRun := 0, swap := p.swap.map fun w => { w with matched := false } }
        ((parEvt t PAR_EVT_MISMATCH).bump PAR_MIS_CNT PAR_MIS_CNT_COUNT 1).count { code := 0x42 } 1
      else recoverMatch (s.setPair fun p => { p with matchRun := p.matchRun + 1 })
    restartBoth (lioCross (matchPhase s mis)) a b
  | _, _ => s

/-- Whether the module takes part in the output digest exchange: while it computes, and in STOPPED for the votes. -/
def exchanges (s : State) : Bool := !s.freeMode && (computes s || s.role == .stopped)

/-- PXCH OUTDIG (R277): the vote is taken, OUTDIG leaves; with ACCEPT and with JOIN_OK the role changes at the next input instant. -/
def pxchOutdig (s : State) : State :=
  if exchanges s then
    let s := chgVote s
    let d := outDigNow s
    let t := sendLane (s.setPair fun p => { p with ownOut := some d }) (.outdig d)
    let t := if d.accept then requestRole (t.setPair fun p => { p with handover := false, accept := true }) .active none else t
    let t := if d.joinOk then requestRole (t.setPair fun p => { p with joinOk := false }) .standby none else t
    outCompare t
  else chgVote s

/-- SWAP fields of the partner's OUTDIG (R286); a module with a Grove in RESYNC takes no part (06 R173). -/
def swapRecv (d : OutDig) (s : State) : State :=
  let t := d.swapTick.toNat
  if s.role = .active then
    match s.pair.swap with
    | none =>
      if d.swapProp ∧ roleOf d.role.toNat = .standby ∧ swapCode s (s.seq.tick + 16) = 0 then swapPropose s (s.seq.tick + 16) else s
    | some _ => if d.swapConf then s.setPair fun p => { p with swap := p.swap.map fun w => { w with conf := true } } else s
  else if s.role = .standby then
    if groveResync s then s
    else if d.swapProp then
      let u := ((s.setPair fun p => { p with swap := some ⟨t, true, true⟩ }).wr64 PAR_SWAP_LO PAR_SWAP_HI t).wr PAR_CMDSTAT
        PAR_CMDSTAT_SWAP_PEND 1
      if t ≤ s.seq.tick + 7 ∧ s.seq.tick + 1 ≤ t then u.wr PAR_CMDSTAT PAR_CMDSTAT_SWAP_COMMIT 1 else u
    else match s.pair.swap with
      | some w => if w.conf ∧ s.on PAR_CMDSTAT PAR_CMDSTAT_SWAP_COMMIT = false then swapAbort s else s
      | none => s
  else s

/-- STOP_REQ and RESTART_REQ of the partner (R279). -/
def votesRecv (d : OutDig) (s : State) : State :=
  let s := if d.stopReq ∧ stopRole s.role then s.setPair fun p => { p with parStop := true } else s
  let resync := groveResync s
  if d.restartReq ∧ s.role = .stopped ∧ roleOf s.pair.before ≠ .syncing ∧ resync = false then
    s.setPair fun p => { p with parRestart := true, restartReq := true }
  else s

/-- HANDOVER and ACCEPT (R287), JOIN_OK (R283). -/
def handoverRecv (d : OutDig) (s : State) : State :=
  let resync := groveResync s
  if s.role = .standby ∧ d.handover ∧ s.on PAR_STATUS PAR_STATUS_HOLD = false ∧ s.on PAR_STATUS PAR_STATUS_LANE_MUTE = false ∧ resync = false then
    s.setPair fun p => { p with handover := true }
  else if s.role = .active ∧ d.accept then requestRole s .standby none
  else if (s.role = .alone ∨ s.role = .solo) ∧ d.joinOk then requestRole s .active none
  else s

/-- OUTDIG received before PAR_OUTEND (R278, R279, R286 to R288). -/
def outdigRecv (h : Hdr) (d : OutDig) (s : State) : State :=
  if s.freeMode ∨ s.pair.parOut.isSome ∨ outendNs s ≤ s.clk.trel then s
  else
    let s := s.setPair fun p => { p with
      parOut := some d, parApply := d.applyYes, parGens := (d.cfgGen.toNat, d.frcGen.toNat), parGrv := d.grv.toNat }
    let s := partnerRole s d.role.toNat h.epoch.toNat
    let s := match s.armed with
      | some a => if d.forceConf ∧ a.tick = s.seq.tick ∧ d.tick.toNat = a.tick then { s with armed := some { a with conf := true } } else s
      | none => s
    outCompare (handoverRecv d (votesRecv d (swapRecv d s)))

/-- In the Clearing a module that is not tick master takes over the ring modes of the partner's OUTDIG; without one each ring keeps its current
mode (R279). -/
def takeModes (s : State) : State :=
  if s.role.master ∨ s.freeMode then s
  else (List.range 24).foldl (fun t k =>
    let m := match t.pair.parOut with
      | some d => if d.modeValid then d.mode.getLsbD k else ringThru t k
      | none => ringThru t k
    t.setRing k fun r => { r with dec := m }) s

/-! ### Repair (R281, R282) -/

/-- REPAIR_REQ of this tick. -/
def repairReqNow (s : State) (a b : OutDig) : RepairReq :=
  let e := diffEngs a b
  { tick := BitVec.ofNat 64 s.seq.tick, engs := BitVec.ofNat 64 e, rings := BitVec.ofNat 24 (diffRings a b),
    input := a.agreeInc || b.agreeInc, force := a.frcGen != b.frcGen,
    lines := ((List.finRange 8).filter fun g => e / 2 ^ (8 * g.val) % 256 != 0).map fun g => (g, (s.grove g).wrote) }

/-- A standby whose gate stays closed for a mismatch asks for a repair, or enters SYNCING (R281, R282). -/
def repairBegin (s : State) (a b : OutDig) : State :=
  let recent := s.pair.repairs.filter fun t => decide (s.seq.tick < t + 1000)
  if a.cfgGen ≠ b.cfgGen ∨ a.tick ≠ b.tick ∨ s.rd PAR_CFG PAR_CFG_REPAIR_MAX < recent.length + 1 then
    beginJoin (s.setPair fun p => { p with repairs := recent })
  else
    let r := repairReqNow s a b
    sendLane (s.setPair fun p => { p with
      repairs := recent ++ [s.seq.tick], repair := some ⟨s.seq.tick, r.engs.toNat, r.rings.toNat, false⟩ }) (.repairReq r)

/-- Whether OGATE opens the gate (R278): output frames, safe values, or nothing. -/
def gateDecision (s : State) : GateState :=
  let hold := s.on PAR_STATUS PAR_STATUS_HOLD
  let open_ : GateState := if s.seq.stopDue then .safe else .frames
  match s.role with
  | .alone => if hold ∧ s.seq.stopDue = false then .closed else open_
  | .active => if hold ∧ s.seq.stopDue = false then .closed else open_
  | .solo => if hold ∧ s.seq.stopDue = false then .closed else open_
  | .standby =>
    let bad := s.pair.mismatch && !(match s.pair.parOut with
      | some d => d.hold
      | none => false)
    if s.seq.stopDue then .safe
    else if hold ∨ s.on PAR_STATUS PAR_STATUS_LANE_MUTE ∨ bad then .closed else .frames
  | .stopped => .safe
  | _ => .closed

/-- OGATE (R278, R281): the decision is latched; a standby then begins its repair, and a joining module in CONVERGE asks for lines. -/
def ogate (s : State) : State :=
  let g := gateDecision s
  let s := { laneFlush s with seq := { s.seq with gate := g, gated := true } }
  let s := s.flag PAR_STATUS PAR_STATUS_GATE (g ≠ .closed)
  match s.pair.ownOut, s.pair.parOut with
  | some a, some b =>
    if s.role = .standby ∧ s.rd PAR_COPP PAR_COPP_PHASE = 0 ∧ s.pair.mismatch ∧ b.hold = false ∧ s.on PAR_STATUS PAR_STATUS_HOLD = false
        ∧ s.on PAR_STATUS PAR_STATUS_LANE_MUTE = false ∧ s.pair.repair = none then repairBegin s a b
    else if s.role = .syncing ∧ s.rd PAR_COPP PAR_COPP_PHASE = 5 then
      sendLane (s.setPair fun p => { p with asked := true }) (.repairReq (repairReqNow s a b))
    else s
  | _, _ => s

/-- REPAIR_REQ received by the tick master (R281): answered once its Clearing has ended. -/
def repairReqRecv (r : RepairReq) (s : State) : State :=
  if s.role.master ∧ r.tick.toNat = s.seq.tick then s.setPair fun p => { p with reqFrom := some r } else s

/-- Merge two lists of line numbers. -/
def mergeLines (a b : List Nat) : List Nat := a.foldl (fun l n => insertLine n l) b

/-- 64 bytes that the pair manager reads through a gate (06 R155; 07 R184): none where the gate or the target refuses them. -/
def lineRead (a addr : Nat) (kind : Fin 5) (x : List LineRec × State) : List LineRec × State :=
  match dmaRead x.2 (mattrXfer x.2 0x46 2) addr 64 with
  | (bs, none, t) => (x.1 ++ [⟨BitVec.ofNat 40 a, kind, bs⟩], t)
  | (_, some _, t) => (x.1, t)

/-- A memory line of Grove g as LINES carries it: the address of the Canopy bank as engines see it (R151). -/
def groveLine (g : Nat) (x : List LineRec × State) (l : Nat) : List LineRec × State :=
  lineRead (0x0100000000 + g * 0x01000000 + 64 * l) (bankAddr x.2 false g (64 * l)) 0 x

/-- A line of the Canopy code bank of engine e. -/
def codeLine (e : Nat) (x : List LineRec × State) (l : Nat) : List LineRec × State :=
  lineRead (0x0180000000 + e * 0x00100000 + 64 * l)
    (0x0180000000 + e * 0x00100000 + x.2.rd (GRV_STATUS (e / 8)) GRV_STATUS_CBANK * 0x40000 + 64 * l) 0 x

/-- Run record of engine e: 8 bytes for each of its tasks: class and state, CYC with the flags of a fresh and of an overrun activation, the
line of TCTX, where the task is suspended, and PART (R170; the layout is the model's own: notes/assumptions/42). -/
def runRecord (s : State) (e : Nat) : LineRec :=
  ⟨BitVec.ofNat 40 e, 1, (List.range 16).flatMap fun c =>
    let k := s.task e c
    if k.st = .none then []
    else leBytes 1 (c * 16 + taskCode k.st)
      ++ leBytes 4 (k.cyc % 2 ^ 30 + (if k.fresh then 2 ^ 30 else 0) + (if k.overrun then 2 ^ 31 else 0))
      ++ leBytes 2 (k.tctx.toNat % 0x400000 / 64) ++ leBytes 1 k.part.toNat⟩

/-- A run record taken: the tasks of the engine are those that it names. -/
def runTake (s : State) (e : Nat) (bs : List Byte) : State :=
  let s := (List.range 16).foldl (fun (t : State) (c : Nat) => t.setTask e c { t.task e c with st := .none }) s
  (List.range (bs.length / 8)).foldl (fun (t : State) (j : Nat) =>
    let f (o n : Nat) : Nat := le bs (8 * j + o) n
    let c := f 0 1 / 16
    t.setTask e c { t.task e c with
      st := taskOfCode (f 0 1 % 16), cyc := f 1 4 % 2 ^ 30, fresh := wbit (f 1 4) 30, overrun := wbit (f 1 4) 31,
      tctx := BitVec.ofNat 64 (0x0100000000 + e / 8 * 0x01000000 + f 5 2 * 64), part := BitVec.ofNat 64 (f 7 1) }) s

/-- Lines of an image copy that hold the signals given. -/
def imageLines (copy : Nat) (kind : Fin 5) (sigs : List Nat) (x : List LineRec × State) : List LineRec × State :=
  (sigs.foldl (fun l i => insertLine (i / 8) l) []).foldl (fun x l =>
    lineRead (0x0200000000 + copy * 0x100000 + 64 * l) (0x0200000000 + copy * 0x100000 + 64 * l) kind x) x

/-- The active force entries. -/
def forceLines (s : State) : List LineRec :=
  ((frcListed s).filter fun n => s.on (FRCA_CTL n) FRCA_CTL_VALID).map fun n =>
    ⟨BitVec.ofNat 40 n, 3, (leBytes 4 (s.rget (FRCA_CTL n)).toNat ++ leBytes 4 (s.rget (FRCA_VAL n)).toNat ++
      leBytes 4 (s.rget (FRCA_STABLE n)).toNat ++ leBytes 4 (s.rget (FRCA_SHADOW n)).toNat)⟩

/-- LINES for a REPAIR_REQ (R281); the source of a Coppice adds what has been dirtied since it was sent (R283). -/
def linesFor (s : State) (r : RepairReq) : List LineRec × State :=
  let named := (List.finRange 8).filter fun g => r.engs.toNat / 2 ^ (8 * g.val) % 256 != 0
  let gs := if s.pair.source then List.finRange 8 else named
  let mem := gs.foldl (fun x g =>
    let theirs := ((r.lines.find? fun e => e.1 == g).map Prod.snd).getD []
    let all := mergeLines theirs (s.grove g).wrote
    (if s.pair.source then mergeLines (s.grove g).dirtyP all else all).foldl (groveLine g) x) (([] : List LineRec), s)
  let run := ((List.range 64).filter fun e => r.engs.getLsbD e || s.pair.source).map (runRecord s)
  let outs := (List.range 24).flatMap fun k =>
    match (s.ring k).sched with
    | some c => if r.rings.getLsbD k then (outSlots c).flatMap SlotDef.sigs else []
    | none => []
  let (xm, xo) := setsX s
  let x := imageLines 1 2 outs (mem.1 ++ run, mem.2)
  let x := if r.input then imageLines 0 4 (keySigs s (xm ++ xo)) x else x
  (x.1 ++ (if r.force then forceLines s else []), x.2)

/-- Whether a line holds an item that has a state format (14 R381): a run record, or a line of Canopy SRAM or DRAM. -/
def hasFormat (l : LineRec) : Bool :=
  l.kind.val == 1 || (l.kind.val == 0 && (match mapOf l.addr.toNat with
    | some (.sram, _, _) => true
    | some (.dram, _, _) => true
    | _ => false))

/-- Whether this module's state format is the newer one by 1 (14 R381). -/
def newerFormat (s : State) : Bool :=
  match s.pair.hello with
  | some m => s.fw.fmt == m.fmt.toNat + 1
  | none => false

/-- An item that the module with the newer format receives, converted from the older format; the conversion is its firmware's (14 R381). -/
def convertLine (s : State) (l : LineRec) : LineRec :=
  if newerFormat s && hasFormat l then { l with data := Config.fromOlder s.fw.fmt l.kind.val l.addr.toNat l.data } else l

/-- LINES leave, each item that has a state format in the older one (14 R381). -/
def sendLines (x : List LineRec × State) : State :=
  sendLane x.2 (.lines (x.1.map fun l =>
    if newerFormat x.2 && hasFormat l then { l with data := Config.toOlder x.2.fw.fmt l.kind.val l.addr.toNat l.data } else l))

/-- Whether Grove g is in service: in use by the active bank and ON. -/
def inService (s : State) (g : Fin 8) : Bool := groveInUse s g && s.unitState (.grove g) == 2

/-- What the source sends in BULK (R283): the Canopy Sapwood and code banks of every Grove in service, image copies 0 to 2, and the runtime
regions that its firmware lists. -/
def bulkLines (s : State) : List LineRec × State :=
  let gs := (List.finRange 8).filter (inService s)
  let x := gs.foldl (fun x g => (List.range 65536).foldl (groveLine g) x) (([] : List LineRec), s)
  let x := gs.foldl (fun x g => (List.range 8).foldl (fun x i => (List.range 4096).foldl (codeLine (8 * g.val + i)) x) x) x
  let x := (List.range 3).foldl (fun x c => (List.range 16384).foldl (fun x l =>
    lineRead (0x0200000000 + c * 0x100000 + 64 * l) (0x0200000000 + c * 0x100000 + 64 * l) 0 x) x) x
  Config.runtimeRegions.foldl (fun x r => (List.range (r.2 / 64)).foldl (fun x l => lineRead (r.1 + 64 * l) (r.1 + 64 * l) 0 x) x) x

/-- Signals of the output copy that the classes running on Grove g own (06 R170). -/
def groveOutputs (s : State) (g : Nat) : List Nat :=
  (s.desc.filter fun e => e.1 / 131072 == s.rd IMG_STATUS IMG_STATUS_DBANK && descDir e.2 &&
    (List.range 8).any fun i => classEng s (descOwner e.2) (8 * g + i)).map fun e => e.1 % 131072

/-- The lines of Grove g dirtied since they were sent count as sent. -/
def dirtySent (s : State) (g : Nat) : State := s.setGrove g { s.grove g with dirtyP := [] }

/-- The module serves a Grove-level Coppice of its partner (06 R170, steps 5 and 6): the bulk of the Canopy Sapwood bank when the partner's
Grove enters step 5, with dirty tracking from then on; in step 6 the lines dirtied since, the output entries and the run records. -/
def serveGrove (s : State) (g : Fin 8) : State :=
  let ph := parPhase s g
  let on := s.pair.serves.contains g.val
  if ph = 5 ∧ on = false ∧ inService s g = true then
    let t := dirtySent (s.setPair fun p => { p with serves := g.val :: p.serves }) g
    let x := (List.range 65536).foldl (groveLine g) (([] : List LineRec), t)
    sendLines x
  else if ph = 6 ∧ on = true then
    let x := imageLines 1 2 (groveOutputs s g) ((s.grove g).dirtyP.foldl (groveLine g) (([] : List LineRec), s))
    sendLines (x.1 ++ (List.range 8).map fun i => runRecord s (8 * g + i), dirtySent x.2 g)
  else if ph ≠ 5 ∧ ph ≠ 6 ∧ on = true then dirtySent (s.setPair fun p => { p with serves := p.serves.filter fun n => n != g.val }) g
  else s

/-- The tick master answers REPAIR_REQ when its Clearing has ended (R281). As the source of a Coppice it sends its bulk in each tick in which
the joining module is heard in SYNCING and has not asked (R283; notes/assumptions/49), and it serves the partner's Groves (06 R170). -/
def repairServe (s : State) : State :=
  let s := (List.finRange 8).foldl serveGrove s
  match s.pair.reqFrom with
  | none =>
    if s.pair.source && s.prole == .syncing && !s.pair.asked then
      let x := bulkLines s
      sendLines (x.1, (List.range 8).foldl dirtySent x.2)
    else s
  | some r =>
    let x := linesFor (s.setPair fun p => { p with reqFrom := none, asked := p.source }) r
    let t := sendLines x
    if s.pair.source then (List.range 8).foldl dirtySent t else t

/-- Write the entries of an image line in copy c, where the gate admits it: AGE counts back from tick n, in which the sender read them. -/
def imageTake (s : State) (n c a : Nat) (bs : List Byte) : State :=
  match present s .write (mattrXfer s 0x47 2) (imageAddr c (a % 0x100000 / 8)) bs.length false with
  | (.error _, t) => t
  | (.ok _, t) =>
    (List.range (bs.length / 8)).foldl (fun (t : State) (j : Nat) =>
      let e := entryOfBits n (BitVec.ofNat 64 (le bs (8 * j) 8))
      writeEntry (mapTouched t c) c (a % 0x100000 / 8 + j) { e with status := e.status &&& statusBits t c }) t

/-- One line record of a message of tick n written (R281 step 3), where the gates admit the transfer engine's writes (07 R184). -/
def lineTake (n : Nat) (s : State) (l : LineRec) : State :=
  let a := l.addr.toNat
  let put (t : State) (p : Nat) : State := (dmaWrite t (mattrXfer t 0x47 2) p l.data).2
  match l.kind.val with
  | 0 =>
    match mapOf a with
    | some (.sapwood g, _, _) => put s (bankAddr s false g (a % 0x400000))
    | some (.code e, _, _) =>
      put s (0x0180000000 + e * 0x00100000 + s.rd (GRV_STATUS (e / 8)) GRV_STATUS_CBANK * 0x40000 + a % 0x40000)
    | some (.image, _, _) => imageTake s n ((a - 0x0200000000) / 0x100000) a l.data
    | _ => put s a
  | 1 => runTake s a l.data
  | 2 => imageTake (imageTake s n 1 a l.data) n 2 a l.data
  | 3 =>
    (List.range (l.data.length / 16)).foldl (fun t j =>
      let w (o : Nat) : Word := BitVec.ofNat 32 (le l.data (16 * j + o) 4)
      (((t.rset (FRCA_CTL (a + j)) (w 0)).rset (FRCA_VAL (a + j)) (w 4)).rset (FRCA_STABLE (a + j)) (w 8)).rset (FRCA_SHADOW (a + j)) (w 12)) s
  | _ => imageTake s n 0 a l.data

/-- Force entries that come with LINES replace the active table. -/
def forceReset (s : State) (l : List LineRec) : State :=
  if l.any fun r => r.kind == 3 then (frcListed s).foldl (fun t n => t.wr (FRCA_CTL n) FRCA_CTL_VALID 0) s else s

/-- The counts that OUTDIG compares become the tick master's, as its last OUTDIG gave them. -/
def takeGens (s : State) (cfg : Bool) : State :=
  let t := { s with frcGen := s.pair.parGens.2 }
  if cfg then t.wr CHG_GEN CHG_GEN_CFG_GEN s.pair.parGens.1 else t

/-- Whether a Grove-level Coppice runs (PAR_COPP.GROVE). -/
def coppGrove (s : State) : State := s.flag PAR_COPP PAR_COPP_GROVE ((List.range 8).any fun g => s.phase g == 5 || s.phase g == 6)

/-- Tick of which a message's header speaks: the greatest one not above the running tick with its low 32 bits. -/
def hdrTick (s : State) (h : Hdr) : Nat := s.seq.tick - (BitVec.ofNat 32 s.seq.tick - h.tickLo).toNat

/-- LINES received (R281, R283, R170): written, and what they complete. Items in the state format next below this module's are converted
(14 R381). -/
def linesRecv (h : Hdr) (l : List LineRec) (s : State) : State :=
  let ph := s.rd PAR_COPP PAR_COPP_PHASE
  let rep := s.role = .standby ∧ (match s.pair.repair with
    | some r => !r.done
    | none => false) = true
  let join := s.role = .syncing ∧ 4 ≤ ph ∧ ph ≤ 5
  let grv : List (Fin 8) := (List.finRange 8).filter fun (g : Fin 8) => s.phase g == 5 || s.phase g == 6
  if ¬ rep ∧ ¬ join ∧ grv.isEmpty then s
  else
    let t := (l.map (convertLine s)).foldl (lineTake (hdrTick s h)) (forceReset s l)
    let t := if rep then
        parEvt (takeGens (t.setPair fun p => { p with repair := p.repair.map fun r => { r with done := true } }) false) PAR_EVT_REPAIR
      else t
    let t := if join ∧ ph = 4 then
        let n := t.pair.bulk + (l.map fun r => r.data.length).sum
        (t.setPair fun p => { p with bulk := n }).wr PAR_COPP PAR_COPP_SENT_MIB (min 65535 (n / 1048576))
      else if join ∧ ph = 5 ∧ t.pair.asked ∧ t.seq.agree = false then takeGens (t.wr PAR_COPP PAR_COPP_PHASE 6) true
      else t
    coppGrove (grv.foldl (fun (u : State) (g : Fin 8) => if u.phase g = 6 ∧ (u.grove g).stuck = false then recoverJoin u g else u) t)

/-- FORCE received (R132, R279): apply tick 0 cancels (notes/assumptions/22); a joining module takes the source's table at once (R283); else
the apply is armed. -/
def forceRecv (h : Hdr) (tick : Nat) (c : List (Nat × Word)) (s : State) : State :=
  if tick = 0 then
    match s.armed with
    | some a => if s.seq.tick < a.tick then frcDisarm s else s
    | none => s
  else if s.rd PAR_COPP PAR_COPP_PHASE ≠ 0 ∧ tick ≤ h.tickLo.toNat then frcActivate s c
  else frcArm s tick c

/-! ### Meanings -/

/-- INAGREE_DIG (R274). -/
def execInagreeDig (h : Hdr) (d : InDig) (s : State) : Out3 :=
  .next (laneFrag h (.inagreeDig d) (fun m => match m with
    | .inagreeDig d => inagreeDigRecv h d
    | _ => id) (laneCount s h.lane false (.inagreeDig d)))
/-- INAGREE_DATA (R274). -/
def execInagreeData (h : Hdr) (l : List SigRec) (s : State) : Out3 :=
  .next (laneFrag h (.inagreeData l) (fun m => match m with
    | .inagreeData l => inagreeDataRecv h l
    | _ => id) (laneCount s h.lane false (.inagreeData l)))
/-- INEND_EXPIRY (R275): at PAR_INEND of the active bank. -/
def execInendExpiry (s : State) : Out3 := .next (if inendNs s ≤ s.clk.trel then laneFlush (inendEnd s) else s)
/-- OUTDIG (R278). -/
def execOutdig (h : Hdr) (d : OutDig) (s : State) : Out3 := .next (laneMsg h (outdigRecv h d) (laneCount s h.lane false (.outdig d)))
/-- REPAIR_REQ (R281). -/
def execRepairReq (h : Hdr) (r : RepairReq) (s : State) : Out3 :=
  .next (laneFrag h (.repairReq r) (fun m => match m with
    | .repairReq r => repairReqRecv r
    | _ => id) (laneCount s h.lane false (.repairReq r)))
/-- LINES (R281). -/
def execLines (h : Hdr) (l : List LineRec) (s : State) : Out3 :=
  .next (laneFrag h (.lines l) (fun m => match m with
    | .lines l => linesRecv h l
    | _ => id) (laneCount s h.lane false (.lines l)))
/-- FORCE (R279). -/
def execForce (h : Hdr) (tick : BitVec 64) (c : List (Nat × Word)) (s : State) : Out3 :=
  .next (laneFrag h (.force tick c) (fun m => match m with
    | .force tick c => forceRecv h tick.toNat c
    | _ => id) (laneCount s h.lane false (.force tick c)))

end Sys2Proof.Machine
end

