-- ==== Sys2Proof/Machine/GroveX.lean ====
section
/-! DEFINITION. Comparator mismatches and what they stop (06 R163, R166), the code reload of a recovering Grove (06 R170), and the restart of
the transfer engine. -/

namespace Sys2Proof.Machine

open Sys2Proof

/-- Whether comparator k compares now: its domain is ON, no test of it runs, and its unit, if it is switchable, is not OFF. -/
def cmpLive (s : State) (k : Fin 108) : Bool :=
  cmpPowered s k && !s.on (LSC_CMP k) LSC_CMP_BUSY && (cmpUnits k == [] || (cmpUnits k).any fun u => s.unitState u != 0)

/-- The flag that the outputs of comparator k set (R163): MISMATCH, COMB on a duplicated comparator, or none. A single comparator has the one
output ERR_P. -/
def cmpFlag (k : Fin 108) (errP errN : Bool) : Option Fld :=
  if 64 ≤ k.val ∧ k.val ≤ 70 then
    (if errP = errN then some LSC_CMP_COMB else if errP then some LSC_CMP_MISMATCH else none)
  else if errP then some LSC_CMP_MISMATCH else none

/-- The transfer engine abandons its transfer: the change, the Coppice or the Grove recovery that it served fails (R166). -/
def transferFails (s : State) : State :=
  let ph := s.rd PAR_COPP PAR_COPP_PHASE
  let t := stageXferFail (s.setChg fun c => { c with teDown := true })
  let t := if s.role = .syncing ∧ 4 ≤ ph ∧ ph ≤ 6 then coppFail t else t
  (List.finRange 8).foldl (fun (u : State) (g : Fin 8) => if u.phase g = 4 ∨ u.phase g = 5 then recoverFail u g else u) t

/-- The action of comparator k (R166). -/
def cmpAction (s : State) (k : Fin 108) : State :=
  if h : k.val < 64 then groveFault s ⟨k.val / 8, by omega⟩ (k.val % 8) GRV_STATUS_MISMATCH
  else if k.val < 71 then enterFaulted (closeGate s) (k.val ≠ 69)
  else if k.val = 71 then transferFails s
  else (cmpUnits k).foldl hwStop s

/-- Width of the vector that comparator k compares (table of R162). -/
def cmpWidth (k : Nat) : Nat :=
  if k < 64 then 210 else if k < 68 then 242 else if k = 68 then 96 else if k = 69 then 160 else if k = 70 then 112
  else if k = 71 then 150 else if k < 96 then 140 else if k < 100 then 150 else 64

/-- Lanes of a set of differing vector bits: bit i feeds lane i mod 16 (R161). -/
def lanesOf (k : Nat) (diff : BitVec 242) : BitVec 16 :=
  BitVec.ofNat 16 ((List.range 16).foldl (fun n l =>
    if (List.range 16).any fun j => decide (16 * j + l < cmpWidth k) && diff.getLsbD (16 * j + l) then n + 2 ^ l else n) 0)

/-- A mismatch or a comparator fault (R163, R166): `diff` holds the vector bits that differ. -/
def cmpMismatch (s : State) (k : Fin 108) (errP errN : Bool) (diff : BitVec 242) : State :=
  match cmpFlag k errP errN with
  | none => s
  | some f =>
    if cmpLive s k = false then s
    else
      let lanes := lanesOf k diff
      let t := (s.wr (LSC_CMP k) LSC_CMP_LANES lanes.toNat).raise 5 (LSC_CMP k) f
      cmpAction (t.event 5 f.lo (LSC_CMP k) (BitVec.ofNat 32 (k.val * 65536 + lanes.toNat))) k

/-- Step 4 of a Grove recovery ends: the code of the Grove's engines is in the Canopy bank, or the attempt fails (R170, R171). Of a recovery
that goes no further the step runs to its end, and no later one begins (R172). -/
def reloadDone (s : State) (g : Fin 8) (ok : Bool) : State :=
  if s.phase g ≠ 4 ∨ (s.grove g).reloaded ∨ s.chg.teDown then s
  else if ok then
    let t := (placeCode s (pkgSecD s.chg.canopy 1) false fun j => j == g.val).1
    if (s.grove g).stuck then t.setGrove g { t.grove g with reloaded := true }
    else coppGrove ((t.setGrove g { t.grove g with reloaded := true }).setPhase g 5)
  else if (s.grove g).stuck then s.setGrove g { s.grove g with reloaded := true }
  else recoverFail s g

/-! ### Meanings -/

/-- GROVE_BANK_CLEAR_DONE (R157): the banks are clear, with what was staged in them, and the eight comparator tests begin. -/
def execGroveBankClearDone (g : Fin 8) (s : State) : Out3 :=
  .next (if s.unitState (.grove g) = 1 ∧ (s.grove g).start = 1 ∧ (s.unit (GRV_EN g)).waiting = false then
      let t := stageCleared (clearBanks s g) g
      (List.range 8).foldl (fun t i => cmpTestStart t (8 * g + i)) (t.setGrove g { t.grove g with start := 2 })
    else s)

/-- COMPARATOR_MISMATCH (R166). -/
def execComparatorMismatch (k : Fin 108) (errP errN : Bool) (diff : BitVec 242) (s : State) : Out3 := .next (cmpMismatch s k errP errN diff)

/-- GROVE_RELOAD_DONE (R170). -/
def execGroveReloadDone (g : Fin 8) (ok : Bool) (s : State) : Out3 := .next (reloadDone s g ok)

/-- TRANSFER_ENGINE_RESTART (R166): the unit starts with its comparator test (R165), and transfers again once that has passed. -/
def execTransferEngineRestart (s : State) : Out3 := .next (if s.chg.teDown then cmpTestStart s 71 else s)

end Sys2Proof.Machine
end

