-- ==== Sys2Proof/Machine/Tick.lean ====
section
/-! DEFINITION. The tick sequencer (chapter 03): issuing a word and releasing a stall, each tick-program instruction, the input instant, the
change of mode, and the Clearing. -/

namespace Sys2Proof.Machine

open Sys2Proof

/-! ### Issuing (R47, R52) -/

/-- Whether the sequencer issues words now. -/
def seqReady (s : State) : Bool := s.on TSQ_STATUS TSQ_STATUS_RUNNING && !s.seq.ended

/-- The program counter moves forward by n words. -/
def pcStep (s : State) (n : Nat) : State := s.wr TSQ_PC TSQ_PC_PC (s.rd TSQ_PC TSQ_PC_PC + n)

/-- What a stalled word waits for has come, at its bound at the latest (R52, R60, R275, R278). -/
def stallWait (s : State) : Stall → State
  | .waitt t => advanceTo (t * 100) s
  | .psync k =>
    if k = 0 then (if s.pair.inDone then s else inendEnd (advanceTo (inendNs s) s))
    else if s.pair.ownOut.isNone ∨ s.pair.parOut.isSome then s else advanceTo (outendNs s) s
  | .bar m =>
    if barDone s m then s
    else match nextWait s 4096 (s.rd TSQ_PC TSQ_PC_PC + 1) with
      | some t => advanceTo (t * 100) s
      | none => s

/-- A stall ends: the sequencer stands at the next word. -/
def stallRelease (s : State) : State :=
  match s.seq.stall with
  | none => s
  | some w => pcStep (((stallWait s w).setSeq fun q => { q with stall := none }).wr TSQ_PC TSQ_PC_STALLED 0) 1

/-- The sequencer issues a word in one cycle: its effect, and the number of words to go on by. -/
def seqIssue (f : State → State) (n : State → Nat) (s : State) : State :=
  if seqReady s then
    let t := stallRelease s
    seqCycle (pcStep (f t) (n t))
  else s

/-- The sequencer issues a word that changes nothing but the state f gives it. -/
def seqOne (f : State → State) (s : State) : State := seqIssue f (fun _ => 1) s

/-- The sequencer issues a word that stalls unless `done` holds. -/
def seqStall (w : Stall) (done : State → Bool) (s : State) : State :=
  if seqReady s then
    let t := stallRelease s
    if done t then seqCycle (pcStep t 1)
    else (t.setSeq fun q => { q with stall := some w }).wr TSQ_PC TSQ_PC_STALLED 1
  else s

/-- An effect that only locked mode has (R69). -/
def inLocked (f : State → State) (s : State) : State := if s.freeMode then s else f s

/-! ### Segments, release, budgets, helper -/

/-- RING sel 0: in free mode the first of the segments to start takes a buffer (R70), and the local samples go into it (13 R343). -/
def ringInSegment (mask : BitVec 24) (s : State) : State :=
  let first := (List.range 24).all fun j => !(s.ring j).inSeg
  let t := if s.freeMode && first then lioFill (startFill s) else s
  ringMask mask ringIn t

/-- REL opens the execution window (R56; 06 R167); after a STOP in this tick nothing is released (R72). -/
def relNow (mask : Nat) (s : State) : State := if s.seq.stopDue then s else relMask (s.setSeq fun q => { q with held := false }) mask

/-- DEADL (R58). -/
def deadlSet (c : Nat) (stop : Bool) (b : Nat) (s : State) : State :=
  s.setSeq fun q => { q with deadl := amSet (fun _ => ⟨0, false⟩) q.deadl c ⟨b * 128, stop⟩ }

/-- CALLH n (R50): the helper runs the routine from its entry, which the firmware gives and the spec does not (notes/assumptions/43); a busy
helper drops it. The spec gives no end of a routine but the double trap (04 R115): only that frees the helper (DESIGN CHOICE,
notes/assumptions/77). -/
def callHelper (n : Nat) (s : State) : State :=
  let c := s.core 0x48
  if c.run = .run then s.raise 1 TSQ_STATUS TSQ_STATUS_HELPER_BUSY
  else
    let (v, t) := s.takeFree
    t.setCore 0x48 { t.core 0x48 with run := .run, routine := some n, pc := pcMask v }

/-- HOLD in locked mode (R63 to R66; 11 R307; 13 R348). -/
def holdNow (s : State) : State :=
  let t := lioHold (applyPrediction (hwmHold (holdTasks s)))
  t.setSeq fun q => { q with held := true }

/-! ### Mode (R68 to R70) -/

/-- A write of MODE_REQ (R68): an accepted request for free mode discards a staged set (11 R297). -/
def modeReqWrite (s : State) (free : Bool) : State :=
  if free && !freeAllowed s then s.raise 1 TSQ_STATUS TSQ_STATUS_MODE_REJ
  else
    let t := s.flag TSQ_CTRL TSQ_CTRL_MODE_REQ free
    let t := if free then discardSet t else t
    if t.on TSQ_STATUS TSQ_STATUS_RUNNING then t else modeTake t

/-! ### The Clearing -/

/-- TICK_ALIGN (02 R32): the tick master lengthens or shortens this Clearing by at most 100 ns, towards the nearer instant at which ns mod base
tick is 0. -/
def tickAlign (s : State) : State :=
  let l := s.tickLen
  if s.role.master ∧ s.on TIM_CFG TIM_CFG_TICK_ALIGN ∧ l ≠ 0 ∧ 1000000000 % l = 0 ∧ s.clk.trel ≤ s.seq.len then
    let r := (s.clk.ns + (s.seq.len - s.clk.trel)) % l
    s.setSeq fun q => { q with len := if r = 0 then q.len else if 2 * r ≤ l then q.len - min 100 r else q.len + min 100 (l - r) }
  else s

/-- A stop falls due at this Clearing (R63, R72; 10 R279): the module enters STOPPED, with LEAVE before it when it stops alone (10 R271). -/
def stopNow (s : State) : State :=
  if (s.seq.stopDue || s.pair.stopReq || s.pair.parStop) && stopRole s.role then
    let t := if inPair s then s else sendLeave s
    closeSafe (enterRole (stopEngines t) .stopped none)
  else s
where
  /-- The frames of a STOPPED module carry safe values. -/
  closeSafe (t : State) : State := t.setSeq fun q => { q with gate := .safe, stopDue := false }

/-- A committed swap takes effect at the next input instant when that is the swap tick (10 R286), unless a Grove of the module is in RESYNC
(06 R173). -/
def swapDue (s : State) : State :=
  match s.pair.swap with
  | some w =>
    if groveResync s then swapAbort s
    else if s.on PAR_CMDSTAT PAR_CMDSTAT_SWAP_COMMIT ∧ w.tick ≤ s.seq.tick + 1 then
      (if s.role = .active then requestRole s .standby none else if s.role = .standby then requestRole s .active none else s)
    else s
  | none => s

/-- Stops of ring ports complete at a Clearing (08 R231). -/
def portStops (s : State) : State :=
  (List.finRange 48).foldl (fun (t : State) (r : Fin 48) =>
    let u : UnitId := if r.val < 24 then .portS (Fin.ofNat 24 r.val) else .portP (Fin.ofNat 24 (r.val - 24))
    if t.unitState u = 3 then stopComplete t u else t) s

/-- CLEAR (R52, R69; 11 R310): step, forces, change, mode, snapshot, Groves and ports, roles, ring modes. -/
def clearNow (s : State) : State :=
  let t := tickAlign (clearStep s)
  let t := forceAtClear t (inPair t)
  let t := if t.freeMode then t else chgClear t
  let t := modeTake t
  let t := if t.freeMode then t else snapshot t
  let t := portStops (coppGrove ((List.finRange 8).foldl groveClear t))
  let t := helloServe (laneFlush (swapDue (stopNow (recoverAlone t))))
  (List.range 24).foldl ringClear (takeModes t)

/-- END (R52): the sequencer idles; with RUN = 0 it stops. -/
def endNow (s : State) : State :=
  let t := s.setSeq fun q => { q with ended := true }
  if t.on TSQ_CTRL TSQ_CTRL_RUN then t else t.wr TSQ_STATUS TSQ_STATUS_RUNNING 0

/-! ### The input instant (R48) -/

/-- The pending role change takes effect (10 R261); entry into SYNCING waits for locked mode (R68). -/
def roleInstant (s : State) : State :=
  match s.pair.pend with
  | none => s
  | some c =>
    if s.role = .faulted then s.setPair fun p => { p with pend := none }
    else if roleOf c.role = .syncing ∧ s.freeMode then s
    else enterRole s (roleOf c.role) c.epoch

/-- A swap whose tick has come and that was not committed is withdrawn (10 R286). -/
def swapLate (s : State) (next : Nat) : State :=
  match s.pair.swap with
  | some w => if w.tick ≤ next ∧ s.on PAR_CMDSTAT PAR_CMDSTAT_SWAP_COMMIT = false then swapAbort s else s
  | none => s

/-- Whether the module's ticks follow the partner's TIME messages (10 R267). -/
def follows (s : State) : Bool := !s.role.master && s.rd TIM_SRC TIM_SRC_SRC == 3

/-- The clock reaches the input instant: the end of the running tick, or the instant that the last TIME message gives; answers the number of
the tick that begins (R48; 10 R267). -/
def reachInstant (s : State) : Nat × State :=
  if follows s then
    match s.pair.time with
    | some m =>
      let ii := m.iiSec.toNat * 1000000000 + m.iiNs.toNat
      (m.tick.toNat, ((advance (ii - s.nowNs) s).setPair fun p => { p with time := none }).wr PAR_STATUS PAR_STATUS_HOLDOVER 0)
    | none => (s.seq.tick + 1, (if s.on TSQ_STATUS TSQ_STATUS_RUNNING then advanceTo s.tickEnd s else s).wr PAR_STATUS PAR_STATUS_HOLDOVER 1)
  else (s.seq.tick + 1, (if s.on TSQ_STATUS TSQ_STATUS_RUNNING then advanceTo s.tickEnd s else s).wr PAR_STATUS PAR_STATUS_HOLDOVER 0)

/-- Phases 2, 3 and 5 of a Coppice at an input instant (10 R283): the first aligned instant loads the Canopy set and starts the Groves it uses;
once they are ON the bulk copy begins; ticks of CONVERGE count. -/
def coppInstant (aligned : Bool) (s : State) : State :=
  if s.role ≠ .syncing then s
  else
    let ph := s.rd PAR_COPP PAR_COPP_PHASE
    if ph = 2 ∧ aligned then
      (List.finRange 8).foldl (fun (t : State) (g : Fin 8) =>
        if groveInUse t g ∧ t.unitState (.grove g) = 0 then enGrove t g true else t) ((loadCanopy s).wr PAR_COPP PAR_COPP_PHASE 3)
    else if ph = 3 ∧ ((List.finRange 8).all fun (g : Fin 8) => !groveInUse s g || s.unitState (.grove g) == 2) = true then
      ((loadBanks s fun _ => true).wr PAR_COPP PAR_COPP_PHASE 4).setPair fun p => { p with coppStart := s.clk.mono, bulk := 0 }
    else if ph = 5 then s.setPair fun p => { p with coppTicks := p.coppTicks + 1 }
    else s

/-- Cycles of the ended tick join the activation's; activations with a halted engine pause their watchdog for a tick (06 R176). -/
def tasksInstant (s : State) : State :=
  let t := s.tasks.foldl (fun (t : State) (e : Nat × Task) =>
    t.setTask (e.1 / 16) (e.1 % 16) { t.task (e.1 / 16) (e.1 % 16) with actCyc := e.2.actCyc + e.2.cyc, cyc := 0 }) s
  (List.range 16).foldl (fun (t : State) (c : Nat) =>
    let halt := (List.range 64).any fun e => classEng t c e && t.rd (ENG_STATUS e) ENG_STATUS_STATE == 3
    if (t.act c).live && halt then t.setAct c { t.act c with paused := (t.act c).paused + 1 } else t) t

/-- Tick n begins (R48): what belongs to one tick starts anew. -/
def tickBegin (n : Nat) (s : State) : State :=
  let len := s.tickLen
  let t := ({ s with clk := { s.clk with trel := 0, half := 0 }, esd := [] }).setSeq fun q => { q with
    tick := n % 2 ^ 64, stall := none, ended := false, agree := false, gated := false, gate := .closed, stopDue := false, len := len }
  let t := ((t.wr TSQ_PC TSQ_PC_PC 0).wr TSQ_PC TSQ_PC_STALLED 0).wr TSQ_STATUS TSQ_STATUS_RUNNING 1
  let t := (List.range 8).foldl (fun (t : State) (g : Nat) => t.setGrove g { t.grove g with wrote := [] }) (tasksInstant t)
  let t := t.setPair fun p => { p with
    ownIn := none, parIn := none, inData := false, inDone := false, noagree := false, agreeInc := false, ownOut := none, parOut := none,
    mismatch := false, parApply := false, period := 0 }
  let t := recoverOpen t
  let t := t.flag HB_STATUS HB_STATUS_ALIGNED (t.role.master || t.rd TIM_SRC TIM_SRC_SRC == 3)
  (recopy ((List.range 24).foldl ringInstant t)).count { code := 0x45 } 1

/-- The input instant (R48, R67): LATE_PROG, a held answer to a repair, outputs by the ending tick, the role change, the tick, and the inputs. -/
def inputInstant (s : State) : State :=
  let s := if seqReady s then enterFaulted (closeGate (s.raise 1 TSQ_STATUS TSQ_STATUS_LATE_PROG)) true else s
  let aligned := follows s && s.pair.time.isSome
  let (n, t) := reachInstant (repairServe s)
  let t := witnessDecide (swapLate (lioOutputs t) n)
  let changes := t.pair.pend.isSome
  let t := roleInstant t
  let t := if changes then ringRole t else t
  let t := if t.prole = .syncing ∧ t.chgState = 5 then unannounce t 5 else t
  let t := if t.on TSQ_CTRL TSQ_CTRL_RUN then tickBegin n t else t.wr TSQ_STATUS TSQ_STATUS_RUNNING 0
  lioInputs (coppInstant aligned t)

/-! ### Meanings -/

/-- INPUT_INSTANT (R48). -/
def execInputInstant (s : State) : Out3 := .next (inputInstant s)

/-- NOP (R52). -/
def execNop (s : State) : Out3 := .next (seqOne id s)

/-- WAITT (R52). -/
def execWaitt (t : BitVec 20) (s : State) : Out3 := .next (seqStall (.waitt t.toNat) (fun s => decide (t.toNat * 100 ≤ s.clk.trel)) s)

/-- RING sel 0 (R52, R70). -/
def execRingIn (mask : BitVec 24) (s : State) : Out3 := .next (seqOne (ringInSegment mask) s)

/-- RING sel 1 (R52). -/
def execRingDyn (mask : BitVec 24) (s : State) : Out3 := .next (seqOne (ringMask mask ringDyn) s)

/-- RING sel 2 (R52). -/
def execRingOut (mask : BitVec 24) (s : State) : Out3 := .next (seqOne (ringMask mask ringOut) s)

/-- RING sel 3 (09 R245). -/
def execRingSync (mask : BitVec 24) (s : State) : Out3 := .next (seqOne (ringMask mask ringSync) s)

/-- PXCH INAGREE (10 R273); NOP in free mode (R69). -/
def execPxchInagree (s : State) : Out3 := .next (seqOne (inLocked pxchInagree) s)

/-- PXCH OUTDIG (10 R277). -/
def execPxchOutdig (s : State) : Out3 := .next (seqOne (inLocked pxchOutdig) s)

/-- PXCH TIME (10 R267). -/
def execPxchTime (s : State) : Out3 := .next (seqOne (inLocked sendTime) s)

/-- PSYNC INAGREE (10 R275). -/
def execPsyncInagree (s : State) : Out3 := .next (seqStall (.psync 0) (fun s => s.freeMode || s.pair.inDone) s)

/-- PSYNC OUTDIG (R52, 10 R278). -/
def execPsyncOutdig (s : State) : Out3 :=
  .next (seqStall (.psync 1) (fun s => s.freeMode || s.pair.ownOut.isNone || s.pair.parOut.isSome || decide (outendNs s ≤ s.clk.trel)) s)

/-- REL (R56, R69). -/
def execRel (mask : BitVec 16) (s : State) : Out3 := .next (seqOne (relNow mask.toNat) s)

/-- DEADL (R58); NOP in free mode (R69). -/
def execDeadl (c : Fin 16) (stop : Bool) (b : BitVec 20) (s : State) : Out3 := .next (seqOne (inLocked (deadlSet c stop b.toNat)) s)

/-- BAR (R60); NOP in free mode (R69). -/
def execBar (mask : BitVec 16) (s : State) : Out3 :=
  .next (seqStall (.bar mask.toNat) (fun s => s.freeMode || barDone s mask.toNat ||
    (match nextWait s 4096 (s.rd TSQ_PC TSQ_PC_PC + 1) with
      | some t => decide (t * 100 ≤ s.clk.trel)
      | none => false)) s)

/-- TP (R54, R55). -/
def execTp (n : Fin 64) (s : State) : Out3 := .next (seqOne (fun s => tickPoint s n) s)

/-- HOLD (R63); NOP in free mode (R69). -/
def execHold (s : State) : Out3 := .next (seqOne (inLocked holdNow) s)

/-- OGATE (10 R278). -/
def execOgate (s : State) : Out3 := .next (seqOne ogate s)

/-- CLEAR (11 R310). -/
def execClear (s : State) : Out3 := .next (seqOne clearNow s)

/-- END (R52). -/
def execEndProg (s : State) : Out3 := .next (seqIssue endNow (fun _ => 0) s)

/-- CALLH (R50). -/
def execCallh (n : Fin 256) (s : State) : Out3 := .next (seqOne (callHelper n) s)

/-- BTICK (R52). -/
def execBtick (m : BitVec 10) (p : BitVec 10) (o : BitVec 6) (s : State) : Out3 :=
  .next (seqIssue id (fun s => if s.seq.tick % m.toNat = p.toNat then 1 else o.toNat) s)

/-- JF (R52). -/
def execJf (o : BitVec 12) (s : State) : Out3 := .next (seqIssue id (fun _ => o.toNat) s)

/-- MODE_REQ_WRITE (R68). -/
def execModeReqWrite (_m : Master) (free : Bool) (s : State) : Out3 := .next (modeReqWrite s free)

end Sys2Proof.Machine
end

