-- ==== Sys2Proof/Machine/RegRead.lean ====
section
/-! DEFINITION. A read of a register by a master (00 R4 to R8; 02 R29; 14 R373; 15 R383, R390): the stored word, the views that a unit
computes, and what a read changes. -/

namespace Sys2Proof.Machine

open Sys2Proof

/-! ### Which register stands at an address -/

/-- Index of the copy at address a of a register with n copies. -/
def ix (a base st n : Nat) : Option (Fin n) :=
  if h : base ≤ a ∧ (a - base) % st = 0 ∧ (a - base) / st < n then some ⟨(a - base) / st, h.2.2⟩ else none

/-- Indices of the copy at address a of a register with n copies of m copies each. -/
def ix2 (a base st n st' m : Nat) : Option (Fin n × Fin m) :=
  if h : base ≤ a ∧ (a - base) % st % st' = 0 ∧ (a - base) / st < n ∧ (a - base) % st / st' < m then
    some (⟨(a - base) / st, h.2.2.1⟩, ⟨(a - base) % st / st', h.2.2.2⟩)
  else none

/-- Number of the 64 KiB block of a register address (07 R180). -/
def regBlock (a : Nat) : Nat := (a - 0x0300000000) / 0x10000

/-- A master number as the type of the commands. -/
def masterOf (m : Nat) : Master := ⟨m % 128, Nat.mod_lt _ (by decide)⟩

/-- Unit whose enable word stands at an address. -/
def unitAt (a : Nat) : Option UnitId :=
  if a = PAR_EN_PL0 then some (.lane 0)
  else if a = PAR_EN_PL1 then some (.lane 1)
  else match regBlock a with
    | 0x10 => (ix a (PWR_EN 0) 4 12).map UnitId.domain
    | 0x1A => (ix a (LIO_EN 0) 0x20 32).map UnitId.lio
    | _ =>
      ((ix a (GRV_EN 0) 0x10000 8).map UnitId.grove)
        |>.or ((ix a (VGX_EN_S 0) 0x10000 24).map UnitId.portS)
        |>.or ((ix a (VGX_EN_P 0) 0x10000 24).map UnitId.portP)
        |>.or ((ix a (ETH_EN 0) 0x10000 4).map UnitId.eth)
        |>.or ((ix2 a (ETH_RING_EN 0 0) 0x10000 4 0x20 16).map fun p => UnitId.ring p.1 p.2)
        |>.or ((ix a (CAN_EN 0) 0x10000 8).map UnitId.can)

/-- Bit of RDY_VEC of the unit that a register belongs to (14 R373). -/
def readyBit (a : Nat) : Option Nat :=
  let b := regBlock a
  if b = 0x01 then some 6 else if b = 0x02 then some 7 else if b = 0x12 then some 5 else if b = 0x13 then some 10
  else if b = 0x14 then some 8 else if b = 0x15 then some 9
  else if 0x20 ≤ b ∧ b ≤ 0x2B then some 15 else if 0x2C ≤ b ∧ b ≤ 0x37 then some 16
  else if 0x38 ≤ b ∧ b ≤ 0x3B then some 11 else if 0x40 ≤ b ∧ b ≤ 0x47 then some 12
  else if b = 0x1A then
    (match ix2 a (LIO_EN 0) 0x20 32 4 8 with
      | some (c, _) => some (13 + lioGroup c)
      | none => (ix2 a (LIO_GRP_STAT 0) 0x10 2 4 4).map fun p => 13 + p.1.val)
  else none

/-- Whether the unit behind a register is ready (14 R373). -/
def regReady (s : State) (a : Nat) : Bool :=
  match readyBit a with
  | some i => wbit (s.rget RDY_VEC).toNat i
  | none => true

/-! ### Computed views -/

/-- Flags of the gates as GATE_SUM shows them (07). -/
def gateSum (s : State) (lo n : Nat) : Word :=
  BitVec.ofNat 32 ((List.range n).foldl (fun w i => if s.on (GATE_ERR_INFO (lo + i)) GATE_ERR_INFO_VALID then w + 2 ^ i else w) 0)

/-- Comparators with MISMATCH or COMB set as LSC_SUM_j shows them (06). -/
def lscSum (s : State) (j : Nat) : Word :=
  BitVec.ofNat 32 ((List.range 32).foldl (fun w i =>
    if 32 * j + i < 108 ∧ maskPend s (LSC_CMP (32 * j + i)) 0x06000000#32 = true then w + 2 ^ i else w) 0)

/-- DBG_STATUS with what the target shows: HALTED and the depth of its replay queue (06). -/
def dbgStatus (s : State) : Word :=
  let n := s.rd DBG_TARGET DBG_TARGET_CORE
  setBits (setBits (s.rget DBG_STATUS) DBG_STATUS_HALTED (if halted s n then 1 else 0)) DBG_STATUS_REPLAY_DEPTH (s.core n).replay.length

/-- Registers whose value a read computes; none: the stored word. -/
def regView (a : Nat) (s : State) : Option Word :=
  if a = TSQ_TICK_LO ∨ a = TIM_NS then some (s.probe a)
  else if a = IMG_DESC_DATA then some (descIn s (s.rd IMG_DESC_SEL IMG_DESC_SEL_BANK) (s.rd IMG_DESC_SEL IMG_DESC_SEL_SIG))
  else if a = GATE_SUM_LO then some (gateSum s 0 32)
  else if a = GATE_SUM_HI then some (gateSum s 32 13)
  else if a = CHG_PROG then some (setBits (s.rget CHG_PROG) CHG_PROG_DIRTY (min 0xFFFFF (dirtyLines s)))
  else if a = UPD_REMAIN then some (BitVec.ofNat 32 (updRemain s))
  else if a = DBG_STATUS then some (dbgStatus s)
  else match ix a (LSC_SUM 0) 4 4 with
    | some j => some (lscSum s j)
    | none =>
      match ix a (ENG_STATUS 0) 0x400 64 with
      | some e => some (setBits (s.rget a) ENG_STATUS_PRV (prvOf s e))
      | none => (ix a (ENG_PC_LO 0) 0x400 64).map fun e => (s.core e).pc.truncate 32

/-! ### Pairs latched per reading master -/

/-- The matching _HI register of a _LO register whose read latches it, and the value latched (R383; 03, 06, 10). -/
def hiOf (a : Nat) (s : State) : Option (Nat × Word) :=
  if a = TSQ_TICK_LO then some (TSQ_TICK_HI, s.probe TSQ_TICK_HI)
  else if a = PAR_SWAP_LO then some (PAR_SWAP_HI, s.rget PAR_SWAP_HI)
  else match ix a (GRV_FAULT_TICK_LO 0) 0x10000 8 with
    | some g => some (GRV_FAULT_TICK_HI g, s.rget (GRV_FAULT_TICK_HI g))
    | none =>
      match ix a (ENG_PC_LO 0) 0x400 64 with
      | some e => some (ENG_PC_HI e, BitVec.ofNat 32 ((s.core e).pc.toNat / 2 ^ 32 % 256))
      | none =>
        match ix2 a (PMC_VAL_LO 0 0) 0x10000 8 0x20 64 with
        | some (j, i) => some (PMC_VAL_HI j i, s.rget (PMC_VAL_HI j i))
        | none => (ix2 a (PMC_SNAP_LO 0 0) 0x10000 8 0x20 64).map fun p => (PMC_SNAP_HI p.1 p.2, s.rget (PMC_SNAP_HI p.1 p.2))

/-- Registers that return what an earlier read latched for the master (R29, R383). -/
def isLatched (a : Nat) : Bool :=
  [TIM_SEC_LO, TIM_SEC_HI, TIM_SHORT, TIM_RTC_SEC_HI, TIM_RTC_FRAC, TSQ_TICK_HI, PAR_SWAP_HI, LIO_SOE_STAMP].contains a
    || (ix a (GRV_FAULT_TICK_HI 0) 0x10000 8).isSome || (ix a (ENG_PC_HI 0) 0x400 64).isSome
    || (ix2 a (PMC_VAL_HI 0 0) 0x10000 8 0x20 64).isSome || (ix2 a (PMC_SNAP_HI 0 0) 0x10000 8 0x20 64).isSome

/-- A read of a _LO register latches its _HI value (R383). -/
def latchHi (m : Nat) (a : Nat) (s : State) : State :=
  match hiOf a s with
  | some (h, w) => s.setLatch (masterOf m) h w
  | none => s

/-- A read clears the RC fields of the register (R5, R8). -/
def clearRc (a : Nat) (s : State) : State :=
  match regDef? a with
  | some r => r.fields.foldl (fun t f => if f.acc = .rc then t.wr a ⟨f.hi, f.lo⟩ 0 else t) s
  | none => s

/-! ### What the PTP stack computes (02 R39, R42) -/

/-- portState of a port (IEEE 1588 encoding, 1 to 9) that a free value picks: a module that is not tick master, and one that is slave-only, is
at most SLAVE or PASSIVE. -/
def ptpState (s : State) (n v : Nat) : Nat :=
  if s.on PTP_CTRL PTP_CTRL_ENABLE && wbit (s.rd PTP_CTRL PTP_CTRL_PORT_EN) n then
    (if s.role.master && s.rd PTP_CTRL PTP_CTRL_ROLE != 0 then v % 9 + 1 else [1, 2, 3, 4, 7, 8, 9].getD (v % 7) 9)
  else 0

/-- Fields that the PTP stack in the Canopy firmware reports: free values within the bounds of their registers (notes/assumptions/80). -/
def ptpView (a : Nat) (s : State) : Option (Word × State) :=
  let (f, t) := s.takeFree
  let v := f.toNat
  let run := s.on PTP_CTRL PTP_CTRL_ENABLE
  if a = PTP_STATUS then
    let w := setBits (s.rget a) PTP_STATUS_GM (if run && s.role.master && s.rd PTP_CTRL PTP_CTRL_ROLE != 0 then v % 2 else 0)
    some (setBits (setBits (setBits (setBits w PTP_STATUS_PSTATE0 (ptpState s 0 (v / 2))) PTP_STATUS_PSTATE1 (ptpState s 1 (v / 2 ^ 7)))
      PTP_STATUS_PSTATE2 (ptpState s 2 (v / 2 ^ 13))) PTP_STATUS_PSTATE3 (ptpState s 3 (v / 2 ^ 19)), t.wr a PTP_STATUS_UNSUPP_CNT 0)
  else if a = PTP_OFFSET then some (if run then (if f.truncate 32 = 0x80000000#32 then 0x80000001#32 else f.truncate 32) else s.rget a, t)
  else (ix a (PTP_PDELAY 0) 4 4).map fun _ => (if run then f.truncate 32 else s.rget a, t)

/-! ### The read -/

/-- Whether a USER read of a PMC_ register returns its value: PMC_VAL and PMC_SNAP of a counter whose PMC_UREAD bit is 1 (R390). -/
def pmcUser (a : Nat) (s : State) : Bool :=
  match ix2 a (PMC_CTL 0 0) 0x10000 8 4 512 with
  | some (j, w) =>
    let i := w.val / 8
    decide (3 ≤ w.val % 8) && decide (w.val % 8 ≤ 6)
      && (if i < 32 then wbit (s.rget (PMC_UREAD_LO j)).toNat i else wbit (s.rget (PMC_UREAD_HI j)).toNat (i - 32))
  | none => false

/-- A read of the register at a by master m at privilege prv, once the gate has admitted it: the word and the state after the read. -/
def regRead (m prv a : Nat) (s : State) : Word × State :=
  if regReady s a = false then (regReset a, s)
  else if 0x48 ≤ regBlock a ∧ regBlock a ≤ 0x4F ∧ prv = 0 ∧ pmcUser a s = false then (0#32, s)
  else if isLatched a then (s.getLatch (masterOf m) a, s)
  else if a = TIM_NS then timNsRead (masterOf m) s
  else if a = TIM_RTC_SEC_LO then rtcRead (masterOf m) s
  else if a = LIO_SOE_INFO then soeRead (masterOf m) s
  else if (ptpView a s).isSome then (ptpView a s).getD (0#32, s)
  else match ix a (LIO_MEAS 0) 0x20 32 with
    | some c =>
      if lioMode s c = 3 then
        let (v, t) := s.takeFree
        (v.truncate 32, t)
      else (if lioMode s c = 2 then s.rget a else 0#32, s)
    | none =>
      match ix a (LIO_CNT 0) 0x20 32 with
      | some c => (if lioMode s c = 1 then s.rget a else 0#32, s)
      | none => ((regView a s).getD (s.rget a), clearRc a (latchHi m a s))

end Sys2Proof.Machine
end

