-- ==== Sys2Proof/Machine/RegWrite.lean ====
section
/-! DEFINITION. A write of a register by a master (00 R4 to R10; the register maps of every chapter): which writes have no effect, what
each field takes by its access code, and what the write sets going. The debug actions stand in Debug.lean. -/

namespace Sys2Proof.Machine

open Sys2Proof

/-! ### Access codes (R5, R9, R10) -/

/-- Whether a value is one that a field admits (R10). -/
def rngOk (f : FieldDef) (v : Nat) : Bool :=
  match f.rng with
  | .any => true
  | .between lo hi => decide (lo ≤ v) && decide (v ≤ hi)
  | .signed neg pos => decide (v ≤ pos) || decide (2 ^ (f.hi + 1 - f.lo) - neg ≤ v)
  | .oneOf vs => vs.contains v

/-- The word after a write of v, as far as one field goes. -/
def fieldWritten (locked : Bool) (v w : Word) (f : FieldDef) : Word :=
  let fl : Fld := ⟨f.hi, f.lo⟩
  let x := bitsOf v fl
  match f.acc with
  | .rw => if rngOk f x then setBits w fl x else w
  | .rwl => if !locked && rngOk f x then setBits w fl x else w
  | .w1c => w &&& ~~~(setBits 0#32 fl x)
  | .w1s => w ||| setBits 0#32 fl x
  | _ => w

/-- Store a write of v in the fields of the register that take it; `ok` says which fields do. -/
def storeFields (a : Nat) (locked : Bool) (ok : Fld → Bool) (v : Word) (s : State) : State :=
  match regDef? a with
  | some r => s.rset a (r.fields.foldl (fun w f => if ok ⟨f.hi, f.lo⟩ then fieldWritten locked v w f else w) (s.rget a))
  | none => s

/-! ### LOCK bits (R9) -/

/-- Register and bit of the LOCK that governs the RWL fields of a register; none: it has none. -/
def lockOf (a : Nat) : Option (Nat × Fld) :=
  let b := regBlock a
  let top : Fld := ⟨31, 31⟩
  if b = 0x01 then some (TSQ_CTRL, top)
  else if b = 0x03 then some (FRC_CTRL, top)
  else if 0x08 ≤ b ∧ b ≤ 0x0F then some (GRV_CFG (b - 8), top)
  else if b = 0x10 then some (PWR_CFG, top)
  else if b = 0x12 then some (TIM_CFG, top)
  else if b = 0x14 then some (PAR_CFG, top)
  else if b = 0x15 then some (HB_CFG, top)
  else if b = 0x16 then some (CHG_CFG, top)
  else if b = 0x18 then some (UPD_CFG, top)
  else if b = 0x19 then some (EVR_CTRL, top)
  else if b = 0x1A then some (LIO_MAP, top)
  else if 0x20 ≤ b ∧ b ≤ 0x37 then some (a, top)
  else if 0x38 ≤ b ∧ b ≤ 0x3B then some (ETH_CFG (b - 0x38), top)
  else if 0x40 ≤ b ∧ b ≤ 0x47 then some (CAN_CFG (b - 0x40), top)
  else if b = 0x50 then some (GATE_LOCK, GATE_LOCK_LOCK)
  else none

/-- Whether the RWL fields of a register are locked now. -/
def regLocked (a : Nat) (s : State) : Bool :=
  match lockOf a with
  | some (r, f) => s.on r f
  | none => false

/-! ### Writes without effect -/

/-- The program bank whose register stands at a: class table, tick length, program, INEND, OUTEND (03 R49; 10). -/
def bankOfReg (a : Nat) : Option Nat :=
  match ix2 a (TSQ_LEN 0) 0x200 2 4 68 with
  | some (b, _) => some b.val
  | none =>
    match ix2 a (TSQ_PROG 0 0) 0x4000 2 4 4096 with
    | some (b, _) => some b.val
    | none => ((ix a (PAR_INEND 0) 8 2).or (ix a (PAR_OUTEND 0) 8 2)).map fun b => b.val

/-- Whether a bank register belongs to the sequencer. -/
def bankOfTsq (a : Nat) : Bool := decide (regBlock a = 0x01) && (bankOfReg a).isSome && (regDef? a).isSome

/-- Gate, table and entry of an entry register, with its word in the entry (07). -/
def gateEntryOf (a : Nat) : Option (Nat × Nat × Nat × Nat) :=
  (ix2 a 0x0300501000 0x1000 45 4 1024).bind fun p =>
    if 512 ≤ p.2.val ∧ p.2.val % 8 < 7 then some (p.1.val, (p.2.val - 512) / 256, p.2.val % 256 / 8, p.2.val % 8) else none

/-- Whether a write of a gate entry register is forbidden (R190). -/
def gateForbidden (a : Nat) (s : State) : Bool :=
  match gateEntryOf a with
  | some (g, t, n, w) =>
    let c := GATE_CTL g t n
    s.on c GATE_CTL_LOCK
      || (t == s.rd (GATE_STATUS g) GATE_STATUS_TBANK && s.on TSQ_STATUS TSQ_STATUS_RUNNING && s.role != .maintenance)
      || (w != 4 && s.on c GATE_CTL_EN)
  | none => false

/-- DMA ring whose BASE or CFG register stands at a (12 R320). -/
def ringCfgOf (a : Nat) : Option (Fin 4 × Fin 16) :=
  (ix2 a (ETH_RING_BASE_LO 0 0) 0x10000 4 0x20 16).or ((ix2 a (ETH_RING_BASE_HI 0 0) 0x10000 4 0x20 16).or
    (ix2 a (ETH_RING_CFG 0 0) 0x10000 4 0x20 16))

/-- CAN buffer whose register stands at a, with the word in the buffer. -/
def canBufOf (a : Nat) : Option (Nat × Nat × Nat) :=
  (ix2 a (CAN_MB_CTRL 0 0) 0x10000 8 4 4096).map fun p => (p.1.val, p.2.val / 32, p.2.val % 32)

/-- Whether a write of the register at a by master m at privilege prv has no effect at all. -/
def writeForbidden (m prv a : Nat) (s : State) : Bool :=
  let b := regBlock a
  if b = 0x01 then bankOfReg a == some s.bank
  else if b = 0x02 then
    (match ix2 a (IMG_SAFE 0 0) 0x4000 2 4 4096 with
      | some (k, _) => k.val == s.rd IMG_STATUS IMG_STATUS_DBANK
      | none => false)
  else if b = 0x03 then (a == FRC_APPLY_LO || a == FRC_APPLY_HI) && s.on FRC_STATUS FRC_STATUS_PEND
  else if b = 0x14 then bankOfReg a == some s.bank
  else if b = 0x16 then (a == CHG_APPLY_LO || a == CHG_APPLY_HI) && s.chgState == 5
  else if b = 0x1A then
    ((ix a (LIO_CFG 0) 0x20 32).or (ix a (LIO_GATE 0) 0x20 32)).any fun c => s.unitState (.lio c) != 0
  else if 0x38 ≤ b ∧ b ≤ 0x3B then (ringCfgOf a).any fun p => s.unitState (.ring p.1 p.2) != 0
  else if 0x40 ≤ b ∧ b ≤ 0x47 then
    let n := b - 0x40
    (([CAN_CFG n, CAN_NBT n, CAN_DBT n, CAN_TDC n].contains a) && s.rd (CAN_EN n) U_STATE != 0)
      || ((a == CAN_LOG_BASE_LO n || a == CAN_LOG_BASE_HI n) && s.on (CAN_LOG_CFG n) CAN_LOG_CFG_LOG_EN)
      || (match canBufOf a with
          | some (_, k, w) => (w == 1 || w == 4 || decide (16 ≤ w)) && s.on (CAN_MB_CTRL n k) CAN_MB_CTRL_TXREQ
          | none => false)
  else if 0x48 ≤ b ∧ b ≤ 0x4F then prv == 0
  else if b = 0x50 then
    gateForbidden a s
      || (match ix a (GATE_MATTR 0) 4 60 with
          | some i => !mattrListed (0x44 + i.val)
          | none => false)
  else 0x51 ≤ b && b ≤ 0x52 && gateForbidden a s

/-! ### Fields whose range depends on more than their own value (R10) -/

/-- Whether the fields of a counter's PMC_CTL, PMC_FILT and PMC_FILT2 other than EN take a write: EN is 0 before it (15 R384). -/
def pmcIdle (s : State) (j i : Nat) : Bool := !s.on (PMC_CTL j i) PMC_CTL_EN

/-- The fields of the register at a that a write of v may change, beside its access codes: ranges taken from another field as it stands
after the access, and fields that a state of the unit keeps. -/
def fieldTakes (a : Nat) (v : Word) (s : State) (f : Fld) : Bool :=
  let b := regBlock a
  if b = 0x01 then
    (match ix2 a (TSQ_CLASS_CFG 0 0) 0x200 2 0x10 16 with
      | some _ =>
        f != TSQ_CLASS_CFG_PHASE ||
          (let p := bitsOf v TSQ_CLASS_CFG_PERIOD
           let per := if 1 ≤ p ∧ p ≤ 1000 then p else s.rd a TSQ_CLASS_CFG_PERIOD
           decide (bitsOf v TSQ_CLASS_CFG_PHASE < per))
      | none => !(a == TSQ_CTRL && f == TSQ_CTRL_MODE_REQ))
  else if b = 0x00 then !(a == RDY_VEC)
  else if b = 0x11 then
    !(a == DBG_REG && f == DBG_REG_REG) ||
      (let r := bitsOf v DBG_REG_REG
       decide (r ≤ 0x20) || decide (0x1000 ≤ r))
  else if b = 0x12 then !(a == TIM_FADJ) && !(a == TIM_SRC && f == TIM_SRC_SRC && s.rd TIM_SRC TIM_SRC_SRC == 3)
  else if b = 0x18 then !(a == UPD_TGT && f == UPD_TGT_PART) || decide (bitsOf v UPD_TGT_PART ≤ 5)
  else if b = 0x19 then !(a == EVR_CTRL && f == EVR_CTRL_RUN) && !(a == EVR_RD_SLOT)
  else if b = 0x1A then !(unitAt a).isSome || f != U_EN
  else if 0x38 ≤ b ∧ b ≤ 0x3B then
    let n := b - 0x38
    if a = ETH_CFG n then
      (if f = ETH_CFG_FEC_EN then decide (n < 2) && s.rd (ETH_EN n) U_STATE == 0
       else !(f == ETH_CFG_AN_EN) || s.rd (ETH_EN n) U_STATE == 0)
    else (!(unitAt a).isSome || f != U_EN) && (ix2 a (ETH_RING_TAIL 0 0) 0x10000 4 0x20 16).isNone
  else if 0x40 ≤ b ∧ b ≤ 0x47 then
    let n := b - 0x40
    if a = CAN_LOG_CFG n then !(f == CAN_LOG_CFG_LOG_SIZE && s.on a CAN_LOG_CFG_LOG_EN)
    else if (ix a (CAN_NEWDAT n 0) 4 4).isSome then false
    else
      (match canBufOf a with
        | some (_, _, 0) =>
          !(f == CAN_MB_CTRL_TXREQ)
            && !(s.on a CAN_MB_CTRL_TXREQ && [CAN_MB_CTRL_FDF, CAN_MB_CTRL_BRS, CAN_MB_CTRL_IDE, CAN_MB_CTRL_RTR, CAN_MB_CTRL_DLC].contains f)
        | _ => !(unitAt a).isSome || f != U_EN)
  else if 0x48 ≤ b ∧ b ≤ 0x4F then
    let j := b - 0x48
    if a = PMC_BCTL j then !(f == PMC_BCTL_FREEZE_ALL && j != 0)
    else if a = PMC_WCFG j then
      f != PMC_WCFG_LEN ||
        (let l := bitsOf v PMC_WCFG_LEN
         if bitsOf v PMC_WCFG_ALIGN = 1 then decide (1 ≤ l) else decide (1 ≤ l) && decide (l ≤ 1000000) && 1000000 % l == 0)
    else
      (match ix2 a (PMC_CTL 0 0) 0x10000 8 4 512 with
        | some (_, w) =>
          let i := w.val / 8
          if w.val % 8 = 0 then
            f == PMC_CTL_EN || (pmcIdle s j i && (f != PMC_CTL_EVENT || pmcCodeOk i (bitsOf v PMC_CTL_EVENT)))
          else pmcIdle s j i
        | none => true)
  else if 0x50 ≤ b ∧ b ≤ 0x52 then !((gateEntryOf a).isSome && a % 0x20 == 0x10 && f == GATE_CTL_LOCK)
  else !(unitAt a).isSome || f != U_EN

/-! ### What a write sets going -/

/-- Whether a written word has a one-bit field at 1. -/
def wset (v : Word) (f : Fld) : Bool := bitsOf v f == 1

/-- Do f when the field is written 1. -/
def ifSet (v : Word) (fl : Fld) (f : State → State) (s : State) : State := if wset v fl then f s else s

/-- RDY_VEC: the firmware's bits are W1S for a Canopy core at MACHINE (14 R373). While the sequencer does not run, PKG places the package of
slot PKG_SLOT in DRAM and loads its set, and GRV g loads its code and INIT content into Grove g (11 R421; notes/assumptions/83). -/
def rdyVecWrite (m prv : Nat) (v : Word) (s : State) : State :=
  if isCanopy m && prv == 3 then
    let t := ([1, 18] ++ (List.range 8).map (fun g => 20 + g)).foldl (fun (t : State) i => if wbit v.toNat i then setReady t i else t) s
    if t.on TSQ_STATUS TSQ_STATUS_RUNNING then t
    else
      let t := if wbit v.toNat 18 && t.chg.canopy.isEmpty then loadCanopy (loadPackage t) else t
      loadBanks t fun g => wbit v.toNat (20 + g) && !wbit (s.rget RDY_VEC).toNat (20 + g)
  else s

/-- PAR_CMD (10). -/
def parCmdWrite (v : Word) (s : State) : State :=
  let s := ifSet v PAR_CMD_GO parGo s
  let s := ifSet v PAR_CMD_SWAP_CANCEL parSwapCancel s
  let s := ifSet v PAR_CMD_SWAP parSwap s
  let s := ifSet v PAR_CMD_STOP parStopCmd s
  let s := ifSet v PAR_CMD_RESTART parRestartCmd s
  let s := ifSet v PAR_CMD_MAINT (fun s => parMaint s (wset v PAR_CMD_FORCE)) s
  ifSet v PAR_CMD_RESYNC parResync s

/-- CHG_CMD (11). -/
def chgCmdWrite (v : Word) (s : State) : State :=
  ifSet v CHG_CMD_DISCARD chgDiscard (ifSet v CHG_CMD_WITHDRAW chgWithdraw (ifSet v CHG_CMD_ANNOUNCE chgAnnounce (ifSet v CHG_CMD_STAGE chgStage s)))

/-- UPD_CMD (14). -/
def updCmdWrite (v : Word) (s : State) : State :=
  let s := ifSet v UPD_CMD_WRITE updWrite s
  let s := ifSet v UPD_CMD_TRIAL updTrial s
  let s := ifSet v UPD_CMD_CANCEL updCancel s
  let s := ifSet v UPD_CMD_CONFIRM updConfirm s
  let s := ifSet v UPD_CMD_REJECT updReject s
  let s := ifSet v UPD_CMD_REVOKE updRevoke s
  ifSet v UPD_CMD_RETIRE updRetire s

/-- A ring port is forced into loopback (08 R225): FLOOP goes from 0 to 1. -/
def forceLoop (old v : Word) (k : Nat) (p : Bool) (s : State) : State :=
  let f := if p then VGX_CFG_FLOOP_P else VGX_CFG_FLOOP_S
  if wset v f && !wset old f then
    enterLoop s k p
  else s

/-- Writes that act in blocks 0x00 to 0x1A. While TIM_SRC.SRC reads PARTNER only the pair manager changes that field. The spec gives no order for
STEP and RTC_STORE written 1 together: the model steps first, then stores (DESIGN CHOICE, notes/assumptions/77). -/
def lowActions (m prv a : Nat) (v : Word) (s : State) : State :=
  if a = RDY_VEC then rdyVecWrite m prv v s
  else if a = RDY_FWSET then rdyFwset s v
  else if a = TSQ_CTRL then modeReqWrite s (wset v TSQ_CTRL_MODE_REQ)
  else if a = TSQ_CMD then ifSet v TSQ_CMD_CHECK tsqCheck s
  else if a = IMG_MAPCMD then ifSet v IMG_MAPCMD_LOAD mapLoad s
  else if a = FRC_CMD then ifSet v FRC_CMD_CANCEL frcCancel (ifSet v FRC_CMD_APPLY frcApply s)
  else if a = LSC_CMD then ifSet v LSC_CMD_TEST (fun s => lscTest s (bitsOf v LSC_CMD_SEL)) s
  else if a = TIM_FADJ then fadjWrite v s
  else if a = TIM_SRC then (if m = 0x46 then s.wr TIM_SRC TIM_SRC_SRC (bitsOf v TIM_SRC_SRC) else s)
  else if a = TIM_CMD then ifSet v TIM_CMD_RTC_STORE rtcStore (ifSet v TIM_CMD_STEP timStep s)
  else if a = PAR_CMD then parCmdWrite v s
  else if a = CHG_CMD then chgCmdWrite v s
  else if a = HWD_RESET then hwdReset s v
  else if a = UPD_CMD then updCmdWrite v s
  else if a = EVR_CTRL then (if wset v EVR_CTRL_RUN then evrRun s else s.wr EVR_CTRL EVR_CTRL_RUN 0)
  else if a = EVR_CMD then ifSet v EVR_CMD_SWREC swRecord s
  else if a = EVR_RD_SLOT then rdSlot s (bitsOf v EVR_RD_SLOT_SLOT)
  else if bankOfTsq a then s.wr TSQ_CHK TSQ_CHK_PASS 0
  else match ix a (LIO_GRP_CFG 0) 0x10 2 with
    | some g => ifSet v LIO_GRP_CFG_REARM (fun s => lioRearm s g) s
    | none => s

/-- Writes that act in the blocks of the rings, the network, CAN, the counters and the gates. -/
def highActions (a : Nat) (old v : Word) (s : State) : State :=
  let b := regBlock a
  if 0x20 ≤ b ∧ b ≤ 0x37 then
    let k := b - 0x20
    if a = VGX_CFG k then forceLoop old v k true (forceLoop old v k false s)
    else if a = VGX_RCTL k then ifSet v VGX_RCTL_START (ringStart k) s
    else s
  else if 0x38 ≤ b ∧ b ≤ 0x3B then
    (match ix2 a (ETH_RING_TAIL 0 0) 0x10000 4 0x20 16 with
      | some (n, r) => tailWrite n r v s
      | none => s)
  else if 0x40 ≤ b ∧ b ≤ 0x47 then
    let n := b - 0x40
    (match ix a (CAN_NEWDAT n 0) 4 4, canBufOf a with
      | some j, _ => newdatClear n j v s
      | none, some (_, k, 0) => ifSet v CAN_MB_CTRL_TXABORT (canTxabort n k) (ifSet v CAN_MB_CTRL_TXREQ (canTxreq n k) s)
      | none, _ => s)
  else if 0x48 ≤ b ∧ b ≤ 0x4F then
    (match ix2 a (PMC_CTL 0 0) 0x10000 8 0x20 64 with
      | some (j, i) => ifSet v PMC_CTL_CLR (fun s => s.wr64 (PMC_VAL_LO j i) (PMC_VAL_HI j i) 0) s
      | none => s)
  else if 0x50 ≤ b ∧ b ≤ 0x52 then
    (match gateEntryOf a with
      | some (g, t, n, 4) => ifSet v GATE_CTL_LOCK (fun s => gateLock s g t n) s
      | _ => s)
  else s

/-- What a write of v to the register at a does besides storing its fields; `old` is the word before the write. -/
def regActions (m prv a : Nat) (old v : Word) (s : State) : State :=
  match unitAt a with
  | some u => enWrite s u (wset v U_EN)
  | none => if regBlock a ≤ 0x1A then lowActions m prv a v s else highActions a old v s

/-- A write of the register at a by master m at privilege prv, once the gate has admitted it, but for the debug actions. -/
def regWriteBase (m prv a : Nat) (v : Word) (s : State) : State :=
  if writeForbidden m prv a s then s
  else regActions m prv a (s.rget a) v (storeFields a (regLocked a s) (fieldTakes a v s) v s)

end Sys2Proof.Machine
end

