-- ==== Sys2Proof/Machine/Debug.lean ====
section
/-! DEFINITION. The debug port's actions on a core (06 R174 to R177, DBG_ registers): halt, step, resume, register and memory access. An
action is done when it is written; its entry stays in the core's replay queue until the queue is drained (notes/assumptions/50). -/

namespace Sys2Proof.Machine

open Sys2Proof

/-- The core in DBG_TARGET. -/
def dbgTarget (s : State) : Nat := s.rd DBG_TARGET DBG_TARGET_CORE

/-- DBG_CMD.HALT: an allowed halt enters the replay queue and takes effect at the next instruction boundary; a refused one sets REFUSED and
writes an event record (R174 to R176). -/
def dbgHalt (s : State) : State :=
  let n := dbgTarget s
  if haltAllowed s n then
    match replayPush s n .halt with
    | some t => t.setCore n { t.core n with haltReq := true }
    | none => dbgRefuse s false
  else dbgRefuse s true

/-- The instruction boundary at which a requested halt takes effect (R175): the core is still the one that may halt. -/
def haltBoundary (n : Nat) (s : State) : State :=
  if (s.core n).haltReq then
    (if haltAllowed s n then haltCore s n else s.setCore n { s.core n with haltReq := false })
  else s

/-- An action on a halted target through the replay queue; else REFUSED (R174, R175). -/
def dbgAct (r : Replay) (f : Nat → State → State) (s : State) : State :=
  let n := dbgTarget s
  if halted s n then
    match replayPush s n r with
    | some t => f n t
    | none => dbgRefuse s false
  else dbgRefuse s false

/-- The instruction word at a core's pc: an engine's from its code bank of the Canopy set (R152). -/
def wordAtPc (s : State) (n : Nat) : Word :=
  let a := (s.core n).pc.toNat
  let p := if isEng n then a + s.rd (GRV_STATUS (n / 8)) GRV_STATUS_CBANK * 0x00040000 else a
  if isRegs p then s.probe p
  else match (if isCanopy n && isDram a then icacheLine s n (a / 64 * 64) else none) with
    | some l => BitVec.ofNat 32 (leVal ((l.drop (a % 64)).take 4))
    | none => BitVec.ofNat 32 (leVal (s.bytes p 4))

/-- One instruction of core n, the one that stands at its pc (R175). -/
def stepCore (bus : Bus) (n : Nat) (s : State) : State :=
  let ws := wordSem bus (wordAtPc s n)
  let t := perform ws.1 ws.2 n s
  if isCanopy n && (t.core n).run != .halt then t.setCore n { t.core n with run := .halt } else t

/-- DBG_CMD.STEP: exactly one instruction. -/
def dbgStep (bus : Bus) (s : State) : State := dbgAct .step (stepCore bus) s

/-- A halted core goes on; an engine whose task left it while it was halted runs its next ready task; recovery of a Grove halted by the
debug port starts once its last engine has resumed (R176). -/
def resumeCore (n : Nat) (s : State) : State :=
  if h : n < 64 then
    let t := s.wr (ENG_STATUS n) ENG_STATUS_STATE (resumeState s n)
    recoverResumed (schedule t n) ⟨n / 8, by omega⟩
  else s.setCore n { s.core n with run := .run }

/-- DBG_CMD.RESUME. -/
def dbgResume (s : State) : State := dbgAct .resume resumeCore s

/-- Store a 64-bit value in DBG_DATA. -/
def dbgData (s : State) (v : DWord) : State := s.wr64 DBG_DATA_LO DBG_DATA_HI v.toNat

/-- Value of the register that DBG_REG.REG names: v0 to v31, the pc, or a system register; one that the core does not have reads a free
value (notes/assumptions/51). -/
def dbgRegRead (s : State) (n r : Nat) : DWord × State :=
  if h : r < 32 then (s.vget n ⟨r, h⟩, s)
  else if r = 0x20 then ((s.core n).pc, s)
  else if srExists n (r - 0x1000) then srRead s n (r - 0x1000)
  else s.takeFree

/-- Write of the register that DBG_REG.REG names; a system register that no level may write keeps its value. -/
def dbgRegWrite (s : State) (n r : Nat) (v : DWord) : State :=
  if h : r < 32 then s.vset n ⟨r, h⟩ v
  else if r = 0x20 then s.setPc n (pcMask v)
  else if srExists n (r - 0x1000) && !srNoWrite (r - 0x1000) then s.srSet n (r - 0x1000) (srWritten s n (r - 0x1000) v)
  else s

/-- DBG_REG.GO: a register of the halted target is read into DBG_DATA, which is not replayed, or written from it (R174). -/
def dbgReg (s : State) : State :=
  let r := s.rd DBG_REG DBG_REG_REG
  let v := BitVec.ofNat 64 (s.rd64 DBG_DATA_LO DBG_DATA_HI)
  if s.on DBG_REG DBG_REG_WRITE then dbgAct (.reg r v) (fun n t => dbgRegWrite t n r v) s
  else if halted s (dbgTarget s) then
    let (w, t) := dbgRegRead s (dbgTarget s) r
    dbgData t w
  else dbgRefuse s false

/-- A memory access through the halted core, with its PRV and PART; an error response sets DBG_STATUS.ERR, and a denied read delivers zero
(07 R188). -/
def dbgMemCore (bus : Bus) (a sz : Nat) (wr : Bool) (n : Nat) (s : State) : State :=
  let ans := if wr then coreWrite bus s n (prvOf s n) (partOf s n) a sz (s.rd64 DBG_DATA_LO DBG_DATA_HI % 2 ^ (8 * sz))
    else coreRead bus s n (prvOf s n) (partOf s n) a sz
  match ans with
  | (.ok v, t) => if wr then t else dbgData t (BitVec.ofNat 64 v)
  | (.denied _, t) => (if wr then t else dbgData t 0#64).raise 7 DBG_STATUS DBG_STATUS_ERR
  | (_, t) => t.raise 7 DBG_STATUS DBG_STATUS_ERR

/-- DBG_MEM.GO: an access through the halted target; a misaligned address sets ERR and nothing is accessed. -/
def dbgMem (bus : Bus) (s : State) : State :=
  let sz := 2 ^ s.rd DBG_MEM DBG_MEM_SIZE
  let a := s.rd64 DBG_ADDR_LO DBG_ADDR_HI
  let wr := s.on DBG_MEM DBG_MEM_WRITE
  if halted s (dbgTarget s) = false then dbgRefuse s false
  else if a % sz ≠ 0 then s.raise 7 DBG_STATUS DBG_STATUS_ERR
  else dbgAct (.mem a wr) (dbgMemCore bus a sz wr) s

/-- The debug actions of a write of v to the register at a. -/
def dbgActions (bus : Bus) (a : Nat) (v : Word) (s : State) : State :=
  if a = DBG_CMD then
    ifSet v DBG_CMD_RESUME dbgResume (ifSet v DBG_CMD_STEP (dbgStep bus) (ifSet v DBG_CMD_HALT dbgHalt s))
  else if a = DBG_REG then ifSet v DBG_REG_GO dbgReg s
  else if a = DBG_MEM then ifSet v DBG_MEM_GO (dbgMem bus) s
  else s

end Sys2Proof.Machine
end

