-- ==== Sys2Proof/Machine/RegBus.lean ====
section
/-! DEFINITION. The whole effect of a register access, and the accesses of masters that are no core: rows of chapters 00, 06, 07 and of
the test access port (16 R417). -/

namespace Sys2Proof.Machine

open Sys2Proof

/-! ### The register bus -/

/-- A register write whose debug actions reach the registers by a given bus. -/
def regWriteOn (bus : Bus) (m prv a : Nat) (v : Word) (s : State) : State := dbgActions bus a v (regWriteBase m prv a v s)

/-- The bus up to a nesting of debug actions: a stepped instruction may itself write DBG_CMD. -/
def busUpTo : Nat → Bus
  | 0 => ⟨regRead, regWriteBase⟩
  | k + 1 => ⟨regRead, regWriteOn (busUpTo k)⟩

/-- The register bus. A stepped instruction may write DBG_CMD.STEP in its turn, even for its own core; beyond three such levels the write
steps nothing (notes/assumptions/50). -/
def regBus : Bus := busUpTo 3

/-- A write of a register by a master at a privilege, once its gate has admitted it. -/
def regWrite (m prv a : Nat) (v : Word) (s : State) : State := regBus.wr m prv a v s

/-- Privilege that a master carries: a Denma core its current PRV, any other what GATE_MATTR gives it (07 R182, R183). -/
def masterPrv (s : State) (m : Nat) : Nat := if m ≤ 0x43 ∨ m = 0x48 then prvOf s m else (mattrXfer s m 0).prv

/-- Masters whose data writes carry 0b011 (07 R183): ring DMA (08 R213), the Ethernet controllers' receive data (12 R321) and the CAN logs
(12 R335). -/
def postsWrites (m : Nat) : Bool :=
  (decide (0x50 ≤ m) && decide (m ≤ 0x6B)) || (decide (0x70 ≤ m) && decide (m ≤ 0x77))

/-- What a master's transfer carries (07 R182, R183). -/
def masterXfer (s : State) (m : Nat) (k : AccKind) (a : Nat) : Xfer :=
  if m ≤ 0x43 ∨ m = 0x48 then coreXfer s m (isDram a) else mattrXfer s m (if k = .write ∧ postsWrites m = true then 3 else 2)

/-! ### One transfer at the registers and an access in pieces (07 R192) -/

/-- An engine's answer as the answer of a piece; a Grove fault stops the engine, whose access ends with the code of an uncorrectable word
(06 R155, 07 R196). -/
def engPiece (n : Nat) : EngAns × State → (Except Nat (List Byte)) × State
  | (.ok v, t) => (.ok (leBytes n v), t)
  | (.denied c, t) => (.error c, t)
  | (.memErr c, t) => (.error (8 + c), t)
  | (.fault, t) => (.error 9, t)

/-- A piece of a read: of a register by the bus, of a memory as its bytes, by an engine through its view of memory (06 R151). -/
def accRead (s : State) (x : Xfer) (a n : Nat) (split : Bool) : (Except Nat (List Byte)) × State :=
  if isRegs a then
    match present s .read x a n split with
    | (.error c, t) => (.error c, t)
    | (.ok _, t) =>
      let (w, u) := regRead x.m x.prv a t
      (.ok (leBytes 4 w.toNat), u)
  else if isEng x.m then engPiece n (engReadP split s x.m x.prv x.part a n)
  else readPiece s x a n split

/-- A piece of a write. -/
def accWrite (s : State) (x : Xfer) (a : Nat) (bs : List Byte) (split : Bool) : (Except Nat Unit) × State :=
  if isRegs a then
    match present s .write x a bs.length split with
    | (.error c, t) => (.error c, t)
    | (.ok _, t) => (.ok (), regWrite x.m x.prv a (BitVec.ofNat 32 (leVal bs)) t)
  else if isEng x.m then
    match engPiece 0 (engWriteP split s x.m x.prv x.part a bs.length (leVal bs)) with
    | (.ok _, t) => (.ok (), t)
    | (.error c, t) => (.error c, t)
  else writePiece s x a bs split

/-- A piece of an instruction fetch: its check, and the bytes; an engine fetches from its code window only (06 R152), and an uncorrectable
word of Sapwood or code follows R155. -/
def accExec (s : State) (x : Xfer) (a n : Nat) (split : Bool) : (Except Nat (List Byte)) × State :=
  if isEng x.m then engPiece n (engFetch split s x.m x.prv x.part a n)
  else
    match present s .exec x a n split with
    | (.error c, t) => (.error c, t)
    | (.ok tgt, t) =>
      match sysFetch t x tgt a n with
      | (.ok v, u) => (.ok (leBytes n v), u)
      | (.memErr c, u) => (.error (8 + c), u)
      | (_, u) => (.error 9, u)

/-- Pieces of a read or a fetch, until one is denied. -/
def accReads (f : State → Nat → Nat → Bool → (Except Nat (List Byte)) × State) (s : State) (first : Bool) :
    List (Nat × Nat) → List Byte × Option (Nat × Nat) × State
  | [] => ([], none, s)
  | (a, n) :: ps =>
    match f s a n (!first) with
    | (.error c, t) => ([], some (c, a), t)
    | (.ok bs, t) =>
      let (r, e, u) := accReads f t false ps
      (bs ++ r, e, u)

/-- Pieces of a write, until one is denied. -/
def accWrites (s : State) (x : Xfer) (first : Bool) (bs : List Byte) : List (Nat × Nat) → Option (Nat × Nat) × State
  | [] => (none, s)
  | (a, n) :: ps =>
    match accWrite s x a (bs.take n) (!first) with
    | (.error c, t) => (some (c, a), t)
    | (.ok (), t) => accWrites t x false (bs.drop n) ps

/-- The data of a write of n bytes: what the command carries, zeros beyond. -/
def accData (n : Nat) (data : List Byte) : List Byte := data.take n ++ List.replicate (n - data.length) 0#8

/-- An access of a master (R192): its pieces in ascending order until one is denied, and one response. -/
def accessRun (m : Nat) (k : AccKind) (a n : Nat) (data : List Byte) (s : State) : State :=
  let x := masterXfer s m k a
  match k with
  | .write =>
    match accWrites s x true (accData n data) (pieces a n) with
    | (none, t) => { t with resp := .done }
    | (some (c, p), t) => { t with resp := .err c p [] }
  | _ =>
    match accReads (fun s a n sp => if k = .exec then accExec s x a n sp else accRead s x a n sp) s true (pieces a n) with
    | (bs, none, t) => { t with resp := .data bs }
    | (bs, some (c, p), t) => { t with resp := .err c p bs }

/-- A write of a register by a command: 32 bits at a 4-byte-aligned offset, else an error and no effect (00 R4). -/
def busWrite (m : Master) (a : Addr) (v : Word) (s : State) : State :=
  if a.toNat % 4 = 0 then { regWrite m (masterPrv s m) a.toNat v s with resp := .done } else { s with resp := .err 6 a.toNat [] }

/-- A read of a register by a command. -/
def busRead (m : Master) (a : Addr) (s : State) : State :=
  if a.toNat % 4 = 0 then
    let (w, t) := regRead m (masterPrv s m) a.toNat s
    { t with resp := .word w }
  else { s with resp := .err 6 a.toNat [] }

/-! ### Meanings -/

/-- REG_WRITE (00 R5 to R10). -/
def execRegWrite (m : Master) (a : Addr) (v : Word) (s : State) : Out3 := .next (busWrite m a v s)

/-- RC_READ (00 R8). -/
def execRcRead (m : Master) (a : Addr) (s : State) : Out3 := .next (busRead m a s)

/-- HI_LATCH_READ (15 R383). -/
def execHiLatchRead (m : Master) (a : Addr) (s : State) : Out3 := .next (busRead m a s)

/-- LOCK_WRITE (00 R9): the fields written with the LOCK bit still take the values written. -/
def execLockWrite (m : Master) (a : Addr) (v : Word) (s : State) : Out3 := .next (busWrite m a v s)

/-- ACCESS (07 R192). -/
def execAccess (m : Master) (kind : AccKind) (a : Addr) (len : BitVec 13) (data : List Byte) (s : State) : Out3 :=
  .next (accessRun m kind a.toNat len.toNat data s)

/-- GATE_ENTRY_WRITE (07 R190). -/
def execGateEntryWrite (m : Master) (a : Addr) (v : Word) (s : State) : Out3 := .next (busWrite m a v s)

/-- GATE_ENTRY_LOCK (07 R191): subject to R190 as any write of the entry. -/
def execGateEntryLock (_m : Master) (gate : Fin 45) (bank : Fin 2) (n : Fin 32) (s : State) : Out3 :=
  .next (if gateForbidden (GATE_CTL gate bank n) s then s else gateLock s gate bank n)

/-- ENFORCE (07 R189). -/
def execEnforce (_m : Master) (gate : Fin 45) (s : State) : Out3 := .next (s.wr (GATE_CTRL gate) GATE_CTRL_ENFORCE 1)

/-- DBG_HALT (06 R176). -/
def execDbgHalt (_m : Master) (s : State) : Out3 := .next (dbgHalt s)

/-- HALT_AT_BOUNDARY (06 R175). -/
def execHaltAtBoundary (core : Fin 68) (s : State) : Out3 := .next (haltBoundary core s)

/-- DBG_STEP (06 R175). -/
def execDbgStep (_m : Master) (s : State) : Out3 := .next (dbgStep regBus s)

/-- DBG_RESUME (06 R174). -/
def execDbgResume (_m : Master) (s : State) : Out3 := .next (dbgResume s)

/-- DBG_REG_ACCESS (06 R174). -/
def execDbgRegAccess (_m : Master) (s : State) : Out3 := .next (dbgReg s)

/-- DBG_MEM_ACCESS (06 R174). -/
def execDbgMemAccess (_m : Master) (s : State) : Out3 := .next (dbgMem regBus s)

/-! ### The test access port (16 R417) -/

/-- The module's boundary cells are not given: a captured boundary register is a free value. -/
def tapBoundary (ir : BitVec 6) (s : State) : State :=
  let (v, t) := s.takeFree
  { t with tap := { t.tap with ir := ir, bsr := v } }

/-- EXTEST. -/
def execExtest (s : State) : Out3 := .next (tapBoundary 0#6 s)

/-- SAMPLE/PRELOAD. -/
def execSamplePreload (s : State) : Out3 := .next (tapBoundary 2#6 s)

/-- IDCODE: the word 0x1648_074B. -/
def execIdcode (s : State) : Out3 := .next { s with tap := { s.tap with ir := 1#6 }, resp := .word 0x1648074B#32 }

/-- BYPASS: the bypass register captures 0. -/
def execBypass (s : State) : Out3 := .next { s with tap := { s.tap with ir := 63#6, byp := false } }

/-- One 32-bit direct transfer of the debug master; STATUS and DATA for the next capture. DATA after a write is not stated: a free value
(notes/assumptions/52). -/
def tapTransfer (write : Bool) (a : Nat) (v : Word) (s : State) : State :=
  let x := mattrXfer s 0x7F 2
  let s := { s with tap := { s.tap with ir := 0x10#6 } }
  if a % 4 ≠ 0 then { s with tap := { s.tap with status := 1, data := 6#32 } }
  else if write then
    match accWrite s x a (leBytes 4 v.toNat) false with
    | (.ok (), t) =>
      let (d, u) := t.takeFree
      { u with tap := { u.tap with status := 0, data := d.truncate 32 } }
    | (.error c, t) => { t with tap := { t.tap with status := 1, data := BitVec.ofNat 32 (c % 8) } }
  else
    match accRead s x a 4 false with
    | (.ok bs, t) => { t with tap := { t.tap with status := 0, data := BitVec.ofNat 32 (leVal bs) } }
    | (.error c, t) => { t with tap := { t.tap with status := 1, data := BitVec.ofNat 32 (c % 8) } }

/-- DAPACC. -/
def execDapacc (write : Bool) (a : Addr) (v : Word) (s : State) : Out3 := .next (tapTransfer write a.toNat v s)

end Sys2Proof.Machine
end

