-- ==== Sys2Proof/Machine/DenmaExec.lean ====
section
/-! DEFINITION. The meanings of the Denma rows (chapters 04 and 05): a processor issues the instruction that stands at its pc. -/

namespace Sys2Proof.Machine

open Sys2Proof

/-- ADD (R91). -/
def execAdd (p : Proc) (w : Wd) (rd ra rb : Reg) (s : State) : Out3 := .next (issue p .int (dAdd w rd ra rb) s)

/-- SUB (R91). -/
def execSub (p : Proc) (w : Wd) (rd ra rb : Reg) (s : State) : Out3 := .next (issue p .int (dSub w rd ra rb) s)

/-- AND (R91). -/
def execAnd (p : Proc) (w : Wd) (rd ra rb : Reg) (s : State) : Out3 := .next (issue p .int (dAnd w rd ra rb) s)

/-- OR (R91). -/
def execOr (p : Proc) (w : Wd) (rd ra rb : Reg) (s : State) : Out3 := .next (issue p .int (dOr w rd ra rb) s)

/-- XOR (R91). -/
def execXor (p : Proc) (w : Wd) (rd ra rb : Reg) (s : State) : Out3 := .next (issue p .int (dXor w rd ra rb) s)

/-- ANDN (R91). -/
def execAndn (p : Proc) (w : Wd) (rd ra rb : Reg) (s : State) : Out3 := .next (issue p .int (dAndn w rd ra rb) s)

/-- SHL (R91). -/
def execShl (p : Proc) (w : Wd) (rd ra rb : Reg) (s : State) : Out3 := .next (issue p .int (dShl w rd ra rb) s)

/-- SHR (R91). -/
def execShr (p : Proc) (w : Wd) (rd ra rb : Reg) (s : State) : Out3 := .next (issue p .int (dShr w rd ra rb) s)

/-- SAR (R91). -/
def execSar (p : Proc) (w : Wd) (rd ra rb : Reg) (s : State) : Out3 := .next (issue p .int (dSar w rd ra rb) s)

/-- ROR (R91). -/
def execRor (p : Proc) (w : Wd) (rd ra rb : Reg) (s : State) : Out3 := .next (issue p .int (dRor w rd ra rb) s)

/-- MUL (R91). -/
def execMul (p : Proc) (w : Wd) (rd ra rb : Reg) (s : State) : Out3 := .next (issue p .int (dMul w rd ra rb) s)

/-- MULH (R91). -/
def execMulh (p : Proc) (w : Wd) (rd ra rb : Reg) (s : State) : Out3 := .next (issue p .int (dMulh w rd ra rb) s)

/-- MULHU (R91). -/
def execMulhu (p : Proc) (w : Wd) (rd ra rb : Reg) (s : State) : Out3 := .next (issue p .int (dMulhu w rd ra rb) s)

/-- DIV (R91). -/
def execDiv (p : Proc) (w : Wd) (rd ra rb : Reg) (s : State) : Out3 := .next (issue p .int (dDiv w rd ra rb) s)

/-- DIVU (R91). -/
def execDivu (p : Proc) (w : Wd) (rd ra rb : Reg) (s : State) : Out3 := .next (issue p .int (dDivu w rd ra rb) s)

/-- REM (R91). -/
def execRem (p : Proc) (w : Wd) (rd ra rb : Reg) (s : State) : Out3 := .next (issue p .int (dRem w rd ra rb) s)

/-- REMU (R91). -/
def execRemu (p : Proc) (w : Wd) (rd ra rb : Reg) (s : State) : Out3 := .next (issue p .int (dRemu w rd ra rb) s)

/-- MIN (R91). -/
def execMin (p : Proc) (w : Wd) (rd ra rb : Reg) (s : State) : Out3 := .next (issue p .int (dMin w rd ra rb) s)

/-- MAX (R91). -/
def execMax (p : Proc) (w : Wd) (rd ra rb : Reg) (s : State) : Out3 := .next (issue p .int (dMax w rd ra rb) s)

/-- MINU (R91). -/
def execMinu (p : Proc) (w : Wd) (rd ra rb : Reg) (s : State) : Out3 := .next (issue p .int (dMinu w rd ra rb) s)

/-- MAXU (R91). -/
def execMaxu (p : Proc) (w : Wd) (rd ra rb : Reg) (s : State) : Out3 := .next (issue p .int (dMaxu w rd ra rb) s)

/-- SLT (R91). -/
def execSlt (p : Proc) (w : Wd) (rd ra rb : Reg) (s : State) : Out3 := .next (issue p .int (dSlt w rd ra rb) s)

/-- SLTU (R91). -/
def execSltu (p : Proc) (w : Wd) (rd ra rb : Reg) (s : State) : Out3 := .next (issue p .int (dSltu w rd ra rb) s)

/-- SEQ (R91). -/
def execSeq (p : Proc) (w : Wd) (rd ra rb : Reg) (s : State) : Out3 := .next (issue p .int (dSeq w rd ra rb) s)

/-- SNE (R91). -/
def execSne (p : Proc) (w : Wd) (rd ra rb : Reg) (s : State) : Out3 := .next (issue p .int (dSne w rd ra rb) s)

/-- CLZ (R91). -/
def execClz (p : Proc) (w : Wd) (rd ra : Reg) (s : State) : Out3 := .next (issue p .int (dClz w rd ra) s)

/-- CTZ (R91). -/
def execCtz (p : Proc) (w : Wd) (rd ra : Reg) (s : State) : Out3 := .next (issue p .int (dCtz w rd ra) s)

/-- POPC (R91). -/
def execPopc (p : Proc) (w : Wd) (rd ra : Reg) (s : State) : Out3 := .next (issue p .int (dPopc w rd ra) s)

/-- SEXT (R91). -/
def execSext (p : Proc) (w : Wd) (rd ra : Reg) (s : State) : Out3 := .next (issue p .int (dSext w rd ra) s)

/-- ZEXT (R91). -/
def execZext (p : Proc) (w : Wd) (rd ra : Reg) (s : State) : Out3 := .next (issue p .int (dZext w rd ra) s)

/-- ABS (R91). -/
def execAbs (p : Proc) (w : Wd) (rd ra : Reg) (s : State) : Out3 := .next (issue p .int (dAbs w rd ra) s)

/-- ADDS (R95). -/
def execAdds (p : Proc) (w : Wd) (rd ra rb : Reg) (s : State) : Out3 := .next (issue p .satg (dAdds w rd ra rb) s)

/-- SUBS (R95). -/
def execSubs (p : Proc) (w : Wd) (rd ra rb : Reg) (s : State) : Out3 := .next (issue p .satg (dSubs w rd ra rb) s)

/-- ADDUS (R95). -/
def execAddus (p : Proc) (w : Wd) (rd ra rb : Reg) (s : State) : Out3 := .next (issue p .satg (dAddus w rd ra rb) s)

/-- SUBUS (R95). -/
def execSubus (p : Proc) (w : Wd) (rd ra rb : Reg) (s : State) : Out3 := .next (issue p .satg (dSubus w rd ra rb) s)

/-- MULS (R95). -/
def execMuls (p : Proc) (w : Wd) (rd ra rb : Reg) (s : State) : Out3 := .next (issue p .satg (dMuls w rd ra rb) s)

/-- MULUS (R95). -/
def execMulus (p : Proc) (w : Wd) (rd ra rb : Reg) (s : State) : Out3 := .next (issue p .satg (dMulus w rd ra rb) s)

/-- NEGS (R95). -/
def execNegs (p : Proc) (w : Wd) (rd ra : Reg) (s : State) : Out3 := .next (issue p .satg (dNegs w rd ra) s)

/-- ABSS (R95). -/
def execAbss (p : Proc) (w : Wd) (rd ra : Reg) (s : State) : Out3 := .next (issue p .satg (dAbss w rd ra) s)

/-- SATS (R95). -/
def execSats (p : Proc) (w : Wd) (rd ra : Reg) (s : State) : Out3 := .next (issue p .satg (dSats w rd ra) s)

/-- SATU (R95). -/
def execSatu (p : Proc) (w : Wd) (rd ra : Reg) (s : State) : Out3 := .next (issue p .satg (dSatu w rd ra) s)

/-- SHLI (R93). -/
def execShli (p : Proc) (w : Wd) (rd ra : Reg) (sh : BitVec 6) (s : State) : Out3 := .next (issue p .shi (dShli w rd ra sh) s)

/-- SHRI (R93). -/
def execShri (p : Proc) (w : Wd) (rd ra : Reg) (sh : BitVec 6) (s : State) : Out3 := .next (issue p .shi (dShri w rd ra sh) s)

/-- SARI (R93). -/
def execSari (p : Proc) (w : Wd) (rd ra : Reg) (sh : BitVec 6) (s : State) : Out3 := .next (issue p .shi (dSari w rd ra sh) s)

/-- RORI (R93). -/
def execRori (p : Proc) (w : Wd) (rd ra : Reg) (sh : BitVec 6) (s : State) : Out3 := .next (issue p .shi (dRori w rd ra sh) s)

/-- ADDI (R94). -/
def execAddi (p : Proc) (rd ra : Reg) (imm : BitVec 16) (s : State) : Out3 := .next (issue p .imm (dAddi rd ra imm) s)

/-- ANDI (R94). -/
def execAndi (p : Proc) (rd ra : Reg) (imm : BitVec 16) (s : State) : Out3 := .next (issue p .imm (dAndi rd ra imm) s)

/-- ORI (R94). -/
def execOri (p : Proc) (rd ra : Reg) (imm : BitVec 16) (s : State) : Out3 := .next (issue p .imm (dOri rd ra imm) s)

/-- XORI (R94). -/
def execXori (p : Proc) (rd ra : Reg) (imm : BitVec 16) (s : State) : Out3 := .next (issue p .imm (dXori rd ra imm) s)

/-- SLTI (R94). -/
def execSlti (p : Proc) (rd ra : Reg) (imm : BitVec 16) (s : State) : Out3 := .next (issue p .imm (dSlti rd ra imm) s)

/-- SLTIU (R94). -/
def execSltiu (p : Proc) (rd ra : Reg) (imm : BitVec 16) (s : State) : Out3 := .next (issue p .imm (dSltiu rd ra imm) s)

/-- LIZ (R94). -/
def execLiz (p : Proc) (rd : Reg) (hw : Fin 4) (imm : BitVec 16) (s : State) : Out3 := .next (issue p .imm (dLiz rd hw imm) s)

/-- LIK (R94). -/
def execLik (p : Proc) (rd : Reg) (hw : Fin 4) (imm : BitVec 16) (s : State) : Out3 := .next (issue p .imm (dLik rd hw imm) s)

/-- FADD (R97). -/
def execFadd (p : Proc) (f : Fmt) (rd ra rb : Reg) (s : State) : Out3 := .next (issue p .fp (dFadd f rd ra rb) s)

/-- FSUB (R97). -/
def execFsub (p : Proc) (f : Fmt) (rd ra rb : Reg) (s : State) : Out3 := .next (issue p .fp (dFsub f rd ra rb) s)

/-- FMUL (R97). -/
def execFmul (p : Proc) (f : Fmt) (rd ra rb : Reg) (s : State) : Out3 := .next (issue p .fp (dFmul f rd ra rb) s)

/-- FDIV (R97). -/
def execFdiv (p : Proc) (f : Fmt) (rd ra rb : Reg) (s : State) : Out3 := .next (issue p .fp (dFdiv f rd ra rb) s)

/-- FSQRT (R97). -/
def execFsqrt (p : Proc) (f : Fmt) (rd ra : Reg) (s : State) : Out3 := .next (issue p .fp (dFsqrt f rd ra) s)

/-- FMIN (R97). -/
def execFmin (p : Proc) (f : Fmt) (rd ra rb : Reg) (s : State) : Out3 := .next (issue p .fp (dFmin f rd ra rb) s)

/-- FMAX (R97). -/
def execFmax (p : Proc) (f : Fmt) (rd ra rb : Reg) (s : State) : Out3 := .next (issue p .fp (dFmax f rd ra rb) s)

/-- FNEG (R97). -/
def execFneg (p : Proc) (f : Fmt) (rd ra : Reg) (s : State) : Out3 := .next (issue p .fp (dFneg f rd ra) s)

/-- FABS (R97). -/
def execFabs (p : Proc) (f : Fmt) (rd ra : Reg) (s : State) : Out3 := .next (issue p .fp (dFabs f rd ra) s)

/-- FSGN (R97). -/
def execFsgn (p : Proc) (f : Fmt) (rd ra rb : Reg) (s : State) : Out3 := .next (issue p .fp (dFsgn f rd ra rb) s)

/-- FEQ (R97). -/
def execFeq (p : Proc) (f : Fmt) (rd ra rb : Reg) (s : State) : Out3 := .next (issue p .fp (dFeq f rd ra rb) s)

/-- FLT (R97). -/
def execFlt (p : Proc) (f : Fmt) (rd ra rb : Reg) (s : State) : Out3 := .next (issue p .fp (dFlt f rd ra rb) s)

/-- FLE (R97). -/
def execFle (p : Proc) (f : Fmt) (rd ra rb : Reg) (s : State) : Out3 := .next (issue p .fp (dFle f rd ra rb) s)

/-- FUN (R97). -/
def execFun (p : Proc) (f : Fmt) (rd ra rb : Reg) (s : State) : Out3 := .next (issue p .fp (dFun f rd ra rb) s)

/-- FCLS (R97). -/
def execFcls (p : Proc) (f : Fmt) (rd ra : Reg) (s : State) : Out3 := .next (issue p .fp (dFcls f rd ra) s)

/-- FCVF (R97). -/
def execFcvf (p : Proc) (f : Fmt) (rd ra : Reg) (s : State) : Out3 := .next (issue p .fp (dFcvf f rd ra) s)

/-- FRND_I32 (R97). -/
def execFrndI32 (p : Proc) (f : Fmt) (rd ra : Reg) (s : State) : Out3 := .next (issue p .fp (dFrndI32 f rd ra) s)

/-- FRND_I64 (R97). -/
def execFrndI64 (p : Proc) (f : Fmt) (rd ra : Reg) (s : State) : Out3 := .next (issue p .fp (dFrndI64 f rd ra) s)

/-- FRND_U32 (R97). -/
def execFrndU32 (p : Proc) (f : Fmt) (rd ra : Reg) (s : State) : Out3 := .next (issue p .fp (dFrndU32 f rd ra) s)

/-- FRND_U64 (R97). -/
def execFrndU64 (p : Proc) (f : Fmt) (rd ra : Reg) (s : State) : Out3 := .next (issue p .fp (dFrndU64 f rd ra) s)

/-- FTRC_I32 (R97). -/
def execFtrcI32 (p : Proc) (f : Fmt) (rd ra : Reg) (s : State) : Out3 := .next (issue p .fp (dFtrcI32 f rd ra) s)

/-- FTRC_I64 (R97). -/
def execFtrcI64 (p : Proc) (f : Fmt) (rd ra : Reg) (s : State) : Out3 := .next (issue p .fp (dFtrcI64 f rd ra) s)

/-- FTRC_U32 (R97). -/
def execFtrcU32 (p : Proc) (f : Fmt) (rd ra : Reg) (s : State) : Out3 := .next (issue p .fp (dFtrcU32 f rd ra) s)

/-- FTRC_U64 (R97). -/
def execFtrcU64 (p : Proc) (f : Fmt) (rd ra : Reg) (s : State) : Out3 := .next (issue p .fp (dFtrcU64 f rd ra) s)

/-- IFLT_I32 (R97). -/
def execIfltI32 (p : Proc) (f : Fmt) (rd ra : Reg) (s : State) : Out3 := .next (issue p .fp (dIfltI32 f rd ra) s)

/-- IFLT_I64 (R97). -/
def execIfltI64 (p : Proc) (f : Fmt) (rd ra : Reg) (s : State) : Out3 := .next (issue p .fp (dIfltI64 f rd ra) s)

/-- IFLT_U32 (R97). -/
def execIfltU32 (p : Proc) (f : Fmt) (rd ra : Reg) (s : State) : Out3 := .next (issue p .fp (dIfltU32 f rd ra) s)

/-- IFLT_U64 (R97). -/
def execIfltU64 (p : Proc) (f : Fmt) (rd ra : Reg) (s : State) : Out3 := .next (issue p .fp (dIfltU64 f rd ra) s)

/-- FMAD_S (R100). -/
def execFmadS (p : Proc) (rd ra rb rc : Reg) (s : State) : Out3 := .next (issue p .fmag (dFmadS rd ra rb rc) s)

/-- FMAD_D (R100). -/
def execFmadD (p : Proc) (rd ra rb rc : Reg) (s : State) : Out3 := .next (issue p .fmag (dFmadD rd ra rb rc) s)

/-- FMSB_S (R100). -/
def execFmsbS (p : Proc) (rd ra rb rc : Reg) (s : State) : Out3 := .next (issue p .fmag (dFmsbS rd ra rb rc) s)

/-- FMSB_D (R100). -/
def execFmsbD (p : Proc) (rd ra rb rc : Reg) (s : State) : Out3 := .next (issue p .fmag (dFmsbD rd ra rb rc) s)

/-- FNMA_S (R100). -/
def execFnmaS (p : Proc) (rd ra rb rc : Reg) (s : State) : Out3 := .next (issue p .fmag (dFnmaS rd ra rb rc) s)

/-- FNMA_D (R100). -/
def execFnmaD (p : Proc) (rd ra rb rc : Reg) (s : State) : Out3 := .next (issue p .fmag (dFnmaD rd ra rb rc) s)

/-- FNMS_S (R100). -/
def execFnmsS (p : Proc) (rd ra rb rc : Reg) (s : State) : Out3 := .next (issue p .fmag (dFnmsS rd ra rb rc) s)

/-- FNMS_D (R100). -/
def execFnmsD (p : Proc) (rd ra rb rc : Reg) (s : State) : Out3 := .next (issue p .fmag (dFnmsD rd ra rb rc) s)

/-- CLAMP (R100). -/
def execClamp (p : Proc) (rd ra rb rc : Reg) (s : State) : Out3 := .next (issue p .fmag (dClamp rd ra rb rc) s)

/-- CLAMPU (R100). -/
def execClampu (p : Proc) (rd ra rb rc : Reg) (s : State) : Out3 := .next (issue p .fmag (dClampu rd ra rb rc) s)

/-- CLAMP_S (R100). -/
def execClampS (p : Proc) (rd ra rb rc : Reg) (s : State) : Out3 := .next (issue p .fmag (dClampS rd ra rb rc) s)

/-- CLAMP_D (R100). -/
def execClampD (p : Proc) (rd ra rb rc : Reg) (s : State) : Out3 := .next (issue p .fmag (dClampD rd ra rb rc) s)

/-- SEL (R100). -/
def execSel (p : Proc) (rd ra rb rc : Reg) (s : State) : Out3 := .next (issue p .fmag (dSel rd ra rb rc) s)

/-- LB (R104). -/
def execLb (p : Proc) (rd ra : Reg) (imm : BitVec 16) (s : State) : Out3 := .next (issue p .mem (dLb regBus rd ra imm) s)

/-- LBU (R104). -/
def execLbu (p : Proc) (rd ra : Reg) (imm : BitVec 16) (s : State) : Out3 := .next (issue p .mem (dLbu regBus rd ra imm) s)

/-- LH (R104). -/
def execLh (p : Proc) (rd ra : Reg) (imm : BitVec 16) (s : State) : Out3 := .next (issue p .mem (dLh regBus rd ra imm) s)

/-- LHU (R104). -/
def execLhu (p : Proc) (rd ra : Reg) (imm : BitVec 16) (s : State) : Out3 := .next (issue p .mem (dLhu regBus rd ra imm) s)

/-- LW (R104). -/
def execLw (p : Proc) (rd ra : Reg) (imm : BitVec 16) (s : State) : Out3 := .next (issue p .mem (dLw regBus rd ra imm) s)

/-- LWU (R104). -/
def execLwu (p : Proc) (rd ra : Reg) (imm : BitVec 16) (s : State) : Out3 := .next (issue p .mem (dLwu regBus rd ra imm) s)

/-- LD (R104). -/
def execLd (p : Proc) (rd ra : Reg) (imm : BitVec 16) (s : State) : Out3 := .next (issue p .mem (dLd regBus rd ra imm) s)

/-- SB (R104). -/
def execSb (p : Proc) (rs ra : Reg) (imm : BitVec 16) (s : State) : Out3 := .next (issue p .mem (dSb regBus rs ra imm) s)

/-- SH (R104). -/
def execSh (p : Proc) (rs ra : Reg) (imm : BitVec 16) (s : State) : Out3 := .next (issue p .mem (dSh regBus rs ra imm) s)

/-- SW (R104). -/
def execSw (p : Proc) (rs ra : Reg) (imm : BitVec 16) (s : State) : Out3 := .next (issue p .mem (dSw regBus rs ra imm) s)

/-- SD (R104). -/
def execSd (p : Proc) (rs ra : Reg) (imm : BitVec 16) (s : State) : Out3 := .next (issue p .mem (dSd regBus rs ra imm) s)

/-- AMO_SWAP (R106). -/
def execAmoSwap (p : Proc) (l : Bool) (rd ra rb : Reg) (s : State) : Out3 := .next (issue p .amo (dAmoSwap l rd ra rb) s)

/-- AMO_ADD (R106). -/
def execAmoAdd (p : Proc) (l : Bool) (rd ra rb : Reg) (s : State) : Out3 := .next (issue p .amo (dAmoAdd l rd ra rb) s)

/-- AMO_AND (R106). -/
def execAmoAnd (p : Proc) (l : Bool) (rd ra rb : Reg) (s : State) : Out3 := .next (issue p .amo (dAmoAnd l rd ra rb) s)

/-- AMO_OR (R106). -/
def execAmoOr (p : Proc) (l : Bool) (rd ra rb : Reg) (s : State) : Out3 := .next (issue p .amo (dAmoOr l rd ra rb) s)

/-- AMO_XOR (R106). -/
def execAmoXor (p : Proc) (l : Bool) (rd ra rb : Reg) (s : State) : Out3 := .next (issue p .amo (dAmoXor l rd ra rb) s)

/-- AMO_MIN (R106). -/
def execAmoMin (p : Proc) (l : Bool) (rd ra rb : Reg) (s : State) : Out3 := .next (issue p .amo (dAmoMin l rd ra rb) s)

/-- AMO_MAX (R106). -/
def execAmoMax (p : Proc) (l : Bool) (rd ra rb : Reg) (s : State) : Out3 := .next (issue p .amo (dAmoMax l rd ra rb) s)

/-- AMO_MINU (R106). -/
def execAmoMinu (p : Proc) (l : Bool) (rd ra rb : Reg) (s : State) : Out3 := .next (issue p .amo (dAmoMinu l rd ra rb) s)

/-- AMO_MAXU (R106). -/
def execAmoMaxu (p : Proc) (l : Bool) (rd ra rb : Reg) (s : State) : Out3 := .next (issue p .amo (dAmoMaxu l rd ra rb) s)

/-- AMO_CAS (R106). -/
def execAmoCas (p : Proc) (l : Bool) (rd ra rb rc : Reg) (s : State) : Out3 := .next (issue p .amo (dAmoCas l rd ra rb rc) s)

/-- B_EQ (R107). -/
def execBEq (p : Proc) (ra rb : Reg) (off : BitVec 16) (s : State) : Out3 := .next (issue p .branch (dBEq ra rb off) s)

/-- B_NE (R107). -/
def execBNe (p : Proc) (ra rb : Reg) (off : BitVec 16) (s : State) : Out3 := .next (issue p .branch (dBNe ra rb off) s)

/-- B_LT (R107). -/
def execBLt (p : Proc) (ra rb : Reg) (off : BitVec 16) (s : State) : Out3 := .next (issue p .branch (dBLt ra rb off) s)

/-- B_LE (R107). -/
def execBLe (p : Proc) (ra rb : Reg) (off : BitVec 16) (s : State) : Out3 := .next (issue p .branch (dBLe ra rb off) s)

/-- B_LTU (R107). -/
def execBLtu (p : Proc) (ra rb : Reg) (off : BitVec 16) (s : State) : Out3 := .next (issue p .branch (dBLtu ra rb off) s)

/-- B_LEU (R107). -/
def execBLeu (p : Proc) (ra rb : Reg) (off : BitVec 16) (s : State) : Out3 := .next (issue p .branch (dBLeu ra rb off) s)

/-- JMPL (R107). -/
def execJmpl (p : Proc) (rd : Reg) (off : BitVec 21) (s : State) : Out3 := .next (issue p .branch (dJmpl rd off) s)

/-- JMPR (R107). -/
def execJmpr (p : Proc) (rd ra : Reg) (imm : BitVec 16) (s : State) : Out3 := .next (issue p .branch (dJmpr rd ra imm) s)

/-- BT (R107). -/
def execBt (p : Proc) (ra : Reg) (bit : BitVec 6) (off : BitVec 15) (s : State) : Out3 := .next (issue p .branch (dBt ra bit off) s)

/-- BF (R107). -/
def execBf (p : Proc) (ra : Reg) (bit : BitVec 6) (off : BitVec 15) (s : State) : Out3 := .next (issue p .branch (dBf ra bit off) s)

/-- MFSR (R108). -/
def execMfsr (p : Proc) (rd : Reg) (sr : BitVec 12) (s : State) : Out3 := .next (issue p .sysReg (dMfsr rd sr) s)

/-- MTSR (R108). -/
def execMtsr (p : Proc) (sr : BitVec 12) (ra : Reg) (s : State) : Out3 := .next (issue p .sysReg (dMtsr sr ra) s)

/-- SRSET (R108). -/
def execSrset (p : Proc) (rd : Reg) (sr : BitVec 12) (ra : Reg) (s : State) : Out3 := .next (issue p .sysReg (dSrset rd sr ra) s)

/-- SRCLR (R108). -/
def execSrclr (p : Proc) (rd : Reg) (sr : BitVec 12) (ra : Reg) (s : State) : Out3 := .next (issue p .sysReg (dSrclr rd sr ra) s)

/-- SCALL (R108). -/
def execScall (p : Proc) (code : BitVec 12) (s : State) : Out3 := .next (issue p .sysCall (dScall code) s)

/-- BRK (R108). -/
def execBrk (p : Proc) (code : BitVec 12) (s : State) : Out3 := .next (issue p .sysCall (dBrk code) s)

/-- RTE (R108). -/
def execRte (p : Proc) (s : State) : Out3 := .next (issue p .sysReg dRte s)

/-- FENCE (R108). -/
def execFence (p : Proc) (s : State) : Out3 := .next (issue p .sysReg dFence s)

/-- WFI (R108). -/
def execWfi (p : Proc) (s : State) : Out3 := .next (issue p .sysCanopy dWfi s)

/-- CFLUSH (R108). -/
def execCflush (p : Proc) (ra : Reg) (s : State) : Out3 := .next (issue p .sysCanopy (dCflush ra) s)

/-- CINV (R108). -/
def execCinv (p : Proc) (ra : Reg) (s : State) : Out3 := .next (issue p .sysCanopy (dCinv ra) s)

/-- LDSIG_IN (05 R127). -/
def execLdsigIn (p : Proc) (rd ra : Reg) (off : BitVec 14) (s : State) : Out3 := .next (issue p .sig (dLdsigIn rd ra off) s)

/-- LDSIG_OUT (05 R127). -/
def execLdsigOut (p : Proc) (rd ra : Reg) (off : BitVec 14) (s : State) : Out3 := .next (issue p .sig (dLdsigOut rd ra off) s)

/-- LDSIG_PREV (05 R127). -/
def execLdsigPrev (p : Proc) (rd ra : Reg) (off : BitVec 14) (s : State) : Out3 := .next (issue p .sig (dLdsigPrev rd ra off) s)

/-- STSIG (05 R128). -/
def execStsig (p : Proc) (rs ra : Reg) (off : BitVec 14) (s : State) : Out3 := .next (issue p .sig (dStsig rs ra off) s)

/-- STSIG_Q (05 R128). -/
def execStsigQ (p : Proc) (rs ra : Reg) (off : BitVec 14) (s : State) : Out3 := .next (issue p .sig (dStsigQ rs ra off) s)

/-- CALLFB (05 R137). -/
def execCallfb (p : Proc) (ri : Reg) (off : BitVec 16) (s : State) : Out3 := .next (issue p .sig (dCallfb ri off) s)

/-- RETFB (05 R138). -/
def execRetfb (p : Proc) (s : State) : Out3 := .next (issue p .sig dRetfb s)

/-- EDGE_RISE (05 R142). -/
def execEdgeRise (p : Proc) (rd ra : Reg) (bit : Fin 8) (boff : BitVec 10) (s : State) : Out3 := .next (issue p .sig (dEdgeRise rd ra bit boff) s)

/-- EDGE_FALL (05 R142). -/
def execEdgeFall (p : Proc) (rd ra : Reg) (bit : Fin 8) (boff : BitVec 10) (s : State) : Out3 := .next (issue p .sig (dEdgeFall rd ra bit boff) s)

/-- EDGE_CHG (05 R142). -/
def execEdgeChg (p : Proc) (rd ra : Reg) (bit : Fin 8) (boff : BitVec 10) (s : State) : Out3 := .next (issue p .sig (dEdgeChg rd ra bit boff) s)

/-- EDGE_PREV (05 R142). -/
def execEdgePrev (p : Proc) (rd : Reg) (bit : Fin 8) (boff : BitVec 10) (s : State) : Out3 := .next (issue p .sig (dEdgePrev rd bit boff) s)

/-- EDGE_SETP (05 R142). -/
def execEdgeSetp (p : Proc) (rd ra : Reg) (bit : Fin 8) (boff : BitVec 10) (s : State) : Out3 := .next (issue p .sig (dEdgeSetp rd ra bit boff) s)

/-- TON (05 R143). -/
def execTon (p : Proc) (rd ra rb : Reg) (woff : BitVec 8) (s : State) : Out3 := .next (issue p .sig (dTon rd ra rb woff) s)

/-- TOF (05 R143). -/
def execTof (p : Proc) (rd ra rb : Reg) (woff : BitVec 8) (s : State) : Out3 := .next (issue p .sig (dTof rd ra rb woff) s)

/-- TPL (05 R143). -/
def execTpl (p : Proc) (rd ra rb : Reg) (woff : BitVec 8) (s : State) : Out3 := .next (issue p .sig (dTpl rd ra rb woff) s)

/-- TET (05 R143). -/
def execTet (p : Proc) (rd rb : Reg) (woff : BitVec 8) (s : State) : Out3 := .next (issue p .sig (dTet rd rb woff) s)

/-- CTU (05 R143). -/
def execCtu (p : Proc) (rd ra rb : Reg) (woff : BitVec 8) (s : State) : Out3 := .next (issue p .sig (dCtu rd ra rb woff) s)

/-- CTD (05 R143). -/
def execCtd (p : Proc) (rd ra : Reg) (woff : BitVec 8) (s : State) : Out3 := .next (issue p .sig (dCtd rd ra woff) s)

/-- CLD (05 R143). -/
def execCld (p : Proc) (rd rb : Reg) (woff : BitVec 8) (s : State) : Out3 := .next (issue p .sig (dCld rd rb woff) s)

/-- TRST (05 R143). -/
def execTrst (p : Proc) (rd : Reg) (woff : BitVec 8) (s : State) : Out3 := .next (issue p .sig (dTrst rd woff) s)

/-- YIELD (05 R146). -/
def execYieldTask (p : Proc) (s : State) : Out3 := .next (issue p .sig dYieldTask s)

/-- ENDTASK (05 R146). -/
def execEndtask (p : Proc) (s : State) : Out3 := .next (issue p .sig dEndtask s)

end Sys2Proof.Machine
end

