-- ==== Sys2Proof/Machine/Dispatch.lean ====
section
/-! DEFINITION. One arm per command: each calls the command's meaning. -/

namespace Sys2Proof.Machine

open Sys2Proof

/-- The effect of a command on everything but the queue. -/
def exec (i : Instr) (s : State) : Host.Outcome State Fault Refusal :=
  match i with
  | .regWrite m a v => Sys2Proof.Machine.execRegWrite m a v s
  | .rcRead m a => Sys2Proof.Machine.execRcRead m a s
  | .hiLatchRead m a => Sys2Proof.Machine.execHiLatchRead m a s
  | .lockWrite m a v => Sys2Proof.Machine.execLockWrite m a v s
  | .timNsRead m => Sys2Proof.Machine.execTimNsRead m s
  | .timFadjWrite m v => Sys2Proof.Machine.execTimFadjWrite m v s
  | .timStep m => Sys2Proof.Machine.execTimStep m s
  | .rtcStore m => Sys2Proof.Machine.execRtcStore m s
  | .secondsCarry => Sys2Proof.Machine.execSecondsCarry s
  | .d0RetentionLoss => Sys2Proof.Machine.execD0RetentionLoss s
  | .ptpMessageReceived port kind domain udp need => Sys2Proof.Machine.execPtpMessageReceived port kind domain udp need s
  | .inputInstant => Sys2Proof.Machine.execInputInstant s
  | .nop => Sys2Proof.Machine.execNop s
  | .waitt t => Sys2Proof.Machine.execWaitt t s
  | .ringIn mask => Sys2Proof.Machine.execRingIn mask s
  | .ringDyn mask => Sys2Proof.Machine.execRingDyn mask s
  | .ringOut mask => Sys2Proof.Machine.execRingOut mask s
  | .ringSync mask => Sys2Proof.Machine.execRingSync mask s
  | .pxchInagree => Sys2Proof.Machine.execPxchInagree s
  | .pxchOutdig => Sys2Proof.Machine.execPxchOutdig s
  | .pxchTime => Sys2Proof.Machine.execPxchTime s
  | .psyncInagree => Sys2Proof.Machine.execPsyncInagree s
  | .psyncOutdig => Sys2Proof.Machine.execPsyncOutdig s
  | .rel mask => Sys2Proof.Machine.execRel mask s
  | .deadl c stop b => Sys2Proof.Machine.execDeadl c stop b s
  | .bar mask => Sys2Proof.Machine.execBar mask s
  | .tp n => Sys2Proof.Machine.execTp n s
  | .hold => Sys2Proof.Machine.execHold s
  | .ogate => Sys2Proof.Machine.execOgate s
  | .clear => Sys2Proof.Machine.execClear s
  | .endProg => Sys2Proof.Machine.execEndProg s
  | .callh n => Sys2Proof.Machine.execCallh n s
  | .btick m p o => Sys2Proof.Machine.execBtick m p o s
  | .jf o => Sys2Proof.Machine.execJf o s
  | .check m => Sys2Proof.Machine.execCheck m s
  | .modeReqWrite m free => Sys2Proof.Machine.execModeReqWrite m free s
  | .budgetExhausted e => Sys2Proof.Machine.execBudgetExhausted e s
  | .freeWdExpiry c => Sys2Proof.Machine.execFreeWdExpiry c s
  | .add p w rd ra rb => Sys2Proof.Machine.execAdd p w rd ra rb s
  | .sub p w rd ra rb => Sys2Proof.Machine.execSub p w rd ra rb s
  | .and p w rd ra rb => Sys2Proof.Machine.execAnd p w rd ra rb s
  | .or p w rd ra rb => Sys2Proof.Machine.execOr p w rd ra rb s
  | .xor p w rd ra rb => Sys2Proof.Machine.execXor p w rd ra rb s
  | .andn p w rd ra rb => Sys2Proof.Machine.execAndn p w rd ra rb s
  | .shl p w rd ra rb => Sys2Proof.Machine.execShl p w rd ra rb s
  | .shr p w rd ra rb => Sys2Proof.Machine.execShr p w rd ra rb s
  | .sar p w rd ra rb => Sys2Proof.Machine.execSar p w rd ra rb s
  | .ror p w rd ra rb => Sys2Proof.Machine.execRor p w rd ra rb s
  | .mul p w rd ra rb => Sys2Proof.Machine.execMul p w rd ra rb s
  | .mulh p w rd ra rb => Sys2Proof.Machine.execMulh p w rd ra rb s
  | .mulhu p w rd ra rb => Sys2Proof.Machine.execMulhu p w rd ra rb s
  | .div p w rd ra rb => Sys2Proof.Machine.execDiv p w rd ra rb s
  | .divu p w rd ra rb => Sys2Proof.Machine.execDivu p w rd ra rb s
  | .rem p w rd ra rb => Sys2Proof.Machine.execRem p w rd ra rb s
  | .remu p w rd ra rb => Sys2Proof.Machine.execRemu p w rd ra rb s
  | .min p w rd ra rb => Sys2Proof.Machine.execMin p w rd ra rb s
  | .max p w rd ra rb => Sys2Proof.Machine.execMax p w rd ra rb s
  | .minu p w rd ra rb => Sys2Proof.Machine.execMinu p w rd ra rb s
  | .maxu p w rd ra rb => Sys2Proof.Machine.execMaxu p w rd ra rb s
  | .slt p w rd ra rb => Sys2Proof.Machine.execSlt p w rd ra rb s
  | .sltu p w rd ra rb => Sys2Proof.Machine.execSltu p w rd ra rb s
  | .seq p w rd ra rb => Sys2Proof.Machine.execSeq p w rd ra rb s
  | .sne p w rd ra rb => Sys2Proof.Machine.execSne p w rd ra rb s
  | .clz p w rd ra => Sys2Proof.Machine.execClz p w rd ra s
  | .ctz p w rd ra => Sys2Proof.Machine.execCtz p w rd ra s
  | .popc p w rd ra => Sys2Proof.Machine.execPopc p w rd ra s
  | .sext p w rd ra => Sys2Proof.Machine.execSext p w rd ra s
  | .zext p w rd ra => Sys2Proof.Machine.execZext p w rd ra s
  | .abs p w rd ra => Sys2Proof.Machine.execAbs p w rd ra s
  | .adds p w rd ra rb => Sys2Proof.Machine.execAdds p w rd ra rb s
  | .subs p w rd ra rb => Sys2Proof.Machine.execSubs p w rd ra rb s
  | .addus p w rd ra rb => Sys2Proof.Machine.execAddus p w rd ra rb s
  | .subus p w rd ra rb => Sys2Proof.Machine.execSubus p w rd ra rb s
  | .muls p w rd ra rb => Sys2Proof.Machine.execMuls p w rd ra rb s
  | .mulus p w rd ra rb => Sys2Proof.Machine.execMulus p w rd ra rb s
  | .negs p w rd ra => Sys2Proof.Machine.execNegs p w rd ra s
  | .abss p w rd ra => Sys2Proof.Machine.execAbss p w rd ra s
  | .sats p w rd ra => Sys2Proof.Machine.execSats p w rd ra s
  | .satu p w rd ra => Sys2Proof.Machine.execSatu p w rd ra s
  | .shli p w rd ra sh => Sys2Proof.Machine.execShli p w rd ra sh s
  | .shri p w rd ra sh => Sys2Proof.Machine.execShri p w rd ra sh s
  | .sari p w rd ra sh => Sys2Proof.Machine.execSari p w rd ra sh s
  | .rori p w rd ra sh => Sys2Proof.Machine.execRori p w rd ra sh s
  | .addi p rd ra imm => Sys2Proof.Machine.execAddi p rd ra imm s
  | .andi p rd ra imm => Sys2Proof.Machine.execAndi p rd ra imm s
  | .ori p rd ra imm => Sys2Proof.Machine.execOri p rd ra imm s
  | .xori p rd ra imm => Sys2Proof.Machine.execXori p rd ra imm s
  | .slti p rd ra imm => Sys2Proof.Machine.execSlti p rd ra imm s
  | .sltiu p rd ra imm => Sys2Proof.Machine.execSltiu p rd ra imm s
  | .liz p rd hw imm => Sys2Proof.Machine.execLiz p rd hw imm s
  | .lik p rd hw imm => Sys2Proof.Machine.execLik p rd hw imm s
  | .fadd p f rd ra rb => Sys2Proof.Machine.execFadd p f rd ra rb s
  | .fsub p f rd ra rb => Sys2Proof.Machine.execFsub p f rd ra rb s
  | .fmul p f rd ra rb => Sys2Proof.Machine.execFmul p f rd ra rb s
  | .fdiv p f rd ra rb => Sys2Proof.Machine.execFdiv p f rd ra rb s
  | .fsqrt p f rd ra => Sys2Proof.Machine.execFsqrt p f rd ra s
  | .fmin p f rd ra rb => Sys2Proof.Machine.execFmin p f rd ra rb s
  | .fmax p f rd ra rb => Sys2Proof.Machine.execFmax p f rd ra rb s
  | .fneg p f rd ra => Sys2Proof.Machine.execFneg p f rd ra s
  | .fabs p f rd ra => Sys2Proof.Machine.execFabs p f rd ra s
  | .fsgn p f rd ra rb => Sys2Proof.Machine.execFsgn p f rd ra rb s
  | .feq p f rd ra rb => Sys2Proof.Machine.execFeq p f rd ra rb s
  | .flt p f rd ra rb => Sys2Proof.Machine.execFlt p f rd ra rb s
  | .fle p f rd ra rb => Sys2Proof.Machine.execFle p f rd ra rb s
  | .fun p f rd ra rb => Sys2Proof.Machine.execFun p f rd ra rb s
  | .fcls p f rd ra => Sys2Proof.Machine.execFcls p f rd ra s
  | .fcvf p f rd ra => Sys2Proof.Machine.execFcvf p f rd ra s
  | .frndI32 p f rd ra => Sys2Proof.Machine.execFrndI32 p f rd ra s
  | .frndI64 p f rd ra => Sys2Proof.Machine.execFrndI64 p f rd ra s
  | .frndU32 p f rd ra => Sys2Proof.Machine.execFrndU32 p f rd ra s
  | .frndU64 p f rd ra => Sys2Proof.Machine.execFrndU64 p f rd ra s
  | .ftrcI32 p f rd ra => Sys2Proof.Machine.execFtrcI32 p f rd ra s
  | .ftrcI64 p f rd ra => Sys2Proof.Machine.execFtrcI64 p f rd ra s
  | .ftrcU32 p f rd ra => Sys2Proof.Machine.execFtrcU32 p f rd ra s
  | .ftrcU64 p f rd ra => Sys2Proof.Machine.execFtrcU64 p f rd ra s
  | .ifltI32 p f rd ra => Sys2Proof.Machine.execIfltI32 p f rd ra s
  | .ifltI64 p f rd ra => Sys2Proof.Machine.execIfltI64 p f rd ra s
  | .ifltU32 p f rd ra => Sys2Proof.Machine.execIfltU32 p f rd ra s
  | .ifltU64 p f rd ra => Sys2Proof.Machine.execIfltU64 p f rd ra s
  | .fmadS p rd ra rb rc => Sys2Proof.Machine.execFmadS p rd ra rb rc s
  | .fmadD p rd ra rb rc => Sys2Proof.Machine.execFmadD p rd ra rb rc s
  | .fmsbS p rd ra rb rc => Sys2Proof.Machine.execFmsbS p rd ra rb rc s
  | .fmsbD p rd ra rb rc => Sys2Proof.Machine.execFmsbD p rd ra rb rc s
  | .fnmaS p rd ra rb rc => Sys2Proof.Machine.execFnmaS p rd ra rb rc s
  | .fnmaD p rd ra rb rc => Sys2Proof.Machine.execFnmaD p rd ra rb rc s
  | .fnmsS p rd ra rb rc => Sys2Proof.Machine.execFnmsS p rd ra rb rc s
  | .fnmsD p rd ra rb rc => Sys2Proof.Machine.execFnmsD p rd ra rb rc s
  | .clamp p rd ra rb rc => Sys2Proof.Machine.execClamp p rd ra rb rc s
  | .clampu p rd ra rb rc => Sys2Proof.Machine.execClampu p rd ra rb rc s
  | .clampS p rd ra rb rc => Sys2Proof.Machine.execClampS p rd ra rb rc s
  | .clampD p rd ra rb rc => Sys2Proof.Machine.execClampD p rd ra rb rc s
  | .sel p rd ra rb rc => Sys2Proof.Machine.execSel p rd ra rb rc s
  | .lb p rd ra imm => Sys2Proof.Machine.execLb p rd ra imm s
  | .lbu p rd ra imm => Sys2Proof.Machine.execLbu p rd ra imm s
  | .lh p rd ra imm => Sys2Proof.Machine.execLh p rd ra imm s
  | .lhu p rd ra imm => Sys2Proof.Machine.execLhu p rd ra imm s
  | .lw p rd ra imm => Sys2Proof.Machine.execLw p rd ra imm s
  | .lwu p rd ra imm => Sys2Proof.Machine.execLwu p rd ra imm s
  | .ld p rd ra imm => Sys2Proof.Machine.execLd p rd ra imm s
  | .sb p rs ra imm => Sys2Proof.Machine.execSb p rs ra imm s
  | .sh p rs ra imm => Sys2Proof.Machine.execSh p rs ra imm s
  | .sw p rs ra imm => Sys2Proof.Machine.execSw p rs ra imm s
  | .sd p rs ra imm => Sys2Proof.Machine.execSd p rs ra imm s
  | .amoSwap p l rd ra rb => Sys2Proof.Machine.execAmoSwap p l rd ra rb s
  | .amoAdd p l rd ra rb => Sys2Proof.Machine.execAmoAdd p l rd ra rb s
  | .amoAnd p l rd ra rb => Sys2Proof.Machine.execAmoAnd p l rd ra rb s
  | .amoOr p l rd ra rb => Sys2Proof.Machine.execAmoOr p l rd ra rb s
  | .amoXor p l rd ra rb => Sys2Proof.Machine.execAmoXor p l rd ra rb s
  | .amoMin p l rd ra rb => Sys2Proof.Machine.execAmoMin p l rd ra rb s
  | .amoMax p l rd ra rb => Sys2Proof.Machine.execAmoMax p l rd ra rb s
  | .amoMinu p l rd ra rb => Sys2Proof.Machine.execAmoMinu p l rd ra rb s
  | .amoMaxu p l rd ra rb => Sys2Proof.Machine.execAmoMaxu p l rd ra rb s
  | .amoCas p l rd ra rb rc => Sys2Proof.Machine.execAmoCas p l rd ra rb rc s
  | .bEq p ra rb off => Sys2Proof.Machine.execBEq p ra rb off s
  | .bNe p ra rb off => Sys2Proof.Machine.execBNe p ra rb off s
  | .bLt p ra rb off => Sys2Proof.Machine.execBLt p ra rb off s
  | .bLe p ra rb off => Sys2Proof.Machine.execBLe p ra rb off s
  | .bLtu p ra rb off => Sys2Proof.Machine.execBLtu p ra rb off s
  | .bLeu p ra rb off => Sys2Proof.Machine.execBLeu p ra rb off s
  | .jmpl p rd off => Sys2Proof.Machine.execJmpl p rd off s
  | .jmpr p rd ra imm => Sys2Proof.Machine.execJmpr p rd ra imm s
  | .bt p ra bit off => Sys2Proof.Machine.execBt p ra bit off s
  | .bf p ra bit off => Sys2Proof.Machine.execBf p ra bit off s
  | .mfsr p rd sr => Sys2Proof.Machine.execMfsr p rd sr s
  | .mtsr p sr ra => Sys2Proof.Machine.execMtsr p sr ra s
  | .srset p rd sr ra => Sys2Proof.Machine.execSrset p rd sr ra s
  | .srclr p rd sr ra => Sys2Proof.Machine.execSrclr p rd sr ra s
  | .scall p code => Sys2Proof.Machine.execScall p code s
  | .brk p code => Sys2Proof.Machine.execBrk p code s
  | .rte p => Sys2Proof.Machine.execRte p s
  | .fence p => Sys2Proof.Machine.execFence p s
  | .wfi p => Sys2Proof.Machine.execWfi p s
  | .wfiWake c => Sys2Proof.Machine.execWfiWake c s
  | .cflush p ra => Sys2Proof.Machine.execCflush p ra s
  | .cinv p ra => Sys2Proof.Machine.execCinv p ra s
  | .interrupt c => Sys2Proof.Machine.execInterrupt c s
  | .ldsigIn p rd ra off => Sys2Proof.Machine.execLdsigIn p rd ra off s
  | .ldsigOut p rd ra off => Sys2Proof.Machine.execLdsigOut p rd ra off s
  | .ldsigPrev p rd ra off => Sys2Proof.Machine.execLdsigPrev p rd ra off s
  | .stsig p rs ra off => Sys2Proof.Machine.execStsig p rs ra off s
  | .stsigQ p rs ra off => Sys2Proof.Machine.execStsigQ p rs ra off s
  | .callfb p ri off => Sys2Proof.Machine.execCallfb p ri off s
  | .retfb p => Sys2Proof.Machine.execRetfb p s
  | .edgeRise p rd ra bit boff => Sys2Proof.Machine.execEdgeRise p rd ra bit boff s
  | .edgeFall p rd ra bit boff => Sys2Proof.Machine.execEdgeFall p rd ra bit boff s
  | .edgeChg p rd ra bit boff => Sys2Proof.Machine.execEdgeChg p rd ra bit boff s
  | .edgePrev p rd bit boff => Sys2Proof.Machine.execEdgePrev p rd bit boff s
  | .edgeSetp p rd ra bit boff => Sys2Proof.Machine.execEdgeSetp p rd ra bit boff s
  | .ton p rd ra rb woff => Sys2Proof.Machine.execTon p rd ra rb woff s
  | .tof p rd ra rb woff => Sys2Proof.Machine.execTof p rd ra rb woff s
  | .tpl p rd ra rb woff => Sys2Proof.Machine.execTpl p rd ra rb woff s
  | .tet p rd rb woff => Sys2Proof.Machine.execTet p rd rb woff s
  | .ctu p rd ra rb woff => Sys2Proof.Machine.execCtu p rd ra rb woff s
  | .ctd p rd ra woff => Sys2Proof.Machine.execCtd p rd ra woff s
  | .cld p rd rb woff => Sys2Proof.Machine.execCld p rd rb woff s
  | .trst p rd woff => Sys2Proof.Machine.execTrst p rd woff s
  | .yieldTask p => Sys2Proof.Machine.execYieldTask p s
  | .endtask p => Sys2Proof.Machine.execEndtask p s
  | .mapLoad m => Sys2Proof.Machine.execMapLoad m s
  | .frcApply m => Sys2Proof.Machine.execFrcApply m s
  | .frcCancel m => Sys2Proof.Machine.execFrcCancel m s
  | .scrub g => Sys2Proof.Machine.execScrub g s
  | .comparatorMismatch k errP errN diff => Sys2Proof.Machine.execComparatorMismatch k errP errN diff s
  | .groveBankClearDone g => Sys2Proof.Machine.execGroveBankClearDone g s
  | .comparatorTestDone k failed => Sys2Proof.Machine.execComparatorTestDone k failed s
  | .test m sel => Sys2Proof.Machine.execTest m sel s
  | .groveReloadDone g ok => Sys2Proof.Machine.execGroveReloadDone g ok s
  | .groveCoppiceBulkDone g => Sys2Proof.Machine.execGroveCoppiceBulkDone g s
  | .groveRecoveryTimeout g => Sys2Proof.Machine.execGroveRecoveryTimeout g s
  | .transferEngineRestart => Sys2Proof.Machine.execTransferEngineRestart s
  | .dbgHalt m => Sys2Proof.Machine.execDbgHalt m s
  | .haltAtBoundary core => Sys2Proof.Machine.execHaltAtBoundary core s
  | .dbgStep m => Sys2Proof.Machine.execDbgStep m s
  | .dbgResume m => Sys2Proof.Machine.execDbgResume m s
  | .dbgRegAccess m => Sys2Proof.Machine.execDbgRegAccess m s
  | .dbgMemAccess m => Sys2Proof.Machine.execDbgMemAccess m s
  | .access m kind a len data => Sys2Proof.Machine.execAccess m kind a len data s
  | .gateEntryWrite m a v => Sys2Proof.Machine.execGateEntryWrite m a v s
  | .gateEntryLock m gate bank n => Sys2Proof.Machine.execGateEntryLock m gate bank n s
  | .enforce m gate => Sys2Proof.Machine.execEnforce m gate s
  | .heartbeatPeriod => Sys2Proof.Machine.execHeartbeatPeriod s
  | .heartbeat via b st => Sys2Proof.Machine.execHeartbeat via b st s
  | .pathLost line => Sys2Proof.Machine.execPathLost line s
  | .pathReturn line => Sys2Proof.Machine.execPathReturn line s
  | .witnessEnd => Sys2Proof.Machine.execWitnessEnd s
  | .leave via b => Sys2Proof.Machine.execLeave via b s
  | .hello h m => Sys2Proof.Machine.execHello h m s
  | .joinWaitExpiry => Sys2Proof.Machine.execJoinWaitExpiry s
  | .time h m => Sys2Proof.Machine.execTime h m s
  | .inagreeDig h d => Sys2Proof.Machine.execInagreeDig h d s
  | .inagreeData h l => Sys2Proof.Machine.execInagreeData h l s
  | .inendExpiry => Sys2Proof.Machine.execInendExpiry s
  | .outdig h d => Sys2Proof.Machine.execOutdig h d s
  | .repairReq h r => Sys2Proof.Machine.execRepairReq h r s
  | .lines h l => Sys2Proof.Machine.execLines h l s
  | .force h tick copy => Sys2Proof.Machine.execForce h tick copy s
  | .stagePkg h bytes quotas => Sys2Proof.Machine.execStagePkg h bytes quotas s
  | .stageResult h digest chk saved => Sys2Proof.Machine.execStageResult h digest chk saved s
  | .stageAnnounce h tick digest => Sys2Proof.Machine.execStageAnnounce h tick digest s
  | .stageAck h tick digest => Sys2Proof.Machine.execStageAck h tick digest s
  | .stageWithdraw h digest => Sys2Proof.Machine.execStageWithdraw h digest s
  | .stageDiscard h digest => Sys2Proof.Machine.execStageDiscard h digest s
  | .go m => Sys2Proof.Machine.execGo m s
  | .swap m => Sys2Proof.Machine.execSwap m s
  | .swapCancel m => Sys2Proof.Machine.execSwapCancel m s
  | .swapCommit => Sys2Proof.Machine.execSwapCommit s
  | .stop m => Sys2Proof.Machine.execStop m s
  | .restart m => Sys2Proof.Machine.execRestart m s
  | .maint m force => Sys2Proof.Machine.execMaint m force s
  | .resync m => Sys2Proof.Machine.execResync m s
  | .coppiceBulkDone => Sys2Proof.Machine.execCoppiceBulkDone s
  | .coppiceTimeout => Sys2Proof.Machine.execCoppiceTimeout s
  | .stage m => Sys2Proof.Machine.execStage m s
  | .stagingCheckDone => Sys2Proof.Machine.execStagingCheckDone s
  | .tmapPassDone => Sys2Proof.Machine.execTmapPassDone s
  | .saveComplete => Sys2Proof.Machine.execSaveComplete s
  | .announce m => Sys2Proof.Machine.execAnnounce m s
  | .announceNoack => Sys2Proof.Machine.execAnnounceNoack s
  | .withdraw m => Sys2Proof.Machine.execWithdraw m s
  | .discard m => Sys2Proof.Machine.execDiscard m s
  | .applyAbandon => Sys2Proof.Machine.execApplyAbandon s
  | .inFrame k port f start => Sys2Proof.Machine.execInFrame k port f start s
  | .outFrame k pos port f start => Sys2Proof.Machine.execOutFrame k pos port f start s
  | .dynFrame k node port f => Sys2Proof.Machine.execDynFrame k node port f s
  | .parameterRead k pos => Sys2Proof.Machine.execParameterRead k pos s
  | .parameterWrite k pos => Sys2Proof.Machine.execParameterWrite k pos s
  | .diagnosticRead k pos => Sys2Proof.Machine.execDiagnosticRead k pos s
  | .fileSegment k pos => Sys2Proof.Machine.execFileSegment k pos s
  | .response k node tid => Sys2Proof.Machine.execResponse k node tid s
  | .errorResponse k node tid => Sys2Proof.Machine.execErrorResponse k node tid s
  | .syncFrame k node port f own => Sys2Proof.Machine.execSyncFrame k node port f own s
  | .claim k port f => Sys2Proof.Machine.execClaim k port f s
  | .cede k port f => Sys2Proof.Machine.execCede k port f s
  | .tokenWaitExpiry k => Sys2Proof.Machine.execTokenWaitExpiry k s
  | .thruFrame k node port f => Sys2Proof.Machine.execThruFrame k node port f s
  | .datagramOut k pos epoch seq d => Sys2Proof.Machine.execDatagramOut k pos epoch seq d s
  | .datagramIn k pos d => Sys2Proof.Machine.execDatagramIn k pos d s
  | .assign k pos loop hops d => Sys2Proof.Machine.execAssign k pos loop hops d s
  | .regrd k pos d => Sys2Proof.Machine.execRegrd k pos d s
  | .regwr k pos d => Sys2Proof.Machine.execRegwr k pos d s
  | .probeRequest k node port stamp f => Sys2Proof.Machine.execProbeRequest k node port stamp f s
  | .probeResponse k node port stamp f => Sys2Proof.Machine.execProbeResponse k node port stamp f s
  | .linkFailure k node port why => Sys2Proof.Machine.execLinkFailure k node port why s
  | .closeHoldReached k node port => Sys2Proof.Machine.execCloseHoldReached k node port s
  | .inActionPoint k pos slot left start => Sys2Proof.Machine.execInActionPoint k pos slot left start s
  | .outSlotSend k slot => Sys2Proof.Machine.execOutSlotSend k slot s
  | .dynSend k node own => Sys2Proof.Machine.execDynSend k node own s
  | .thruSend k inSeg => Sys2Proof.Machine.execThruSend k inSeg s
  | .inputSegmentEnd k => Sys2Proof.Machine.execInputSegmentEnd k s
  | .stationInputInstant k pos inputs => Sys2Proof.Machine.execStationInputInstant k pos inputs s
  | .commsLossAction k pos slot => Sys2Proof.Machine.execCommsLossAction k pos slot s
  | .listenOnly k pos => Sys2Proof.Machine.execListenOnly k pos s
  | .loExit k pos => Sys2Proof.Machine.execLoExit k pos s
  | .stationLost k stn => Sys2Proof.Machine.execStationLost k stn s
  | .start m k => Sys2Proof.Machine.execStart m k s
  | .startupPhaseEnd k => Sys2Proof.Machine.execStartupPhaseEnd k s
  | .ethLinkUp n => Sys2Proof.Machine.execEthLinkUp n s
  | .ethLinkDown n => Sys2Proof.Machine.execEthLinkDown n s
  | .ringTailWrite m n r v => Sys2Proof.Machine.execRingTailWrite m n r v s
  | .txFetch n r => Sys2Proof.Machine.execTxFetch n r s
  | .launchEligible n r => Sys2Proof.Machine.execLaunchEligible n r s
  | .txStart n => Sys2Proof.Machine.execTxStart n s
  | .txDone n => Sys2Proof.Machine.execTxDone n s
  | .rxFrame n bytes => Sys2Proof.Machine.execRxFrame n bytes s
  | .txreq m n b => Sys2Proof.Machine.execTxreq m n b s
  | .txabort m n b => Sys2Proof.Machine.execTxabort m n b s
  | .canSelection n => Sys2Proof.Machine.execCanSelection n s
  | .canTxSuccess x => Sys2Proof.Machine.execCanTxSuccess x s
  | .canTxError n k inData dominant => Sys2Proof.Machine.execCanTxError n k inData dominant s
  | .canRxFrame n f since => Sys2Proof.Machine.execCanRxFrame n f since s
  | .canNewdatClear m n j v => Sys2Proof.Machine.execCanNewdatClear m n j v s
  | .canBusoffRecovery n => Sys2Proof.Machine.execCanBusoffRecovery n s
  | .canIntegration n => Sys2Proof.Machine.execCanIntegration n s
  | .debounceAccept c => Sys2Proof.Machine.execDebounceAccept c s
  | .freqGateEnd c => Sys2Proof.Machine.execFreqGateEnd c s
  | .overload c => Sys2Proof.Machine.execOverload c s
  | .overtemp c => Sys2Proof.Machine.execOvertemp c s
  | .openload c => Sys2Proof.Machine.execOpenload c s
  | .openwire c => Sys2Proof.Machine.execOpenwire c s
  | .extv c => Sys2Proof.Machine.execExtv c s
  | .supplyWarn g v => Sys2Proof.Machine.execSupplyWarn g v s
  | .supplyLow g v => Sys2Proof.Machine.execSupplyLow g v s
  | .rearmWindowEnd g => Sys2Proof.Machine.execRearmWindowEnd g s
  | .rearm m g => Sys2Proof.Machine.execRearm m g s
  | .groupOvercurrent g i0 => Sys2Proof.Machine.execGroupOvercurrent g i0 s
  | .linkloss g => Sys2Proof.Machine.execLinkloss g s
  | .soeInfoRead m => Sys2Proof.Machine.execSoeInfoRead m s
  | .enWrite m u en => Sys2Proof.Machine.execEnWrite m u en s
  | .minOffElapsed u => Sys2Proof.Machine.execMinOffElapsed u s
  | .startTimeout u => Sys2Proof.Machine.execStartTimeout u s
  | .stopComplete u => Sys2Proof.Machine.execStopComplete u s
  | .domainInRegulation d => Sys2Proof.Machine.execDomainInRegulation d s
  | .domainDischarged d => Sys2Proof.Machine.execDomainDischarged d s
  | .laneTrained l => Sys2Proof.Machine.execLaneTrained l s
  | .dmaRingStarted n r => Sys2Proof.Machine.execDmaRingStarted n r s
  | .channelSettled c => Sys2Proof.Machine.execChannelSettled c s
  | .moduleReset strapB => Sys2Proof.Machine.execModuleReset strapB s
  | .hwdReset m v => Sys2Proof.Machine.execHwdReset m v s
  | .rdyFwset m v => Sys2Proof.Machine.execRdyFwset m v s
  | .updWrite m => Sys2Proof.Machine.execUpdWrite m s
  | .updWriteDone bad => Sys2Proof.Machine.execUpdWriteDone bad s
  | .trial m => Sys2Proof.Machine.execTrial m s
  | .updCancel m => Sys2Proof.Machine.execUpdCancel m s
  | .confirm m => Sys2Proof.Machine.execConfirm m s
  | .reject m => Sys2Proof.Machine.execReject m s
  | .confirmWindowExpiry => Sys2Proof.Machine.execConfirmWindowExpiry s
  | .canopyReadyTimeout => Sys2Proof.Machine.execCanopyReadyTimeout s
  | .revoke m => Sys2Proof.Machine.execRevoke m s
  | .retire m => Sys2Proof.Machine.execRetire m s
  | .clr m j i0 => Sys2Proof.Machine.execClr m j i0 s
  | .pmcWindowEnd j => Sys2Proof.Machine.execPmcWindowEnd j s
  | .swrec m => Sys2Proof.Machine.execSwrec m s
  | .recordWritten => Sys2Proof.Machine.execRecordWritten s
  | .run m => Sys2Proof.Machine.execRun m s
  | .opsecStore => Sys2Proof.Machine.execOpsecStore s
  | .rdSlotWrite m slot => Sys2Proof.Machine.execRdSlotWrite m slot s
  | .feedlow i0 x => Sys2Proof.Machine.execFeedlow i0 x s
  | .feedRestored i0 x => Sys2Proof.Machine.execFeedRestored i0 x s
  | .pfw => Sys2Proof.Machine.execPfw s
  | .pfwEnd => Sys2Proof.Machine.execPfwEnd s
  | .pfLeaveExpiry => Sys2Proof.Machine.execPfLeaveExpiry s
  | .holdupExhausted => Sys2Proof.Machine.execHoldupExhausted s
  | .powerReturn => Sys2Proof.Machine.execPowerReturn s
  | .twarn x => Sys2Proof.Machine.execTwarn x s
  | .tshut x => Sys2Proof.Machine.execTshut x s
  | .tempRecovered x => Sys2Proof.Machine.execTempRecovered x s
  | .tamper => Sys2Proof.Machine.execTamper s
  | .presentNChange present => Sys2Proof.Machine.execPresentNChange present s
  | .enableRise => Sys2Proof.Machine.execEnableRise s
  | .rampComplete strapB => Sys2Proof.Machine.execRampComplete strapB s
  | .enableFall => Sys2Proof.Machine.execEnableFall s
  | .eject opened => Sys2Proof.Machine.execEject opened s
  | .extest => Sys2Proof.Machine.execExtest s
  | .samplePreload => Sys2Proof.Machine.execSamplePreload s
  | .idcode => Sys2Proof.Machine.execIdcode s
  | .bypass => Sys2Proof.Machine.execBypass s
  | .dapacc write a v => Sys2Proof.Machine.execDapacc write a v s
  | .linkSyncGained k node port rx => Sys2Proof.Machine.execLinkSyncGained k node port rx s
  | .laneBlockLockLoss l why => Sys2Proof.Machine.execLaneBlockLockLoss l why s
  | .canRxError n k dominant => Sys2Proof.Machine.execCanRxError n k dominant s
  | .rawInputEdge c level => Sys2Proof.Machine.execRawInputEdge c level s
  | .pauseExpiry n => Sys2Proof.Machine.execPauseExpiry n s
  | .helloPeriod => Sys2Proof.Machine.execHelloPeriod s
  | .witnessWindowStart => Sys2Proof.Machine.execWitnessWindowStart s
  | .recovWindowExpiry g => Sys2Proof.Machine.execRecovWindowExpiry g s
  | .groupControllerReady g => Sys2Proof.Machine.execGroupControllerReady g s

end Sys2Proof.Machine
end

