-- ==== Sys2Proof/Machine/Idle.lean ====
section
/-! DEFINITION. What passes with time when no command waits (notes/assumptions/2): one timebase cycle. -/

namespace Sys2Proof.Machine

open Sys2Proof

/-- The checkers have taken what waited in the replay queues (06 R174: two cycles later). -/
def drainReplay (s : State) : State :=
  s.cores.foldl (fun (t : State) (e : Nat × Core) => t.setCore e.1 { t.core e.1 with replay := [] }) s

/-- One timebase cycle; a reset that is due takes place (14 R378). -/
def idle (s : State) : State := resetDue (drainReplay (timebaseCycle s))

end Sys2Proof.Machine
end

