-- ==== Sys2Proof/Machine/DenmaEnc.lean ====
section
/-! DEFINITION. The encoder of the Denma rows (04 R84 to R86; 05, formats G, F, Z, E, K). -/

namespace Sys2Proof.Machine

open Sys2Proof

/-- The sz field of a width (R84). -/
def wdCode : Wd → Nat
  | .w8 => 0
  | .w16 => 1
  | .w32 => 2
  | .w64 => 3

/-- The sz field of a format (R84). -/
def fmtCode : Fmt → Nat
  | .f32 => 2
  | .f64 => 3

/-- The fn field of an AMO: bit 5 selects the doubleword (R106). -/
def amoFn (l : Bool) (fn : Nat) : Nat := fn + 32 * l.toNat

/-- Format A: three registers. -/
def fmtA (op : Nat) (rd ra rb : Reg) (sz fn : Nat) : Nat :=
  op * 2 ^ 26 + rd.val * 2 ^ 21 + ra.val * 2 ^ 16 + rb.val * 2 ^ 11 + sz * 2 ^ 9 + fn

/-- Format Q: four registers. -/
def fmtQ (op : Nat) (rd ra rb rc : Reg) (fn : Nat) : Nat :=
  op * 2 ^ 26 + rd.val * 2 ^ 21 + ra.val * 2 ^ 16 + rb.val * 2 ^ 11 + rc.val * 2 ^ 6 + fn

/-- Format S: shift by immediate. -/
def fmtS (op : Nat) (rd ra : Reg) (sh : BitVec 6) (sz kind : Nat) : Nat :=
  op * 2 ^ 26 + rd.val * 2 ^ 21 + ra.val * 2 ^ 16 + sh.toNat * 2 ^ 10 + sz * 2 ^ 8 + kind

/-- Formats I, C and F: two register fields and 16 bits. -/
def fmtI (op : Nat) (r1 r2 : Reg) (imm : BitVec 16) : Nat := op * 2 ^ 26 + r1.val * 2 ^ 21 + r2.val * 2 ^ 16 + imm.toNat

/-- Format W: wide immediate. -/
def fmtW (op : Nat) (rd : Reg) (hw : Fin 4) (imm : BitVec 16) : Nat := op * 2 ^ 26 + rd.val * 2 ^ 21 + hw.val * 2 ^ 19 + imm.toNat

/-- Format J: jump. -/
def fmtJ (op : Nat) (rd : Reg) (off : BitVec 21) : Nat := op * 2 ^ 26 + rd.val * 2 ^ 21 + off.toNat

/-- Format X: bit test and branch. -/
def fmtX (op : Nat) (ra : Reg) (bit : BitVec 6) (off : BitVec 15) : Nat := op * 2 ^ 26 + ra.val * 2 ^ 21 + bit.toNat * 2 ^ 15 + off.toNat

/-- Format Y: system. -/
def fmtY (op : Nat) (rd ra : Reg) (sub : Nat) (sr : BitVec 12) : Nat :=
  op * 2 ^ 26 + rd.val * 2 ^ 21 + ra.val * 2 ^ 16 + sub * 2 ^ 12 + sr.toNat

/-- Format G: signal access. -/
def fmtG (op : Nat) (rd ra : Reg) (cp : Nat) (off : BitVec 14) : Nat :=
  op * 2 ^ 26 + rd.val * 2 ^ 21 + ra.val * 2 ^ 16 + cp * 2 ^ 14 + off.toNat

/-- Format E: edge. -/
def fmtE (op : Nat) (rd ra : Reg) (fn : Nat) (bit : Fin 8) (boff : BitVec 10) : Nat :=
  op * 2 ^ 26 + rd.val * 2 ^ 21 + ra.val * 2 ^ 16 + fn * 2 ^ 13 + bit.val * 2 ^ 10 + boff.toNat

/-- Format K: timer. -/
def fmtK (op : Nat) (rd ra rb : Reg) (fn : Nat) (woff : BitVec 8) : Nat :=
  op * 2 ^ 26 + rd.val * 2 ^ 21 + ra.val * 2 ^ 16 + rb.val * 2 ^ 11 + fn * 2 ^ 8 + woff.toNat

/-- Format Z: no operand. -/
def fmtZ (op fn : Nat) : Nat := op * 2 ^ 26 + fn

/-- The bits of a Denma row's word; none for a row that is no instruction. -/
def denmaBits : Instr → Option Nat
  | .add _ w rd ra rb => some (fmtA 0x01 rd ra rb (wdCode w) 0)
  | .sub _ w rd ra rb => some (fmtA 0x01 rd ra rb (wdCode w) 1)
  | .and _ w rd ra rb => some (fmtA 0x01 rd ra rb (wdCode w) 2)
  | .or _ w rd ra rb => some (fmtA 0x01 rd ra rb (wdCode w) 3)
  | .xor _ w rd ra rb => some (fmtA 0x01 rd ra rb (wdCode w) 4)
  | .andn _ w rd ra rb => some (fmtA 0x01 rd ra rb (wdCode w) 5)
  | .shl _ w rd ra rb => some (fmtA 0x01 rd ra rb (wdCode w) 6)
  | .shr _ w rd ra rb => some (fmtA 0x01 rd ra rb (wdCode w) 7)
  | .sar _ w rd ra rb => some (fmtA 0x01 rd ra rb (wdCode w) 8)
  | .ror _ w rd ra rb => some (fmtA 0x01 rd ra rb (wdCode w) 9)
  | .mul _ w rd ra rb => some (fmtA 0x01 rd ra rb (wdCode w) 10)
  | .mulh _ w rd ra rb => some (fmtA 0x01 rd ra rb (wdCode w) 11)
  | .mulhu _ w rd ra rb => some (fmtA 0x01 rd ra rb (wdCode w) 12)
  | .div _ w rd ra rb => some (fmtA 0x01 rd ra rb (wdCode w) 13)
  | .divu _ w rd ra rb => some (fmtA 0x01 rd ra rb (wdCode w) 14)
  | .rem _ w rd ra rb => some (fmtA 0x01 rd ra rb (wdCode w) 15)
  | .remu _ w rd ra rb => some (fmtA 0x01 rd ra rb (wdCode w) 16)
  | .min _ w rd ra rb => some (fmtA 0x01 rd ra rb (wdCode w) 17)
  | .max _ w rd ra rb => some (fmtA 0x01 rd ra rb (wdCode w) 18)
  | .minu _ w rd ra rb => some (fmtA 0x01 rd ra rb (wdCode w) 19)
  | .maxu _ w rd ra rb => some (fmtA 0x01 rd ra rb (wdCode w) 20)
  | .slt _ w rd ra rb => some (fmtA 0x01 rd ra rb (wdCode w) 21)
  | .sltu _ w rd ra rb => some (fmtA 0x01 rd ra rb (wdCode w) 22)
  | .seq _ w rd ra rb => some (fmtA 0x01 rd ra rb (wdCode w) 23)
  | .sne _ w rd ra rb => some (fmtA 0x01 rd ra rb (wdCode w) 24)
  | .clz _ w rd ra => some (fmtA 0x01 rd ra 0 (wdCode w) 25)
  | .ctz _ w rd ra => some (fmtA 0x01 rd ra 0 (wdCode w) 26)
  | .popc _ w rd ra => some (fmtA 0x01 rd ra 0 (wdCode w) 27)
  | .sext _ w rd ra => some (fmtA 0x01 rd ra 0 (wdCode w) 28)
  | .zext _ w rd ra => some (fmtA 0x01 rd ra 0 (wdCode w) 29)
  | .abs _ w rd ra => some (fmtA 0x01 rd ra 0 (wdCode w) 30)
  | .adds _ w rd ra rb => some (fmtA 0x02 rd ra rb (wdCode w) 0)
  | .subs _ w rd ra rb => some (fmtA 0x02 rd ra rb (wdCode w) 1)
  | .addus _ w rd ra rb => some (fmtA 0x02 rd ra rb (wdCode w) 2)
  | .subus _ w rd ra rb => some (fmtA 0x02 rd ra rb (wdCode w) 3)
  | .muls _ w rd ra rb => some (fmtA 0x02 rd ra rb (wdCode w) 4)
  | .mulus _ w rd ra rb => some (fmtA 0x02 rd ra rb (wdCode w) 5)
  | .negs _ w rd ra => some (fmtA 0x02 rd ra 0 (wdCode w) 6)
  | .abss _ w rd ra => some (fmtA 0x02 rd ra 0 (wdCode w) 7)
  | .sats _ w rd ra => some (fmtA 0x02 rd ra 0 (wdCode w) 8)
  | .satu _ w rd ra => some (fmtA 0x02 rd ra 0 (wdCode w) 9)
  | .shli _ w rd ra sh => some (fmtS 0x03 rd ra sh (wdCode w) 0)
  | .shri _ w rd ra sh => some (fmtS 0x03 rd ra sh (wdCode w) 1)
  | .sari _ w rd ra sh => some (fmtS 0x03 rd ra sh (wdCode w) 2)
  | .rori _ w rd ra sh => some (fmtS 0x03 rd ra sh (wdCode w) 3)
  | .addi _ rd ra imm => some (fmtI 0x08 rd ra imm)
  | .andi _ rd ra imm => some (fmtI 0x09 rd ra imm)
  | .ori _ rd ra imm => some (fmtI 0x0A rd ra imm)
  | .xori _ rd ra imm => some (fmtI 0x0B rd ra imm)
  | .slti _ rd ra imm => some (fmtI 0x0C rd ra imm)
  | .sltiu _ rd ra imm => some (fmtI 0x0D rd ra imm)
  | .liz _ rd hw imm => some (fmtW 0x0E rd hw imm)
  | .lik _ rd hw imm => some (fmtW 0x0F rd hw imm)
  | .fadd _ f rd ra rb => some (fmtA 0x04 rd ra rb (fmtCode f) 0x00)
  | .fsub _ f rd ra rb => some (fmtA 0x04 rd ra rb (fmtCode f) 0x01)
  | .fmul _ f rd ra rb => some (fmtA 0x04 rd ra rb (fmtCode f) 0x02)
  | .fdiv _ f rd ra rb => some (fmtA 0x04 rd ra rb (fmtCode f) 0x03)
  | .fsqrt _ f rd ra => some (fmtA 0x04 rd ra 0 (fmtCode f) 0x04)
  | .fmin _ f rd ra rb => some (fmtA 0x04 rd ra rb (fmtCode f) 0x05)
  | .fmax _ f rd ra rb => some (fmtA 0x04 rd ra rb (fmtCode f) 0x06)
  | .fneg _ f rd ra => some (fmtA 0x04 rd ra 0 (fmtCode f) 0x07)
  | .fabs _ f rd ra => some (fmtA 0x04 rd ra 0 (fmtCode f) 0x08)
  | .fsgn _ f rd ra rb => some (fmtA 0x04 rd ra rb (fmtCode f) 0x09)
  | .feq _ f rd ra rb => some (fmtA 0x04 rd ra rb (fmtCode f) 0x0A)
  | .flt _ f rd ra rb => some (fmtA 0x04 rd ra rb (fmtCode f) 0x0B)
  | .fle _ f rd ra rb => some (fmtA 0x04 rd ra rb (fmtCode f) 0x0C)
  | .fun _ f rd ra rb => some (fmtA 0x04 rd ra rb (fmtCode f) 0x0D)
  | .fcls _ f rd ra => some (fmtA 0x04 rd ra 0 (fmtCode f) 0x0E)
  | .fcvf _ f rd ra => some (fmtA 0x04 rd ra 0 (fmtCode f) 0x10)
  | .frndI32 _ f rd ra => some (fmtA 0x04 rd ra 0 (fmtCode f) 0x11)
  | .frndI64 _ f rd ra => some (fmtA 0x04 rd ra 0 (fmtCode f) 0x12)
  | .frndU32 _ f rd ra => some (fmtA 0x04 rd ra 0 (fmtCode f) 0x13)
  | .frndU64 _ f rd ra => some (fmtA 0x04 rd ra 0 (fmtCode f) 0x14)
  | .ftrcI32 _ f rd ra => some (fmtA 0x04 rd ra 0 (fmtCode f) 0x15)
  | .ftrcI64 _ f rd ra => some (fmtA 0x04 rd ra 0 (fmtCode f) 0x16)
  | .ftrcU32 _ f rd ra => some (fmtA 0x04 rd ra 0 (fmtCode f) 0x17)
  | .ftrcU64 _ f rd ra => some (fmtA 0x04 rd ra 0 (fmtCode f) 0x18)
  | .ifltI32 _ f rd ra => some (fmtA 0x04 rd ra 0 (fmtCode f) 0x19)
  | .ifltI64 _ f rd ra => some (fmtA 0x04 rd ra 0 (fmtCode f) 0x1A)
  | .ifltU32 _ f rd ra => some (fmtA 0x04 rd ra 0 (fmtCode f) 0x1B)
  | .ifltU64 _ f rd ra => some (fmtA 0x04 rd ra 0 (fmtCode f) 0x1C)
  | .fmadS _ rd ra rb rc => some (fmtQ 0x05 rd ra rb rc 0x00)
  | .fmadD _ rd ra rb rc => some (fmtQ 0x05 rd ra rb rc 0x08)
  | .fmsbS _ rd ra rb rc => some (fmtQ 0x05 rd ra rb rc 0x01)
  | .fmsbD _ rd ra rb rc => some (fmtQ 0x05 rd ra rb rc 0x09)
  | .fnmaS _ rd ra rb rc => some (fmtQ 0x05 rd ra rb rc 0x02)
  | .fnmaD _ rd ra rb rc => some (fmtQ 0x05 rd ra rb rc 0x0A)
  | .fnmsS _ rd ra rb rc => some (fmtQ 0x05 rd ra rb rc 0x03)
  | .fnmsD _ rd ra rb rc => some (fmtQ 0x05 rd ra rb rc 0x0B)
  | .clamp _ rd ra rb rc => some (fmtQ 0x05 rd ra rb rc 0x10)
  | .clampu _ rd ra rb rc => some (fmtQ 0x05 rd ra rb rc 0x11)
  | .clampS _ rd ra rb rc => some (fmtQ 0x05 rd ra rb rc 0x12)
  | .clampD _ rd ra rb rc => some (fmtQ 0x05 rd ra rb rc 0x13)
  | .sel _ rd ra rb rc => some (fmtQ 0x05 rd ra rb rc 0x14)
  | .lb _ rd ra imm => some (fmtI 0x10 rd ra imm)
  | .lbu _ rd ra imm => some (fmtI 0x11 rd ra imm)
  | .lh _ rd ra imm => some (fmtI 0x12 rd ra imm)
  | .lhu _ rd ra imm => some (fmtI 0x13 rd ra imm)
  | .lw _ rd ra imm => some (fmtI 0x14 rd ra imm)
  | .lwu _ rd ra imm => some (fmtI 0x15 rd ra imm)
  | .ld _ rd ra imm => some (fmtI 0x16 rd ra imm)
  | .sb _ rs ra imm => some (fmtI 0x18 rs ra imm)
  | .sh _ rs ra imm => some (fmtI 0x19 rs ra imm)
  | .sw _ rs ra imm => some (fmtI 0x1A rs ra imm)
  | .sd _ rs ra imm => some (fmtI 0x1B rs ra imm)
  | .amoSwap _ l rd ra rb => some (fmtQ 0x06 rd ra rb 0 (amoFn l 0))
  | .amoAdd _ l rd ra rb => some (fmtQ 0x06 rd ra rb 0 (amoFn l 1))
  | .amoAnd _ l rd ra rb => some (fmtQ 0x06 rd ra rb 0 (amoFn l 2))
  | .amoOr _ l rd ra rb => some (fmtQ 0x06 rd ra rb 0 (amoFn l 3))
  | .amoXor _ l rd ra rb => some (fmtQ 0x06 rd ra rb 0 (amoFn l 4))
  | .amoMin _ l rd ra rb => some (fmtQ 0x06 rd ra rb 0 (amoFn l 5))
  | .amoMax _ l rd ra rb => some (fmtQ 0x06 rd ra rb 0 (amoFn l 6))
  | .amoMinu _ l rd ra rb => some (fmtQ 0x06 rd ra rb 0 (amoFn l 7))
  | .amoMaxu _ l rd ra rb => some (fmtQ 0x06 rd ra rb 0 (amoFn l 8))
  | .amoCas _ l rd ra rb rc => some (fmtQ 0x06 rd ra rb rc (amoFn l 9))
  | .bEq _ ra rb off => some (fmtI 0x20 ra rb off)
  | .bNe _ ra rb off => some (fmtI 0x21 ra rb off)
  | .bLt _ ra rb off => some (fmtI 0x22 ra rb off)
  | .bLe _ ra rb off => some (fmtI 0x23 ra rb off)
  | .bLtu _ ra rb off => some (fmtI 0x24 ra rb off)
  | .bLeu _ ra rb off => some (fmtI 0x25 ra rb off)
  | .jmpl _ rd off => some (fmtJ 0x26 rd off)
  | .jmpr _ rd ra imm => some (fmtI 0x27 rd ra imm)
  | .bt _ ra bit off => some (fmtX 0x28 ra bit off)
  | .bf _ ra bit off => some (fmtX 0x29 ra bit off)
  | .mfsr _ rd sr => some (fmtY 0x30 rd 0 0 sr)
  | .mtsr _ sr ra => some (fmtY 0x30 0 ra 1 sr)
  | .srset _ rd sr ra => some (fmtY 0x30 rd ra 2 sr)
  | .srclr _ rd sr ra => some (fmtY 0x30 rd ra 3 sr)
  | .scall _ code => some (fmtY 0x30 0 0 4 code)
  | .brk _ code => some (fmtY 0x30 0 0 5 code)
  | .rte _ => some (fmtY 0x30 0 0 6 0)
  | .fence _ => some (fmtY 0x30 0 0 7 0)
  | .wfi _ => some (fmtY 0x30 0 0 8 0)
  | .cflush _ ra => some (fmtY 0x30 0 ra 9 0)
  | .cinv _ ra => some (fmtY 0x30 0 ra 10 0)
  | .ldsigIn _ rd ra off => some (fmtG 0x38 rd ra 0 off)
  | .ldsigOut _ rd ra off => some (fmtG 0x38 rd ra 1 off)
  | .ldsigPrev _ rd ra off => some (fmtG 0x38 rd ra 2 off)
  | .stsig _ rs ra off => some (fmtG 0x39 rs ra 0 off)
  | .stsigQ _ rs ra off => some (fmtG 0x39 rs ra 1 off)
  | .callfb _ ri off => some (fmtI 0x3C ri 0 off)
  | .retfb _ => some (fmtZ 0x3D 0)
  | .edgeRise _ rd ra bit boff => some (fmtE 0x3A rd ra 0 bit boff)
  | .edgeFall _ rd ra bit boff => some (fmtE 0x3A rd ra 1 bit boff)
  | .edgeChg _ rd ra bit boff => some (fmtE 0x3A rd ra 2 bit boff)
  | .edgePrev _ rd bit boff => some (fmtE 0x3A rd 0 3 bit boff)
  | .edgeSetp _ rd ra bit boff => some (fmtE 0x3A rd ra 4 bit boff)
  | .ton _ rd ra rb woff => some (fmtK 0x3B rd ra rb 0 woff)
  | .tof _ rd ra rb woff => some (fmtK 0x3B rd ra rb 1 woff)
  | .tpl _ rd ra rb woff => some (fmtK 0x3B rd ra rb 2 woff)
  | .tet _ rd rb woff => some (fmtK 0x3B rd 0 rb 3 woff)
  | .ctu _ rd ra rb woff => some (fmtK 0x3B rd ra rb 4 woff)
  | .ctd _ rd ra woff => some (fmtK 0x3B rd ra 0 5 woff)
  | .cld _ rd rb woff => some (fmtK 0x3B rd 0 rb 6 woff)
  | .trst _ rd woff => some (fmtK 0x3B rd 0 0 7 woff)
  | .yieldTask _ => some (fmtZ 0x3E 0)
  | .endtask _ => some (fmtZ 0x3E 1)
  | _ => none

/-- The word of a Denma row. -/
def denmaWord (i : Instr) : Option Word := (denmaBits i).map (BitVec.ofNat 32)

end Sys2Proof.Machine
end

