-- ==== Sys2Proof/WellFormed.lean ====
section
/-! DEFINITION. Which commands the spec admits: one named error per check. Operand ranges that the types of `Instr` already carry (a
ring below 24, a register below 32) need no check here. -/

namespace Sys2Proof

/-- Why a command is not one that can be given. -/
inductive WfErr
  /-- BTICK: M is 0 (03 R52) -/
  | btickM
  /-- BTICK: P is not below M (03 R52) -/
  | btickP
  /-- BTICK: O is 0 (03 R52) -/
  | btickO
  /-- JF: O is 0 (03 R52) -/
  | jfO
  /-- a station position is 0 (08 R197) -/
  | position
  /-- a station number outside 1 to 63 (08 R219) -/
  | stationNo
  /-- an access of no byte or of more than 4,096 bytes (07 R192) -/
  | accessLen
  /-- a write whose data are not as long as the access, or data with a read or a fetch (07 R192) -/
  | accessData
  /-- a ring frame's payload longer than LEN can say (08 R204) -/
  | payload
  /-- more than 32 local entries in INAGREE_DIG (10 R273) -/
  | localEntries
  /-- an OUTDIG without 24 ring digests and 64 ESD values (10 R277) -/
  | outdigLen
  /-- a force word outside the force block or not word-aligned (10 R281, 05 R130) -/
  | forceOffset
  /-- a quota of a partition number above 15 (11 R303) -/
  | quota
  /-- more data than the CAN frame's DLC gives (12 R333) -/
  | canData
  /-- a datagram longer than a THRU frame's LEN can say (08 R218) -/
  | dgram
  /-- a HELLO without the versions of its five parts (10 R265) -/
  | versions
deriving DecidableEq, Repr

/-- One check: its error unless the condition holds. -/
def wfCheck (ok : Bool) (e : WfErr) : List WfErr := if ok then [] else [e]

/-- A position of a ring node is a station's or the module's. -/
def RNode.wf : RNode → Bool
  | .module => true
  | .station p => p != 0

/-- Checks of a ring frame. -/
def Frame.errs (f : Frame) : List WfErr := wfCheck (f.payload.length < 65536) .payload

/-- Data bytes of a CAN frame by its DLC (12 R333). -/
def canLen (fdf : Bool) (dlc : Nat) : Nat :=
  if dlc ≤ 8 then dlc
  else if !fdf then 8
  else match dlc with
    | 9 => 12
    | 10 => 16
    | 11 => 20
    | 12 => 24
    | 13 => 32
    | 14 => 48
    | _ => 64

/-- The checks a command fails. -/
def Instr.errs : Instr → List WfErr
  | .btick m p o => wfCheck (m != 0) .btickM ++ wfCheck (p.toNat < m.toNat) .btickP ++ wfCheck (o != 0) .btickO
  | .jf o => wfCheck (o != 0) .jfO
  | .access _ kind _ len data =>
    wfCheck (1 ≤ len.toNat && len.toNat ≤ 4096) .accessLen
      ++ wfCheck (data.length == (if kind == .write then len.toNat else 0)) .accessData
  | .hello _ m => wfCheck (m.vers.length == 5) .versions
  | .inagreeDig _ d => wfCheck (d.localEntries.length ≤ 32) .localEntries
  | .outdig _ d => wfCheck (d.ringDig.length == 24 && d.esd.length == 64) .outdigLen
  | .force _ _ copy => wfCheck (copy.all fun e => e.1 < 0x10000 && e.1 % 4 == 0) .forceOffset
  | .stagePkg _ _ quotas => wfCheck (quotas.all fun q => q.1 < 16) .quota
  | .inFrame _ _ f _ => f.errs
  | .outFrame _ pos _ f _ => wfCheck (pos != 0) .position ++ f.errs
  | .dynFrame _ node _ f => wfCheck node.wf .position ++ f.errs
  | .parameterRead _ pos => wfCheck (pos != 0) .position
  | .parameterWrite _ pos => wfCheck (pos != 0) .position
  | .diagnosticRead _ pos => wfCheck (pos != 0) .position
  | .fileSegment _ pos => wfCheck (pos != 0) .position
  | .response _ node _ => wfCheck node.wf .position
  | .errorResponse _ node _ => wfCheck node.wf .position
  | .syncFrame _ node _ f _ => wfCheck node.wf .position ++ f.errs
  | .claim _ _ f => f.errs
  | .cede _ _ f => f.errs
  | .thruFrame _ node _ f => wfCheck node.wf .position ++ f.errs
  | .datagramOut _ pos _ _ d => wfCheck (pos != 0) .position ++ wfCheck (d.data.length < 65536) .dgram
  | .datagramIn _ pos d => wfCheck (pos != 0) .position ++ wfCheck (d.data.length < 65536) .dgram
  | .assign _ pos _ _ d => wfCheck (pos != 0) .position ++ wfCheck (d.data.length < 65536) .dgram
  | .regrd _ pos d => wfCheck (pos != 0) .position ++ wfCheck (d.data.length < 65536) .dgram
  | .regwr _ pos d => wfCheck (pos != 0) .position ++ wfCheck (d.data.length < 65536) .dgram
  | .probeRequest _ node _ _ f => wfCheck node.wf .position ++ (f.map Frame.errs).getD []
  | .probeResponse _ node _ _ f => wfCheck node.wf .position ++ f.errs
  | .linkFailure _ node _ _ => wfCheck node.wf .position
  | .closeHoldReached _ node _ => wfCheck node.wf .position
  | .inActionPoint _ pos _ _ _ => wfCheck (pos != 0) .position
  | .dynSend _ node _ => wfCheck node.wf .position
  | .stationInputInstant _ pos _ => wfCheck (pos != 0) .position
  | .commsLossAction _ pos _ => wfCheck (pos != 0) .position
  | .listenOnly _ pos => wfCheck (pos != 0) .position
  | .loExit _ pos => wfCheck (pos != 0) .position
  | .stationLost _ stn => wfCheck (stn != 0) .stationNo
  | .linkSyncGained _ node _ _ => wfCheck node.wf .position
  | .canRxFrame _ f _ => wfCheck (f.data.length == (if f.rtr then 0 else canLen f.fdf f.dlc.toNat)) .canData
  | _ => []

/-- A command that can be given. -/
def Instr.wf (c : Instr) : Bool := c.errs.isEmpty

end Sys2Proof
end

