-- ==== Sys2Proof/Safety.lean ====
section
/-! DEFINITION. The terms in which claims are stated: a command that runs, what it changes and what it leaves alone. -/

namespace Sys2Proof.Machine

open Sys2Proof

/-- Command c runs in s: exec answers a next state, and P holds of it. -/
def Does (c : Instr) (s : State) (P : State → Prop) : Prop := ∃ t, exec c s = .next t ∧ P t

/-- t differs from s at most in the registers at the addresses of a list. -/
def OnlyRegs (l : List Nat) (s t : State) : Prop := t = { s with regs := t.regs } ∧ ∀ a, a ∉ l → t.rget a = s.rget a

/-- t differs from s at most in the registers at the addresses of a list and in the event recorder (an event record may be required). -/
def OnlyRegsEvr (l : List Nat) (s t : State) : Prop :=
  t = { s with regs := t.regs, evr := t.evr } ∧ ∀ a, a ∉ l → a ≠ EVR_STATUS → a ≠ EVR_LOST → t.rget a = s.rget a

/-- A register of the performance counters (15). -/
def isPmc (a : Nat) : Bool := decide (0x0300480000 ≤ a) && decide (a < 0x0300500000)

/-- What an instruction of processor n leaves alone: every other processor, memory, the image, every register but the performance counters,
and everything else but the cycle counts of the tasks. -/
structure CoreFrame (n : Nat) (u t : State) : Prop where
  rest : t = { u with regs := t.regs, cores := t.cores, tasks := t.tasks }
  others : ∀ m, m ≠ n → t.core m = u.core m
  regs : ∀ a, isPmc a = false → t.rget a = u.rget a
  bytes : ∀ a, t.byte a = u.byte a

/-- An instruction of processor n that wrote x to rd and went on at the next instruction: no other general register and no system register
has changed; `u` is the state after its fetch. -/
structure Wrote (n : Nat) (rd : Reg) (x : DWord) (u t : State) : Prop where
  value : t.vget n rd = if rd.val = 0 then 0#64 else x
  regs : ∀ r, r ≠ rd → t.vget n r = u.vget n r
  sys : ∀ r, t.srGet n r = u.srGet n r
  pc : (t.core n).pc = pcMask ((u.core n).pc + 4#64)
  frame : CoreFrame n u t

/-- The same for an instruction that also sets sticky bits of ASTAT (register 0) or FSTAT (register 1). -/
structure WroteSticky (n : Nat) (rd : Reg) (x : DWord) (sr : Nat) (bits : DWord) (u t : State) : Prop where
  value : t.vget n rd = if rd.val = 0 then 0#64 else x
  regs : ∀ r, r ≠ rd → t.vget n r = u.vget n r
  sticky : t.srGet n sr = u.srGet n sr ||| bits
  sys : ∀ r, r ≠ sr → t.srGet n r = u.srGet n r
  pc : (t.core n).pc = pcMask ((u.core n).pc + 4#64)
  frame : CoreFrame n u t

/-- An instruction of processor n that wrote nothing and went on at pc. -/
structure WentTo (n : Nat) (pc : DWord) (u t : State) : Prop where
  regs : ∀ r, t.vget n r = u.vget n r
  sys : ∀ r, t.srGet n r = u.srGet n r
  pc : (t.core n).pc = pc
  frame : CoreFrame n u t

/-- A value limited to a range. -/
def limit (lo hi v : Int) : Int := max lo (min hi v)

/-- Processor p issues an instruction now, and the fetch of the instruction at its pc is admitted and leaves u. -/
def Issues (s : State) (p : Proc) (u : State) : Prop := canIssue s (coreNo p) = true ∧ ∃ v, fetch s (coreNo p) = (.ok v, u)

/-- Processor n is not inside a trap: STATUS.TIP is 0. -/
def OutsideTrap (u : State) (n : Nat) : Prop := (u.srGet n 0x010).toNat / 64 % 2 = 0

/-- Trap entry of processor n (04 R113): what is saved, the status and privilege inside the trap, and the vector. -/
structure Trapped (n cause sub : Nat) (ea : DWord) (u t : State) : Prop where
  epc : t.srGet n 0x012 = (u.core n).pc
  ecause : t.srGet n 0x013 = BitVec.ofNat 64 (cause + sub * 2 ^ 16)
  eaddr : t.srGet n 0x014 = if 2 ≤ cause ∧ cause ≤ 10 then ea else 0#64
  prv : prvOf t n = trapLevel n
  pprv : (t.srGet n 0x010).toNat / 4 % 4 = prvOf u n
  ie : (t.srGet n 0x010).toNat / 16 % 2 = 0
  pie : (t.srGet n 0x010).toNat / 32 % 2 = (u.srGet n 0x010).toNat / 16 % 2
  tip : (t.srGet n 0x010).toNat / 64 % 2 = 1
  pc : (t.core n).pc = pcMask (u.srGet n 0x011 + BitVec.ofNat 64 (64 * cause))
  regs : ∀ r, t.vget n r = u.vget n r
  frame : CoreFrame n u t

/-- The sequencer has issued one word and gone on by k words (03 R47, R52): its counter has moved, 2.5 ns have passed, and nothing else has
changed but what time itself moves: the clock, operating seconds, the RTC's validity and the performance counters. -/
structure Cycled (k : Nat) (u t : State) : Prop where
  pc : t.rd TSQ_PC TSQ_PC_PC = (u.rd TSQ_PC TSQ_PC_PC + k) % 4096
  stalled : t.rd TSQ_PC TSQ_PC_STALLED = u.rd TSQ_PC TSQ_PC_STALLED
  time : 2 * t.clk.trel + t.clk.half = 2 * u.clk.trel + u.clk.half + 5
  rest : t = { u with clk := t.clk, regs := t.regs, evr := { u.evr with opNs := t.evr.opNs } }
  regs : ∀ a, isPmc a = false → a ∉ [TSQ_PC, EVR_OPSEC, TIM_STATUS] → t.rget a = u.rget a

/-- The sequencer stands at a word that has not returned: no time has passed. -/
structure Stalled (w : Stall) (u t : State) : Prop where
  rest : t = { u with seq := { u.seq with stall := some w }, regs := t.regs }
  stalled : t.on TSQ_PC TSQ_PC_STALLED = true
  pc : t.rd TSQ_PC TSQ_PC_PC = u.rd TSQ_PC TSQ_PC_PC
  regs : ∀ a, a ≠ TSQ_PC → t.rget a = u.rget a

/-- The frames in which a message leaves now on the lane that is ON: its fragments in order under one MSGID (10 R264, R266); none with no lane ON. -/
def laneOut (s : State) (m : LaneMsg) : List Out :=
  match laneOf s with
  | none => []
  | some l => (fragments m).zipIdx.map fun x =>
      .lane l { hdrNow s with frag := BitVec.ofNat 15 x.2, more := decide (x.2 + 1 < (fragments m).length) } x.1

/-- u has sent a message and become t: its frames left, they are counted (15 R387), and nothing else has changed. -/
structure Sent (m : LaneMsg) (u t : State) : Prop where
  out : t.out = u.out ++ laneOut u m
  rest : t = { u with out := t.out, regs := t.regs, pair := { u.pair with msgid := t.pair.msgid } }
  regs : ∀ a, isPmc a = false → t.rget a = u.rget a

/-- t differs from s at most in the registers at the addresses of a list and in the performance counters. -/
def OnlyRegsPmc (l : List Nat) (s t : State) : Prop :=
  t = { s with regs := t.regs } ∧ ∀ a, a ∉ l → isPmc a = false → t.rget a = s.rget a

/-- The same, and an event record may have been written. -/
def OnlyRegsEvrPmc (l : List Nat) (s t : State) : Prop :=
  t = { s with regs := t.regs, evr := t.evr } ∧
    ∀ a, a ∉ l → a ≠ EVR_STATUS → a ≠ EVR_LOST → isPmc a = false → t.rget a = s.rget a

/-! ### Values of floating-point operands -/

/-- The rational value of an operand; 0 for a NaN or an infinity. -/
def fpVal : Fp → ℚ
  | .fin neg m e => (if neg then -1 else 1) * m * 2 ^ e
  | _ => 0

/-- An operand is a number. -/
def fpFinite (f : Fmt) (x : DWord) : Prop := ∃ neg m e, fpUnpack f x = .fin neg m e

/-- x is a number of the format nearest to v: no number of the format lies nearer, and where another lies as near, x is the one whose last
bit is 0. -/
def FpNearest (f : Fmt) (v : ℚ) (x : DWord) : Prop :=
  fpFinite f x ∧ ∀ z, fpFinite f z → |v - fpVal (fpUnpack f x)| ≤ |v - fpVal (fpUnpack f z)| ∧
    (|v - fpVal (fpUnpack f x)| = |v - fpVal (fpUnpack f z)| → fpVal (fpUnpack f x) ≠ fpVal (fpUnpack f z) → fpBits f x % 2 = 0)

/-- r is v rounded to the format (04 R96): an infinity from the value on at which the format's largest number plus half a unit is reached,
else a nearest number. -/
def FpRounded (f : Fmt) (v : ℚ) (r : DWord) : Prop :=
  let big : ℚ := match f with
    | .f32 => (2 ^ 25 - 1) * 2 ^ 103
    | .f64 => (2 ^ 54 - 1) * 2 ^ 970
  (big ≤ |v| → r = fpInf f (decide (v < 0))) ∧ (|v| < big → FpNearest f v r)

/-- r is v rounded to an integer: toward zero, or to the nearest with ties to the even one. -/
def RoundedTo (nearest : Bool) (v : ℚ) (r : Int) : Prop :=
  if nearest then |v - r| ≤ 1 / 2 ∧ (|v - r| = 1 / 2 → r % 2 = 0)
  else |(r : ℚ)| ≤ |v| ∧ |v| < |(r : ℚ)| + 1 ∧ 0 ≤ v * r

end Sys2Proof.Machine
end

