-- ==== Sys2Proof/Certificates/Slice0/Obligations.lean ====
section
/-! DEFINITION. The statements about the model that are to be proved; each docstring names the rules of the spec it rests on. -/

open Sys2Proof Sys2Proof.Machine

/-! ### Denma: integer instructions -/

/-- INT group, three registers (04 R90, R91): for every processor, width and operands, the command completes, rd takes the result, v0 discards it, the
pc moves to the next instruction, and no other register, no system register and no byte of memory changes. INT group, one source (04 R90, R91). -/
def Obligations.IntegerResults : Prop :=
  (∀ (p : Proc) (w : Wd) (rd ra rb : Reg) (s u : State), Issues s p u →
     let n := coreNo p
     let x := u.vget n ra
     let y := u.vget n rb
     Does (.add p w rd ra rb) s (Wrote n rd (resS w (opS w x + opS w y)) u) ∧
     Does (.sub p w rd ra rb) s (Wrote n rd (resS w (opS w x - opS w y)) u) ∧
     Does (.and p w rd ra rb) s (Wrote n rd (resS w (x &&& y).toNat) u) ∧
     Does (.or p w rd ra rb) s (Wrote n rd (resS w (x ||| y).toNat) u) ∧
     Does (.xor p w rd ra rb) s (Wrote n rd (resS w (x ^^^ y).toNat) u) ∧
     Does (.andn p w rd ra rb) s (Wrote n rd (resS w (x &&& ~~~y).toNat) u) ∧
     Does (.shl p w rd ra rb) s (Wrote n rd (resS w (opS w x * 2 ^ (opU w y % wdBits w))) u) ∧
     Does (.shr p w rd ra rb) s (Wrote n rd (resU w (opU w x / 2 ^ (opU w y % wdBits w) : Nat)) u) ∧
     Does (.sar p w rd ra rb) s (Wrote n rd (resS w (opS w x / 2 ^ (opU w y % wdBits w))) u) ∧
     Does (.ror p w rd ra rb) s (Wrote n rd (resU w (rotR w (opU w x) (opU w y % wdBits w))) u) ∧
     Does (.mul p w rd ra rb) s (Wrote n rd (resS w (opS w x * opS w y)) u) ∧
     Does (.mulh p w rd ra rb) s (Wrote n rd (resS w (opS w x * opS w y / 2 ^ wdBits w)) u) ∧
     Does (.mulhu p w rd ra rb) s (Wrote n rd (resU w (opU w x * opU w y / 2 ^ wdBits w : Nat)) u) ∧
     Does (.min p w rd ra rb) s (Wrote n rd (resS w (min (opS w x) (opS w y))) u) ∧
     Does (.max p w rd ra rb) s (Wrote n rd (resS w (max (opS w x) (opS w y))) u) ∧
     Does (.minu p w rd ra rb) s (Wrote n rd (resU w (min (opU w x) (opU w y) : Nat)) u) ∧
     Does (.maxu p w rd ra rb) s (Wrote n rd (resU w (max (opU w x) (opU w y) : Nat)) u) ∧
     Does (.slt p w rd ra rb) s (Wrote n rd (if opS w x < opS w y then 1#64 else 0#64) u) ∧
     Does (.sltu p w rd ra rb) s (Wrote n rd (if opU w x < opU w y then 1#64 else 0#64) u) ∧
     Does (.seq p w rd ra rb) s (Wrote n rd (if opU w x = opU w y then 1#64 else 0#64) u) ∧
     Does (.sne p w rd ra rb) s (Wrote n rd (if opU w x = opU w y then 0#64 else 1#64) u)) ∧
  (∀ (p : Proc) (w : Wd) (rd ra : Reg) (s u : State), Issues s p u →
     let n := coreNo p
     let x := u.vget n ra
     Does (.clz p w rd ra) s (Wrote n rd (BitVec.ofNat 64 (clzN (wdBits w) (opU w x))) u) ∧
     Does (.ctz p w rd ra) s (Wrote n rd (BitVec.ofNat 64 (ctzN (wdBits w) (opU w x))) u) ∧
     Does (.popc p w rd ra) s (Wrote n rd (BitVec.ofNat 64 (popN (wdBits w) (opU w x))) u) ∧
     Does (.sext p w rd ra) s (Wrote n rd (BitVec.ofInt 64 (opS w x)) u) ∧
     Does (.zext p w rd ra) s (Wrote n rd (BitVec.ofNat 64 (opU w x)) u) ∧
     Does (.abs p w rd ra) s (Wrote n rd (resS w |opS w x|) u))

/-- Division (04 R92): never traps, a zero divisor and the overflow of the least value by -1 set ASTAT.IDZ and ASTAT.IOV. Saturating arithmetic (04
R95): the nearest bound of the range, and ASTAT.SAT where the exact result lies outside it. -/
def Obligations.DivisionAndSaturation : Prop :=
  (∀ (p : Proc) (w : Wd) (rd ra rb : Reg) (s u : State), Issues s p u →
     let n := coreNo p
     let a := opS w (u.vget n ra)
     let b := opS w (u.vget n rb)
     let c := opU w (u.vget n ra)
     let d := opU w (u.vget n rb)
     let st : DWord := if b = 0 then 1#64 else if a = -(2 ^ (wdBits w - 1)) ∧ b = -1 then 2#64 else 0#64
     let q : Int := if b = 0 then 0 else a.tdiv b
     let stu : DWord := if d = 0 then 1#64 else 0#64
     Does (.div p w rd ra rb) s (WroteSticky n rd (resS w q) 0 st u) ∧
     Does (.rem p w rd ra rb) s (WroteSticky n rd (resS w (a - q * b)) 0 st u) ∧
     Does (.divu p w rd ra rb) s (WroteSticky n rd (resU w (c / d : Nat)) 0 stu u) ∧
     Does (.remu p w rd ra rb) s (WroteSticky n rd (resU w (c % d : Nat)) 0 stu u)) ∧
  (∀ (p : Proc) (w : Wd) (rd ra rb : Reg) (s u : State), Issues s p u →
     let n := coreNo p
     let x := u.vget n ra
     let y := u.vget n rb
     let lo : Int := -(2 ^ (wdBits w - 1))
     let hi : Int := 2 ^ (wdBits w - 1) - 1
     let top : Int := 2 ^ wdBits w - 1
     let S (v : Int) : State → Prop := WroteSticky n rd (BitVec.ofInt 64 (limit lo hi v)) 0 (if limit lo hi v = v then 0#64 else 4#64) u
     let U (v : Int) : State → Prop := WroteSticky n rd (BitVec.ofInt 64 (limit 0 top v)) 0 (if limit 0 top v = v then 0#64 else 4#64) u
     Does (.adds p w rd ra rb) s (S (opS w x + opS w y)) ∧
     Does (.subs p w rd ra rb) s (S (opS w x - opS w y)) ∧
     Does (.muls p w rd ra rb) s (S (opS w x * opS w y)) ∧
     Does (.negs p w rd ra) s (S (-opS w x)) ∧
     Does (.abss p w rd ra) s (S |opS w x|) ∧
     Does (.sats p w rd ra) s (S x.toInt) ∧
     Does (.addus p w rd ra rb) s (U (opU w x + opU w y)) ∧
     Does (.subus p w rd ra rb) s (U (opU w x - opU w y)) ∧
     Does (.mulus p w rd ra rb) s (U (opU w x * opU w y)) ∧
     Does (.satu p w rd ra) s (U x.toInt))

/-- Shifts by a constant (04 R93): a constant below the width shifts; one of the width or more raises ILLEGAL, which outside a trap enters the trap
and changes nothing else. -/
def Obligations.ShiftConstants : Prop :=
  ∀ (p : Proc) (w : Wd) (rd ra : Reg) (sh : BitVec 6) (s u : State), Issues s p u →
    let n := coreNo p
    let x := u.vget n ra
    let k := sh.toNat
    (k < wdBits w →
      Does (.shli p w rd ra sh) s (Wrote n rd (resS w (opS w x * 2 ^ k)) u) ∧
      Does (.shri p w rd ra sh) s (Wrote n rd (resU w (opU w x / 2 ^ k : Nat)) u) ∧
      Does (.sari p w rd ra sh) s (Wrote n rd (resS w (opS w x / 2 ^ k)) u) ∧
      Does (.rori p w rd ra sh) s (Wrote n rd (resU w (rotR w (opU w x) k)) u)) ∧
    (wdBits w ≤ k → OutsideTrap u n →
      Does (.shli p w rd ra sh) s (Trapped n 0 0 0#64 u) ∧ Does (.shri p w rd ra sh) s (Trapped n 0 0 0#64 u) ∧
      Does (.sari p w rd ra sh) s (Trapped n 0 0 0#64 u) ∧ Does (.rori p w rd ra sh) s (Trapped n 0 0 0#64 u))

/-- Immediate instructions (04 R94), all 64 bits. -/
def Obligations.ImmediateResults : Prop :=
  ∀ (p : Proc) (rd ra : Reg) (imm : BitVec 16) (hw : Fin 4) (s u : State), Issues s p u →
    let n := coreNo p
    let x := u.vget n ra
    let y := u.vget n rd
    Does (.addi p rd ra imm) s (Wrote n rd (x + imm.signExtend 64) u) ∧
    Does (.andi p rd ra imm) s (Wrote n rd (x &&& imm.zeroExtend 64) u) ∧
    Does (.ori p rd ra imm) s (Wrote n rd (x ||| imm.zeroExtend 64) u) ∧
    Does (.xori p rd ra imm) s (Wrote n rd (x ^^^ imm.zeroExtend 64) u) ∧
    Does (.slti p rd ra imm) s (Wrote n rd (if x.toInt < (imm.signExtend 64).toInt then 1#64 else 0#64) u) ∧
    Does (.sltiu p rd ra imm) s (Wrote n rd (if x.toNat < (imm.signExtend 64).toNat then 1#64 else 0#64) u) ∧
    Does (.liz p rd hw imm) s (Wrote n rd (imm.zeroExtend 64 <<< (16 * hw.val)) u) ∧
    Does (.lik p rd hw imm) s (fun t => ∃ v, Wrote n rd v u t ∧
      ∀ b : Nat, b < 64 → v.getLsbD b = if 16 * hw.val ≤ b ∧ b < 16 * hw.val + 16 then imm.getLsbD (b - 16 * hw.val) else y.getLsbD b)

/-! ### Denma: floating point, clamps and selection -/

/-- FP group (04 R97) on the processors that have it: rd takes the result and FSTAT the flags, which FpRounding, MinMaxRule and ConversionRule
describe; the sign operations and FCLS set no flag. FMAG group (04 R100) on the processors that have it: fused multiply-adds, clamps and selection. -/
def Obligations.FloatingAndFusedResults : Prop :=
  (∀ (p : Proc) (f : Fmt) (rd ra rb : Reg) (s u : State), Issues s p u → p ≠ .helper →
     let n := coreNo p
     let x := u.vget n ra
     let y := u.vget n rb
     let F (r : DWord × FpFlags) : State → Prop := WroteSticky n rd r.1 1 (BitVec.ofNat 64 r.2) u
     Does (.fadd p f rd ra rb) s (F (fpAdd f x y)) ∧ Does (.fsub p f rd ra rb) s (F (fpSub f x y)) ∧
     Does (.fmul p f rd ra rb) s (F (fpMul f x y)) ∧ Does (.fdiv p f rd ra rb) s (F (fpDiv f x y)) ∧
     Does (.fsqrt p f rd ra) s (F (fpSqrt f x)) ∧ Does (.fmin p f rd ra rb) s (F (fpMinMax false f x y)) ∧
     Does (.fmax p f rd ra rb) s (F (fpMinMax true f x y)) ∧ Does (.fneg p f rd ra) s (F (fpSetSign f (!fpSign f x) x, 0)) ∧
     Does (.fabs p f rd ra) s (F (fpSetSign f false x, 0)) ∧ Does (.fsgn p f rd ra rb) s (F (fpSetSign f (fpSign f y) x, 0)) ∧
     Does (.feq p f rd ra rb) s (F (fpEq f x y)) ∧ Does (.flt p f rd ra rb) s (F (fpLt f x y)) ∧
     Does (.fle p f rd ra rb) s (F (fpLe f x y)) ∧ Does (.fun p f rd ra rb) s (F (fpUn f x y)) ∧
     Does (.fcls p f rd ra) s (F (fpClass f x, 0)) ∧ Does (.fcvf p f rd ra) s (F (fpCvf f x)) ∧
     Does (.frndI32 p f rd ra) s (F (fpToInt true .i32 f x)) ∧ Does (.frndI64 p f rd ra) s (F (fpToInt true .i64 f x)) ∧
     Does (.frndU32 p f rd ra) s (F (fpToInt true .u32 f x)) ∧ Does (.frndU64 p f rd ra) s (F (fpToInt true .u64 f x)) ∧
     Does (.ftrcI32 p f rd ra) s (F (fpToInt false .i32 f x)) ∧ Does (.ftrcI64 p f rd ra) s (F (fpToInt false .i64 f x)) ∧
     Does (.ftrcU32 p f rd ra) s (F (fpToInt false .u32 f x)) ∧ Does (.ftrcU64 p f rd ra) s (F (fpToInt false .u64 f x)) ∧
     Does (.ifltI32 p f rd ra) s (F (fpFromInt .i32 f x)) ∧ Does (.ifltI64 p f rd ra) s (F (fpFromInt .i64 f x)) ∧
     Does (.ifltU32 p f rd ra) s (F (fpFromInt .u32 f x)) ∧ Does (.ifltU64 p f rd ra) s (F (fpFromInt .u64 f x))) ∧
  (∀ (p : Proc) (rd ra rb rc : Reg) (s u : State), Issues s p u → p ≠ .helper →
     let n := coreNo p
     let x := u.vget n ra
     let y := u.vget n rb
     let z := u.vget n rc
     let F (r : DWord × FpFlags) : State → Prop := WroteSticky n rd r.1 1 (BitVec.ofNat 64 r.2) u
     let M (f : Fmt) (negP negC : Bool) : State → Prop :=
       F (fpFma f (if negP then (fpUnpack f x).neg else fpUnpack f x) (fpUnpack f y) (if negC then (fpUnpack f z).neg else fpUnpack f z))
     let cs := BitVec.ofInt 64 (min (max x.toInt y.toInt) z.toInt)
     let cu := BitVec.ofNat 64 (min (max x.toNat y.toNat) z.toNat)
     Does (.fmadS p rd ra rb rc) s (M .f32 false false) ∧ Does (.fmadD p rd ra rb rc) s (M .f64 false false) ∧
     Does (.fmsbS p rd ra rb rc) s (M .f32 false true) ∧ Does (.fmsbD p rd ra rb rc) s (M .f64 false true) ∧
     Does (.fnmaS p rd ra rb rc) s (M .f32 true false) ∧ Does (.fnmaD p rd ra rb rc) s (M .f64 true false) ∧
     Does (.fnmsS p rd ra rb rc) s (M .f32 true true) ∧ Does (.fnmsD p rd ra rb rc) s (M .f64 true true) ∧
     Does (.clamp p rd ra rb rc) s (WroteSticky n rd cs 0 (if cs = x then 0#64 else 4#64) u) ∧
     Does (.clampu p rd ra rb rc) s (WroteSticky n rd cu 0 (if cu = x then 0#64 else 4#64) u) ∧
     Does (.clampS p rd ra rb rc) s (F (fpClamp .f32 x y z)) ∧ Does (.clampD p rd ra rb rc) s (F (fpClamp .f64 x y z)) ∧
     Does (.sel p rd ra rb rc) s (Wrote n rd (if x = 0#64 then z else y) u))

/-- Rounding (04 R96, R100): the result of a sum, difference, product, fused multiply-add or conversion to floating point of numbers is the exact
value rounded once to the format, to nearest with ties to even. -/
def Obligations.FpRounding : Prop :=
  ∀ (f : Fmt) (x y z : DWord), fpFinite f x → fpFinite f y → fpFinite f z →
    let a := fpVal (fpUnpack f x)
    let b := fpVal (fpUnpack f y)
    let c := fpVal (fpUnpack f z)
    FpRounded f (a + b) (fpAdd f x y).1 ∧ FpRounded f (a - b) (fpSub f x y).1 ∧ FpRounded f (a * b) (fpMul f x y).1 ∧
    FpRounded f (a * b + c) (fpFma f (fpUnpack f x) (fpUnpack f y) (fpUnpack f z)).1 ∧
    FpRounded f (x.toInt : ℚ) (fpFromInt .i64 f x).1 ∧ FpRounded f (x.toNat : ℚ) (fpFromInt .u64 f x).1

/-- FMIN and FMAX (04 R98). −0 counts as less than +0: of two numbers that compare equal, the one with the sign bit set is the lesser. -/
def Obligations.MinMaxRule : Prop :=
  ∀ (p : Proc) (f : Fmt) (rd ra rb : Reg) (s u : State), Issues s p u → p ≠ .helper →
    let n := coreNo p
    let x := u.vget n ra
    let y := u.vget n rb
    let a := fpUnpack f x
    let b := fpUnpack f y
    let nv : DWord := if a.isSnan ∨ b.isSnan then 16#64 else 0#64
    let F (v : DWord) : State → Prop := WroteSticky n rd v 1 nv u
    let self (v : DWord) : DWord := BitVec.ofNat 64 (fpBits f v)
    let less : Prop := fpCmp a b < 0 ∨ (fpCmp a b = 0 ∧ fpSign f x = true ∧ fpSign f y = false)
    (a.isNan = true → b.isNan = true → Does (.fmin p f rd ra rb) s (F (fpNaN f)) ∧ Does (.fmax p f rd ra rb) s (F (fpNaN f))) ∧
    (a.isNan = true → b.isNan = false → Does (.fmin p f rd ra rb) s (F (self y)) ∧ Does (.fmax p f rd ra rb) s (F (self y))) ∧
    (a.isNan = false → b.isNan = true → Does (.fmin p f rd ra rb) s (F (self x)) ∧ Does (.fmax p f rd ra rb) s (F (self x))) ∧
    (a.isNan = false → b.isNan = false → less → Does (.fmin p f rd ra rb) s (F (self x)) ∧ Does (.fmax p f rd ra rb) s (F (self y))) ∧
    (a.isNan = false → b.isNan = false → ¬ less → Does (.fmin p f rd ra rb) s (F (self y)) ∧ Does (.fmax p f rd ra rb) s (F (self x)))

/-- FRND and FTRC (04 R99) for every integer type: a NaN gives 0, a rounded value outside the range the nearest bound, each with NV and without NX;
within the range NX where the value changed. -/
def Obligations.ConversionRule : Prop :=
  ∀ (p : Proc) (f : Fmt) (rd ra : Reg) (s u : State), Issues s p u → p ≠ .helper →
    let n := coreNo p
    let a := fpUnpack f (u.vget n ra)
    let C (c : Instr) (nearest : Bool) (lo hi : Int) : Prop :=
      (a.isNan = true → Does c s (WroteSticky n rd 0#64 1 16#64 u)) ∧
      (∀ neg, a = .inf neg → Does c s (WroteSticky n rd (BitVec.ofInt 64 (if neg then lo else hi)) 1 16#64 u)) ∧
      (∀ neg m e, a = .fin neg m e → ∃ r : Int, RoundedTo nearest (fpVal a) r ∧
        (hi < r → Does c s (WroteSticky n rd (BitVec.ofInt 64 hi) 1 16#64 u)) ∧
        (r < lo → Does c s (WroteSticky n rd (BitVec.ofInt 64 lo) 1 16#64 u)) ∧
        (lo ≤ r → r ≤ hi → Does c s (WroteSticky n rd (BitVec.ofInt 64 r) 1 (if (r : ℚ) = fpVal a then 0#64 else 1#64) u)))
    C (.frndI32 p f rd ra) true (-2 ^ 31) (2 ^ 31 - 1) ∧ C (.frndI64 p f rd ra) true (-2 ^ 63) (2 ^ 63 - 1) ∧
    C (.frndU32 p f rd ra) true 0 (2 ^ 32 - 1) ∧ C (.frndU64 p f rd ra) true 0 (2 ^ 64 - 1) ∧
    C (.ftrcI32 p f rd ra) false (-2 ^ 31) (2 ^ 31 - 1) ∧ C (.ftrcI64 p f rd ra) false (-2 ^ 63) (2 ^ 63 - 1) ∧
    C (.ftrcU32 p f rd ra) false 0 (2 ^ 32 - 1) ∧ C (.ftrcU64 p f rd ra) false 0 (2 ^ 64 - 1)

/-- CLAMP.S and CLAMP.D (04 R101): the canonical NaN, and NV for a signalling one, else one of the operands unchanged without a flag. -/
def Obligations.FloatClampRule : Prop :=
  ∀ (p : Proc) (rd ra rb rc : Reg) (s u : State), Issues s p u → p ≠ .helper →
    let n := coreNo p
    let C (c : Instr) (f : Fmt) : Prop :=
      let l := [u.vget n ra, u.vget n rb, u.vget n rc]
      let some_ (q : Fp → Bool) : Bool := l.any fun v => q (fpUnpack f v)
      (some_ Fp.isNan = true → Does c s (WroteSticky n rd (fpNaN f) 1 (if some_ Fp.isSnan then 16#64 else 0#64) u)) ∧
      (some_ Fp.isNan = false → ∃ v ∈ l, Does c s (WroteSticky n rd (BitVec.ofNat 64 (fpBits f v)) 1 0#64 u))
    C (.clampS p rd ra rb rc) .f32 ∧ C (.clampD p rd ra rb rc) .f64

/-! ### Denma: memory -/

/-- Loads (04 R102, R103, R104, R110, R112): ADDRESS, then LOAD_ALIGN, without an access; else the access, whose value the load extends and writes,
whose denial is LOAD_GATE and whose error is MEMERR; a Grove fault of the access stops the engine. Stores (04 R102, R103, R104, R110, R112): as loads,
with STORE_ALIGN and STORE_GATE; no register changes. -/
def Obligations.LoadAndStoreResults : Prop :=
  (∀ (p : Proc) (rd ra : Reg) (imm : BitVec 16) (s u : State), Issues s p u →
     let n := coreNo p
     let ea := (if ra.val = 0 then u.srGet n 0x005 else u.vget n ra) + imm.signExtend 64
     let L (c : Instr) (sz : Nat) (ext : Nat → DWord) : Prop :=
       let r := coreRead regBus u n (prvOf u n) (partOf u n) ea.toNat sz
       (2 ^ 40 ≤ ea.toNat → OutsideTrap u n → Does c s (Trapped n 2 0 ea u)) ∧
       (ea.toNat < 2 ^ 40 → ea.toNat % sz ≠ 0 → OutsideTrap u n → Does c s (Trapped n 4 0 ea u)) ∧
       (ea.toNat < 2 ^ 40 → ea.toNat % sz = 0 →
         (∀ v, r.1 = .ok v → v < 2 ^ (8 * sz) → Does c s (fun t => ∃ k, Wrote n rd (ext v) { r.2 with free := k } t)) ∧
         (∀ e, r.1 = .denied e → OutsideTrap r.2 n → Does c s (Trapped n 7 e ea r.2)) ∧
         (∀ e, r.1 = .memErr e → OutsideTrap r.2 n → Does c s (Trapped n 10 e ea r.2)) ∧
         (r.1 = .fault → Does c s (fun t => t = r.2)))
     L (.lb p rd ra imm) 1 (fun v => (BitVec.ofNat 8 v).signExtend 64) ∧ L (.lbu p rd ra imm) 1 (BitVec.ofNat 64) ∧
     L (.lh p rd ra imm) 2 (fun v => (BitVec.ofNat 16 v).signExtend 64) ∧ L (.lhu p rd ra imm) 2 (BitVec.ofNat 64) ∧
     L (.lw p rd ra imm) 4 (fun v => (BitVec.ofNat 32 v).signExtend 64) ∧ L (.lwu p rd ra imm) 4 (BitVec.ofNat 64) ∧
     L (.ld p rd ra imm) 8 (BitVec.ofNat 64)) ∧
  (∀ (p : Proc) (rs ra : Reg) (imm : BitVec 16) (s u : State), Issues s p u →
     let n := coreNo p
     let ea := (if ra.val = 0 then u.srGet n 0x005 else u.vget n ra) + imm.signExtend 64
     let S (c : Instr) (sz : Nat) : Prop :=
       let r := coreWrite regBus u n (prvOf u n) (partOf u n) ea.toNat sz ((u.vget n rs).toNat % 2 ^ (8 * sz))
       (2 ^ 40 ≤ ea.toNat → OutsideTrap u n → Does c s (Trapped n 2 0 ea u)) ∧
       (ea.toNat < 2 ^ 40 → ea.toNat % sz ≠ 0 → OutsideTrap u n → Does c s (Trapped n 5 0 ea u)) ∧
       (ea.toNat < 2 ^ 40 → ea.toNat % sz = 0 →
         (∀ v, r.1 = .ok v → Does c s (fun t => ∃ k, WentTo n (nextPc u n) { r.2 with free := k } t)) ∧
         (∀ e, r.1 = .denied e → OutsideTrap r.2 n → Does c s (Trapped n 8 e ea r.2)) ∧
         (∀ e, r.1 = .memErr e → OutsideTrap r.2 n → Does c s (Trapped n 10 e ea r.2)) ∧
         (r.1 = .fault → Does c s (fun t => t = r.2)))
     S (.sb p rs ra imm) 1 ∧ S (.sh p rs ra imm) 2 ∧ S (.sw p rs ra imm) 4 ∧ S (.sd p rs ra imm) 8)

/-- Atomic accesses (04 R106): the old value to rd and the new one to memory, word or doubleword; ADDRESS, LOAD_ALIGN and ATOMIC before any access,
LOAD_GATE for a denied read and STORE_GATE for a denied write, each before anything is read or written (04 R111, R112). -/
def Obligations.AtomicResults : Prop :=
  ∀ (p : Proc) (l : Bool) (rd ra rb rc : Reg) (s u : State), Issues s p u → p ≠ .helper →
    let n := coreNo p
    let ea := if ra.val = 0 then u.srGet n 0x005 else u.vget n ra
    let a := ea.toNat
    let sz := if l then 8 else 4
    let y := u.vget n rb
    let z := u.vget n rc
    let I (x : DWord) : Int := if l then x.toInt else (x.truncate 32).toInt
    let N (x : DWord) : Nat := if l then x.toNat else (x.truncate 32).toNat
    let atomic : Prop := (0x0010000000 ≤ a ∧ a ≤ 0x00103FFFFF) ∨ (0x0100000000 ≤ a ∧ a < 0x0108000000) ∨ (0x0800000000 ≤ a ∧ a ≤ 0x09FFFFFFFF)
    let r := amoRead (if isCanopy n && isDram a then cacheFlush u n (a / 64 * 64) else u) n a sz
    let A (c : Instr) (op : DWord → Option DWord) : Prop :=
      (2 ^ 40 ≤ a → OutsideTrap u n → Does c s (Trapped n 2 0 ea u)) ∧
      (a < 2 ^ 40 → a % sz ≠ 0 → OutsideTrap u n → Does c s (Trapped n 4 0 ea u)) ∧
      (a < 2 ^ 40 → a % sz = 0 → ¬ atomic → OutsideTrap u n → Does c s (Trapped n 9 0 ea u)) ∧
      (a % sz = 0 → atomic → ∀ e t, gateFirst .read u n (prvOf u n) (partOf u n) a sz = some (e, t) → OutsideTrap t n →
        Does c s (Trapped n 7 e ea t)) ∧
      (a % sz = 0 → atomic → gateFirst .read u n (prvOf u n) (partOf u n) a sz = none →
        ∀ e t, gateFirst .write u n (prvOf u n) (partOf u n) a sz = some (e, t) → OutsideTrap t n → Does c s (Trapped n 8 e ea t)) ∧
      (a % sz = 0 → atomic → gateFirst .read u n (prvOf u n) (partOf u n) a sz = none →
        gateFirst .write u n (prvOf u n) (partOf u n) a sz = none →
        (∀ e, r.1 = .memErr e → OutsideTrap r.2 n → Does c s (Trapped n 10 e ea r.2)) ∧
        (∀ v, r.1 = .ok v → v < 2 ^ (8 * sz) →
          let old : DWord := if l then BitVec.ofNat 64 v else (BitVec.ofNat 32 v).signExtend 64
          let w := match op old with
            | some new => amoWrite r.2 n a sz (new.toNat % 2 ^ (8 * sz))
            | none => (.ok 0, r.2)
          (∀ k, w.1 = .ok k → Does c s (fun t => ∃ j, Wrote n rd old { w.2 with free := j } t)) ∧
          (∀ e, w.1 = .denied e → OutsideTrap w.2 n → Does c s (Trapped n 8 e ea w.2))))
    A (.amoSwap p l rd ra rb) (fun _ => some y) ∧ A (.amoAdd p l rd ra rb) (fun o => some (o + y)) ∧
    A (.amoAnd p l rd ra rb) (fun o => some (o &&& y)) ∧ A (.amoOr p l rd ra rb) (fun o => some (o ||| y)) ∧
    A (.amoXor p l rd ra rb) (fun o => some (o ^^^ y)) ∧ A (.amoMin p l rd ra rb) (fun o => some (if I o ≤ I y then o else y)) ∧
    A (.amoMax p l rd ra rb) (fun o => some (if I o ≤ I y then y else o)) ∧ A (.amoMinu p l rd ra rb) (fun o => some (if N o ≤ N y then o else y)) ∧
    A (.amoMaxu p l rd ra rb) (fun o => some (if N o ≤ N y then y else o)) ∧
    A (.amoCas p l rd ra rb rc) (fun o => if N o = N y then some z else none)

/-- Accesses of a processor at memory that its gate admits and that holds no ECC error (04 R104, R105; 06 R151, R155; 00 R3): a read answers the
little-endian value of the bytes and leaves them; a write stores its bytes, least significant first, and leaves every other byte. `h` is the physical
address: the accessed one, or for an engine the one its view of its own Grove reaches. -/
def Obligations.MemoryReadsAndWrites : Prop :=
  ∀ (n prv part a h sz v : Nat) (u : State), sz ∈ [1, 2, 4, 8] → a % sz = 0 → h % sz = 0 →
    (if isEng n then engPhys u n a = some h else h = a) → (isCanopy n && isDram a) = false →
    (∃ t g, mapOf a = some (t, g, true) ∧ t ≠ .regs ∧ (t = .dram → dramReady u = true)) →
    let x : Xfer := ⟨n, prv, part, 2⟩
    (admitted u .read x a sz = true → u.eccAt h = none →
      let r := coreRead regBus u n prv part a sz
      r.1 = .ok (leVal (u.bytes h sz)) ∧ (∀ b, r.2.byte b = u.byte b) ∧ (∀ m, r.2.core m = u.core m) ∧
      (∀ b, isPmc b = false → r.2.rget b = u.rget b)) ∧
    (admitted u .write x a sz = true → (∃ t g, mapOf h = some (t, g, true) ∧ t ∉ [.rom, .image, .regs, .trace]) →
      let r := coreWrite regBus u n prv part a sz v
      r.1 = .ok 0 ∧ (∀ k, k < sz → r.2.byte (h + k) = BitVec.ofNat 8 (v / 2 ^ (8 * k))) ∧
      (∀ b, b < h ∨ h + sz ≤ b → r.2.byte b = u.byte b) ∧ (∀ m, r.2.core m = u.core m) ∧
      (∀ b, isPmc b = false → r.2.rget b = u.rget b))

/-! ### Denma: control flow, system registers, traps -/

/-- Branches and jumps (04 R107): the target counts words from the instruction itself, or is the register sum; the link is the next instruction's
address. A branch, taken or not, and a jump leave a trace record where trace is on (07 R181). -/
def Obligations.BranchResults : Prop :=
  ∀ (p : Proc) (rd ra rb : Reg) (off : BitVec 16) (joff : BitVec 21) (bit : BitVec 6) (boff : BitVec 15) (s u : State), Issues s p u →
    let n := coreNo p
    let pc := (u.core n).pc
    let x := u.vget n ra
    let y := u.vget n rb
    let tgt (w : DWord) : DWord := (pc + 4#64 * w) &&& 0xFFFFFFFFFC#64
    let B (c : Instr) (taken : Prop) (w : DWord) : Prop :=
      (taken → Does c s (WentTo n (tgt w) (traceRecord u n true pc))) ∧
      (¬ taken → Does c s (WentTo n ((pc + 4#64) &&& 0xFFFFFFFFFC#64) (traceRecord u n false pc)))
    let j := x + off.signExtend 64
    B (.bEq p ra rb off) (x = y) (off.signExtend 64) ∧ B (.bNe p ra rb off) (x ≠ y) (off.signExtend 64) ∧
    B (.bLt p ra rb off) (x.toInt < y.toInt) (off.signExtend 64) ∧ B (.bLe p ra rb off) (x.toInt ≤ y.toInt) (off.signExtend 64) ∧
    B (.bLtu p ra rb off) (x.toNat < y.toNat) (off.signExtend 64) ∧ B (.bLeu p ra rb off) (x.toNat ≤ y.toNat) (off.signExtend 64) ∧
    B (.bt p ra bit boff) (x.getLsbD bit.toNat = true) (boff.signExtend 64) ∧
    B (.bf p ra bit boff) (x.getLsbD bit.toNat = false) (boff.signExtend 64) ∧
    Does (.jmpl p rd joff) s (WentTo n (tgt (joff.signExtend 64)) ((traceRecord u n true pc).vset n rd (pc + 4#64))) ∧
    (2 ^ 40 ≤ j.toNat → OutsideTrap u n → Does (.jmpr p rd ra off) s (Trapped n 2 0 j u)) ∧
    (j.toNat < 2 ^ 40 → j.toNat % 4 ≠ 0 → OutsideTrap u n → Does (.jmpr p rd ra off) s (Trapped n 3 0 j u)) ∧
    (j.toNat < 2 ^ 40 → j.toNat % 4 = 0 →
      Does (.jmpr p rd ra off) s (WentTo n j ((traceRecord u n true pc).vset n rd (pc + 4#64))))

/-- System registers (04 R79, R82, R108): ILLEGAL for a register that the processor does not have and for a write of one that no level may write,
PRIVILEGE for a level that may not; a write leaves the privilege level. -/
def Obligations.SystemRegisterAccess : Prop :=
  ∀ (p : Proc) (rd ra : Reg) (sr : BitVec 12) (s u : State), Issues s p u →
    let n := coreNo p
    let r := sr.toNat
    let prv := prvOf u n
    let isTrap : Prop := 0x010 ≤ r ∧ r ≤ 0x016
    let has : Prop := r ≤ 0x006 ∨ isTrap ∨ r = 0x017 ∨ (isCanopy n = true ∧ (r = 0x020 ∨ r = 0x021))
    let ro : Prop := r = 0x002 ∨ r = 0x003 ∨ r = 0x004 ∨ r = 0x021
    let mayRead : Prop := r ≤ 0x006 ∨ (r = 0x017 ∧ prv ≠ 0) ∨ ((r = 0x020 ∨ r = 0x021) ∧ prv = 3) ∨ (isTrap ∧ prv = trapLevel n)
    let mayWrite : Prop := r ≤ 0x001 ∨ ((r = 0x005 ∨ r = 0x006 ∨ r = 0x017) ∧ prv ≠ 0) ∨ (r = 0x020 ∧ prv = 3) ∨ (isTrap ∧ prv = trapLevel n)
    let set (v : DWord) : State := u.srSet n r (srWritten u n r v)
    let W (c : Instr) (P : State → Prop) : Prop :=
      (has → ¬ ro → mayWrite → Does c s (fun t => P t ∧ prvOf t n = prv)) ∧
      (¬ has ∨ ro → OutsideTrap u n → Does c s (Trapped n 0 0 0#64 u)) ∧
      (has → ¬ ro → ¬ mayWrite → OutsideTrap u n → Does c s (Trapped n 1 0 0#64 u))
    (has → mayRead → Does (.mfsr p rd sr) s (fun t => ∃ v k, Wrote n rd v { u with free := k } t ∧
      (¬ ro → v = u.srGet n r) ∧ (r = 0x002 → v = BitVec.ofNat 64 u.seq.tick) ∧ (r = 0x004 → v = BitVec.ofNat 64 n) ∧
      (r = 0x003 → isEng n = true → v = BitVec.ofNat 64 (u.task n (classOf u n)).cyc) ∧
      (r = 0x021 → v = BitVec.ofNat 64 (ipend u (n - 0x40))))) ∧
    (¬ has → OutsideTrap u n → Does (.mfsr p rd sr) s (Trapped n 0 0 0#64 u)) ∧
    (has → ¬ mayRead → OutsideTrap u n → Does (.mfsr p rd sr) s (Trapped n 1 0 0#64 u)) ∧
    W (.mtsr p sr ra) (WentTo n (nextPc u n) (set (u.vget n ra))) ∧
    W (.srset p rd sr ra) (Wrote n rd (u.srGet n r) (set (u.srGet n r ||| u.vget n ra))) ∧
    W (.srclr p rd sr ra) (Wrote n rd (u.srGet n r) (set (u.srGet n r &&& ~~~u.vget n ra)))

/-- SCALL, BRK, RTE and FENCE (04 R105, R108, R109, R110, R113): SCALL and an unarmed or refused BRK trap with the code as SUB; an armed BRK where a
halt is allowed halts the processor at the next instruction; RTE takes privilege and enables back and goes to EPC. A trap inside a trap (04 R115),
shown by SCALL: the engine's task is stopped with DTRAP (with no other task ready on the engine, whose start could stop it in turn), a Canopy core
halts and the module is FAULTED. -/
def Obligations.CallsReturnsAndDoubleTrap : Prop :=
  (∀ (p : Proc) (code : BitVec 12) (s u : State), Issues s p u →
     let n := coreNo p
     (p ≠ .helper → OutsideTrap u n → Does (.scall p code) s (Trapped n 11 code.toNat 0#64 u)) ∧
     (p ≠ .helper → OutsideTrap u n → brkArmed u n = false → Does (.brk p code) s (Trapped n 12 code.toNat 0#64 u)) ∧
     (p ≠ .helper → OutsideTrap u n → brkArmed u n = true → haltAllowed u n = false →
       Does (.brk p code) s (fun t => Trapped n 12 code.toNat 0#64 (dbgRefuse u true) t ∧ t.on DBG_STATUS DBG_STATUS_REFUSED = true)) ∧
     (p ≠ .helper → brkArmed u n = true → haltAllowed u n = true →
       Does (.brk p code) s (fun t => halted t n = true ∧ (t.core n).pc = nextPc u n ∧ ∀ r, t.vget n r = u.vget n r)) ∧
     (prvOf u n = 0 → OutsideTrap u n → Does (.rte p) s (Trapped n 1 0 0#64 u)) ∧
     (prvOf u n ≠ 0 → Does (.rte p) s (fun t => (t.core n).pc = u.srGet n 0x012 ∧ prvOf t n = (u.srGet n 0x010).toNat / 4 % 4 ∧
       OutsideTrap t n ∧ (isCanopy n = true → (t.srGet n 0x010).toNat / 16 % 2 = (u.srGet n 0x010).toNat / 32 % 2) ∧
       (∀ r, t.vget n r = u.vget n r) ∧ (∀ r, r ≠ 0x010 → t.srGet n r = u.srGet n r) ∧ CoreFrame n u t)) ∧
     Does (.fence p) s (WentTo n (nextPc u n) u)) ∧
  (∀ (p : Proc) (code : BitVec 12) (s u : State), Issues s p u → p ≠ .helper → ¬ OutsideTrap u (coreNo p) →
     (∀ e c, p = .eng e → (u.core e.val).task = some c → c < 16 → (∀ d, d < 16 → (u.task e.val d).st ≠ .ready) →
       Does (.scall p code) s (fun t => (t.task e.val c).st = .stopped ∧ t.on (ENG_STATUS e) ENG_STATUS_DTRAP = true)) ∧
     (∀ c, p = .canopy c → Does (.scall p code) s (fun t => (t.core (0x40 + c.val)).run = .halt ∧ t.role = .faulted)))

/-- Waiting, cache lines and interrupts of a Canopy core (04 R105, R108, R110, R116). -/
def Obligations.CanopyCoreResults : Prop :=
  ∀ (c : Fin 4) (ra : Reg) (s u : State),
    let n := 0x40 + c.val
    let la := (u.vget n ra).toNat / 64 * 64
    let awake (x : State) : Prop := ipend x c &&& (x.srGet n 0x020).toNat % 16 ≠ 0
    (Issues s (.canopy c) u →
      (prvOf u n = 0 → OutsideTrap u n →
        Does (.wfi (.canopy c)) s (Trapped n 1 0 0#64 u) ∧ Does (.cflush (.canopy c) ra) s (Trapped n 1 0 0#64 u)) ∧
      (prvOf u n ≠ 3 → OutsideTrap u n → Does (.cinv (.canopy c) ra) s (Trapped n 1 0 0#64 u)) ∧
      (prvOf u n ≠ 0 → awake u → Does (.wfi (.canopy c)) s (WentTo n (nextPc u n) u)) ∧
      (prvOf u n ≠ 0 → ¬ awake u →
        Does (.wfi (.canopy c)) s (WentTo n (nextPc u n) (u.setCore n { u.core n with run := .wait }))) ∧
      (prvOf u n ≠ 0 → Does (.cflush (.canopy c) ra) s (WentTo n (nextPc (cacheFlush u n la) n) (cacheFlush u n la))) ∧
      (prvOf u n = 3 → Does (.cinv (.canopy c) ra) s (fun t => WentTo n (nextPc u n) (cacheDrop u n la) t ∧ cacheLine t n la = none))) ∧
    ((s.core n).run = .wait → awake s → Does (.wfiWake c) s (fun t => t = s.setCore n { s.core n with run := .run })) ∧
    (∀ k, ((s.core n).run = .run ∨ (s.core n).run = .wait) → OutsideTrap s n → (s.srGet n 0x010).toNat / 16 % 2 = 1 →
      irqLowest s c = some k → Does (.interrupt c) s (fun t => Trapped n (32 + k) (irqSub s c k) 0#64 (irqTaken s c k) t ∧
        (t.core n).run = .run))

/-- What comes before an instruction's own effect (04 R76, R85, R110, R111): a denied fetch is FETCH_GATE, a fetch error MEMERR, an instruction
outside the processor's set ILLEGAL; in each case for every instruction word. -/
def Obligations.FetchAndSetTraps : Prop :=
  ∀ (p : Proc) (w : Word) (i : Instr) (s u : State), denmaRow p w = some i → canIssue s (coreNo p) = true → OutsideTrap u (coreNo p) →
    let n := coreNo p
    (∀ e, fetch s n = (.denied e, u) → Does i s (Trapped n 6 e (s.core n).pc u)) ∧
    (∀ e, fetch s n = (.memErr e, u) → Does i s (Trapped n 10 e (s.core n).pc u)) ∧
    (∀ v, fetch s n = (.ok v, u) → inGroup n (rowSem regBus i).1 = false → Does i s (Trapped n 0 0 0#64 u))

/-! ### Signals, blocks, edges, timers, tasks (05) -/

/-- LDSIG (05 R125, R127) and STSIG (05 R125, R128) on an engine: the traps in their order, the gate, and the effect, which SignalEntries describe; a
store leaves every register. The engine's performance counter of such instructions has counted (15 R385). -/
def Obligations.SignalAccess : Prop :=
  ∀ (e : Fin 64) (rd rs ra : Reg) (off : BitVec 14) (s u : State), Issues s (.eng e) u →
    let p := Proc.eng e
    let n := e.val
    let id := (u.vget n ra + off.zeroExtend 64).toNat
    let x : Xfer := ⟨n, prvOf u n, partOf u n, 2⟩
    let d := u.descOf id
    let Rd (c : Instr) (cp : Nat) : Prop :=
      let a := 0x0200000000 + cp * 0x100000 + 8 * id
      let r := present (sigCount u n (classOf u n) 0x0C) .read x a 8 false
      (131071 < id → OutsideTrap u n → Does c s (Trapped n 16 0 0#64 u)) ∧
      (id ≤ 131071 →
        (∀ k, r.1 = .error k → OutsideTrap r.2 n → Does c s (Trapped n 7 k (BitVec.ofNat 64 a) r.2)) ∧
        (∀ t, r.1 = .ok t →
          let v := deliver r.2 (copyFor r.2 cp (classOf r.2 n)) id
          Does c s (Wrote n rd v.1 v.2)))
    let St (c : Instr) (value : Bool) : Prop :=
      let a := 0x0200100000 + 8 * id
      let r := present (sigCount u n (classOf u n) 0x0D) .write x a 8 false
      (131071 < id → OutsideTrap u n → Does c s (Trapped n 16 0 0#64 u)) ∧
      (id ≤ 131071 → descType d = 0 → OutsideTrap u n → Does c s (Trapped n 17 0 0#64 u)) ∧
      (id ≤ 131071 → descType d ≠ 0 → descDir d = false → OutsideTrap u n → Does c s (Trapped n 18 0 0#64 u)) ∧
      (id ≤ 131071 → descType d ≠ 0 → descDir d = true → descOwner d ≠ classOf u n → OutsideTrap u n →
        Does c s (Trapped n 18 1 0#64 u)) ∧
      (id ≤ 131071 → descType d ≠ 0 → descDir d = true → descOwner d = classOf u n →
        (descPart d ≠ partOf u n → OutsideTrap u n → Does c s (Trapped n 18 2 0#64 u)) ∧
        (descPart d = partOf u n →
          (∀ k, r.1 = .error k → OutsideTrap r.2 n → Does c s (Trapped n 8 k (BitVec.ofNat 64 a) r.2)) ∧
          (∀ t, r.1 = .ok t →
            let v := storeSignal r.2 n id value (u.vget n rs)
            Does c s (fun t => (∀ q, t.vget n q = u.vget n q) ∧ (t.core n).pc = nextPc u n ∧
              t.srGet n 0x000 = u.srGet n 0x000 ||| (if v.2 then 4#64 else 0#64) ∧ (∀ q, q ≠ 0x000 → t.srGet n q = u.srGet n q) ∧
              CoreFrame n v.1 t))))
    Rd (.ldsigIn p rd ra off) 0 ∧ Rd (.ldsigOut p rd ra off) 1 ∧ Rd (.ldsigPrev p rd ra off) 2 ∧
    St (.stsig p rs ra off) true ∧ St (.stsigQ p rs ra off) false

/-- What a signal read delivers (05 R119, R120, R127, R131): VALUE, STATUS, TYPE and AGE of the entry; value 0 and BAD for an unassigned signal; the
force's value, its quality with FORCED or SIMULATED, and AGE 0 for a forced one. What a signal write leaves (05 R121, R128, R131): in mode VALUE the
converted value, the program's quality and limit bits, the TYPE of the descriptor and the running tick; in mode QUALITY those status bits alone; a
forced signal's entry stays and the force records the write. A write with value leaves no error in its word. Between HOLD and the next REL in locked
mode the image unit takes no engine's write (06 R167; notes/assumptions/79). No other entry of any copy changes. -/
def Obligations.SignalEntries : Prop :=
  (∀ (s : State) (c i : Nat), c < 4 → i ≤ 131071 → imageBad s c i = false →
     let now := if c = 2 ∧ s.freeMode = false then s.seq.snapTick else s.seq.tick
     let v := (deliver s c i).1
     let e := s.entry c i
     (s.eccAt (imageAddr c i) = none ∨ descType (s.descOf i) = 0 → (deliver s c i).2 = s) ∧
     (s.eccAt (imageAddr c i) = some .corrected → descType (s.descOf i) ≠ 0 →
       (deliver s c i).2.eccAt (imageAddr c i) = none ∧ (deliver s c i).2.on IMG_STATUS IMG_STATUS_CE = true ∧
       (deliver s c i).2.rget IMG_CE_CNT = BitVec.ofNat 32 (min 0xFFFFFFFF ((s.rget IMG_CE_CNT).toNat + 1)) ∧
       ∀ d j, (deliver s c i).2.entry d j = s.entry d j) ∧
     (forceMatch s i = none → descType (s.descOf i) ≠ 0 →
       v.truncate 32 = e.value ∧ (v >>> 32).truncate 8 = e.status ∧ (v >>> 40).truncate 4 = e.typ ∧
       v.toNat / 2 ^ 44 = match e.upd with
         | some t => min 1048575 ((now : Int) - t).toNat
         | none => 1048575) ∧
     (forceMatch s i = none → descType (s.descOf i) = 0 → v.truncate 32 = 0#32 ∧ (v >>> 32).truncate 8 = 0x03#8) ∧
     (∀ k, forceMatch s i = some k → v.truncate 32 = s.rget (FRCA_VAL k) ∧ v.toNat / 2 ^ 44 = 0 ∧
       (v >>> 32).truncate 8 = BitVec.ofNat 8 (s.rd (FRCA_CTL k) FRCA_CTL_Q + if s.on (FRCA_CTL k) FRCA_CTL_MODE then 8 else 4))) ∧
  (∀ (s : State) (n i : Nat) (value : Bool) (v : DWord), i ≤ 131071 →
     let t := (storeSignal s n i value v).1
     let ty := descType (s.descOf i)
     let x : Word := v.truncate 32
     let lim (lo hi : Int) : Word := BitVec.ofInt 32 (limit lo hi x.toInt)
     let conv : Word := if ty = 1 then (if x = 0#32 then 0#32 else 1#32) else if ty = 2 then lim (-128) 127
       else if ty = 3 then lim (-32768) 32767 else if ty = 5 then lim 0 255 else if ty = 6 then lim 0 65535 else x
     let st : Byte := (v >>> 32).truncate 8 &&& 0x33#8
     (imageShut s = true → t = s) ∧
     (∀ c j, (c, j) ≠ (1, i) → j ≤ 131071 → t.entry c j = s.entry c j) ∧
     (imageShut s = false → forceMatch s i = none →
       (∀ a, t.rget a = s.rget a) ∧
       (value = true → t.entry 1 i = ⟨conv, st, BitVec.ofNat 4 ty, some s.seq.tick⟩ ∧ t.eccAt (imageAddr 1 i) = none) ∧
       (value = false → t.entry 1 i = { s.entry 1 i with status := ((s.entry 1 i).status &&& 0xCC#8) ||| st })) ∧
     (∀ k, k < 4096 → imageShut s = false → forceMatch s i = some k → t.entry 1 i = s.entry 1 i ∧ t.on (FRCA_CTL k) FRCA_CTL_SHV = true ∧
       (value = true → t.rget (FRCA_SHADOW k) = conv ∧ t.on (FRCA_CTL k) FRCA_CTL_SHM = true)) ∧
     ((storeSignal s n i value v).2 = true ↔ value = true ∧ ty ≠ 1 ∧ conv ≠ x))

/-- CALLFB and RETFB (05 R137, R138): the frame holds the return address and INST; a full stack, an empty stack and a bad instance address trap before
anything is written. -/
def Obligations.BlockCalls : Prop :=
  ∀ (e : Fin 64) (ri : Reg) (off : BitVec 16) (s u u1 : State) (fsp : Nat), Issues s (.eng e) u →
    let p := Proc.eng e
    let n := e.val
    let tctx := (u.srGet n 0x006).toNat
    let i := u.vget n ri
    let pc := (u.core n).pc
    (ri.val = 0 → OutsideTrap u n → Does (.callfb p ri off) s (Trapped n 0 0 0#64 u)) ∧
    (ri.val ≠ 0 → i.toNat % 64 ≠ 0 ∨ 2 ^ 40 ≤ i.toNat → OutsideTrap u n → Does (.callfb p ri off) s (Trapped n 20 0 0#64 u)) ∧
    (tctx + 8 < 2 ^ 40 → engRead u n 1 (partOf u n) tctx 8 = (.ok fsp, u1) →
      (ri.val ≠ 0 → i.toNat % 64 = 0 → i.toNat < 2 ^ 40 →
        ∀ flim u2, engRead u1 n 1 (partOf u1 n) (tctx + 8) 8 = (.ok flim, u2) →
          (flim < fsp + 16 → OutsideTrap u2 n → Does (.callfb p ri off) s (Trapped n 19 0 0#64 u2)) ∧
          (fsp + 16 ≤ flim → tctx + fsp + 8 < 2 ^ 40 →
            coreMayWrite u2 n 1 (partOf u2 n) (tctx + fsp) 8 = true → coreMayWrite u2 n 1 (partOf u2 n) (tctx + fsp + 8) 8 = true →
            coreMayWrite u2 n 1 (partOf u2 n) tctx 8 = true →
            ∀ v3 v4 v5 u3 u4 u5, engWrite u2 n 1 (partOf u2 n) (tctx + fsp) 8 (pc.toNat + 4) = (.ok v3, u3) →
              engWrite u3 n 1 (partOf u3 n) (tctx + fsp + 8) 8 (u.srGet n 0x005).toNat = (.ok v4, u4) →
              engWrite u4 n 1 (partOf u4 n) tctx 8 (fsp + 16) = (.ok v5, u5) →
              Does (.callfb p ri off) s (WentTo n ((pc + 4#64 * off.signExtend 64) &&& 0xFFFFFFFFFC#64) (u5.srSet n 0x005 i)))) ∧
      (fsp ≤ 0x180 → OutsideTrap u1 n → Does (.retfb p) s (Trapped n 19 1 0#64 u1)) ∧
      (0x180 < fsp → fsp < 2 ^ 40 → tctx + fsp - 8 < 2 ^ 40 →
        ∀ ret inst v u2 u3 u4, engRead u1 n 1 (partOf u1 n) (tctx + fsp - 16) 8 = (.ok ret, u2) → ret < 2 ^ 40 → ret % 4 = 0 →
          engRead u2 n 1 (partOf u2 n) (tctx + fsp - 8) 8 = (.ok inst, u3) →
          engWrite u3 n 1 (partOf u3 n) tctx 8 (fsp - 16) = (.ok v, u4) →
          Does (.retfb p) s (WentTo n (BitVec.ofNat 64 ret) (u4.srSet n 0x005 (BitVec.ofNat 64 inst &&& 0xFFFFFFFFC0#64)))))

/-- EDGE (05 R142): the edge against the stored previous state, which EDGE.PREV reads and the others replace in its one bit. Timers and counters (05
R143, R144): the word at INST + 8 × woff is read, stepped with the running tick and written; TET stores nothing, CLD and TRST read nothing; a count
saturates with ASTAT.SAT. A form that reads and writes traps before it accesses anything (04 R111, R149). TimerSequences says what the steps of TON, TOF and TPL amount to. -/
def Obligations.EdgeAndTimerResults : Prop :=
  (∀ (e : Fin 64) (rd ra : Reg) (bit : Fin 8) (boff : BitVec 10) (s u u1 : State) (b : Nat), Issues s (.eng e) u →
     let p := Proc.eng e
     let n := e.val
     let a := (u.srGet n 0x005).toNat + boff.toNat
     let cur := u.vget n ra ≠ 0#64
     let prev := b / 2 ^ bit.val % 2 = 1
     let b' := b / 2 ^ (bit.val + 1) * 2 ^ (bit.val + 1) + (if cur then 2 ^ bit.val else 0) + b % 2 ^ bit.val
     let may (k : AccKind) := gateFirst k u n (prvOf u n) (partOf u n) a 1
     let ea := BitVec.ofNat 64 a
     let Traps (c : Instr) : Prop :=
       (2 ^ 40 ≤ a → OutsideTrap u n → Does c s (Trapped n 2 0 ea u)) ∧
       (a < 2 ^ 40 → ∀ x t, may .read = some (x, t) → OutsideTrap t n → Does c s (Trapped n 7 x ea t)) ∧
       (a < 2 ^ 40 → may .read = none → ∀ x t, may .write = some (x, t) → OutsideTrap t n → Does c s (Trapped n 8 x ea t))
     (Traps (.edgeRise p rd ra bit boff) ∧ Traps (.edgeFall p rd ra bit boff) ∧ Traps (.edgeChg p rd ra bit boff) ∧
       Traps (.edgeSetp p rd ra bit boff)) ∧
     (a < 2 ^ 40 → engRead u n (prvOf u n) (partOf u n) a 1 = (.ok b, u1) → b < 256 →
       (may .read = none → may .write = none → ∀ v u2, engWrite u1 n (prvOf u1 n) (partOf u1 n) a 1 b' = (.ok v, u2) →
         Does (.edgeRise p rd ra bit boff) s (Wrote n rd (if cur ∧ ¬ prev then 1#64 else 0#64) u2) ∧
         Does (.edgeFall p rd ra bit boff) s (Wrote n rd (if ¬ cur ∧ prev then 1#64 else 0#64) u2) ∧
         Does (.edgeChg p rd ra bit boff) s (Wrote n rd (if cur ↔ prev then 0#64 else 1#64) u2) ∧
         Does (.edgeSetp p rd ra bit boff) s (Wrote n rd (if cur then 1#64 else 0#64) u2)) ∧
       Does (.edgePrev p rd bit boff) s (Wrote n rd (if prev then 1#64 else 0#64) u1))) ∧
  (∀ (e : Fin 64) (rd ra rb : Reg) (woff : BitVec 8) (s u u1 : State) (w : Nat), Issues s (.eng e) u →
     let p := Proc.eng e
     let n := e.val
     let a := (u.srGet n 0x005).toNat + 8 * woff.toNat
     let cur := u.vget n ra != 0#64
     let y := u.vget n rb
     let may (k : AccKind) := gateFirst k u n (prvOf u n) (partOf u n) a 8
     let Traps (c : Instr) : Prop :=
       (2 ^ 40 ≤ a → OutsideTrap u n → Does c s (Trapped n 2 0 (BitVec.ofNat 64 a) u)) ∧
       (a < 2 ^ 40 → ∀ x t, may .read = some (x, t) → OutsideTrap t n → Does c s (Trapped n 7 x (BitVec.ofNat 64 a) t)) ∧
       (a < 2 ^ 40 → may .read = none → ∀ x t, may .write = some (x, t) → OutsideTrap t n →
         Does c s (Trapped n 8 x (BitVec.ofNat 64 a) t))
     (Traps (.ton p rd ra rb woff) ∧ Traps (.tof p rd ra rb woff) ∧ Traps (.tpl p rd ra rb woff) ∧ Traps (.ctu p rd ra rb woff) ∧
       Traps (.ctd p rd ra woff)) ∧
     (a < 2 ^ 40 →
     let Wr (u : State) (w : Nat) (P : State → Prop) : Prop :=
       ∀ v t, engWrite u n (prvOf u n) (partOf u n) a 8 w = (.ok v, t) → P t
     let T (c : Instr) (step : Bool → Nat → Nat → TmrWord → Bool × TmrWord) : Prop :=
       let r := step cur u.seq.tick y.toNat (tmrOf w)
       may .read = none → may .write = none → Wr u1 (tmrBits r.2) fun t => Does c s (Wrote n rd (if r.1 then 1#64 else 0#64) t)
     let k := (BitVec.ofNat 64 w).toInt
     let C (c : Instr) (k' : Int) (q : Prop) : Prop :=
       let v := limit (-2 ^ 63) (2 ^ 63 - 1) (if cur then k' else k)
       may .read = none → may .write = none → Wr u1 (BitVec.ofInt 64 v).toNat fun t =>
         ((q → Does c s (WroteSticky n rd 1#64 0 (if cur = true ∧ v ≠ k' then 4#64 else 0#64) t)) ∧
          (¬ q → Does c s (WroteSticky n rd 0#64 0 (if cur = true ∧ v ≠ k' then 4#64 else 0#64) t)))
     (engRead u n (prvOf u n) (partOf u n) a 8 = (.ok w, u1) → w < 2 ^ 64 →
       T (.ton p rd ra rb woff) tonStep ∧ T (.tof p rd ra rb woff) tofStep ∧ T (.tpl p rd ra rb woff) tplStep ∧
       Does (.tet p rd rb woff) s (Wrote n rd
         (BitVec.ofInt 64 (if w / 2 ^ 63 % 2 = 1 then min ((u.seq.tick : Int) - (w % 2 ^ 62 : Nat)) y.toNat else 0)) u1) ∧
       C (.ctu p rd ra rb woff) (k + 1) (y.toInt ≤ limit (-2 ^ 63) (2 ^ 63 - 1) (if cur then k + 1 else k)) ∧
       C (.ctd p rd ra woff) (k - 1) (limit (-2 ^ 63) (2 ^ 63 - 1) (if cur then k - 1 else k) ≤ 0)) ∧
     (Wr u y.toNat fun t => Does (.cld p rd rb woff) s (Wrote n rd 0#64 t)) ∧
     (Wr u 0 fun t => Does (.trst p rd woff) s (Wrote n rd 0#64 t))))

/-- The delays that the timer steps give (05 R143, R144), through the stored word: TON's output is 1 once its input has been 1 for PT ticks; TOF's
stays 1 for PT ticks after its input has gone; TPL's is 1 for PT ticks from the rising edge, whatever the input does. -/
def Obligations.TimerSequences : Prop :=
  ∀ (w : Nat) (i : Bool) (pt t0 t1 t2 : Nat), t0 ≤ t1 → t1 ≤ t2 → t2 < 2 ^ 62 →
    let thru (t : TmrWord) : TmrWord := tmrOf (tmrBits t)
    let on1 := thru (tonStep true t1 pt (thru (tonStep false t0 pt (tmrOf w)).2)).2
    let off1 := thru (tofStep false t1 pt (thru (tofStep true t0 pt (tmrOf w)).2)).2
    let pl1 := thru (tplStep true t1 pt ⟨false, false, t0⟩).2
    (tonStep true t2 pt on1).1 = decide (pt ≤ t2 - t1) ∧ (tonStep false t2 pt on1).1 = false ∧
    (tofStep false t2 pt off1).1 = decide (t2 - t1 < pt) ∧ (tofStep true t2 pt off1).1 = true ∧
    (tplStep i t2 pt pl1).1 = decide (t2 - t1 < pt)

/-- YIELD and ENDTASK (05 R146; 03 R58, R61, R62): the task leaves the engine in YIELD, its context saved, or ended; a save that takes its count to the
budget suspends it, or stops it in its final tick, and an ENDTASK that does is an overrun (the model takes the tie so in any tick:
notes/assumptions/44). With no other task ready the engine then runs none. Every other processor is untouched. -/
def Obligations.TaskInstructions : Prop :=
  ∀ (e : Fin 64) (c : Nat) (s u : State), Issues s (.eng e) u → c < 16 → (u.core e).task = some c →
    (∀ d, d < 16 → (u.task e d).st ≠ .ready) →
    let p := Proc.eng e
    let n := e.val
    let v := (charge (countInstr u n) n 2).setPc n (nextPc u n)
    let k := addCyc (keepTask v n c .yielded) n c 80
    (∀ m w, budgetUsed v n = false → ctxWrites k n (partOf k n) (k.srGet n 0x006).toNat (ctxWords (k.core n) n) = (.ok m, w) →
      Does (.yieldTask p) s (fun t =>
        (t.task n c).st = (if budgetUsed w n = false then .yielded else if finalTick w c = true then .exhausted else .suspended) ∧
        (t.core n).task = none ∧ ∀ m, m ≠ n → t.core m = u.core m)) ∧
    Does (.endtask p) s (fun t => (t.task n c).st = (if budgetUsed v n = false then .ended else .exhausted) ∧
      (budgetUsed v n = true → (t.task n c).overrun = true) ∧ (t.core n).task = none ∧ ∀ m, m ≠ n → t.core m = u.core m)

/-! ### The block as a whole -/

/-- A step takes the command at the front of the queue and answers what exec answers on the state with the rest of the queue. -/
def Obligations.StepRunsFrontCommand : Prop :=
  ∀ (c : Instr) (rest : List Instr) (s : State), s.pending = c :: rest → step s = exec c { s with pending := rest }

/-- With no command waiting and no reset due a step is one cycle of the timebase, 10 ns of the module's monotonic time, and answers a next state with
an empty queue (the model's choice of notes/assumptions/2). -/
def Obligations.StepOnEmptyQueue : Prop :=
  ∀ s : State, s.pending = [] → s.boot.due = none → s.rget TIM_FADJ = 0#32 → s.clk.acc < 256000000000 →
    ∃ t, step s = .next t ∧ t.pending = [] ∧ t.clk.mono = s.clk.mono + 1

/-- Every command answers a next state in every state: none faults and none is refused. -/
def Obligations.EveryCommandAnswers : Prop :=
  ∀ (c : Instr) (s : State), ∃ t, exec c s = .next t

/-- What the spec says of reset: role BOOTING at epoch 0 (10), the sequencer not running (03), no engine usable and every processor at its trap level
with its registers 0 (04 R81), no gate enforced (07), no unit ON (01); and memory, flash and ECC records in the form that MemoryFormInvariant keeps. -/
def Obligations.ResetState : Prop :=
  State.reset.role = .booting ∧ State.reset.rd PAR_EPOCH PAR_EPOCH_EPOCH = 0 ∧
  State.reset.on TSQ_STATUS TSQ_STATUS_RUNNING = false ∧ State.reset.on TSQ_CTRL TSQ_CTRL_RUN = false ∧
  (∀ p : Proc, prvOf State.reset (coreNo p) = trapLevel (coreNo p) ∧ (∀ r, State.reset.vget (coreNo p) r = 0#64) ∧
    ∀ q, q ≠ 0x010 → State.reset.srGet (coreNo p) q = 0#64) ∧
  (∀ e : Fin 64, engUsable State.reset e = false) ∧ (∀ g : Fin 45, State.reset.on (GATE_CTRL g) GATE_CTRL_ENFORCE = false) ∧
  (∀ d : Fin 12, State.reset.isOn (.domain d) = false) ∧ State.reset.rd TIM_CFG TIM_CFG_FADJ_MAX = 100 ∧ State.reset.pending = [] ∧
  Memory.wf State.reset.mem = true ∧ amWf (fun _ => 0xFF#8) State.reset.nor = true ∧ amWf (fun _ => none) State.reset.ecc = true

/-- Denma's encoding (04 R84 to R86; 05): the word of every instruction, with every operand, stands for that instruction, and a word that stands for
an instruction is that instruction's word, so no two instructions share a word and no reserved bit is ignored. -/
def Obligations.DenmaEncoding : Prop :=
  (∀ (i : Instr) (w : Word), denmaWord i = some w → ∃ p, denmaRow p w = some i) ∧
  (∀ (p : Proc) (w : Word) (i : Instr), denmaRow p w = some i → denmaWord i = some w)

/-- Memory, the signal image and the registers keep their one canonical form (addresses rising, no entry equal to what an unlisted address reads as)
under every write of them, so that equal contents are equal data. -/
def Obligations.CanonicalForm : Prop :=
  let memWf (s : State) : Bool := Memory.wf s.mem
  let imgWf (s : State) : Bool := amWf (fun _ => Entry.zero) s.image
  let regWf (s : State) : Bool := amWf regReset s.regs
  let wf (s : State) : Prop := memWf s = true ∧ imgWf s = true ∧ regWf s = true
  wf State.reset ∧
  ∀ s : State, wf s →
    (∀ a bs, wf (s.setBytes a bs)) ∧ (∀ a w, wf (s.rset a w)) ∧ (∀ a f v, wf (s.wr a f v)) ∧ (∀ c i e, wf (s.setEntry c i e)) ∧
    (∀ k x a n sp, wf (present s k x a n sp).2) ∧ (∀ x a bs sp, wf (writePiece s x a bs sp).2) ∧
    (∀ e prv part a n v, wf (engWrite s e prv part a n v).2) ∧ (∀ n i value v, wf (storeSignal s n i value v).1) ∧ wf (snapshot s)

/-- Every step keeps the canonical form of memory, of the flash devices and of the recorded ECC errors (addresses rising, no entry equal to what an
unlisted address reads as), whatever command it takes and from every state that has it. -/
def Obligations.MemoryFormInvariant : Prop :=
  ∀ s t : State, Memory.wf s.mem = true → amWf (fun _ => 0xFF#8) s.nor = true → amWf (fun _ => none) s.ecc = true →
    step s = .next t →
    Memory.wf t.mem = true ∧ amWf (fun _ => 0xFF#8) t.nor = true ∧ amWf (fun _ => none) t.ecc = true

/-! ### Registers and gates -/

/-- Access codes, ranges and locks (00 R5, R9, R10), for every field of every register of the table: what a write leaves in a field that takes it,
that a field with a value outside its range or under a lock keeps its value, and that nothing else changes. -/
def Obligations.FieldWriteRule : Prop :=
  ∀ (a : Nat) (r : RegDef) (f : FieldDef) (locked : Bool) (ok : Fld → Bool) (v : Word) (s : State),
    regDef? a = some r → f ∈ r.fields →
    let t := storeFields a locked ok v s
    let fl : Fld := ⟨f.hi, f.lo⟩
    let x := bitsOf v fl
    let old := s.rd a fl
    let new := t.rd a fl
    OnlyRegs [a] s t ∧ (ok fl = false → new = old) ∧
    (ok fl = true →
      (f.acc = .rw → new = if rngOk f x then x else old) ∧ (f.acc = .rwl → new = if locked = false ∧ rngOk f x = true then x else old) ∧
      (f.acc = .w1c → ∀ i, wbit new i = (wbit old i && !wbit x i)) ∧ (f.acc = .w1s → ∀ i, wbit new i = (wbit old i || wbit x i)) ∧
      (f.acc = .ro ∨ f.acc = .wo ∨ f.acc = .rc → new = old)) ∧
    (∀ i, (∀ g ∈ r.fields, i < g.lo ∨ g.hi < i) → wbit (t.rget a).toNat i = wbit (s.rget a).toNat i)

/-- Register commands (00 R4, R8, R9, R10; 15 R383). A misaligned offset answers an error and has no effect. A write reaches the fields of a register
without an action, here the clock step. With its LOCK bit TIM_CFG takes the other fields, and then no more. A read of a counter that clears answers
its value and leaves 0. A read of a _LO register latches the _HI value for its master alone. -/
def Obligations.RegisterCommands : Prop :=
  ∀ (m : Master) (s : State),
    (∀ (a : Addr) (v : Word), a.toNat % 4 ≠ 0 →
      let E : State → Prop := fun t => t = { s with resp := .err 6 a.toNat [] }
      Does (.regWrite m a v) s E ∧ Does (.lockWrite m a v) s E ∧ Does (.rcRead m a) s E ∧ Does (.hiLatchRead m a) s E ∧
      Does (.gateEntryWrite m a v) s E) ∧
    (∀ (a : Addr) (v : Word), a = 0x0300120018#40 →
      Does (.regWrite m a v) s (fun t => OnlyRegs [TIM_STEP_NS] { s with resp := .done } t ∧
        t.rd TIM_STEP_NS TIM_STEP_NS_STEP_NS = if v.toNat % 2 ^ 30 ≤ 999999999 then v.toNat % 2 ^ 30 else s.rd TIM_STEP_NS TIM_STEP_NS_STEP_NS)) ∧
    (∀ (a : Addr) (v : Word), a = 0x0300120020#40 →
      (s.on TIM_CFG TIM_CFG_LOCK = false → v.getLsbD 31 = true → 1 ≤ v.toNat % 512 → v.toNat % 512 ≤ 500 →
        Does (.lockWrite m a v) s (fun t => OnlyRegs [TIM_CFG] { s with resp := .done } t ∧ t.on TIM_CFG TIM_CFG_LOCK = true ∧
          t.rd TIM_CFG TIM_CFG_FADJ_MAX = v.toNat % 512 ∧ t.on TIM_CFG TIM_CFG_RTC_FOLLOW = v.getLsbD 17 ∧
          t.on TIM_CFG TIM_CFG_TICK_ALIGN = v.getLsbD 16)) ∧
      (s.on TIM_CFG TIM_CFG_LOCK = true →
        Does (.regWrite m a v) s (fun t => OnlyRegs [] { s with resp := .done } t) ∧
        Does (.lockWrite m a v) s (fun t => OnlyRegs [] { s with resp := .done } t))) ∧
    (∀ (n : Fin 4) (i : Fin 8) (a : Addr), a.toNat = ETH_CNT n i → wbit (s.rget RDY_VEC).toNat 11 = true →
      Does (.rcRead m a) s (fun t => OnlyRegs [ETH_CNT n i] { s with resp := .word (s.rget (ETH_CNT n i)) } t ∧ t.rget (ETH_CNT n i) = 0#32)) ∧
    (∀ (j : Fin 8) (i : Fin 64) (a : Addr), a.toNat = PMC_VAL_LO j i → masterPrv s m ≠ 0 →
      Does (.hiLatchRead m a) s (fun t => t = { s with latch := t.latch, resp := .word (s.rget (PMC_VAL_LO j i)) } ∧
        (∀ prv, prv ≠ 0 → (regRead m prv (PMC_VAL_HI j i) t).1 = s.rget (PMC_VAL_HI j i)) ∧
        (∀ (m' : Master) (b : Nat), b < 2 ^ 40 → (m', b) ≠ (m, PMC_VAL_HI j i) → t.getLatch m' b = s.getLatch m' b)))

/-- An access in one piece (07 R186, R191, R192, R194): admitted, a read answers the bytes of memory and a write stores them; denied, the response
carries the code, nothing is stored, and the gate counts the denial and captures it while it holds no earlier one. An engine reaches its own Grove
through its view of it (06 R151, R152): outside the view the crossbar refuses with code 1 before any gate. Gate tables (07 R189, R190, R191):
an entry that is not enabled, not locked and not in the active table of a running module takes a write, a locked one keeps it whatever is written;
LOCK makes both tables' entries the same and locked; ENFORCE is set and nothing else. -/
def Obligations.AccessAndGates : Prop :=
  (∀ (m : Master) (a : Addr) (len : BitVec 13) (data : List Byte) (s : State),
     0 < len.toNat → a.toNat % 64 + len.toNat ≤ 64 → isRegs a.toNat = false →
     let x (k : AccKind) := masterXfer s m k a.toNat
     let codeView : Prop := 0x0180000000 + m.val * 0x100000 ≤ a.toNat ∧ a.toNat < 0x0180000000 + m.val * 0x100000 + 0x40000
     let outside (k : AccKind) : Prop := isEng m.val = true ∧ if k = .exec then ¬ codeView else engPhys s m.val a.toNat = none
     (∀ p g t, (if isEng m.val then engPhys s m.val a.toNat = some p else p = a.toNat) →
       gateDecide s .read (x .read) a.toNat len.toNat = .allow g t → (t = .dram → dramReady s = true) →
       (∀ b, p ≤ b + 7 → b < p + len.toNat → s.eccAt b = none) →
       Does (.access m .read a len []) s (fun t => t.resp = .data (s.bytes p len.toNat) ∧ t = { s with regs := t.regs, resp := t.resp } ∧
         ∀ b, isPmc b = false → t.rget b = s.rget b)) ∧
     (∀ p g t, (if isEng m.val then engPhys s m.val a.toNat = some p else p = a.toNat) → data.length = len.toNat →
       gateDecide s .write (x .write) a.toNat len.toNat = .allow g t → t ∉ [.rom, .image, .regs, .trace] →
       (t = .dram → dramReady s = true) →
       Does (.access m .write a len data) s (fun t => t.resp = .done ∧ t.bytes p len.toNat = data ∧
         (∀ b, b < p ∨ p + len.toNat ≤ b → t.byte b = s.byte b) ∧ ∀ b, isPmc b = false → t.rget b = s.rget b)) ∧
     (∀ k, outside k → Does (.access m k a len data) s (fun t => t = { s with resp := .err 1 a.toNat [] })) ∧
     (∀ k g c n, ¬ outside k → gateDecide s k (x k) a.toNat len.toNat = .deny g c n → c ≠ 5 → s.on (GATE_ERR_INFO g) GATE_ERR_INFO_VALID = false → g < 45 →
       c < 8 → n < 32 → (x k).prv < 4 → (x k).part < 16 → (x k).m < 128 →
       Does (.access m k a len data) s (fun t => t.resp = .err c a.toNat [] ∧ (∀ b, t.byte b = s.byte b) ∧
         t.on (GATE_ERR_INFO g) GATE_ERR_INFO_VALID = true ∧ t.rd (GATE_ERR_INFO g) GATE_ERR_INFO_CODE = c ∧
         t.rd (GATE_ERR_INFO g) GATE_ERR_INFO_PRV = (x k).prv ∧ t.rd (GATE_ERR_INFO g) GATE_ERR_INFO_PART = (x k).part ∧
         t.rd (GATE_ERR_INFO g) GATE_ERR_INFO_MID = (x k).m ∧ t.rd (GATE_ERR_INFO g) GATE_ERR_INFO_ENTRY = n ∧
         t.rd64 (GATE_ERR_ADDR_LO g) (GATE_ERR_ADDR_HI g) = a.toNat ∧
         t.rd (GATE_ERR_CNT g) GATE_ERR_CNT_COUNT = min 0xFFFFFFFF (s.rd (GATE_ERR_CNT g) GATE_ERR_CNT_COUNT + 1)))) ∧
  (∀ (m : Master) (g : Fin 45) (t : Fin 2) (n : Fin 32) (v : Word) (s : State),
     let ctl := GATE_CTL g t n
     let other := GATE_CTL g (1 - t.val) n
     let busy : Prop := t.val = s.rd (GATE_STATUS g) GATE_STATUS_TBANK ∧ s.on TSQ_STATUS TSQ_STATUS_RUNNING = true ∧ s.role ≠ .maintenance
     (∀ a : Addr, a.toNat = GATE_BASE_LO g t n → s.on ctl GATE_CTL_LOCK = false → s.on ctl GATE_CTL_EN = false → ¬ busy →
       Does (.gateEntryWrite m a v) s (fun u => OnlyRegs [GATE_BASE_LO g t n] { s with resp := .done } u ∧
         u.rd (GATE_BASE_LO g t n) GATE_BASE_LO_BASE_LO = bitsOf v GATE_BASE_LO_BASE_LO)) ∧
     (∀ a : Addr, a.toNat = GATE_BASE_LO g t n ∨ a.toNat = ctl → s.on ctl GATE_CTL_LOCK = true ∨ busy →
       Does (.gateEntryWrite m a v) s (fun u => OnlyRegs [] { s with resp := .done } u)) ∧
     (s.on ctl GATE_CTL_LOCK = false → ¬ busy →
       Does (.gateEntryLock m g t n) s (fun u => u.on ctl GATE_CTL_LOCK = true ∧ u.rget other = u.rget ctl ∧
         (∀ i, i < 7 → u.rget (GATE_BASE_LO g (1 - t.val) n + 4 * i) = u.rget (GATE_BASE_LO g t n + 4 * i)) ∧
         (∀ i, i < 7 → i ≠ 4 → u.rget (GATE_BASE_LO g t n + 4 * i) = s.rget (GATE_BASE_LO g t n + 4 * i)) ∧
         OnlyRegs ([GATE_STATUS g, ctl] ++ (List.range 7).map (fun i => GATE_BASE_LO g (1 - t.val) n + 4 * i)) s u)) ∧
     Does (.enforce m g) s (fun u => u.on (GATE_CTRL g) GATE_CTRL_ENFORCE = true ∧ OnlyRegs [GATE_CTRL g] s u))

/-! ### Time (02) -/

/-- The clock's commands (02 R29, R30, R31, R32, R35): the snapshot that a read of the clock takes for its master; a frequency write in range takes
effect, another is refused; a step is refused, applied at once in free mode without moving tick-relative time, or held for the next Clearing; the
RTC's store, its write at a seconds carry and the loss of its power. PTP messages (02 R37, R39 to R41): on an enabled port one that needs an
unsupported part of the profile is counted and discarded, and one of the configured domain and transport goes to the stack with its stamp corrected by
the port's ingress latency; every other one, and every one on a port that is not enabled, changes nothing. -/
def Obligations.TimeAndPtp : Prop :=
  (∀ (m : Master) (v : Word) (s : State),
     let lim : Int := s.rd TIM_CFG TIM_CFG_FADJ_MAX * 256000
     let d : Int := (s.rget TIM_STEP_SEC).toInt * 1000000000 + s.rd TIM_STEP_NS TIM_STEP_NS_STEP_NS
     let refused : Prop := (s.nowNs : Int) + d < 0 ∨ 2 ^ 48 * 1000000000 ≤ (s.nowNs : Int) + d ∨ s.on TIM_STATUS TIM_STATUS_STEP_PEND = true ∨
       s.rd TIM_SRC TIM_SRC_SRC = 3
     let adjRefused (t : State) : Prop := OnlyRegsEvr [TIM_STATUS] s t ∧ t.on TIM_STATUS TIM_STATUS_ADJ_REJ = true
     Does (.timNsRead m) s (fun t => t = { s with latch := t.latch, resp := .word (BitVec.ofNat 32 s.clk.ns) } ∧
       t.getLatch m TIM_SEC_LO = BitVec.ofNat 32 s.clk.sec ∧ t.getLatch m TIM_SEC_HI = BitVec.ofNat 32 (s.clk.sec / 2 ^ 32) ∧
       t.getLatch m TIM_SHORT = BitVec.ofNat 32 (s.clk.sec * 1000000000 + s.clk.ns) ∧
       ∀ (n : Master) (a : Nat), a < 2 ^ 40 → n ≠ m ∨ a ∉ [TIM_SEC_LO, TIM_SEC_HI, TIM_SHORT] → t.getLatch n a = s.getLatch n a) ∧
     (-lim ≤ v.toInt → v.toInt ≤ lim → Does (.timFadjWrite m v) s (fun t => OnlyRegs [TIM_FADJ] s t ∧ t.rget TIM_FADJ = v)) ∧
     (v.toInt < -lim ∨ lim < v.toInt → Does (.timFadjWrite m v) s adjRefused) ∧
     (refused → Does (.timStep m) s adjRefused) ∧
     (¬ refused → s.freeMode = true → Does (.timStep m) s (fun t => (t.nowNs : Int) = s.nowNs + d ∧
       t = { s with clk := { s.clk with sec := t.clk.sec, ns := t.clk.ns, stepHeld := none }, regs := t.regs, pmcStart := t.pmcStart } ∧
       t.rd TIM_STATUS TIM_STATUS_STEP_SEQ = (s.rd TIM_STATUS TIM_STATUS_STEP_SEQ + 1) % 256 ∧
       ∀ a, isPmc a = false → a ≠ TIM_STATUS → t.rget a = s.rget a)) ∧
     (¬ refused → s.freeMode = false → Does (.timStep m) s (fun t => t.on TIM_STATUS TIM_STATUS_STEP_PEND = true ∧
       OnlyRegs [TIM_STATUS] { s with clk := { s.clk with stepHeld := some d } } t)) ∧
     (s.clk.sec < 2 ^ 48 → Does (.rtcStore m) s (fun t => t.on TIM_STATUS TIM_STATUS_RTC_VALID = true ∧ OnlyRegs [TIM_STATUS]
       { s with clk := { s.clk with rtcSec := s.clk.sec, rtcFrac := s.clk.ns * 32768 / 1000000000, rtcAcc := 0 } } t)) ∧
     (s.clk.ns < 1000000000 → Does .secondsCarry s (fun t => t.clk.ns = 0 ∧ t.clk.sec = (s.clk.sec + 1) % 2 ^ 48 ∧
       t.clk.mono = s.clk.mono + (1000000000 - s.clk.ns) ∧ t.clk.trel = s.clk.trel + (1000000000 - s.clk.ns) ∧
       (s.on TIM_SRC TIM_SRC_SYNC = true → s.on TIM_CFG TIM_CFG_RTC_FOLLOW = true → t.clk.rtcSec = t.clk.sec ∧ t.clk.rtcFrac = 0 ∧
         t.on TIM_STATUS TIM_STATUS_RTC_VALID = true) ∧
       t = { s with clk := t.clk, regs := t.regs, evr := { s.evr with opNs := t.evr.opNs } } ∧
       ∀ a, isPmc a = false → a ∉ [EVR_OPSEC, TIM_STATUS] → t.rget a = s.rget a)) ∧
     Does .d0RetentionLoss s (fun t => OnlyRegs [TIM_STATUS] s t ∧ t.on TIM_STATUS TIM_STATUS_RTC_VALID = false ∧
       ∀ i, i ≠ 0 → wbit (t.rget TIM_STATUS).toNat i = wbit (s.rget TIM_STATUS).toNat i)) ∧
  (∀ (port : Fin 4) (kind : BitVec 4) (domain : Byte) (udp : Bool) (need : Option PtpNeed) (s : State),
     let c := Instr.ptpMessageReceived port kind domain udp need
     let enabled : Prop := s.on PTP_CTRL PTP_CTRL_ENABLE = true ∧ wbit (s.rd PTP_CTRL PTP_CTRL_PORT_EN) port = true
     let ours : Prop := s.rd PTP_CTRL PTP_CTRL_DOMAIN = domain.toNat ∧ s.rd PTP_CTRL PTP_CTRL_TRANSPORT = if udp then 1 else 0
     (enabled → need ≠ none → Does c s (fun t => OnlyRegs [PTP_STATUS] s t ∧
       t.rd PTP_STATUS PTP_STATUS_UNSUPP_CNT = min 255 (s.rd PTP_STATUS PTP_STATUS_UNSUPP_CNT + 1))) ∧
     (enabled → need = none → ours → Does c s (fun t => t =
       { s with out := s.out ++ [.ptp port kind.toNat (s.short - BitVec.ofNat 32 (s.rd (PTP_LAT port) PTP_LAT_INGRESS))] })) ∧
     (¬ enabled ∨ (need = none ∧ ¬ ours) → Does c s (fun t => t = s)))

/-! ### The tick program (03) -/

/-- Words that direct the tick program (03 R47, R50, R52, R58, R60, R69; 10 R275, R278): each issues in one cycle of 2.5 ns and goes on, by one word
or as a branch says, and changes nothing but what is named; a word whose condition has not come stalls, and no time passes; a stalled WAITT ends at
its time when the next word issues. In free mode DEADL, BAR and PSYNC do nothing. -/
def Obligations.SequencerControl : Prop :=
  ∀ (t20 : BitVec 20) (mask : BitVec 16) (c : Fin 16) (stop : Bool) (mm pp : BitVec 10) (o6 : BitVec 6) (o12 : BitVec 12) (n : Fin 256) (s : State),
    s.on TSQ_STATUS TSQ_STATUS_RUNNING = true → s.seq.ended = false →
    (s.seq.stall = none →
      Does .nop s (Cycled 1 s) ∧
      (t20.toNat * 100 ≤ s.clk.trel → Does (.waitt t20) s (Cycled 1 s)) ∧
      (s.clk.trel < t20.toNat * 100 → Does (.waitt t20) s (Stalled (.waitt t20.toNat) s)) ∧
      (s.seq.tick % mm.toNat = pp.toNat → Does (.btick mm pp o6) s (Cycled 1 s)) ∧
      (s.seq.tick % mm.toNat ≠ pp.toNat → Does (.btick mm pp o6) s (Cycled o6.toNat s)) ∧
      Does (.jf o12) s (Cycled o12.toNat s) ∧
      (s.on TSQ_CTRL TSQ_CTRL_RUN = true → Does .endProg s (Cycled 0 { s with seq := { s.seq with ended := true } })) ∧
      (s.on TSQ_CTRL TSQ_CTRL_RUN = false → Does .endProg s (fun t => ∃ u, Cycled 0 u t ∧ u.on TSQ_STATUS TSQ_STATUS_RUNNING = false ∧
        OnlyRegs [TSQ_STATUS] { s with seq := { s.seq with ended := true } } u)) ∧
      (s.freeMode = true → Does (.deadl c stop t20) s (Cycled 1 s)) ∧
      (s.freeMode = false → Does (.deadl c stop t20) s (fun t => ∃ u, Cycled 1 u t ∧ u = { s with seq := { s.seq with deadl := u.seq.deadl } } ∧
        deadlOf u c = ⟨t20.toNat * 128, stop⟩ ∧ ∀ d, d ≠ c.val → deadlOf u d = deadlOf s d)) ∧
      (s.freeMode = true ∨ barDone s mask.toNat = true → Does (.bar mask) s (Cycled 1 s)) ∧
      (∀ w, s.freeMode = false → barDone s mask.toNat = false → nextWait s 4096 (s.rd TSQ_PC TSQ_PC_PC + 1) = some w → s.clk.trel < w * 100 →
        Does (.bar mask) s (Stalled (.bar mask.toNat) s)) ∧
      (s.freeMode = true ∨ s.pair.inDone = true → Does .psyncInagree s (Cycled 1 s)) ∧
      (s.freeMode = false → s.pair.inDone = false → Does .psyncInagree s (Stalled (.psync 0) s)) ∧
      (s.freeMode = true ∨ s.pair.ownOut = none ∨ s.pair.parOut ≠ none ∨ s.rd (PAR_OUTEND s.bank) PAR_OUTEND_END * 100 ≤ s.clk.trel →
        Does .psyncOutdig s (Cycled 1 s)) ∧
      (s.freeMode = false → s.pair.ownOut ≠ none → s.pair.parOut = none → s.clk.trel < s.rd (PAR_OUTEND s.bank) PAR_OUTEND_END * 100 →
        Does .psyncOutdig s (Stalled (.psync 1) s)) ∧
      ((s.core 0x48).run = .run → Does (.callh n) s (fun t => ∃ u, Cycled 1 u t ∧ OnlyRegsEvr [TSQ_STATUS] s u ∧
        u.on TSQ_STATUS TSQ_STATUS_HELPER_BUSY = true)) ∧
      ((s.core 0x48).run ≠ .run → Does (.callh n) s (fun t => ∃ u, Cycled 1 u t ∧ (u.core 0x48).run = .run ∧
        (u.core 0x48).routine = some n.val ∧ u = { s with cores := u.cores, free := s.free + 1 } ∧ ∀ k, k ≠ 0x48 → u.core k = s.core k))) ∧
    (s.seq.stall = some (.waitt t20.toNat) → s.clk.trel ≤ t20.toNat * 100 → Does .nop s (fun t =>
      2 * t.clk.trel + t.clk.half = 2 * (t20.toNat * 100) + s.clk.half + 5 ∧ t.seq.stall = none ∧
      t.rd TSQ_PC TSQ_PC_PC = (s.rd TSQ_PC TSQ_PC_PC + 2) % 4096 ∧ t.on TSQ_PC TSQ_PC_STALLED = false))

/-- Words that act on rings, tasks and tick points (03 R52, R54 to R56, R63, R69, R70; 09 R234, R245): what each does to the state before the cycle
ends. RING starts its segment's count of time on the rings named; a sync frame carries the next tick's number; REL opens the window and releases
(ActivationStarts says what), or nothing where the role does not compute; TP resumes the tasks in YIELD on the engines that enable it where the role
computes (01 R17); HOLD leaves no
task ready or running outside an isolated Grove, and nothing in free mode. -/
def Obligations.SequencerUnits : Prop :=
  ∀ (mask : BitVec 24) (cls : BitVec 16) (n : Fin 64) (s : State),
    s.on TSQ_STATUS TSQ_STATUS_RUNNING = true → s.seq.ended = false → s.seq.stall = none →
    let now := s.clk.trel * 80 + s.clk.half * 40
    let onRings (f : RingSt → RingSt) (u : State) : Prop :=
      u = { s with rings := u.rings } ∧ ∀ k, u.ring k = if mask.getLsbD k then f (s.ring k) else s.ring k
    let inSeg (r : RingSt) : RingSt := { r with sIn := now, inSeg := true, acc := [], thruAcc := [] }
    let tpOn (lo hi : Nat) : Prop := (if n.val < 32 then wbit (s.rget lo).toNat n else wbit (s.rget hi).toNat (n - 32)) = true
    (s.freeMode = false ∨ (∃ j, j < 24 ∧ (s.ring j).inSeg = true) →
      Does (.ringIn mask) s (fun t => ∃ u, Cycled 1 u t ∧ onRings inSeg u)) ∧
    (s.freeMode = true → (∀ j, j < 24 → (s.ring j).inSeg = false) → Does (.ringIn mask) s (fun t => ∃ u, Cycled 1 u t ∧
      (∀ k, u.ring k = if mask.getLsbD k then inSeg (s.ring k) else s.ring k) ∧
      (∀ c, u.seq.filling = some c → c ∈ [0, 2, 3] ∧ c ≠ s.seq.newest ∧ ∀ a, (s.act a).live = true → (s.act a).buf ≠ c) ∧
      (u.seq.filling = none → u.on TSQ_STATUS TSQ_STATUS_INBUF_FULL = true))) ∧
    Does (.ringDyn mask) s (fun t => ∃ u, Cycled 1 u t ∧ onRings (fun r => { r with sDyn := now }) u) ∧
    Does (.ringOut mask) s (fun t => ∃ u, Cycled 1 u t ∧ onRings (fun r => { r with sOut := now }) u) ∧
    (∀ k : Fin 24, (∀ j, mask.getLsbD j = decide (j = k.val)) → (s.ring k).cede = false → s.on (VGX_RMODE k) VGX_RMODE_CEDED = false →
      ringPhase s k = 0 → modLoop s k false = false → mayTransmit s k .module false = true → lineNow s k .module false = none →
      s.role.master = true ∨ s.role = .standby ∨ s.role = .stopped →
      Does (.ringSync mask) s (fun t => ∃ u f, Cycled 1 u t ∧ u.out = s.out ++ [.frame k .module false f] ∧ f.typ = 4#8 ∧
        f.seq = BitVec.ofNat 32 (s.seq.tick + 1) ∧ f.src = false ∧ f.pos = s.on PAR_STATUS PAR_STATUS_POS ∧ f.payload.length = 32 ∧
        headerBad f = false ∧ crcGood f = true)) ∧
    (∀ k : Fin 24, (∀ j, mask.getLsbD j = decide (j = k.val)) → (s.ring k).cede = false → s.on (VGX_RMODE k) VGX_RMODE_CEDED = true →
      Does (.ringSync mask) s (fun t => ∃ u, Cycled 1 u t ∧ OnlyRegs [VGX_RMODE k] s u ∧ u.on (VGX_RMODE k) VGX_RMODE_MASTER = false)) ∧
    (computes s = true → s.seq.stopDue = false →
      Does (.rel cls) s (Cycled 1 (relMask { s with seq := { s.seq with held := false } } cls.toNat))) ∧
    (computes s = false → s.seq.stopDue = false → Does (.rel cls) s (Cycled 1 { s with seq := { s.seq with held := false } })) ∧
    (s.seq.stopDue = true → Does (.rel cls) s (Cycled 1 s)) ∧
    ((∀ e, e < 64 → tpOn (ENG_TPEN_LO e) (ENG_TPEN_HI e) → engUsable s e = false ∨ (s.core e).task ≠ none) →
      Does (.tp n) s (fun t => ∃ u, Cycled 1 u t ∧ u = { s with cores := u.cores, tasks := u.tasks } ∧
        (∀ e c, e < 64 → c < 16 →
          (tpOn (ENG_TPEN_LO e) (ENG_TPEN_HI e) → computes s = true → (s.task e c).st = .yielded → (u.task e c).st = .ready) ∧
          (¬ tpOn (ENG_TPEN_LO e) (ENG_TPEN_HI e) ∨ computes s = false ∨ (s.task e c).st ≠ .yielded → u.task e c = s.task e c)) ∧
        (∀ e, e < 64 → u.core e = s.core e) ∧
        ∀ c, c < 4 → (tpOn (TSQ_CTPEN_LO c) (TSQ_CTPEN_HI c) →
            u.core (0x40 + c) = { s.core (0x40 + c) with tps := (s.core (0x40 + c)).tps ||| 2 ^ n.val }) ∧
          (¬ tpOn (TSQ_CTPEN_LO c) (TSQ_CTPEN_HI c) → u.core (0x40 + c) = s.core (0x40 + c)))) ∧
    (s.freeMode = true → Does .hold s (Cycled 1 s)) ∧
    (s.freeMode = false → Does .hold s (fun t => ∃ u, Cycled 1 u t ∧ u.seq.held = true ∧
      ∀ e c, e < 64 → c < 16 → s.on (GRV_STATUS (e / 8)) GRV_STATUS_ISOLATED = false → (u.task e c).st ≠ .running ∧ (u.task e c).st ≠ .ready))

/-- The exchange words, the output gate and the Clearing (03 R52, R69; 05 R124; 10 R267, R273, R277, R278): a module that computes sends its
INAGREE_DIG, its OUTDIG and, as tick master, TIME with the number of the next tick, each on the lane that is ON; the gate's decision by role; a quiet
Clearing in locked mode leaves the previous output copy equal to the output copy, and input and output copies as they were. -/
def Obligations.SequencerExchange : Prop :=
  ∀ s : State, s.on TSQ_STATUS TSQ_STATUS_RUNNING = true → s.seq.ended = false → s.seq.stall = none →
    let hold : Prop := s.on PAR_STATUS PAR_STATUS_HOLD = true
    let safe : Prop := s.seq.stopDue = true
    let bad : Prop := s.pair.mismatch = true ∧ ∀ d, s.pair.parOut = some d → d.hold = false
    let mute : Prop := s.on PAR_STATUS PAR_STATUS_LANE_MUTE = true
    let gates (g : GateState) : Prop := Does .ogate s (fun t => ∃ u, Cycled 1 u t ∧ u.seq.gate = g ∧ u.seq.gated = true ∧
      u.on PAR_STATUS PAR_STATUS_GATE = decide (g ≠ .closed))
    (s.freeMode = true → Does .pxchInagree s (Cycled 1 s) ∧ Does .pxchOutdig s (Cycled 1 s) ∧ Does .pxchTime s (Cycled 1 s)) ∧
    (s.freeMode = false → s.pair.repair = none →
      (computes s = false → Does .pxchInagree s
        (Cycled 1 { s with seq := { s.seq with agree := true }, pair := { s.pair with inDone := true } })) ∧
      (computes s = true → s.pair.parIn = none → Does .pxchInagree s (fun t => ∃ u, Cycled 1 u t ∧
        Sent (.inagreeDig (inDigNow s)) { s with seq := { s.seq with agree := true }, pair := { s.pair with ownIn := some (inDigNow s) } } u))) ∧
    (s.freeMode = false → computes s = true → s.pair.parOut = none → s.pair.handover = false → s.pair.joinOk = false → s.chgState ≠ 5 →
      Does .pxchOutdig s (fun t => ∃ u d, Cycled 1 u t ∧ u.pair.ownOut = some d ∧ u.out = s.out ++ laneOut s (.outdig d) ∧
        d.tick = BitVec.ofNat 64 s.seq.tick ∧ d.role.toNat = s.rd PAR_STATUS PAR_STATUS_ROLE ∧ d.applyYes = false ∧
        d.hold = s.on PAR_STATUS PAR_STATUS_HOLD ∧ ∀ a, isPmc a = false → u.rget a = s.rget a)) ∧
    (s.freeMode = false → s.role.master = true → Does .pxchTime s (fun t => ∃ u m, Cycled 1 u t ∧ Sent (.time m) s u ∧ m.tick = BitVec.ofNat 64 (s.seq.tick + 1) ∧
      (s.nowNs + (s.tickEnd - s.clk.trel) < 2 ^ 48 →
        m.iiSec.toNat * 1000000000 + m.iiNs.toNat = s.nowNs + (s.tickEnd - s.clk.trel)))) ∧
    (s.freeMode = false → s.role.master = false → Does .pxchTime s (Cycled 1 s)) ∧
    ((s.role = .alone ∨ s.role = .active ∨ s.role = .solo) →
      (safe → gates .safe) ∧ (¬ safe → hold → gates .closed) ∧ (¬ safe → ¬ hold → gates .frames)) ∧
    (s.role = .standby → (safe → gates .safe) ∧ (¬ safe → hold ∨ mute ∨ bad → gates .closed) ∧
      (¬ safe → ¬ hold → ¬ mute → ¬ bad → gates .frames)) ∧
    (s.role = .stopped → gates .safe) ∧
    (s.role ∈ [Role.booting, .syncing, .isolated, .faulted, .maintenance] → gates .closed) ∧
    (s.freeMode = false → s.on TSQ_CTRL TSQ_CTRL_MODE_REQ = false → s.armed = none → s.clk.stepHeld = none → s.chgState ≠ 5 →
      Does .clear s (fun t => ∃ u, Cycled 1 u t ∧ u.seq.snapTick = s.seq.tick ∧ u.freeMode = false ∧
        ∀ i, i ≤ 131071 → u.entry 2 i = s.entry 1 i ∧ u.entry 1 i = s.entry 1 i ∧ u.entry 0 i = s.entry 0 i))

/-- A new activation (03 R56; 05 R140; 06 R168): the class's activation is live from this tick with the newest input buffer, and its task starts anew
on every engine of its mask: ready, or ended where the engine cannot run. No other class's task and no other activation changes. -/
def Obligations.ActivationStarts : Prop :=
  ∀ (s : State) (c : Nat), c < 16 →
    let t := activate s c
    t.act c = ⟨true, s.seq.tick, s.seq.newest, 0⟩ ∧ (∀ d, d ≠ c → t.act d = s.act d) ∧
    (∀ e, e < 64 → classEng s c e = true → (t.task e c).st = (if engUsable s e then .ready else .ended) ∧ (t.task e c).fresh = true ∧
      (t.task e c).cyc = 0 ∧ (t.task e c).actCyc = 0 ∧ (t.task e c).overrun = false ∧ (t.task e c).trapped = false ∧ (t.task e c).tctx = (s.task e c).tctx) ∧
    (∀ e d, e < 64 → d < 16 → d ≠ c ∨ classEng s c e = false → t.task e d = s.task e d) ∧
    t = { s with regs := t.regs, tasks := t.tasks, acts := t.acts } ∧ ∀ a, isPmc a = false → t.rget a = s.rget a

/-- Saving a task's context and restoring it (05 R139): what a restore makes of the words that a save stores is the state saved, its reserved bits 0;
TCTX, TVEC, PART and the identification registers are not part of it. -/
def Obligations.ContextRoundTrip : Prop :=
  ∀ (n : Nat) (c d : Core), n < 64 →
    let t := ctxLoad n d ((ctxWords c n).map Prod.snd)
    (∀ r, 1 ≤ r → r ≤ 31 → amGet (fun _ => 0#64) t.v r = amGet (fun _ => 0#64) c.v r) ∧
    t.pc = c.pc &&& 0xFFFFFFFFFC#64 ∧ t.srGet n 0x010 = c.srGet n 0x010 &&& 0x6F#64 ∧ t.srGet n 0x005 = c.srGet n 0x005 &&& 0xFFFFFFFFC0#64 ∧
    t.srGet n 0x000 = c.srGet n 0x000 &&& 7#64 ∧ t.srGet n 0x001 = c.srGet n 0x001 &&& 31#64 ∧
    t.srGet n 0x012 = c.srGet n 0x012 &&& 0xFFFFFFFFFC#64 ∧ t.srGet n 0x013 = c.srGet n 0x013 &&& 0x0FFF003F#64 ∧
    (∀ r, r ∈ [0x014, 0x015, 0x016] → t.srGet n r = c.srGet n r) ∧ (∀ r, r ∈ [0x002, 0x003, 0x004, 0x006, 0x011, 0x017] → t.srGet n r = d.srGet n r) ∧
    t.task = d.task ∧ t.run = d.run

/-- The tick (03 R48, R50 to R53, R61, R63, R68, R72): the input instant of a tick master begins the next tick at word 0 with the gate closed; a
program still running then is LATE_PROG and the module FAULTED; CHECK shows what the load check finds; a mode request is refused, shown or taken at
once; a task at its budget is exhausted in its final tick, suspended before it; an activation that outlasts its free-mode watchdog stops every engine
and makes a STOP due. -/
def Obligations.TickEvents : Prop :=
  ∀ (m : Master) (free : Bool) (e : Fin 64) (k : Fin 16) (s : State),
    let running : Prop := s.on TSQ_STATUS TSQ_STATUS_RUNNING = true
    let mayFree : Prop := s.role = .booting ∨ s.role = .alone ∨ s.role = .maintenance
    let wd := s.rd (TSQ_CLASS_WD s.bank k) TSQ_CLASS_WD_FREE_WD
    let due : Prop := s.freeMode = true ∧ (s.act k).live = true ∧ wd ≠ 0 ∧ (s.act k).rel + (s.act k).paused + wd ≤ s.seq.tick
    (running → s.seq.ended = true → s.on TSQ_CTRL TSQ_CTRL_RUN = true → s.role.master = true → s.pair.pend = none → s.pair.swap = none →
      s.pair.reqFrom = none → s.pair.decision = none → s.clk.trel ≤ s.tickEnd →
      Does .inputInstant s (fun t => t.seq.tick = (s.seq.tick + 1) % 2 ^ 64 ∧ t.clk.trel = 0 ∧ t.clk.half = 0 ∧ t.seq.ended = false ∧
        t.seq.stall = none ∧ t.rd TSQ_PC TSQ_PC_PC = 0 ∧ t.on TSQ_PC TSQ_PC_STALLED = false ∧ t.seq.agree = false ∧ t.seq.gated = false ∧
        t.seq.gate = .closed ∧ t.clk.mono = s.clk.mono + (s.tickEnd - s.clk.trel) ∧ t.role = s.role)) ∧
    (running → s.seq.ended = false → Does .inputInstant s (fun t => t.on TSQ_STATUS TSQ_STATUS_LATE_PROG = true ∧ t.role = .faulted ∧
      t.seq.gate = .closed)) ∧
    Does (.check m) s (fun t => OnlyRegs [TSQ_CHK] s t ∧ t.on TSQ_CHK TSQ_CHK_DONE = true ∧
      t.on TSQ_CHK TSQ_CHK_PASS = ((loadCheck s (1 - s.bank)).1 == 0) ∧ t.rd TSQ_CHK TSQ_CHK_CODE = (loadCheck s (1 - s.bank)).1 % 16 ∧
      t.rd TSQ_CHK TSQ_CHK_WORD = (loadCheck s (1 - s.bank)).2 % 4096) ∧
    (¬ mayFree → Does (.modeReqWrite m true) s (fun t => OnlyRegsEvr [TSQ_STATUS] s t ∧ t.on TSQ_STATUS TSQ_STATUS_MODE_REJ = true)) ∧
    (free = false ∨ mayFree → s.chgState = 0 →
      (running → Does (.modeReqWrite m free) s (fun t => OnlyRegs [TSQ_CTRL] s t ∧ t.on TSQ_CTRL TSQ_CTRL_MODE_REQ = free)) ∧
      (¬ running → Does (.modeReqWrite m free) s (fun t => t.freeMode = free))) ∧
    (∀ c, (s.core e).task = some c → c < 16 → budgetUsed s e = true → (∀ d, d < 16 → (s.task e d).st ≠ .ready) →
      (finalTick s c = true → Does (.budgetExhausted e) s (fun t => (t.task e c).st = .exhausted ∧ (t.task e c).overrun = true ∧
        (t.core e).task = none ∧ ∀ n, n ≠ e.val → t.core n = s.core n)) ∧
      (∀ v w, finalTick s c = false →
        let q := addCyc (keepTask s e c .suspended) e c 80
        ctxWrites q e (partOf q e) (q.srGet e 0x006).toNat (ctxWords (q.core e) e) = (.ok v, w) →
        Does (.budgetExhausted e) s (fun t => (t.task e c).st = .suspended ∧ (t.core e).task = none ∧ ∀ n, n ≠ e.val → t.core n = s.core n))) ∧
    (budgetUsed s e = false → Does (.budgetExhausted e) s (fun t => t = s)) ∧
    (due → Does (.freeWdExpiry k) s (fun t => t.seq.stopDue = true ∧ t.on TSQ_STATUS TSQ_STATUS_WDSTOP = true ∧
      t.on TSQ_OVR ⟨16 + k, 16 + k⟩ = true ∧
      ∀ n c, n < 64 → c < 16 → (t.task n c).st = .none ∨ (t.task n c).st = .abandoned)) ∧
    (¬ due → Does (.freeWdExpiry k) s (fun t => t = s))

/-- The load check is sound (03 R52, R53): a bank that passes holds a listed word with its reserved bits 0 and its operands in range at every place
that a path of its program reaches. -/
def Obligations.LoadCheckSound : Prop :=
  ∀ (s : State) (b i : Nat), loadCheck s b = (0, 0) → i ∈ tqReach s b 4096 0 [0] → tqWordOk (progWord s b i) = true

/-! ### Image, map and forces (05) -/

/-- The map load (05 R122): in free mode or while the map is busy it changes nothing; else every descriptor of the idle bank is the low word of its
entry in the map area, the active bank stays, and the check passes exactly where every entry's type, owner and safe mode are allowed and no two
entries share a stable ID. Force commands (05 R132): APPLY is refused with code 1, 2 or 4, else armed for its tick with a copy of the staging block
and sent to the partner; while one is pending it does nothing. CANCEL disarms before the apply tick and tells the partner (with apply tick 0: the
model's choice, notes/assumptions/22). -/
def Obligations.MapLoadAndForceCommands : Prop :=
  (∀ (m : Master) (s : State),
     let idle := 1 - s.rd IMG_STATUS IMG_STATUS_DBANK
     let stuck : Prop := s.freeMode = true ∨ s.on IMG_STATUS IMG_STATUS_MAP_BUSY = true
     let okEntry (e : Nat × DWord) : Prop :=
       let d : Word := e.2.truncate 32
       descType d < 10 ∧ (descDir d = true → descType d ≠ 0 ∧ bankClassOn s (1 - s.bank) (descOwner d) = true) ∧ descSafeMode d ≠ 3
     let apart (a b : Nat × DWord) : Prop := b.2.toNat / 2 ^ 32 = 0 ∨ a.2.toNat / 2 ^ 32 ≠ b.2.toNat / 2 ^ 32
     (stuck → Does (.mapLoad m) s (fun t => t = s)) ∧
     (¬ stuck → amWf (fun _ => 0#64) s.mapArea = true → (∀ e ∈ s.mapArea, e.1 ≤ 131071) →
       Does (.mapLoad m) s (fun t => OnlyRegs [IMG_MAPCHK] { s with desc := t.desc } t ∧ t.on IMG_MAPCHK IMG_MAPCHK_DONE = true ∧
         (∀ i, i ≤ 131071 → descIn t idle i = (amGet (fun _ => 0#64) s.mapArea i).truncate 32) ∧
         (∀ i, i ≤ 131071 → t.descOf i = s.descOf i) ∧
         (t.on IMG_MAPCHK IMG_MAPCHK_PASS = true ↔ (∀ e ∈ s.mapArea, okEntry e) ∧ s.mapArea.Pairwise apart) ∧
         (t.on IMG_MAPCHK IMG_MAPCHK_PASS = false → 1 ≤ t.rd IMG_MAPCHK IMG_MAPCHK_CODE ∧ t.rd IMG_MAPCHK IMG_MAPCHK_CODE ≤ 4)))) ∧
  (∀ (m : Master) (s : State),
     let c := stagingCopy s
     let tick := s.rd64 FRC_APPLY_LO FRC_APPLY_HI
     let sigs := (copySigs c).map Prod.snd
     let unassigned : Prop := ∃ i ∈ sigs, descType (s.descOf i) = 0
     let pend : Prop := s.on FRC_STATUS FRC_STATUS_PEND = true
     let refused (code : Nat) (t : State) : Prop := OnlyRegsEvr [FRC_STATUS] { s with armed := none } t ∧
       t.on FRC_STATUS FRC_STATUS_REJ = true ∧ t.rd FRC_STATUS FRC_STATUS_CODE = code
     (pend → Does (.frcApply m) s (fun t => t = s)) ∧
     (¬ pend → ¬ sigs.Nodup → Does (.frcApply m) s (refused 1)) ∧
     (¬ pend → sigs.Nodup → tick < s.seq.tick + 8 → Does (.frcApply m) s (refused 2)) ∧
     (¬ pend → sigs.Nodup → s.seq.tick + 8 ≤ tick → unassigned → Does (.frcApply m) s (refused 4)) ∧
     (¬ pend → sigs.Nodup → s.seq.tick + 8 ≤ tick → ¬ unassigned → Does (.frcApply m) s (fun t =>
       t.armed = some ⟨tick, c, false, s.seq.tick⟩ ∧ t.on FRC_STATUS FRC_STATUS_PEND = true ∧ t.out = s.out ++ laneOut s (.force (BitVec.ofNat 64 tick) c) ∧
       OnlyRegsPmc [FRC_STATUS] { s with armed := t.armed, out := t.out, pair := { s.pair with msgid := t.pair.msgid } } t)) ∧
     (∀ a, s.armed = some a → s.seq.tick < a.tick → Does (.frcCancel m) s (fun t => t.armed = none ∧ t.on FRC_STATUS FRC_STATUS_PEND = false ∧
       t.out = s.out ++ laneOut s (.force 0#64 []) ∧
       OnlyRegsPmc [FRC_STATUS] { s with armed := none, out := t.out, pair := { s.pair with msgid := t.pair.msgid } } t)) ∧
     ((∀ a, s.armed = some a → a.tick ≤ s.seq.tick) → Does (.frcCancel m) s (fun t => t = s)))

/-- An armed apply in the Clearing of its tick (05 R132, R133; 10 R279): refused with code 3 where the partner has not confirmed it, with 4 where a
signal is no longer assigned; else the active block is the copy, entry by entry, nothing is pending, and the output entry of a force that has gone
takes the value that was written to it while it was forced. -/
def Obligations.ForceApply : Prop :=
  ∀ (s : State) (a : Armed) (pair : Bool), s.armed = some a → s.seq.tick = a.tick → (∀ e ∈ a.copy, e.1 < 0x10000) →
    let t := forceAtClear s pair
    let word (n o : Nat) : Word := amGet (fun _ => 0#32) a.copy (16 * n + o)
    let unassigned : Prop := ∃ i ∈ (copySigs a.copy).map Prod.snd, descType (s.descOf i) = 0
    (pair = true → a.conf = false → t.armed = none ∧ t.on FRC_STATUS FRC_STATUS_REJ = true ∧ t.rd FRC_STATUS FRC_STATUS_CODE = 3) ∧
    (pair = false ∨ a.conf = true → unassigned → t.armed = none ∧ t.on FRC_STATUS FRC_STATUS_REJ = true ∧ t.rd FRC_STATUS FRC_STATUS_CODE = 4) ∧
    (pair = false ∨ a.conf = true → ¬ unassigned → t.armed = none ∧ t.on FRC_STATUS FRC_STATUS_PEND = false ∧
      (∀ n, n < 4096 → t.on (FRCA_CTL n) FRCA_CTL_VALID = (bitsOf (word n 0) FRCS_CTL_VALID == 1) ∧
        (bitsOf (word n 0) FRCS_CTL_VALID = 1 → t.rd (FRCA_CTL n) FRCA_CTL_SIG = bitsOf (word n 0) FRCS_CTL_SIG ∧ t.rget (FRCA_VAL n) = word n 4 ∧
          t.rd (FRCA_CTL n) FRCA_CTL_Q = bitsOf (word n 0) FRCS_CTL_Q)) ∧
      (∀ n i, n < 4096 → s.on (FRCA_CTL n) FRCA_CTL_VALID = true → s.rd (FRCA_CTL n) FRCA_CTL_SIG = i →
        (∀ k, k < 4096 → k ≠ n → s.on (FRCA_CTL k) FRCA_CTL_VALID = true → s.rd (FRCA_CTL k) FRCA_CTL_SIG ≠ i) →
        i ∉ (copySigs a.copy).map Prod.snd → descDir (s.descOf i) = true →
        (s.on (FRCA_CTL n) FRCA_CTL_SHV = true → s.on (FRCA_CTL n) FRCA_CTL_SHM = true → (t.entry 1 i).value = s.rget (FRCA_SHADOW n) ∧
          (t.entry 1 i).upd = some s.seq.tick ∧ t.eccAt (imageAddr 1 i) = none) ∧
        (s.on (FRCA_CTL n) FRCA_CTL_SHV = false → t.entry 1 i = s.entry 1 i)))

/-! ### Groves, comparators, debug (06) -/

/-- The scrubber and the events of a Grove's start and recovery (06 R155 to R157, R170 to R172): corrected words hold no error any more and are
counted, an uncorrectable one is a Grove fault; cleared banks read 0 and the eight comparator tests begin; the steps of a recovery follow each other,
and one that cannot complete begins again with step 2 or, at its limit, ends in FAULTED. Comparators (06 R163 to R166): a test is begun only where the
unit allows it, its result is shown, the last of the boot's tests releases the Canopy cores (14 R371) and that of the transfer engine lets it transfer
again; a mismatch of bit i is one of lane i mod 16 (06 R161); a fault of a live comparator is flagged with its lanes and acted upon by the table of R166: a Grove is
isolated, the module is FAULTED, the transfer engine stops, a port switches off. Without a fault, or while it does not compare, nothing changes. -/
def Obligations.GroveAndComparatorEvents : Prop :=
  (∀ (g : Fin 8) (s : State),
     let st := GRV_STATUS g
     let ecc := s.ecc.filter fun e => inBanks g e.1
     let recent := (s.grove g).attempts.filter fun t => decide (s.clk.mono < t + s.rd (GRV_RECOV_WIN g) GRV_RECOV_WIN_WIN_S * 1000000000)
     let starts : Prop := s.unitState (.grove g) = 1 ∧ (s.grove g).start = 1 ∧ (s.unit (GRV_EN g)).waiting = false
     let late : Prop := s.phase g = 6 ∧ 256 ≤ (s.grove g).conv
     (s.isOn (.grove g) = false ∨ ecc = [] → Does (.scrub g) s (fun t => t = s)) ∧
     (s.isOn (.grove g) = true → amWf (fun _ => none) s.ecc = true → (∀ e ∈ s.ecc, e.1 % 8 = 0) → (∀ e ∈ ecc, e.2 = some .corrected) →
       Does (.scrub g) s (fun t => (∀ a, inBanks g a = true → a % 8 = 0 → t.eccAt a = none) ∧ (∀ a, t.byte a = s.byte a) ∧
         t.rd (GRV_CE_CNT g) GRV_CE_CNT_COUNT = min (2 ^ 32 - 1) (s.rd (GRV_CE_CNT g) GRV_CE_CNT_COUNT + ecc.length) ∧
         ∀ a, isPmc a = false → a ≠ GRV_CE_CNT g → t.rget a = s.rget a)) ∧
     (∀ a, s.isOn (.grove g) = true → ecc = [(a, some .uncorrectable)] → s.on st GRV_STATUS_ISOLATED = false →
       Does (.scrub g) s (fun t => t.on st GRV_STATUS_UE = true ∧ t.on st GRV_STATUS_ISOLATED = true ∧ t.on st GRV_STATUS_RESYNC = true ∧
         t.rd64 (GRV_FAULT_TICK_LO g) (GRV_FAULT_TICK_HI g) = s.seq.tick % 2 ^ 64)) ∧
     (starts → 3 ≤ s.chgState → s.chgState ≤ 5 → g ∈ grovesNamed s (1 - s.bank) → Does (.groveBankClearDone g) s (fun t =>
       (t.grove g).start = 2 ∧ (∀ i, i < 8 → t.on (LSC_CMP (8 * g + i)) LSC_CMP_BUSY = true) ∧ t.chgState = 6 ∧
       t.rd CHG_CHK CHG_CHK_CODE = 16)) ∧
     (starts → s.chgState < 3 ∨ 5 < s.chgState → Does (.groveBankClearDone g) s (fun t => (t.grove g).start = 2 ∧
       (∀ i, i < 8 → t.on (LSC_CMP (8 * g + i)) LSC_CMP_BUSY = true) ∧ (∀ a, inBanks g a = true → t.byte a = 0#8) ∧
       (∀ a, (a < 0x0100000000 + g * 0x01000000 ∨ 0x0100000000 + (g + 1) * 0x01000000 ≤ a) →
         (a < 0x0180000000 + g * 0x00800000 ∨ 0x0180000000 + (g + 1) * 0x00800000 ≤ a) → t.byte a = s.byte a) ∧ OnlyRegs ((List.range 8).map fun i => LSC_CMP (8 * g + i))
         { s with mem := t.mem, ecc := t.ecc, groves := t.groves } t)) ∧
     (¬ starts → Does (.groveBankClearDone g) s (fun t => t = s)) ∧
     (s.phase g = 4 → (s.grove g).stuck = false → (s.grove g).reloaded = false → s.chg.teDown = false →
       Does (.groveReloadDone g true) s (fun t => t.phase g = 5)) ∧
     (s.phase g ≠ 4 → ∀ ok, Does (.groveReloadDone g ok) s (fun t => t = s)) ∧
     (s.phase g = 5 → (s.grove g).stuck = false → Does (.groveCoppiceBulkDone g) s (fun t => t.phase g = 6 ∧ (t.grove g).conv = 0 ∧
       OnlyRegs [st] { s with groves := t.groves } t)) ∧
     (s.phase g ≠ 5 → Does (.groveCoppiceBulkDone g) s (fun t => t = s)) ∧
     (∀ c : Instr, (late ∧ c = .groveRecoveryTimeout g) ∨ (s.phase g = 4 ∧ (s.grove g).reloaded = false ∧ s.chg.teDown = false ∧ c = .groveReloadDone g false) →
       (s.grove g).stuck = false →
       (recent.length + 1 ≤ s.rd (GRV_CFG g) GRV_CFG_RECOV_MAX → Does c s (fun t => t.phase g = 2 ∧ (t.grove g).attempts = recent ++ [s.clk.mono] ∧
         t.rd st GRV_STATUS_RECOV_CNT = (recent.length + 1) % 256 ∧ t.isOn (.grove g) = false)) ∧
       (s.rd (GRV_CFG g) GRV_CFG_RECOV_MAX < recent.length + 1 → Does c s (fun t => t.role = .faulted ∧ t.on st GRV_STATUS_LIMIT = true ∧
         t.isOn (.grove g) = false))) ∧
     (¬ late → Does (.groveRecoveryTimeout g) s (fun t => t = s)) ∧
     Does (.recovWindowExpiry g) s (fun t => (t.grove g).attempts = recent ∧ t.rd st GRV_STATUS_RECOV_CNT = recent.length % 256 ∧
       OnlyRegs [st] { s with groves := t.groves } t) ∧
     (s.chg.teDown = true → Does .transferEngineRestart s (fun t => OnlyRegs [LSC_CMP 71] s t ∧ t.on (LSC_CMP 71) LSC_CMP_BUSY = true)) ∧
     (s.chg.teDown = false → Does .transferEngineRestart s (fun t => t = s))) ∧
  (∀ (m : Master) (k : Fin 108) (errP errN : Bool) (diff : BitVec 242) (failed : BitVec 16) (s : State),
     let a := LSC_CMP k
     let c := Instr.comparatorMismatch k errP errN diff
     let lanes := lanesOf k diff
     let dup : Prop := 64 ≤ k.val ∧ k.val ≤ 70
     let clean : Prop := errP = false ∧ (dup → errN = true)
     let shown (t : State) : Prop := t.rd a LSC_CMP_LANES = lanes.toNat ∧
       (dup → errP = errN → t.on a LSC_CMP_COMB = true) ∧ (¬ (dup ∧ errP = errN) → t.on a LSC_CMP_MISMATCH = true)
     (cmpTestable s k = true → Does (.test m k) s (fun t => OnlyRegs [LSC_CMD, a] s t ∧ t.on a LSC_CMP_BUSY = true ∧
       t.rd LSC_CMD LSC_CMD_SEL = k.val)) ∧
     (cmpTestable s k = false → Does (.test m k) s (fun t => OnlyRegs [LSC_CMD] s t)) ∧
     (s.on a LSC_CMP_BUSY = false → s.boot.entry = none → Does (.comparatorTestDone k failed) s (fun t => t = s)) ∧
     (s.on a LSC_CMP_BUSY = true → Does (.comparatorTestDone k failed) s (fun t => t.on a LSC_CMP_BUSY = false ∧ t.on a LSC_CMP_TESTED = true ∧
       t.on a LSC_CMP_PASS = decide (failed = 0#16) ∧ t.rd a LSC_CMP_LANES = failed.toNat ∧
       (64 ≤ k.val → k.val < 96 → k.val ≠ 71 → s.boot.entry = none → failed = 0#16 → OnlyRegs [a] s t) ∧
       (∀ u ∈ cmpUnits k, 96 ≤ k.val → s.boot.entry = none → failed = 0#16 → OnlyRegs [a, enAddr u] s t ∧
         (∀ n, u = .eth n → s.on (ETH_STATUS n) ETH_STATUS_LINK = true → s.unitState u = 1 → (s.unit (enAddr u)).waiting = false → t.isOn u = true)) ∧
       (k.val = 71 → s.boot.entry = none → OnlyRegs [a] { s with chg := { s.chg with teDown := decide (failed ≠ 0#16) } } t) ∧
       (∀ e, s.boot.entry = some e → failed = 0#16 → dup →
         (∀ i, i < 7 → 64 + i ≠ k.val → s.on (LSC_CMP (64 + i)) LSC_CMP_PASS = true ∧ s.on (LSC_CMP (64 + i)) LSC_CMP_BUSY = false) →
         t.boot.entry = none ∧ ∀ i, i < 4 → (t.core (0x40 + i)).run = .run ∧ (t.core (0x40 + i)).pc = pcMask (BitVec.ofNat 64 (0x0010000000 + e))) ∧
       (72 ≤ k.val → failed ≠ 0#16 → ∀ u ∈ cmpUnits k, s.unitState u = 1 → t.on (enAddr u) U_FAIL = true ∧ t.unitState u = 3) ∧
       (dup → failed ≠ 0#16 → s.role = .booting → t.role = .faulted))) ∧
     (clean ∨ cmpLive s k = false → Does c s (fun t => t = s)) ∧
     (¬ clean → cmpLive s k = true → Does c s (fun t => shown t ∧
       (k.val < 64 → t.on (GRV_STATUS (k / 8)) GRV_STATUS_ISOLATED = true ∧ t.on (GRV_STATUS (k / 8)) GRV_STATUS_MISMATCH = true) ∧
       (dup → t.role = .faulted ∧ t.on PAR_STATUS PAR_STATUS_GATE = false) ∧
       (k.val = 71 → t.chg.teDown = true) ∧
       (72 ≤ k.val → ∀ u ∈ cmpUnits k, t.unitState u = 0 ∨ t.unitState u = 3))))

/-- The debug port (06 R174 to R177): a halt that is not allowed and an action on a target that is not halted are refused; an allowed halt takes
effect at the next boundary; a halted target runs exactly one instruction on STEP (shown by ADDI), goes on with RESUME, and answers register and
memory accesses, of which a misaligned one is an error. -/
def Obligations.DebugPort : Prop :=
  ∀ (m : Master) (core : Fin 68) (p : Proc) (rd ra : Reg) (imm : BitVec 16) (s : State),
    let n := s.rd DBG_TARGET DBG_TARGET_CORE
    let push (r : Replay) : State := s.setCore n { s.core n with replay := (s.core n).replay ++ [r] }
    let room : Prop := (s.core n).replay.length < 8
    let refused (t : State) : Prop := OnlyRegsEvr [DBG_STATUS] s t ∧ t.on DBG_STATUS DBG_STATUS_REFUSED = true
    let isH : Prop := halted s n = true
    let r := s.rd DBG_REG DBG_REG_REG
    let data := s.rd64 DBG_DATA_LO DBG_DATA_HI
    let a := s.rd64 DBG_ADDR_LO DBG_ADDR_HI
    let sz := 2 ^ s.rd DBG_MEM DBG_MEM_SIZE
    let isWr : Prop := s.on DBG_MEM DBG_MEM_WRITE = true
    (haltAllowed s n = true → room → Does (.dbgHalt m) s (fun t => t = { s with cores := t.cores } ∧ (t.core n).haltReq = true ∧
      (t.core n).replay = (s.core n).replay ++ [.halt] ∧ ∀ k, k ≠ n → t.core k = s.core k)) ∧
    (haltAllowed s n = false ∨ ¬ room → Does (.dbgHalt m) s refused) ∧
    ((s.core core).haltReq = true → haltAllowed s core = true → Does (.haltAtBoundary core) s (fun t => halted t core = true ∧
      (t.core core).haltReq = false)) ∧
    ((s.core core).haltReq = true → haltAllowed s core = false → Does (.haltAtBoundary core) s (fun t =>
      t = s.setCore core { s.core core with haltReq := false })) ∧
    ((s.core core).haltReq = false → Does (.haltAtBoundary core) s (fun t => t = s)) ∧
    (¬ isH ∨ ¬ room → Does (.dbgStep m) s refused ∧ Does (.dbgResume m) s refused) ∧
    (¬ isH → Does (.dbgRegAccess m) s refused ∧ Does (.dbgMemAccess m) s refused) ∧
    (∀ v w, isH → room → coreNo p = n → denmaRow p (wordAtPc s n) = some (.addi p rd ra imm) → fetch (push .step) n = (.ok v, w) →
      Does (.dbgStep m) s (fun t => Wrote n rd (w.vget n ra + imm.signExtend 64) w t)) ∧
    (isH → room → 64 ≤ n → Does (.dbgResume m) s (fun t => t = (push .resume).setCore n { (push .resume).core n with run := .run })) ∧
    (isH → room → n < 64 → s.on (GRV_STATUS (n / 8)) GRV_STATUS_ISOLATED = false → (s.core n).task ≠ none →
      Does (.dbgResume m) s (fun t => t.rd (ENG_STATUS n) ENG_STATUS_STATE = (s.core n).prev % 8 ∧ (t.core n).pc = (s.core n).pc)) ∧
    (isH → s.on DBG_REG DBG_REG_WRITE = false →
      (∀ h : r < 32, Does (.dbgRegAccess m) s (fun t => OnlyRegs [DBG_DATA_LO, DBG_DATA_HI] s t ∧
        t.rd64 DBG_DATA_LO DBG_DATA_HI = (s.vget n ⟨r, h⟩).toNat)) ∧
      (r = 0x20 → Does (.dbgRegAccess m) s (fun t => OnlyRegs [DBG_DATA_LO, DBG_DATA_HI] s t ∧
        t.rd64 DBG_DATA_LO DBG_DATA_HI = (s.core n).pc.toNat))) ∧
    (isH → room → s.on DBG_REG DBG_REG_WRITE = true →
      (∀ h : r < 32, Does (.dbgRegAccess m) s (fun t => t.vget n ⟨r, h⟩ = (if r = 0 then 0#64 else BitVec.ofNat 64 data) ∧
        (t.core n).pc = (s.core n).pc ∧ t = { s with cores := t.cores })) ∧
      (r = 0x20 → Does (.dbgRegAccess m) s (fun t => (t.core n).pc = BitVec.ofNat 64 data &&& 0xFFFFFFFFFC#64 ∧ t = { s with cores := t.cores }))) ∧
    (isH → a % sz ≠ 0 → Does (.dbgMemAccess m) s (fun t => OnlyRegsEvr [DBG_STATUS] s t ∧ t.on DBG_STATUS DBG_STATUS_ERR = true)) ∧
    (isH → room → a % sz = 0 →
      (¬ isWr → ∀ v w, coreRead regBus (push (.mem a false)) n (prvOf s n) (partOf s n) a sz = (.ok v, w) →
        Does (.dbgMemAccess m) s (fun t => OnlyRegs [DBG_DATA_LO, DBG_DATA_HI] w t ∧ t.rd64 DBG_DATA_LO DBG_DATA_HI = v % 2 ^ 64)) ∧
      (isWr → ∀ v w, coreWrite regBus (push (.mem a true)) n (prvOf s n) (partOf s n) a sz (data % 2 ^ (8 * sz)) = (.ok v, w) →
        Does (.dbgMemAccess m) s (fun t => t = w)))

/-! ### The pair (10) -/

/-- Heartbeats, paths and the witness (10 R263, R268 to R272, R261, R279, R288): what a period counts and sends; what a heartbeat records and what an
ACTIVE or STANDBY module concludes from the partner's role; loss and return of a path; the witness window and its decision, which an input instant takes; LEAVE; lane events. A
frame of the module's own position changes nothing, one with a wrong CRC is counted. Messages on the pair lanes (10 R264): one with a wrong CRC is
counted and changes nothing else; one of the module's own position changes nothing (a HELLO in BOOTING is the exception, which PairJoining states).
Every frame that a path carries is counted (15 R387). -/
def Obligations.PairPathsAndMessages : Prop :=
  (∀ (path : Path) (ok : Bool) (b : HbBody) (st : Option HbStamps) (line : Bool) (l : Fin 2) (why : LaneFail) (s : State),
     let requested (r : Role) (e : Option Nat) (t : State) : Prop := t.pair.pend = some ⟨roleCode r, e⟩
     let own : Prop := b.pos = s.on PAR_STATUS PAR_STATUS_POS
     let miss (f : Fld) (got : Bool) : Nat := if got then 0 else min 15 (s.rd HB_STATUS f + 1)
     let counted (p : PathSt) : PathSt := ⟨false, if p.got then min (s.rd HB_CFG HB_CFG_RETURN_N) (p.good + 1) else 0⟩
     let held (x : Bool) : Prop := s.on HB_STATUS (if x then HB_STATUS_PATH_H else HB_STATUS_PATH_L) = true
     let good := (if line then s.pair.line else s.pair.lane).good
     let lost : Prop := held line ∧ 4 ≤ s.rd HB_STATUS (if line then HB_STATUS_MISS_H else HB_STATUS_MISS_L)
     let back : Prop := ¬ held line ∧ s.rd HB_CFG HB_CFG_RETURN_N ≤ good
     let badCrc (t : State) : Prop :=
       let a := match path with
         | .lane l => PAR_PLCNT l 0
         | .hb => HB_CNT_ERR
       OnlyRegsPmc [a] s t ∧ (t.rget a).toNat = min (2 ^ 32 - 1) ((s.rget a).toNat + 1)
     let samples : Prop := s.role = .standby ∨ s.role = .active ∨ s.role = .syncing ∨ s.role = .isolated
     Does .heartbeatPeriod s (fun t => t.rd HB_STATUS HB_STATUS_MISS_L = miss HB_STATUS_MISS_L s.pair.lane.got ∧
       t.rd HB_STATUS HB_STATUS_MISS_H = miss HB_STATUS_MISS_H s.pair.line.got ∧ t.pair.lane = counted s.pair.lane ∧
       t.pair.line = counted s.pair.line ∧ t.pair.period = (s.pair.period + 1) % 65536 ∧
       (∃ x y j, t.out = s.out ++ (if s.isOn (.lane 0) then [.lane 0 (hdrNow s) (.heartbeat x y)] else []) ++
           (if s.isOn (.lane 1) then [.lane 1 { hdrNow s with msgid := j } (.heartbeat x y)] else []) ++ [.line false x] ∧
         x.role.toNat = s.rd PAR_STATUS PAR_STATUS_ROLE ∧ x.epoch.toNat = s.rd PAR_EPOCH PAR_EPOCH_EPOCH ∧ x.k = BitVec.ofNat 16 s.pair.period ∧
         x.pos = s.on PAR_STATUS PAR_STATUS_POS) ∧
       OnlyRegsPmc [HB_STATUS, PAR_STATUS, HB_CNT_MISS 0, HB_CNT_MISS 1] { s with pair := t.pair, out := t.out } t) ∧
     (ok = true → own → Does (.heartbeat ⟨path, ok⟩ b st) s (OnlyRegsPmc [] s) ∧ Does (.leave ⟨path, ok⟩ b) s (OnlyRegsPmc [] s)) ∧
     (ok = false → Does (.heartbeat ⟨path, ok⟩ b st) s badCrc ∧ Does (.leave ⟨path, ok⟩ b) s badCrc) ∧
     (ok = true → ¬ own → Does (.heartbeat ⟨path, ok⟩ b st) s (fun t => t.rd PAR_STATUS PAR_STATUS_PROLE = b.role.toNat ∧
       t.rd PAR_EPOCH PAR_EPOCH_PEPOCH = b.epoch.toNat ∧ t.rd HB_LASTK HB_LASTK_LASTK = b.k.toNat ∧
       (path = .hb → t.pair.line.got = true) ∧ (path ≠ .hb → t.pair.lane.got = true) ∧
       (s.role = .active → roleOf b.role.toNat = .active → b.epoch.toNat = (s.rd PAR_EPOCH PAR_EPOCH_EPOCH + 1) % 65536 →
         requested .standby (some b.epoch.toNat) t) ∧
       (s.role = .active → s.prole = .standby → roleOf b.role.toNat ∉ [Role.standby, .active, .stopped] → requested .solo none t) ∧
       (s.role = .active ∨ s.role = .standby → roleOf b.role.toNat = .stopped → t.pair.parStop = true) ∧
       OnlyRegsPmc [PAR_STATUS, PAR_EPOCH, HB_LASTK, HB_STATUS, PAR_LANE, PAR_COPP] { s with pair := t.pair, out := t.out } t)) ∧
     (lost → Does (.pathLost line) s (fun t => t.on HB_STATUS (if line then HB_STATUS_PATH_H else HB_STATUS_PATH_L) = false ∧
       t.on HB_EVT HB_EVT_LOST = true ∧ (held (!line) → t.pair = s.pair ∧
         (line = false → s.role = .standby → t.on PAR_STATUS PAR_STATUS_LANE_MUTE = true)) ∧
       (¬ held (!line) → t.on HB_EVT HB_EVT_BOTH = true ∧ t.pair = { s.pair with lostAt := some s.clk.mono } ∧
         t.on PAR_STATUS PAR_STATUS_LANE_MUTE = false) ∧
       OnlyRegsEvr [HB_STATUS, HB_EVT, PAR_STATUS] { s with pair := t.pair } t)) ∧
     (¬ lost → Does (.pathLost line) s (fun t => t = s)) ∧
     (back → Does (.pathReturn line) s (fun t => t.on HB_STATUS (if line then HB_STATUS_PATH_H else HB_STATUS_PATH_L) = true ∧
       t.on HB_EVT HB_EVT_BACK = true ∧ t.on PAR_STATUS PAR_STATUS_SPLIT = false ∧ t.on PAR_STATUS PAR_STATUS_WITNESS = false ∧
       t.pair.lostAt = none ∧ t.pair.witness = none ∧
       OnlyRegsEvrPmc [HB_STATUS, HB_EVT, PAR_STATUS, PAR_COPP] { s with pair := t.pair, out := t.out } t)) ∧
     (¬ back → Does (.pathReturn line) s (fun t => t = s)) ∧
     (∀ d, s.pair.lostAt = some d → samples → s.pair.witness = none → s.pair.decision = none → d + 200000 ≤ s.clk.mono → Does .witnessWindowStart s (fun t =>
       t.on PAR_STATUS PAR_STATUS_WITNESS = true ∧ OnlyRegs [PAR_STATUS]
         { s with pair := { s.pair with witness := some ⟨s.clk.mono, s.clk.mono + 2 * s.tickLen, false⟩ } } t)) ∧
     (s.pair.lostAt = none ∨ ¬ samples ∨ s.pair.witness ≠ none ∨ s.pair.decision ≠ none ∨
       (∃ d, s.pair.lostAt = some d ∧ s.clk.mono < d + 200000) → Does .witnessWindowStart s (fun t => t = s)) ∧
     (∀ w, s.pair.witness = some w → w.stop ≤ s.clk.mono → Does .witnessEnd s (fun t => t.on PAR_STATUS PAR_STATUS_WITNESS = false ∧
       OnlyRegs [PAR_STATUS] { s with pair := { s.pair with witness := none, decision := some w.positive } } t)) ∧
     (∀ positive, s.pair.decision = some positive →
       let t := witnessDecide s
       t.pair.decision = none ∧
       (positive = false → (s.role ∈ [Role.standby, .active, .isolated] → requested .solo none t) ∧ (s.role = .syncing → requested .stopped none t)) ∧
       (positive = true → (s.role = .standby → requested .isolated none t) ∧
         (s.role = .active → t.on PAR_STATUS PAR_STATUS_SPLIT = true ∧ t.on PAR_EVT PAR_EVT_SPLIT = true ∧ t.pair.pend = s.pair.pend) ∧
         (s.role = .syncing → t.rd PAR_COPP PAR_COPP_PHASE = 1))) ∧
     ((∀ w, s.pair.witness = some w → s.clk.mono < w.stop) → Does .witnessEnd s (fun t => t = s)) ∧
     (ok = true → ¬ own → Does (.leave ⟨path, ok⟩ b) s (fun t => t.rd PAR_STATUS PAR_STATUS_PROLE = b.role.toNat ∧ t.on HB_EVT HB_EVT_LEAVE = true ∧
       (s.role ∈ [Role.standby, .active, .isolated] → requested .solo none t) ∧ (s.role = .syncing → requested .stopped none t) ∧
       OnlyRegsEvrPmc [PAR_STATUS, HB_EVT] { s with pair := t.pair, out := t.out } t)) ∧
     Does (.laneBlockLockLoss l why) s (fun t =>
       let a := PAR_PLCNT l (match why with
         | .fec => 1
         | .block => 2
         | .lock => 3)
       OnlyRegs [a] s t ∧ t.rd a PAR_PLCNT_COUNT = min (2 ^ 32 - 1) (s.rd a PAR_PLCNT_COUNT + 1)) ∧
     (s.unitState (.lane l) = 1 → (s.unit (enAddr (.lane l))).waiting = false →
       Does (.laneTrained l) s (fun t => OnlyRegs [enAddr (.lane l)] s t ∧ t.isOn (.lane l) = true)) ∧
     (s.unitState (.lane l) ≠ 1 → Does (.laneTrained l) s (fun t => t = s))) ∧
  (∀ (h : Hdr) (c : Instr) (s : State),
     ((∃ m, c = .time h m) ∨ (∃ d, c = .inagreeDig h d) ∨ (∃ l, c = .inagreeData h l) ∨
       (∃ d, c = .outdig h d) ∨ (∃ r, c = .repairReq h r) ∨ (∃ l, c = .lines h l) ∨ (∃ t l, c = .force h t l) ∨ (∃ p q, c = .stagePkg h p q) ∨
       (∃ d k v, c = .stageResult h d k v) ∨ (∃ t d, c = .stageAnnounce h t d) ∨ (∃ t d, c = .stageAck h t d) ∨ (∃ d, c = .stageWithdraw h d) ∨
       (∃ d, c = .stageDiscard h d)) →
     (h.crcOk = false → Does c s (fun t => OnlyRegsPmc [PAR_PLCNT h.lane 0] s t ∧
       t.rd (PAR_PLCNT h.lane 0) PAR_PLCNT_COUNT = min (2 ^ 32 - 1) (s.rd (PAR_PLCNT h.lane 0) PAR_PLCNT_COUNT + 1))) ∧
     (h.crcOk = true → h.pos = s.on PAR_STATUS PAR_STATUS_POS → Does c s (OnlyRegsPmc [] s)))

/-- Joining (10 R261, R262, R265, R267, R283, R284): HELLO, its period and its answers; TIME, which sets the clock of a joining module and steers that of one that follows its partner (the steering in one step is the model's choice:
notes/assumptions/19); the release
from BOOTING; and the phases of a Coppice, which fails to phase 4 and, the third time, into FAULTED. -/
def Obligations.PairJoining : Prop :=
  ∀ (m : Master) (h : Hdr) (x : Hello) (tm : TimeMsg) (s : State),
    let requested (r : Role) (e : Option Nat) (t : State) : Prop := t.pair.pend = some ⟨roleCode r, e⟩
    let refused (code : Nat) (t : State) : Prop := OnlyRegs [PAR_CMDSTAT] s t ∧ t.on PAR_CMDSTAT PAR_CMDSTAT_REJ = true ∧
      t.rd PAR_CMDSTAT PAR_CMDSTAT_CODE = code
    let phase := s.rd PAR_COPP PAR_COPP_PHASE
    let own : Prop := h.pos = s.on PAR_STATUS PAR_STATUS_POS
    let master : Prop := (roleOf x.role.toNat).master = true
    let d : Int := masterNow s tm - s.nowNs
    let late : Prop := s.role = .syncing ∧ ((phase = 4 ∧ s.pair.coppStart + 500000000 ≤ s.clk.mono) ∨
      (phase = 5 ∧ s.rd PAR_CFG2 PAR_CFG2_CONV_MAX ≤ s.pair.coppTicks))
    let waited : Prop := s.role = .booting ∧ s.pair.go = true ∧ phase = 0 ∧
      s.pair.quietFrom + s.rd PAR_CFG PAR_CFG_JOIN_WAIT * 1000000 ≤ s.clk.mono
    (h.crcOk = false → Does (.hello h x) s (OnlyRegsPmc [PAR_PLCNT h.lane 0] s)) ∧
    (h.crcOk = true → own → s.role ≠ .booting → Does (.hello h x) s (OnlyRegsPmc [] s)) ∧
    (h.crcOk = true → own → s.role = .booting → Does (.hello h x) s (fun t => t.on PAR_EVT PAR_EVT_POS_CONFLICT = true ∧
      OnlyRegsEvrPmc [PAR_EVT] { s with pair := { s.pair with go := false, pend := none } } t)) ∧
    (h.crcOk = true → ¬ own →
      Does (.hello h x) s (fun t => t.rd PAR_STATUS PAR_STATUS_PROLE = x.role.toNat ∧ t.rd PAR_EPOCH PAR_EPOCH_PEPOCH = h.epoch.toNat ∧
        t.pair.hello = some x) ∧
      (phase = 1 → master → s.pair.helloDue = false → helloCompat s x = true → x.digest = pkgDigest s → Does (.hello h x) s (fun t => t.pair.pend =
        some ⟨roleCode .syncing, if s.role = .standby then none else some h.epoch.toNat⟩ ∧ t.on TSQ_CTRL TSQ_CTRL_MODE_REQ = false)) ∧
      (phase = 1 → master → helloCompat s x = true → x.digest ≠ pkgDigest s → Does (.hello h x) s (fun t => t.pair.taking = true ∧
        t.pair.pend = s.pair.pend)) ∧
      (phase = 1 → master → helloCompat s x = false → Does (.hello h x) s (fun t => t.rd PAR_COPP PAR_COPP_PHASE = 0 ∧
        t.on PAR_EVT PAR_EVT_COMPAT = true ∧ (s.role ∈ [Role.alone, .solo, .standby] → requested .isolated none t))) ∧
      (∀ l, phase ≠ 1 → s.role.master = true → ¬ master → s.chgState ≠ 5 → s.freeMode = false → laneOf s = some l →
        Does (.hello h x) s (fun t => t.pair.source = true ∧ (s.role = .active → requested .solo none t) ∧
          ∃ rest, t.out = s.out ++ .lane l (hdrNow s) (.hello (helloNow s)) :: rest))) ∧
    (s.role = .booting → Does .helloPeriod s (Sent (.hello (helloNow s)) s)) ∧
    (s.role ≠ .booting → Does .helloPeriod s (fun t => t = s)) ∧
    (waited → Does .joinWaitExpiry s (fun t => t = { s with pair := { s.pair with pend := some ⟨roleCode .alone, some 1⟩ } })) ∧
    (¬ waited → Does .joinWaitExpiry s (fun t => t = s)) ∧
    (h.crcOk = true → ¬ own →
      (s.role.master = true → Does (.time h tm) s (OnlyRegsPmc [] s)) ∧
      (s.role = .syncing → s.pair.timeSet = false → 0 ≤ masterNow s tm → masterNow s tm < 2 ^ 48 * 1000000000 → Does (.time h tm) s (fun t =>
        (t.nowNs : Int) = masterNow s tm ∧ t.clk.trel = s.clk.trel ∧ t.clk.mono = s.clk.mono ∧ t.rd TIM_SRC TIM_SRC_SRC = 3 ∧
        t.pair = { s.pair with time := some tm, timeSet := true })) ∧
      (s.role.master = false → s.role ≠ .syncing ∨ s.pair.timeSet = true → s.rd TIM_SRC TIM_SRC_SRC ≠ 3 →
        Does (.time h tm) s (OnlyRegsPmc [] s)) ∧
      (s.role.master = false → s.role ≠ .syncing ∨ s.pair.timeSet = true → s.rd TIM_SRC TIM_SRC_SRC = 3 →
        (d.natAbs ≤ 1000 → 0 ≤ masterNow s tm → masterNow s tm < 2 ^ 48 * 1000000000 → Does (.time h tm) s (fun t =>
          (t.nowNs : Int) = masterNow s tm ∧
          OnlyRegsPmc [] { s with pair := { s.pair with time := some tm }, clk := { s.clk with sec := t.clk.sec, ns := t.clk.ns } } t)) ∧
        (1000 < d.natAbs → Does (.time h tm) s
          (OnlyRegsPmc [] { s with pair := { s.pair with time := some tm }, clk := { s.clk with stepHeld := some d } })))) ∧
    (s.role ≠ .booting → Does (.go m) s (refused 1)) ∧
    (s.role = .booting → Does (.go m) s (fun t => t.pair.go = true)) ∧
    (s.role ≠ .standby → Does (.resync m) s (refused 1)) ∧
    (s.role = .standby → phase = 0 → Does (.resync m) s (fun t => ∃ u, OnlyRegs [PAR_COPP] s u ∧ u.rd PAR_COPP PAR_COPP_PHASE = 1 ∧
      Sent (.hello (helloNow s)) u t)) ∧
    (s.role = .syncing → phase = 4 → Does .coppiceBulkDone s (fun t => t.rd PAR_COPP PAR_COPP_PHASE = 5 ∧
      OnlyRegs [PAR_COPP] { s with pair := { s.pair with coppTicks := 0 } } t)) ∧
    (s.role ≠ .syncing ∨ phase ≠ 4 → Does .coppiceBulkDone s (fun t => t = s)) ∧
    (late → s.rd PAR_COPP PAR_COPP_FAILS + 1 < 3 → Does .coppiceTimeout s (fun t => t.rd PAR_COPP PAR_COPP_PHASE = 4 ∧
      t.rd PAR_COPP PAR_COPP_FAILS = s.rd PAR_COPP PAR_COPP_FAILS + 1 ∧ t.on PAR_EVT PAR_EVT_COPP_FAIL = true ∧
      OnlyRegsEvr [PAR_COPP, PAR_EVT] { s with pair := t.pair } t)) ∧
    (late → 3 ≤ s.rd PAR_COPP PAR_COPP_FAILS + 1 → Does .coppiceTimeout s (fun t => t.role = .faulted)) ∧
    (¬ late → Does .coppiceTimeout s (fun t => t = s))

/-- Commands of PAR_CMD (10 R261, R271, R279, R286): each is refused with its code or takes the effect named; a swap is accepted for the tick 16 ticks
ahead, is withdrawn by SWAP_CANCEL, and is decided by the tick master 8 ticks before it; a module with a Grove in RESYNC commits none (06 R173). -/
def Obligations.PairCommands : Prop :=
  ∀ (m : Master) (force : Bool) (s : State),
    let requested (r : Role) (t : State) : Prop := t = { s with pair := { s.pair with pend := some ⟨roleCode r, none⟩ } }
    let refused (code : Nat) (t : State) : Prop := OnlyRegs [PAR_CMDSTAT] s t ∧ t.on PAR_CMDSTAT PAR_CMDSTAT_REJ = true ∧
      t.rd PAR_CMDSTAT PAR_CMDSTAT_CODE = code
    let paired : Prop := ((s.role = .active ∧ s.prole = .standby) ∨ (s.role = .standby ∧ s.prole = .active)) ∧
      s.on HB_STATUS HB_STATUS_PATH_L = true
    let last := s.seq.tick + 16
    let busy : Prop := coppBusy s = true ∨ (∃ a, s.armed = some a ∧ s.seq.tick ≤ a.tick ∧ a.tick ≤ last) ∨
      (s.chgState = 5 ∧ s.seq.tick ≤ s.rd64 CHG_APPLY_LO CHG_APPLY_HI ∧ s.rd64 CHG_APPLY_LO CHG_APPLY_HI ≤ last)
    let committed : Prop := s.on PAR_CMDSTAT PAR_CMDSTAT_SWAP_COMMIT = true
    let withdrawn (t : State) : Prop := t.pair = { s.pair with swap := none } ∧ t.on PAR_CMDSTAT PAR_CMDSTAT_SWAP_PEND = false ∧
      t.on PAR_CMDSTAT PAR_CMDSTAT_SWAP_COMMIT = false ∧ t.on PAR_EVT PAR_EVT_SWAP_ABORT = true ∧
      OnlyRegsEvr [PAR_CMDSTAT, PAR_EVT] { s with pair := t.pair } t
    let mayStop : Prop := s.role ∈ [Role.alone, .active, .solo, .standby, .isolated]
    let mayMaint : Prop := s.role ∈ [Role.booting, .standby, .syncing, .isolated, .stopped] ∨ (force = true ∧ s.role ∈ [Role.alone, .solo])
    let resync : Prop := ∃ g, g < 8 ∧ s.on (GRV_STATUS g) GRV_STATUS_RESYNC = true
    (¬ paired → Does (.swap m) s (refused 2)) ∧
    (paired → busy → Does (.swap m) s (refused 3)) ∧
    (paired → ¬ busy → s.pair.matchRun < 16 → Does (.swap m) s (refused 4)) ∧
    (paired → ¬ busy → 16 ≤ s.pair.matchRun → s.pair.swap ≠ none → Does (.swap m) s (refused 3)) ∧
    (paired → ¬ busy → 16 ≤ s.pair.matchRun → s.pair.swap = none → Does (.swap m) s (fun t =>
      t.on PAR_CMDSTAT PAR_CMDSTAT_SWAP_PEND = true ∧ t.rd64 PAR_SWAP_LO PAR_SWAP_HI = last % 2 ^ 64 ∧
      OnlyRegs [PAR_CMDSTAT, PAR_SWAP_LO, PAR_SWAP_HI] { s with pair := { s.pair with swap := some ⟨last, false, true⟩ } } t)) ∧
    (committed ∨ s.pair.swap = none → Does (.swapCancel m) s (fun t => t = s)) ∧
    (¬ committed → s.pair.swap ≠ none → Does (.swapCancel m) s withdrawn) ∧
    (∀ w, s.pair.swap = some w → s.role = .active → w.tick ≤ s.seq.tick + 8 → ¬ committed →
      (w.conf = true → w.matched = true → ¬ resync → Does .swapCommit s (fun t => OnlyRegs [PAR_CMDSTAT] s t ∧
        t.on PAR_CMDSTAT PAR_CMDSTAT_SWAP_COMMIT = true)) ∧
      (w.conf = false ∨ w.matched = false ∨ resync → Does .swapCommit s withdrawn)) ∧
    (s.pair.swap = none ∨ s.role ≠ .active ∨ committed → Does .swapCommit s (fun t => t = s)) ∧
    (mayStop → Does (.stop m) s (fun t => t = { s with pair := { s.pair with stopReq := true } })) ∧
    (¬ mayStop → Does (.stop m) s (refused 1)) ∧
    (s.role ≠ .stopped ∨ roleOf s.pair.before = .syncing → Does (.restart m) s (refused 1)) ∧
    (s.role = .stopped → roleOf s.pair.before ≠ .syncing →
      (resync → Does (.restart m) s (refused 3)) ∧
      (¬ resync → anyPath s = true → s.prole = .stopped → Does (.restart m) s (fun t => t = { s with pair := { s.pair with restartReq := true } })) ∧
      (¬ resync → anyPath s = false ∨ s.prole ≠ .stopped → Does (.restart m) s (requested (roleOf s.pair.before)))) ∧
    (mayMaint → Does (.maint m force) s (fun t => t.pair.pend = some ⟨roleCode .maintenance, none⟩ ∧
      OnlyRegsPmc [] { s with pair := { s.pair with pend := t.pair.pend, msgid := t.pair.msgid }, out := t.out } t ∧
      (s.on HB_STATUS HB_STATUS_PATH_H = true → ∃ o b, t.out = s.out ++ o ++ [.line true b] ∧ b.pos = s.on PAR_STATUS PAR_STATUS_POS) ∧
      (s.on HB_STATUS HB_STATUS_PATH_L = true → ∀ l, laneOf s = some l → ∃ b o, t.out = s.out ++ .lane l (hdrNow s) (.leave b) :: o))) ∧
    (¬ mayMaint → Does (.maint m force) s (refused 1))

/-- The tick's exchange at the receiver (10 R274 to R279, R281, R282; 05 R132): each message is taken once, in the tick it belongs to, by a module
that computes in locked mode; equal digests end the agreement with nothing changed, its records are written with DISAGREED, and its end without the
partner is NOAGREE; a mismatch of the two OUTDIGs is counted and breaks the run of matching ticks; REPAIR_REQ is kept for the tick master's answer,
LINES complete a repair, its lines written where the gate admits the transfer engine (07 R184), FORCE arms or cancels an apply. The messages are taken
whole: one fragment each (10 R264). -/
def Obligations.PairExchange : Prop :=
  ∀ (h : Hdr) (dg : InDig) (l : List SigRec) (od : OutDig) (rq : RepairReq) (tick : BitVec 64) (cp : List (Nat × Word)) (s : State),
    let ours : Prop := h.tickLo = BitVec.ofNat 32 s.seq.tick ∧ computes s = true ∧ s.freeMode = false ∧ s.pair.inDone = false
    let requested (r : Role) (t : State) : Prop := t.pair.pend = some ⟨roleCode r, none⟩
    let differ (a : OutDig) : Prop := a.tick ≠ od.tick ∨ (∃ e, e < 64 ∧ a.esd.getD e 0#32 ≠ od.esd.getD e 0#32) ∨
      (∃ k, k < 24 ∧ a.ringDig.getD k 0#32 ≠ od.ringDig.getD k 0#32) ∨ a.cfgGen ≠ od.cfgGen ∨ a.frcGen ≠ od.frcGen ∨ a.agreeInc = true ∨
      od.agreeInc = true
    let taken : Prop := s.freeMode = false ∧ s.pair.parOut = none ∧ s.clk.trel < s.rd (PAR_OUTEND s.bank) PAR_OUTEND_END * 100
    (s.rd (PAR_INEND s.bank) PAR_INEND_END * 100 ≤ s.clk.trel → s.pair.ownIn ≠ none → s.pair.inDone = false →
      Does .inendExpiry s (fun t => t.pair.inDone = true ∧
        (s.pair.parIn = none → t.pair.noagree = true ∧ t.on PAR_EVT PAR_EVT_NOAGREE = true) ∧
        (s.pair.parIn ≠ none → t.pair.agreeInc = true ∧ t.on PAR_EVT PAR_EVT_AGREE_INC = true ∧ t.image = s.image))) ∧
    (s.clk.trel < s.rd (PAR_INEND s.bank) PAR_INEND_END * 100 ∨ ((s.pair.ownIn = none ∨ s.pair.inDone = true) ∧ s.pair.laneQ = []) →
      Does .inendExpiry s (fun t => t = s)) ∧
    (h.crcOk = true → h.frag = 0#15 → h.more = false → h.pos ≠ s.on PAR_STATUS PAR_STATUS_POS →
      (¬ ours ∨ dg.tick.toNat ≠ s.seq.tick ∨ s.pair.parIn ≠ none → Does (.inagreeDig h dg) s (OnlyRegsPmc [] s)) ∧
      (ours → dg.tick.toNat = s.seq.tick → s.pair.parIn = none →
        (s.pair.ownIn = none → Does (.inagreeDig h dg) s (OnlyRegsPmc [] { s with pair := { s.pair with parIn := some dg } })) ∧
        (∀ a, s.pair.ownIn = some a → a.sections = dg.sections → a.lmask = 0#32 → dg.lmask = 0#32 → Does (.inagreeDig h dg) s (fun t =>
          OnlyRegsPmc [] { s with pair := { s.pair with parIn := some dg, inDone := true } } t))) ∧
      (¬ ours ∨ s.pair.ownIn = none ∨ s.pair.parIn = none ∨ s.pair.inData = true → Does (.inagreeData h l) s (OnlyRegsPmc [] s)) ∧
      (ours → s.pair.ownIn ≠ none → s.pair.parIn ≠ none → s.pair.inData = false → (l.map SigRec.sig).Nodup →
        Does (.inagreeData h l) s (fun t => t.pair.inData = true ∧ t.pair.inDone = true ∧ (∀ r ∈ l,
          (t.entry 0 r.sig.toNat).value = r.entry.truncate 32 ∧ (t.entry 0 r.sig.toNat).status = (r.entry >>> 32).truncate 8 ||| 0x40#8) ∧
          ∀ c i, i ≤ 131071 → c ≠ 0 ∨ (∀ r ∈ l, r.sig.toNat ≠ i) → t.entry c i = s.entry c i)) ∧
      (¬ taken → Does (.outdig h od) s (OnlyRegsPmc [] s)) ∧
      (taken → Does (.outdig h od) s (fun t => t.pair.parOut = some od ∧ t.rd PAR_STATUS PAR_STATUS_PROLE = od.role.toNat ∧
        t.rd PAR_EPOCH PAR_EPOCH_PEPOCH = h.epoch.toNat ∧
        (s.pair.ownOut = none → t.pair.mismatch = s.pair.mismatch ∧ t.pair.matchRun = s.pair.matchRun) ∧
        (∀ a, s.pair.ownOut = some a → differ a → t.pair.mismatch = true ∧ t.pair.matchRun = 0 ∧ t.on PAR_EVT PAR_EVT_MISMATCH = true ∧
          t.rd PAR_MIS_CNT PAR_MIS_CNT_COUNT = min (2 ^ 32 - 1) (s.rd PAR_MIS_CNT PAR_MIS_CNT_COUNT + 1)) ∧
        (∀ a, s.pair.ownOut = some a → ¬ differ a → t.pair.mismatch = s.pair.mismatch ∧ t.pair.matchRun = s.pair.matchRun + 1) ∧
        (s.role = .active → od.accept = true → requested .standby t) ∧
        (s.role = .alone ∨ s.role = .solo → od.joinOk = true → requested .active t))) ∧
      (s.role.master = true → rq.tick.toNat = s.seq.tick → Does (.repairReq h rq) s
        (OnlyRegsPmc [] { s with pair := { s.pair with reqFrom := some rq } })) ∧
      (s.role.master = false ∨ rq.tick.toNat ≠ s.seq.tick → Does (.repairReq h rq) s (OnlyRegsPmc [] s)) ∧
      (s.role ≠ .standby → s.role ≠ .syncing → (∀ g, g < 8 → s.phase g ≠ 5 ∧ s.phase g ≠ 6) → ∀ rs, Does (.lines h rs) s (OnlyRegsPmc [] s)) ∧
      (∀ r g a data, s.role = .standby → s.pair.repair = some r → r.done = false → (∀ g, g < 8 → s.phase g ≠ 5 ∧ s.phase g ≠ 6) →
        g < 8 → a.toNat % 64 = 0 → 0x0100000000 + g * 0x01000000 ≤ a.toNat → a.toNat < 0x0100000000 + g * 0x01000000 + 0x400000 → data.length = 64 →
        admitted s .write (mattrXfer s 0x47 2) (a.toNat + s.rd (GRV_STATUS g) GRV_STATUS_CBANK * 0x400000) 64 = true →
        Does (.lines h [⟨a, 0, data⟩]) s (fun t => t.pair.repair = some { r with done := true } ∧ t.on PAR_EVT PAR_EVT_REPAIR = true ∧
          t.bytes (a.toNat + s.rd (GRV_STATUS g) GRV_STATUS_CBANK * 0x400000) 64 = data ∧
          ∀ b, (b < a.toNat + s.rd (GRV_STATUS g) GRV_STATUS_CBANK * 0x400000 ∨ a.toNat + s.rd (GRV_STATUS g) GRV_STATUS_CBANK * 0x400000 + 64 ≤ b) →
            t.byte b = s.byte b)) ∧
      (∀ a, tick = 0#64 → s.armed = some a → s.seq.tick < a.tick → Does (.force h tick cp) s (fun t => t.armed = none ∧
        OnlyRegsPmc [FRC_STATUS] { s with armed := none } t ∧ t.on FRC_STATUS FRC_STATUS_PEND = false)) ∧
      (tick = 0#64 → s.armed = none → Does (.force h tick cp) s (OnlyRegsPmc [] s)) ∧
      (tick ≠ 0#64 → s.rd PAR_COPP PAR_COPP_PHASE = 0 → Does (.force h tick cp) s (fun t =>
        OnlyRegsPmc [FRC_STATUS] { s with armed := some ⟨tick.toNat, cp, false, s.seq.tick⟩ } t ∧ t.on FRC_STATUS FRC_STATUS_PEND = true)) ∧
      (tick ≠ 0#64 → s.rd PAR_COPP PAR_COPP_PHASE ≠ 0 → tick.toNat ≤ h.tickLo.toNat → (∀ e ∈ cp, e.1 < 0x10000) →
        Does (.force h tick cp) s (fun t => t.armed = none ∧ t.frcGen = (s.frcGen + 1) % 65536 ∧ ∀ n, n < 4096 →
          t.on (FRCA_CTL n) FRCA_CTL_VALID = (bitsOf (amGet (fun _ => 0#32) cp (16 * n)) FRCS_CTL_VALID == 1))))

/-! ### Configuration and online change (11) -/

/-- Staging (11 R296 to R299, R316): a package is refused, fails with the code of the first check that it does not pass, or goes through STAGING,
COPYING and STAGED, and nothing of the Canopy set changes, the load check being shown in TSQ_CHK (03 R53); what the transfer engine may not read or
write fails staging with code 15 (07 R184); the transfer map carries values over; a saved package stands in the slot that was not
PKG_SLOT; DISCARD empties the Understory; the partner's result fails a set that is not its own. -/
def Obligations.StagingResults : Prop :=
  ∀ (m : Master) (h : Hdr) (pk : List Byte) (q : List (Nat × Nat)) (dig : BitVec 384) (chk : Word) (sv : Bool) (s : State),
    let failed (code detail : Nat) (t : State) : Prop := t.chgState = 6 ∧ t.mem = s.mem ∧ t.chg.canopy = s.chg.canopy ∧
      t.rget CHG_CHK = BitVec.ofNat 32 (2 ^ 31 + code * 2 ^ 24 + detail) ∧ t.on CHG_EVT CHG_EVT_FAILED = true
    let runs (c : Instr) (pk : List Byte) : Prop :=
      (∀ i, formatBad pk = some i → Does c s (failed 1 i)) ∧
      (formatBad pk = none → pkgSigned s pk = false → Does c s (failed 2 0)) ∧
      (formatBad pk = none → pkgSigned s pk = true → BitVec.ofNat 384 (le pk 16 48) ≠ pkgDigest s → Does c s (failed 3 0)) ∧
      (formatBad pk = none → pkgSigned s pk = true → BitVec.ofNat 384 (le pk 16 48) = pkgDigest s → Does c s (fun t =>
        t.chgState = 2 ∧ t.chg.staged = pk ∧ t.chg.saving = true ∧ t.chg.canopy = s.chg.canopy ∧ t.bank = s.bank ∧
        ∀ i, i < 4096 → t.rget (TSQ_PROG s.bank i) = s.rget (TSQ_PROG s.bank i)))
    let may : Prop := s.chgState = 0 ∨ s.chgState = 6
    let inDram := teRead (chgAcc s) (s.rd64 CHG_PKG_LO CHG_PKG_HI) (s.rget CHG_PKG_LEN).toNat
    let checked := stagingCheck s s.chg.staged (placeSet s s.chg.staged).2
    let clean (t : State) : Prop := ∀ g, g < 8 → (t.grove g).dirty = []
    let slot := 1 - recPkg (stateRec s)
    let none_ (c : Instr) : Prop := Does c s (fun t => t = s)
    let skip (c : Instr) : Prop := Does c s (OnlyRegsPmc [] s)
    let load := stagedCheck s s.chg.staged
    let shown (t : State) : Prop := t.rd TSQ_CHK TSQ_CHK_CODE = load.1 % 16 ∧ t.on TSQ_CHK TSQ_CHK_PASS = (load.1 == 0)
    let placed := placeBanks (showCheck s load) s.chg.staged
    let copied := tmPass false s
    (s.freeMode = true ∨ ¬ may ∨ s.role ∉ [Role.alone, .active, .solo] → Does (.stage m) s (fun t => OnlyRegs [CHG_STATE] s t ∧
      t.rd CHG_STATE CHG_STATE_CMDREJ = 1 ∧ t.chgState = s.chgState)) ∧
    (s.freeMode = false → may → s.role ∈ [Role.alone, .active, .solo] →
      (∀ pk u, inDram = (.ok pk, u) → runs (.stage m) pk) ∧ (∀ c u, inDram = (.error c, u) → Does (.stage m) s (failed 15 0))) ∧
    (s.chgState ≠ 2 ∨ groveStarts s = true → none_ .stagingCheckDone) ∧
    (s.chgState = 2 → groveStarts s = false →
      (∀ code d, checked.1 = some (code, d) → code < 32 → d < 2 ^ 20 → Does .stagingCheckDone s (fun t => failed code d t ∧ shown t)) ∧
      (checked.1 = none → placed.2 = false → Does .stagingCheckDone s (fun t => t.chgState = 6 ∧ t.rd CHG_CHK CHG_CHK_CODE = 15 ∧ shown t)) ∧
      (checked.1 = none → placed.2 = true → Does .stagingCheckDone s (fun t => shown t ∧ t.chgState = 3 ∧ t.chg = s.chg ∧ clean t ∧ t.on CHG_CHK CHG_CHK_PASS = true ∧
        t.on CHG_CHK CHG_CHK_DONE = true ∧ t.rd CHG_CHK CHG_CHK_CODE = 0 ∧ t.on CHG_EVT CHG_EVT_CHECKED = true ∧
        (checked.2 ≠ none → t.on CHG_EVT CHG_EVT_BUDGET_WARN = true) ∧
        (pkgSecD s.chg.staged 3 = [] → ∀ g off, g < 8 → off < 0x400000 → t.byte (bankAddr s true g off) = 0#8 ∧ t.byte (bankAddr s false g off) = s.byte (bankAddr s false g off))))) ∧
    (s.chgState ≠ 3 ∨ s.chg.teDown = true → none_ .tmapPassDone) ∧
    (s.chgState = 3 → s.chg.teDown = false →
      (copied.2 = true → copied.1.chgState = 3 → Does .tmapPassDone s (fun t => t.chgState = 4 ∧ t.on CHG_PROG CHG_PROG_PASS_DONE = true ∧
        t.on CHG_EVT CHG_EVT_STAGED = true ∧ (∀ g n, g < 8 → n ∈ (t.grove g).dirty → tmReads (pkgTmap s.chg.staged) g n = false) ∧
        t.chg = copied.1.chg)) ∧
      (copied.2 = false → copied.1.chgState = 3 → Does .tmapPassDone s (fun t => t.chgState = 6 ∧ t.rd CHG_CHK CHG_CHK_CODE = 15)) ∧
      (∀ r, pkgTmap s.chg.staged = [r] → r.kind = 0 → tmServes s r = true →
        let a := bankAddr s true (tmGrove r.dst) (tmOff r.dst)
        let o := bankAddr s false (tmGrove r.src) (tmOff r.src)
        (∀ b, o ≤ b + 7 → b < o + r.count → s.eccAt b = none) →
        (∀ p ∈ pieces o r.count, admitted s .read (teXfer s) p.1 p.2 = true ∧
          ∀ x ∈ pieces (a + (p.1 - o)) p.2, admitted s .write (teXfer s) x.1 x.2 = true) → Does .tmapPassDone s (fun t =>
          t.bytes a r.count = s.bytes o r.count ∧
          ∀ b, b < a ∨ a + r.count ≤ b → t.byte b = s.byte b))) ∧
    (s.chg.saving = false ∨ s.boot.write ≠ none → none_ .saveComplete) ∧
    (s.chg.saving = true → s.boot.write = none →
      let pk := if s.chg.joinSave then s.chg.canopy else s.chg.staged
      pk.length ≤ 67104768 → Does .saveComplete s (fun t => t.chg.joinSave = false ∧ slotMark t 5 slot = true ∧
        slotBytes t 5 slot 4096 pk.length = pk ∧ (∀ n, n ≤ 0x4000000 → slotBytes t 5 (1 - slot) 0 n = slotBytes s 5 (1 - slot) 0 n) ∧
        (s.chg.joinSave = false → t.chg.saving = false ∧ t.on CHG_PROG CHG_PROG_SAVED = true ∧ recPkg (stateRec t) = 1 - slot) ∧
        (s.chg.joinSave = true → recPkg (stateRec t) = slot ∧ t.chg.staged = s.chg.staged ∧
          t.chg.saving = (decide (2 ≤ s.chgState ∧ s.chgState ≤ 5) && !s.on CHG_PROG CHG_PROG_SAVED)))) ∧
    (s.chgState = 0 → Does (.discard m) s (fun t => OnlyRegs [CHG_STATE] s t ∧ t.chgState = 0 ∧ t.rd CHG_STATE CHG_STATE_CMDREJ = 0)) ∧
    (s.chgState ≠ 0 → Does (.discard m) s (fun t => t.chgState = 0 ∧ t.chg.staged = [] ∧ t.chg.canopy = s.chg.canopy ∧ t.mem = s.mem ∧
      t.on CHG_PROG CHG_PROG_SAVED = false ∧ t.on CHG_PROG CHG_PROG_PASS_DONE = false)) ∧
    (h.crcOk = true → h.frag = 0#15 → h.more = false → h.pos ≠ s.on PAR_STATUS PAR_STATUS_POS →
      (s.pair.taking = false → s.role = .standby → may → runs (.stagePkg h pk q) pk) ∧
      (s.pair.taking = false → s.role ≠ .standby ∨ ¬ may → skip (.stagePkg h pk q)) ∧
      (∀ x, s.pair.taking = true → s.pair.helloDue = false → s.pair.hello = some x → x.digest = sha pk → pkgSigned s pk = true → Does (.stagePkg h pk q) s (fun t =>
        t.chg.canopy = pk ∧ t.chg.quotas = q ∧ t.chg.saving = true ∧ t.chg.joinSave = true ∧ t.chg.staged = s.chg.staged ∧ t.pair.taking = false ∧ ∃ e, t.pair.pend = some ⟨roleCode .syncing, e⟩)) ∧
      (∀ x, s.pair.taking = true → s.pair.hello = some x → x.digest ≠ sha pk ∨ pkgSigned s pk = false → Does (.stagePkg h pk q) s (fun t =>
        t.chg = s.chg ∧ t.pair.taking = false ∧ t.rd PAR_COPP PAR_COPP_PHASE = 0 ∧ t.on PAR_EVT PAR_EVT_COMPAT = true)) ∧
      (s.chgState = 0 ∨ s.chgState = 6 → skip (.stageResult h dig chk sv)) ∧
      (¬ may → dig ≠ sha s.chg.staged ∨ chk.getLsbD 30 = false → Does (.stageResult h dig chk sv) s (failed 18 (chk.toNat / 2 ^ 24 % 32))) ∧
      (¬ may → dig = sha s.chg.staged → chk.getLsbD 30 = true → Does (.stageResult h dig chk sv) s
        (OnlyRegsPmc [] { s with chg := { s.chg with result := some (dig, chk, sv) } })) ∧
      (dig ≠ sha s.chg.staged → skip (.stageDiscard h dig)) ∧
      (dig = sha s.chg.staged → Does (.stageDiscard h dig) s (fun t => t.chgState = 0 ∧ t.chg.canopy = s.chg.canopy ∧ t.mem = s.mem ∧
        (s.chgState ≠ 0 → t.chg.staged = []))))

/-- Announcement, vote and apply (11 R308, R309, R310, R312, R316): ANNOUNCE is refused with its code or sets T; the announcement is withdrawn or
given up with its reason, its messages waiting for the end of an exchange window (10 R266); the decision of a Clearing toggles every bank at once, counts a postponement, or changes nothing. -/
def Obligations.AnnouncementResults : Prop :=
  ∀ (m : Master) (h : Hdr) (tk : BitVec 64) (dig : BitVec 384) (s : State),
    let T := s.rd64 CHG_APPLY_LO CHG_APPLY_HI
    let refused (code : Nat) : Prop := Does (.announce m) s (fun t => OnlyRegs [CHG_STATE] s t ∧ t.rd CHG_STATE CHG_STATE_CMDREJ = code ∧
      t.chgState = s.chgState)
    let passed : Prop := ∃ r, s.chg.result = some r ∧ r.1 = sha s.chg.staged ∧ r.2.1.getLsbD 30 = true
    let saved : Prop := s.on CHG_PROG CHG_PROG_SAVED = true ∧ (inPair s = true → ∃ r, s.chg.result = some r ∧ r.2.2 = true)
    let busy : Prop := s.pair.swap ≠ none ∨ coppBusy s = true
    let sent (x : LaneMsg) (t : State) : Prop :=
      (inExchange s = false → t.out = s.out ++ laneOut s x) ∧
      (inExchange s = true → laneOf s ≠ none → t.out = s.out ∧ t.pair.laneQ = s.pair.laneQ ++ [x])
    let skip (c : Instr) : Prop := Does c s (OnlyRegsPmc [] s)
    let gaveUp (why : Nat) (t : State) : Prop := t.chgState = 4 ∧ t.rd CHG_STATE CHG_STATE_ABANDON = why ∧
      t.on CHG_EVT CHG_EVT_ABANDONED = true ∧ t.chg = s.chg ∧ t.mem = s.mem
    let none_ (c : Instr) : Prop := Does c s (fun t => t = s)
    let unheard : Prop := s.chgState = 5 ∧ s.role = .active ∧ s.chg.ack = false ∧ T ≤ s.seq.tick + 8
    let late : Prop := s.chgState = 5 ∧ T + s.rd CHG_CFG CHG_CFG_RETRY < s.seq.tick
    (s.role.master = false → refused 1) ∧
    (s.role.master = true →
      (s.chgState ≠ 4 → refused 2) ∧
      (s.chgState = 4 → inPair s = true → ¬ passed → refused 3) ∧
      (s.chgState = 4 → (inPair s = true → passed) →
        (¬ saved → refused 4) ∧
        (saved → T < s.seq.tick + 16 → refused 5) ∧
        (saved → s.seq.tick + 16 ≤ T → busy → refused 6) ∧
        (saved → s.seq.tick + 16 ≤ T → ¬ busy → orphanBlocks s = true → Does (.announce m) s (fun t => t.chgState = 6 ∧
          t.rd CHG_CHK CHG_CHK_CODE = 13 ∧ t.on CHG_CHK CHG_CHK_PASS = false ∧ t.rd CHG_STATE CHG_STATE_CMDREJ = 0)) ∧
        (saved → s.seq.tick + 16 ≤ T → ¬ busy → orphanBlocks s = false → Does (.announce m) s (fun t => t.chgState = 5 ∧
          t.rd CHG_STATE CHG_STATE_CMDREJ = 0 ∧ t.rd CHG_STATE CHG_STATE_TRIES = 0 ∧ t.chg = { s.chg with ack := false, lastNo := 0 } ∧
          t.rd64 CHG_APPLY_LO CHG_APPLY_HI = T ∧ sent (.stage (.announce (BitVec.ofNat 64 T) (sha s.chg.staged))) t)))) ∧
    (s.chgState = 5 → s.seq.tick + 8 ≤ T → Does (.withdraw m) s (fun t => gaveUp 5 t ∧ t.rd CHG_STATE CHG_STATE_CMDREJ = 0 ∧
      sent (.stage (.withdraw (sha s.chg.staged))) t)) ∧
    (s.chgState ≠ 5 ∨ T < s.seq.tick + 8 → Does (.withdraw m) s (fun t => OnlyRegs [CHG_STATE] s t ∧ t.chgState = s.chgState)) ∧
    (unheard → Does .announceNoack s (fun t => gaveUp 3 t ∧ sent (.stage (.withdraw (sha s.chg.staged))) t)) ∧
    (¬ unheard → none_ .announceNoack) ∧
    (late → Does .applyAbandon s (fun t => ∃ why, gaveUp why t ∧ (s.chg.lastNo = 0 → why = 2) ∧ (s.chg.lastNo ≠ 0 → why = s.chg.lastNo % 16))) ∧
    (¬ late → none_ .applyAbandon) ∧
    (h.crcOk = true → h.pos ≠ s.on PAR_STATUS PAR_STATUS_POS →
      (s.chgState = 4 → dig = sha s.chg.staged → Does (.stageAnnounce h tk dig) s (fun t => t.chgState = 5 ∧
        t.rd64 CHG_APPLY_LO CHG_APPLY_HI = tk.toNat ∧ sent (.stage (.ack tk dig)) t)) ∧
      (s.chgState ≠ 4 ∨ dig ≠ sha s.chg.staged → skip (.stageAnnounce h tk dig)) ∧
      (s.chgState = 5 → dig = sha s.chg.staged → tk.toNat = T → Does (.stageAck h tk dig) s
        (OnlyRegsPmc [] { s with chg := { s.chg with ack := true } })) ∧
      (s.chgState ≠ 5 ∨ dig ≠ sha s.chg.staged ∨ tk.toNat ≠ T → skip (.stageAck h tk dig)) ∧
      (s.chgState = 5 → dig = sha s.chg.staged → Does (.stageWithdraw h dig) s (gaveUp 5)) ∧
      (s.chgState ≠ 5 ∨ dig ≠ sha s.chg.staged → skip (.stageWithdraw h dig))) ∧
    (let t := chgClear s
     (applyNow s = true → (tmPass true (if pkgRelease s.chg.staged then dropOrphans s else s)).1.chgState = 5 → t.chgState = 0 ∧ t.bank = 1 - s.bank ∧
       t.rd IMG_STATUS IMG_STATUS_DBANK = 1 - s.rd IMG_STATUS IMG_STATUS_DBANK ∧
       (∀ g, g < 45 → t.rd (GATE_STATUS g) GATE_STATUS_TBANK = 1 - s.rd (GATE_STATUS g) GATE_STATUS_TBANK) ∧
       (∀ g, g < 8 → t.rd (GRV_STATUS g) GRV_STATUS_CBANK = 1 - s.rd (GRV_STATUS g) GRV_STATUS_CBANK) ∧
       t.rd CHG_GEN CHG_GEN_CFG_GEN = (s.rd CHG_GEN CHG_GEN_CFG_GEN + 1) % 65536 ∧ t.chg.canopy = s.chg.staged ∧ t.chg.staged = [] ∧
       t.on CHG_EVT CHG_EVT_APPLIED = true ∧ (∀ c, c < 16 → (t.act c).live = false)) ∧
     (applyNow s = false → applyTick s = true → OnlyRegsEvr [CHG_STATE, CHG_EVT] s t ∧ t.chgState = 5 ∧
       t.rd CHG_STATE CHG_STATE_TRIES = min 255 (s.rd CHG_STATE CHG_STATE_TRIES + 1) ∧ t.on CHG_EVT CHG_EVT_POSTPONED = true) ∧
     (applyTick s = false → t = s))

/-! ### Rings (08, 09) -/

/-- Frames at a node (08 R206, R207, R211, R212, R214, R221, R222, R223; 09 R246, R248, R252). A port that does not take part receives nothing. A
module counts a bad frame by the first check that it fails and takes nothing from it. A good frame of another node goes on unchanged but for its hop
count, as its port sends it; an IN frame is counted by what keeps it out, or its signals are written; a station takes an OUT frame of its epoch once;
a DYN message is delivered once; a sync frame of the tick master arms a station; CLAIM and CEDE decide the contest; a THRU frame is worked on at its
first passage, and its IN data is accepted once, in the segment of its tick. -/
def Obligations.RingFrames : Prop :=
  ∀ (k : Fin 24) (pos : Fin 64) (port : Bool) (f : Frame) (start : Nat) (own : Int) (s : State),
    let inC := Instr.inFrame k port f start
    let cnt (i : Nat) (t : State) : Prop :=
      t.rd (VGX_CNT k (if port then 1 else 0) i) VGX_CNT_COUNT = min (2 ^ 32 - 1) (s.rd (VGX_CNT k (if port then 1 else 0) i) VGX_CNT_COUNT + 1)
    let bad (i : Nat) : Prop := Does inC s (fun t => cnt i t ∧ t.image = s.image ∧ t.ring k = s.ring k)
    let out_ (i : Nat) (c : Instr) : Prop := Does c s (fun t => cnt i t ∧ t.image = s.image ∧ (t.ring k).acc = (s.ring k).acc ∧
      (t.ring k).thruAcc = (s.ring k).thruAcc)
    let atStn := RNode.station pos
    let heard (n : RNode) : Prop := receives s k n port = true ∧ headerBad f = false ∧ crcGood f = true
    let st := s.stn k pos
    let none_ (c : Instr) : Prop := Does c s (fun t => t = s)
    let box (n : RNode) (t : State) : DynBox := match n with
      | .module => (t.ring k).box
      | .station i => (t.stn k i).box
    let theirs : Prop := f.src = false ∧ f.pos ≠ s.posB
    (receives s k .module port = false →
      none_ inC ∧ none_ (.claim k port f) ∧ none_ (.cede k port f) ∧ none_ (.syncFrame k .module port f own) ∧ none_ (.thruFrame k .module port f)) ∧
    (receives s k atStn port = false → none_ (.outFrame k pos port f start) ∧ none_ (.syncFrame k atStn port f own) ∧
      none_ (.thruFrame k atStn port f)) ∧
    (∀ n, receives s k n port = false → none_ (.dynFrame k n port f)) ∧
    (receives s k .module port = true →
      (rbErr f = true → bad 3) ∧ (rbErr f = false → typeErr f = true → bad 5) ∧ (headerBad f = false → f.fin ≠ .t → bad 1) ∧
      (headerBad f = false → f.fin = .t → f.crc ≠ frameCrc f → bad 0)) ∧
    (heard .module → modPortState s k port = 2 → modLoop s k port = false →
      (modLoop s k (!port) = false → f.typ ≠ T_SYNC → f.typ ≠ T_PROBE → f.hops ≠ 127#7 → f.src = true ∨ f.pos ≠ s.posB →
        Does inC s (fun t => t.out = s.out ++ portSends s k .module (!port) (withRbc { f with hops := f.hops + 1 }))) ∧
      (f.typ = T_IN →
        let found := (s.ring k).sched.bind fun c => (slotOf c f.slot.toNat false).map fun x => (c, x)
        (found = none → out_ 5 inC) ∧
        ∀ c x, found = some (c, x) →
          let named : Prop := f.ring.toNat = k ∧ f.src = true ∧ f.prod.toNat = x.owner ∧ f.len.toNat = x.len
          let placed : Prop := f.seq = seqNow s ∧ inWindow (inCentre s k port c x) c.w start = true
          let inTime : Prop := s.seq.agree = false ∧ start * 80 + wireU x.len < inEnd s k
          let first : Prop := ∀ e ∈ (s.ring k).acc, e.1 ≠ x.num
          (¬ named → out_ 5 inC) ∧ (named → f.seq ≠ seqNow s → out_ 7 inC) ∧
          (named → f.seq = seqNow s → inWindow (inCentre s k port c x) c.w start = false → out_ 6 inC) ∧ (named → placed → ¬ inTime → out_ 7 inC) ∧
          (named → placed → inTime → ¬ first → out_ 8 inC) ∧
          (∀ y, named → placed → inTime → first → inputCopy s = some y → x.sigs.Nodup → (∀ i ∈ x.sigs, i < 131072) →
            (∀ i ∈ x.sigs, ∃ g tg, gateDecide s .write (mattrXfer s (0x50 + k) 3) (0x0200000000 + y * 0x100000 + 8 * i) 8 = .allow g tg) →
            Does inC s (fun t => (t.ring k).acc = (s.ring k).acc ++ [(x.num, f.crc)] ∧
              (∀ e ∈ x.sigs.zip (unpackSigs (sigBools s x.sigs) f.payload), (t.entry y e.1).value = e.2.1 ∧ (t.entry y e.1).status = e.2.2 ∧
                (t.entry y e.1).upd = some s.seq.tick) ∧
              ∀ i, i < 131072 → i ∉ x.sigs → t.entry y i = s.entry y i)))) ∧
    (heard .module → modLoop s k port = false →
      let d := (s.rd PAR_EPOCH PAR_EPOCH_EPOCH + 65536 - f.epoch.toNat) % 65536
      let wins : Prop := if d = 0 ∨ d = 0x8000 then s.posB = false else d < 0x8000
      let claim : Prop := f.typ = T_TOKEN ∧ theirs ∧ tokenKind f.payload = 0 ∧ ringPhase s k = 1
      let cede : Prop := f.typ = T_TOKEN ∧ theirs ∧ tokenKind f.payload = 1 ∧ ringPhase s k = 1
      (claim → wins → Does (.claim k port f) s (fun t => (t.ring k).claims = 0 ∧ ringPhase t k = 1 ∧ (t.ring k).cede = (s.ring k).cede)) ∧
      (claim → ¬ wins → Does (.claim k port f) s (fun t => (t.ring k).cede = true ∧ ringPhase t k = 0 ∧
        t.on (VGX_RMODE k) VGX_RMODE_CEDED = true ∧ t.on (VGX_EVT k) VGX_EVT_CONTEST_LOST = true)) ∧
      let idle (t : State) : Prop := (∃ cl, t.ring k = { s.ring k with closed := cl }) ∧ ringPhase t k = ringPhase s k ∧
        t.on (VGX_RMODE k) VGX_RMODE_CEDED = s.on (VGX_RMODE k) VGX_RMODE_CEDED
      (¬ claim → Does (.claim k port f) s idle) ∧
      (cede → Does (.cede k port f) s (fun t => ringPhase t k = 2 ∧ (t.ring k).phTicks = 0)) ∧
      (¬ cede → Does (.cede k port f) s idle)) ∧
    (heard .module → f.typ = T_SYNC →
      (f.src = false → f.pos = s.posB → Does (.syncFrame k .module port f own) s (fun t =>
        (t.ring k).closed = (!f.loop && !modLoop s k false && !modLoop s k true) ∧
        (t.ring k).ownH = (syncOf f.payload).corr + linkDly (portOf s k .module port))) ∧
      (theirs → (syncOf f.payload).master = true → Does (.syncFrame k .module port f own) s (fun t =>
        (t.ring k).parSync = some s.seq.tick))) ∧
    (heard .module → modLoop s k port = false → f.typ = T_THRU → f.pos = s.posB → ringPhase s k = 3 →
      Does (.thruFrame k .module port f) s (fun t => (t.ring k).mCnt = f.hops.toNat - 1)) ∧
    (∀ c, heard .module → modLoop s k port = false → f.typ = T_THRU → f.pos ≠ s.posB → (s.ring k).sched = some c →
      (dgramsOf 4096 f.payload).any dgServed = true →
      let inTime : Prop := f.seq = seqNow s ∧ s.seq.agree = false ∧ nowU s < inEnd s k
      (f.ring.toNat ≠ k → out_ 5 (.thruFrame k .module port f)) ∧
      (f.ring.toNat = k → ¬ inTime → out_ 7 (.thruFrame k .module port f)) ∧
      (∀ d, f.ring.toNat = k → inTime → dgramsOf 4096 f.payload = [d] → (∃ e ∈ (s.ring k).thruAcc, e.1 = d.addr.toNat) →
        out_ 8 (.thruFrame k .module port f)) ∧
      (∀ d, f.ring.toNat = k → inTime → dgramsOf 4096 f.payload = [d] → (∀ e ∈ (s.ring k).thruAcc, e.1 ≠ d.addr.toNat) →
        Does (.thruFrame k .module port f) s (fun t => (t.ring k).thruAcc = (s.ring k).thruAcc ++ [(d.addr.toNat, crc32 d.data)]))) ∧
    (∀ n, heard n → looped s k n port = false → f.typ = T_DYN → dstNames s k n f = true →
      let m := dynOf f.payload
      let seen : Prop := ∃ u, (m.src.toNat, m.tid.toNat, m.frag.toNat, u) ∈ (box n s).seen ∧ s.seq.tick < u + 256
      (seen → Does (.dynFrame k n port f) s (fun t => (box n t).inbox = (box n s).inbox)) ∧
      (¬ seen → Does (.dynFrame k n port f) s (fun t => (box n t).inbox = (box n s).inbox ++ [m]))) ∧
    (heard atStn → looped s k atStn port = false → f.typ = T_OUT → f.ring.toNat = k → f.dst.toNat = st.number →
      ∀ e, st.outs.find? (fun e => e.num == f.slot.toNat) = some e →
        let inW := inWindow ((if f.pos then e.tb else e.ta) * 80) (st.cfg 8 2 150) start
        let d := (f.epoch - BitVec.ofNat 16 st.epoch).toInt
        let ofEpoch : Prop := st.epochValid = true ∧ (d = 0 ∨ d = 1)
        let old : Prop := (st.slot e.num).have_ = true ∧ (f.seq - (st.slot e.num).lastSeq).toInt ≤ 0
        (inW = false → Does (.outFrame k pos port f start) s (fun t =>
          t.stn k pos = { st with wincnt := min (2 ^ 32 - 1) (st.wincnt + 1) })) ∧
        (inW = true → ¬ ofEpoch → Does (.outFrame k pos port f start) s (fun t =>
          t.stn k pos = { st with epcnt := min (2 ^ 32 - 1) (st.epcnt + 1) })) ∧
        (inW = true → ofEpoch → old → Does (.outFrame k pos port f start) s (fun t =>
          t.stn k pos = { st with dupcnt := min (2 ^ 32 - 1) (st.dupcnt + 1) })) ∧
        (inW = true → ofEpoch → ¬ old → Does (.outFrame k pos port f start) s (fun t =>
          ((t.stn k pos).slot e.num).pend = f.payload ∧ ((t.stn k pos).slot e.num).lastSeq = f.seq ∧ ((t.stn k pos).slot e.num).fresh = true ∧
          (t.stn k pos).epoch = (if d = 1 then f.epoch.toNat else st.epoch) ∧ ((t.stn k pos).slot e.num).out = (st.slot e.num).out))) ∧
    (heard atStn → f.typ = T_SYNC →
      let y := syncOf f.payload
      let tx := y.iiSec * 1000000000 + y.iiNs
      let sent : Int := (tx : Int) - (BitVec.ofNat 32 tx - BitVec.ofNat 32 y.tx).toInt
      let arr : Int := sent + ((y.corr + linkDly (if port then st.portB else st.portA)) / 16 : Nat)
      let next : Prop := (∀ n, st.tick = some n → f.seq = n + 1#32) ∧ arr < tx
      (¬ next → Does (.syncFrame k atStn port f own) s (fun t => (t.stn k pos).took = st.took ∧ (t.stn k pos).slave = st.slave ∧
        (t.stn k pos).epoch = st.epoch)) ∧
      (next → y.master = true → st.took = none → Does (.syncFrame k atStn port f own) s (fun t =>
        (t.stn k pos).took = some ⟨f.seq, f.epoch.toNat, y.schedId, y.thru, y.hold, own - arr, y.tickLen⟩ ∧ (t.stn k pos).err = own - arr ∧
        (t.stn k pos).epoch = f.epoch.toNat ∧ (t.stn k pos).epochValid = true)) ∧
      (next → y.master = false → st.slave = none → Does (.syncFrame k atStn port f own) s (fun t => (t.stn k pos).took = st.took ∧
        (t.stn k pos).slave = some ⟨f.seq, f.epoch.toNat, y.schedId, y.thru, y.hold, own - arr, y.tickLen⟩))) ∧
    (heard atStn → f.typ = T_THRU → f.src = false → f.hops ≠ 127#7 → looped s k atStn port = false → looped s k atStn (!port) = false →
      let seen := if f.pos then st.thruB else st.thruA
      (seen = some f.seq → Does (.thruFrame k atStn port f) s (fun t => t.stn k pos = st ∧
        ∃ g, t.out = s.out ++ portSends s k atStn (!port) g ∧ g.payload = f.payload ∧ g.hops = f.hops + 1 ∧ crcGood g = true)) ∧
      (∀ d, seen ≠ some f.seq → f.payload = dgramBytes d → d.cmd = 1#8 → d.addr.toNat = st.number → st.number ≠ 0xFE → st.listen = false →
        Does (.thruFrame k atStn port f) s (fun t => (if f.pos then (t.stn k pos).thruB else (t.stn k pos).thruA) = some f.seq ∧
          ∃ g, t.out = s.out ++ portSends s k atStn (!port) g ∧ crcGood g = true ∧ rbErr g = false ∧ g.hops = f.hops + 1 ∧
            g.payload = dgramBytes { d with rstn := BitVec.ofNat 8 st.number, res := 1#8 }))) ∧
    (looped s k atStn port = true → none_ (.thruFrame k atStn port f))

/-- Datagrams, DYN services, probes and DYN sending (08 R214, R217 to R219; 09 R233, R240, R243): an addressed station answers with its number and a
result, another leaves the datagram as it is; each station serves the oldest request of a service with one answer of its transaction, put together from its fragments where it has
several; answers reach the requester; a probe is answered with its T1, and an answer gives the link delay; the oldest message goes out, a long one in
fragments. -/
def Obligations.RingServices : Prop :=
  ∀ (k : Fin 24) (pos : Fin 64) (port : Bool) (n : RNode) (epoch : BitVec 16) (seq stamp : Word) (lp : Bool) (hops : BitVec 7) (tid : BitVec 16)
    (d : Dgram) (f : Frame) (s : State),
    let st := s.stn k pos
    let nr := BitVec.ofNat 8 st.number
    let only (P : Station → Prop) (o : List Out) (t : State) : Prop := P (t.stn k pos) ∧ t = { s with stations := t.stations, out := s.out ++ o } ∧
      ∀ (j : Fin 24) (i : Fin 64), (j, i) ≠ (k, pos) → t.stn j i = s.stn j i
    let same (e : Dgram) : State → Prop := only (fun x => x = st) [.dgram k pos e]
    let here : Prop := d.addr.toNat = st.number ∧ st.number ≠ 0xFE
    let a1 := (d.data.getD 0 0#8).toNat
    let given : Prop := lp = false ∧ d.addr.toNat = hops.toNat + 1 ∧ ((1 ≤ a1 ∧ a1 ≤ 63) ∨ a1 = 0xFE)
    let o := leVal (d.data.take 4)
    let len := d.data.length - 4
    let got := stnRead k pos st o len
    let box (t : State) : DynBox := match n with
      | .module => (t.ring k).box
      | .station i => (t.stn k i).box
    let port_ (t : State) : PortSt := portOf t k n port
    let good : Prop := receives s k n port = true ∧ headerBad f = false ∧ crcGood f = true ∧ f.typ = T_PROBE
    -- a message is there whole: one frame, or its fragments in order from 0 on, of one sender, transaction and service
    let whole (want : Dyn → Prop) (box rest : List Dyn) (r : Dyn) : Prop :=
      (box = r :: rest ∧ want r ∧ r.frag = 0 ∧ r.more = false) ∨
      (∃ a b, box = a :: b :: rest ∧ want a ∧ a.frag = 0 ∧ a.more = true ∧ b.src = a.src ∧ b.tid = a.tid ∧ b.svc = a.svc ∧ b.frag = 1 ∧ b.more = false ∧
        r = { a with data := a.data ++ b.data, more := false })
    let serves (c : Instr) (svc : Byte) : Prop :=
      (∀ r rest, whole (fun d => d.svc = svc) st.box.inbox rest r → Does c s (fun t => (t.stn k pos).box.inbox = rest ∧
        (∃ a, (t.stn k pos).box.outbox = st.box.outbox ++ [(r.src, a)] ∧ a.tid = r.tid ∧ a.src = nr ∧ (a.svc = 5#8 ∨ a.svc = 6#8)) ∧
        t.regs = s.regs ∧ t.mem = s.mem ∧ ∀ (j : Fin 24) (i : Fin 64), (j, i) ≠ (k, pos) → t.stn j i = s.stn j i)) ∧
      ((∀ r ∈ st.box.inbox, r.svc = svc → r.frag ≠ 0) → Does c s (fun t => t.stn k pos = st))
    let answers (c : Instr) (svc : Byte) : Prop :=
      (∀ r rest, whole (fun d => d.svc = svc ∧ d.tid = tid) (box s).inbox rest r → tid.toNat ∈ (box s).asked → Does c s (fun t =>
        (box t).answers = (box s).answers ++ [r] ∧ (box t).inbox = rest ∧ (box t).asked = (box s).asked.erase tid.toNat)) ∧
      (∀ r rest, whole (fun d => d.svc = svc ∧ d.tid = tid) (box s).inbox rest r → tid.toNat ∉ (box s).asked → Does c s (fun t =>
        (box t).answers = (box s).answers ∧ (box t).inbox = rest)) ∧
      ((∀ r ∈ (box s).inbox, r.svc = svc → r.frag = 0 → r.tid ≠ tid) → Does c s (fun t => box t = box s))
    let sends (p : Frame → Prop) (c : Instr) : Prop := Does c s (fun t => ∃ g, t.out = s.out ++ portSends s k n port g ∧ g.typ = T_PROBE ∧
      crcGood g = true ∧ p g)
    (here → st.listen = false → Does (.datagramOut k pos epoch seq d) s
      (only (fun x => x.number = st.number ∧ x.latched = st.latched ∧
        (st.tick ≠ some seq → x = { st with wincnt := min (2 ^ 32 - 1) (st.wincnt + 1) })) [.dgram k pos { d with rstn := nr, res := 1#8 }])) ∧
    (¬ here ∨ st.listen = true → Does (.datagramOut k pos epoch seq d) s (same d) ∧ Does (.datagramIn k pos d) s (same d)) ∧
    (here → st.listen = false → Does (.datagramIn k pos d) s (fun t => ∃ e, same e t ∧ e.cmd = d.cmd ∧ e.addr = d.addr ∧ e.rstn = nr ∧
      e.data.length = d.data.length ∧ (e.res = 1#8 ∨ e.res = 3#8))) ∧
    (given → Does (.assign k pos lp hops d) s (only (fun x => x = { st with number := a1 })
      [.dgram k pos { d with rstn := BitVec.ofNat 8 a1, res := 1#8 }])) ∧
    (¬ given → Does (.assign k pos lp hops d) s (same d)) ∧
    (¬ here → Does (.regrd k pos d) s (same d) ∧ Does (.regwr k pos d) s (same d)) ∧
    (here → got.length = len → 0 < len → Does (.regrd k pos d) s (only (fun x => x.number = st.number ∧ x.ssr = st.ssr ∧
        x.wincnt = if o < 0x2C ∧ 0x28 < o + len then 0 else st.wincnt)
      [.dgram k pos { d with rstn := nr, res := 1#8, data := d.data.take 4 ++ got }])) ∧
    (here → got = [] → 0 < len → Does (.regrd k pos d) s (fun t => ∃ e, only (fun x => x = st) [.dgram k pos e] t ∧ e.res = 2#8 ∧ e.data = d.data)) ∧
    (here → stnWritable st o len = true → Does (.regwr k pos d) s (only (fun x => (∀ i, i < len → stnReg k pos x (o + i) = (d.data.drop 4)[i]?) ∧
        (∀ b, 0x1000 ≤ b → b < o ∨ o + len ≤ b → stnReg k pos x b = stnReg k pos st b)) [.dgram k pos { d with rstn := nr, res := 1#8 }])) ∧
    (here → stnWritable st o len = false → Does (.regwr k pos d) s (same { d with rstn := nr, res := 2#8 })) ∧
    serves (.parameterRead k pos) 1#8 ∧ serves (.parameterWrite k pos) 2#8 ∧ serves (.diagnosticRead k pos) 3#8 ∧
    serves (.fileSegment k pos) 4#8 ∧ answers (.response k n tid) 5#8 ∧ answers (.errorResponse k n tid) 6#8 ∧
    (receives s k n port = false → Does (.probeRequest k n port stamp none) s (fun t => t = s) ∧
      Does (.probeRequest k n port stamp (some f)) s (fun t => t = s) ∧ Does (.probeResponse k n port stamp f) s (fun t => t = s)) ∧
    (probeDue s k n = false → Does (.probeRequest k n port stamp none) s (fun t => t = s)) ∧
    (receives s k n port = true → probeDue s k n = true →
      sends (fun g => g.payload.length = 16 ∧ g.payload.take 4 = [0#8, 0#8, 0#8, 0#8]) (.probeRequest k n port stamp none)) ∧
    (good → f.payload.getD 0 0#8 = 0#8 →
      sends (fun g => g.payload.take 8 = [1#8, 0#8, 0#8, 0#8] ++ (f.payload.drop 4).take 4) (.probeRequest k n port stamp (some f))) ∧
    (good → f.payload.getD 0 0#8 = 1#8 → Does (.probeResponse k n port stamp f) s (fun t =>
      ∃ dly, (port_ t).dly = ((port_ s).dly ++ [dly]).drop ((port_ s).dly.length - 3) ∧
        ∀ w : Nat → Word, (∀ j, w j = BitVec.ofNat 32 (leVal ((f.payload.drop j).take 4))) →
          dly = ((((if n = .module then BitVec.ofNat 32 s.short.toNat else stamp) - w 4).toInt - (w 12 - w 8).toInt) * 8).toNat)) ∧
    (∀ c dst m, (s.ring k).sched = some c → (s.ring k).box.outbox = [(dst, m)] → s.on (VGX_RMODE k) VGX_RMODE_CEDED = false →
      modLoop s k false = false → 8 + m.data.length ≤ c.dynMax → Does (.dynSend k .module none) s (fun t => (t.ring k).box.outbox = [] ∧
        ∃ g, t.out = s.out ++ portSends s k .module false g ∧ g.typ = T_DYN ∧ g.dst = dst ∧ crcGood g = true ∧
          g.payload = dynBytes { m with src := if s.posB then 0x41#8 else 0x40#8 })) ∧
    (∀ c dst m, (s.ring k).sched = some c → (s.ring k).box.outbox = [(dst, m)] → s.on (VGX_RMODE k) VGX_RMODE_CEDED = false →
      modLoop s k false = false → 8 < c.dynMax → c.dynMax < 8 + m.data.length → Does (.dynSend k .module none) s (fun t =>
        (t.ring k).box.outbox = [(dst, { m with data := m.data.drop (c.dynMax - 8), frag := m.frag + 1 })] ∧
        ∃ g, t.out = s.out ++ portSends s k .module false g ∧ g.typ = T_DYN ∧ g.dst = dst ∧ crcGood g = true ∧
          g.payload = dynBytes { m with src := if s.posB then 0x41#8 else 0x40#8, data := m.data.take (c.dynMax - 8), more := true })) ∧
    (∀ dst m, st.sends = true → st.box.outbox = [(dst, m)] → 8 + m.data.length ≤ st.cfg 26 2 8 → (∀ p, looped s k (.station pos) p = true) →
      Does (.dynSend k (.station pos) none) s (fun t => (t.stn k pos).box.outbox = [] ∧ t.out = s.out)) ∧
    ((s.ring k).sched = none ∨ s.on (VGX_RMODE k) VGX_RMODE_CEDED = true → ∀ w, Does (.dynSend k .module w) s (fun t => t = s)) ∧
    (∀ w, st.sends = false → Does (.dynSend k (.station pos) w) s (fun t => t = s))

/-- Links, sends, start-up and stations in time (08 R203, R210, R223 to R228; 09 R235, R236, R239, R240, R247 to R251, R255 to R257): a failed link
loops its port, which ends what it was sending, and a counted clean reception announces readiness; what an action point sends, what keeps it from
sending, and which frame has the line; the end of an input segment
makes missing inputs STALE; a station's input instant applies what is fresh and counts what is not; comms loss, listen-only, lost stations; START and
the phases of the start-up. -/
def Obligations.RingControl : Prop :=
  ∀ (m : Master) (k : Fin 24) (pos : Fin 64) (port : Bool) (slot : BitVec 10) (left inSeg : Bool) (start : Nat)
    (inp : List (Nat × List Byte)) (n : Fin 64) (s : State),
    let st := s.stn k pos
    let r := s.ring k
    let node := RNode.station pos
    let none_ (c : Instr) : Prop := Does c s (fun t => t = s)
    let stnIs (c : Instr) (P : Station → Prop) : Prop := Does c s (fun t => P (t.stn k pos) ∧ t = { s with stations := t.stations } ∧
      ∀ (j : Fin 24) (i : Fin 64), (j, i) ≠ (k, pos) → t.stn j i = s.stn j i)
    let rxOf (x : Station) : PortRx := if port then x.rxB else x.rxA
    let portOf_ (x : Station) : PortSt := if port then x.portB else x.portA
    let phase := ringPhase s k
    let free : Prop := s.on (VGX_RMODE k) VGX_RMODE_CEDED = false
    -- links
    (∀ why, why = .sig ∨ why = .sync ∨ why = .fault → receives s k .module port = true → Does (.linkFailure k .module port why) s (fun t =>
      modLoop t k port = true ∧ (t.ring k).closed = false ∧ modLoop t k (!port) = modLoop s k (!port) ∧
      (why = .fault → t.on (VGX_LINK k) (modRx port).1 = true ∧ t.on (VGX_LINK k) (modRx port).2.1 = true ∧
        t.on (VGX_LINK k) (modRx port).2.2.1 = true) ∧
      (why = .sig → t.on (VGX_LINK k) (modRx port).1 = false ∧ t.on (VGX_LINK k) (modRx port).2.1 = false ∧ sendsFault t k .module port = true) ∧
      t.out = s.out ++ (if modLoop s k port = false ∧ (lineNow s k .module port).isSome then [.frameEnd k .module port] else []))) ∧
    (receives s k .module port = true → Does (.linkFailure k .module port .code) s (fun t => modLoop t k port = modLoop s k port ∧
      (portOf t k .module port).clean = 0 ∧ (portOf t k .module port).kTx = false ∧
      t.rd (VGX_CNT k (if port then 1 else 0) 2) VGX_CNT_COUNT = min (2 ^ 32 - 1) (s.rd (VGX_CNT k (if port then 1 else 0) 2) VGX_CNT_COUNT + 1))) ∧
    (∀ why, why = .disabled ∨ receives s k .module port = false → Does (.linkFailure k .module port why) s (fun t =>
      modLoop t k port = modLoop s k port ∧ t.ring k = r)) ∧
    (∀ why, Does (.linkFailure k node port why) s (fun t => (why ≠ .code → (rxOf (t.stn k pos)).loop = true) ∧ (portOf_ (t.stn k pos)).clean = 0 ∧
      (why = .code → (rxOf (t.stn k pos)) = rxOf st) ∧
      t = { s with stations := t.stations, lines := t.lines, out := s.out ++
        (if (rxOf (t.stn k pos)).loop = true ∧ (rxOf st).loop = false ∧ (lineNow s k node port).isSome then [.frameEnd k node port] else []) } ∧
      ∀ (j : Fin 24) (i : Fin 64), (j, i) ≠ (k, pos) → t.stn j i = s.stn j i)) ∧
    (∀ rx, receives s k .module port = false → none_ (.linkSyncGained k .module port rx)) ∧
    (∀ rx, rx ≠ .fault → receives s k .module port = true → Does (.linkSyncGained k .module port rx) s (fun t => modLoop t k port = modLoop s k port ∧
      ((s.on (VGX_LINK k) (modRx port).2.1 = false ∨ s.on (VGX_LINK k) (modRx port).2.2.1 = true) → (portOf t k .module port).clean = 0) ∧
      t.on (VGX_LINK k) (modRx port).1 = true ∧ t.on (VGX_LINK k) (modRx port).2.1 = true)) ∧
    (∀ rx, stnIs (.linkSyncGained k node port rx) (fun x => (rxOf x).sig = true ∧ (rxOf x).sync = true ∧ ((rxOf x).f = true ↔ rx = .fault) ∧
      ((rxOf x).k = true ↔ rx = .ready) ∧ (rx = .fault → (rxOf x).loop = true))) ∧
    (let ready : Prop := modLoop s k port = true ∧ (modPortState s k port = 1 ∨ modPortState s k port = 2) ∧
        s.on (VGX_LINK k) (modRx port).1 = true ∧ s.on (VGX_LINK k) (modRx port).2.1 = true ∧ s.on (VGX_LINK k) (modRx port).2.2.1 = false ∧
        s.on (VGX_CFG k) (if port then VGX_CFG_FLOOP_P else VGX_CFG_FLOOP_S) = false ∧
        s.rd (VGX_CFG k) VGX_CFG_CLOSE_HOLD ≤ (portOf s k .module port).clean
     (ready → Does (.closeHoldReached k .module port) s (fun t => (portOf t k .module port).kTx = true ∧ t.regs = s.regs)) ∧
     (¬ ready → none_ (.closeHoldReached k .module port))) ∧
    ((rxOf st).loop = true → (rxOf st).sig = true → (rxOf st).sync = true → (rxOf st).f = false → (rxOf st).off = false →
      st.hold ≤ (portOf_ st).clean → stnIs (.closeHoldReached k node port) (fun x => (portOf_ x).kTx = true ∧ (rxOf x).loop = true)) ∧
    -- sending
    (let may : Prop := ringThru s k = false ∧ s.seq.gate ≠ .closed ∧ free
     (¬ may → none_ (.outSlotSend k slot)) ∧
     (∀ c, may → r.sched = some c → slotOf c slot.toNat true = none → none_ (.outSlotSend k slot)) ∧
     (∀ c x, may → r.sched = some c → slotOf c slot.toNat true = some x → modLoop s k false = false → s.seq.gate = .safe →
       Does (.outSlotSend k slot) s (fun t => ∃ g, t.out = s.out ++ portSends s k .module false g ∧ g.typ = T_OUT ∧ g.slot = BitVec.ofNat 10 x.num ∧
         g.seq = seqNow s ∧ g.dst = BitVec.ofNat 8 x.owner ∧ crcGood g = true ∧ g.payload = outPayloadView s x ∧ t.image = s.image ∧
         (portSends s k .module false g = [] → t = s)))) ∧
    (ringThru s k = false ∨ ¬ free → none_ (.thruSend k inSeg)) ∧
    (ringThru s k = true → free → 2 ≤ phase → phase ≤ 7 → modLoop s k false = false → Does (.thruSend k inSeg) s (fun t =>
      ∃ g, t.out = s.out ++ portSends s k .module false g ∧ g.typ = T_THRU ∧ crcGood g = true ∧ g.hops = 0 ∧
        g.payload = thruBytes (startupDgrams s k phase r.phTicks inSeg))) ∧
    (∀ c, ringThru s k = true → phase < 2 ∨ 7 < phase → r.sched = some c → s.role.master = false → s.on (VGX_RMODE k) VGX_RMODE_HEALED = true →
      (if inSeg then r.thruIn else r.thruOut) = false →
      nowU s < (if inSeg then r.sIn else r.sOut) + leadU c + dMl s k (backplaneOnly s k) → none_ (.thruSend k inSeg)) ∧
    -- a frame with LOOP = 0 takes the line from one with LOOP = 1, and keeps it
    (∀ (nd : RNode) g e b, mayTransmit s k nd port = true → lineNow s k nd port = some (e, b) →
      (b = true → g.loop = false → portSends s k nd port g = [.frameEnd k nd port, .frame k nd port g]) ∧
      (b = false → g.loop = true → portSends s k nd port g = []) ∧ (b = g.loop → portSends s k nd port g = [.frame k nd port g])) ∧
    (st.sends = false ∨ st.static = false → none_ (.inActionPoint k pos slot left start)) ∧
    (∀ e, st.ins.find? (fun e => e.num == slot.toNat) = some e → st.sends = true → st.static = true →
      looped s k node (left == st.swapAB) = false →
      let inW := inWindow ((if left then e.tb else e.ta) * 80) (st.cfg 8 2 150) start
      (inW = false → stnIs (.inActionPoint k pos slot left start) (fun x => x = { st with wincnt := min (2 ^ 32 - 1) (st.wincnt + 1) })) ∧
      (inW = true → Does (.inActionPoint k pos slot left start) s (fun t => t.stn k pos = st ∧
        ∃ g, t.out = s.out ++ portSends s k node (left == st.swapAB) g ∧ g.typ = T_IN ∧ g.slot = slot ∧ crcGood g = true ∧
          g.payload = (amGet (fun _ => []) st.latched e.num ++ List.replicate e.len 0#8).take e.len))) ∧
    -- the end of a segment, lost stations
    (r.inSeg = false → none_ (.inputSegmentEnd k)) ∧
    (∀ c i, r.inSeg = true → s.freeMode = false → r.sched = some c → i < 131072 → Does (.inputSegmentEnd k) s (fun t =>
      (t.ring k).inSeg = false ∧ (t.entry 0 i).value = (s.entry 0 i).value ∧
      ((∀ x ∈ inSlots c, i ∉ x.sigs) → t.entry 0 i = s.entry 0 i) ∧
      ((∃ x ∈ inSlots c, i ∈ x.sigs ∧ ringThru s k = false ∧ ∀ e ∈ r.acc, e.1 ≠ x.num) →
        (t.entry 0 i).status = ((s.entry 0 i).status &&& 0xFC#8) ||| 2#8))) ∧
    (let ended := !r.inSeg && (s.pair.inDone || !inPair s)
     let cnt := amGet (fun _ => 0) r.lost n + (if ended = true ∧ n.val ∉ r.fresh then 1 else 0)
     let gone : Prop := n.val ≠ 0 ∧ ringRuns s k = true ∧ s.rd (VGX_STNCFG k) VGX_STNCFG_LOST_N ≤ cnt ∧
       wbit (s.rd64 (VGX_LOST_LO k) (VGX_LOST_HI k)) n = false ∧ ∃ c, r.sched = some c ∧ ∃ d ∈ c.stations, d.num = n.val
     (gone → Does (.stationLost k n) s (fun t => wbit (t.rd64 (VGX_LOST_LO k) (VGX_LOST_HI k)) n = true ∧
       t.on (VGX_EVT k) VGX_EVT_STN_LOST = true ∧ OnlyRegsEvr [VGX_LOST_LO k, VGX_LOST_HI k, VGX_EVT k] s t)) ∧
     (¬ gone → none_ (.stationLost k n))) ∧
    -- stations in time
    (∀ y, st.took = some y → ssrBank st ≠ none → stnIs (.stationInputInstant k pos inp) (fun x => x.tick = some y.seq ∧ x.took = none ∧
      x.slave = none ∧ x.miss = 0 ∧ x.static = !y.thru ∧ x.schedId = y.schedId)) ∧
    (st.took = none → st.slave = none → ssrBank st = none → stnIs (.stationInputInstant k pos inp) (fun x =>
      x.miss = min 65535 (st.miss + 1) ∧ x.good = 0 ∧ x.misscnt = min (2 ^ 32 - 1) (st.misscnt + 1) ∧
      (st.lastBank = none → x.slots = st.slots) ∧
      ∀ e, st.heldOuts = [e] → (x.slot e.num).miss = (st.slot e.num).miss + 1 ∧ (x.slot e.num).out = (st.slot e.num).out)) ∧
    (∀ e, st.took = none → st.slave = none → st.outs = [e] → stnIs (.stationInputInstant k pos inp) (fun x =>
      ((st.slot e.num).fresh = true → st.listen = false → (x.slot e.num).out = (st.slot e.num).pend ∧ (x.slot e.num).miss = 0 ∧
        x.misscnt = st.misscnt) ∧
      ((st.slot e.num).fresh = false ∨ st.listen = true → (x.slot e.num).out = (st.slot e.num).out ∧
        (x.slot e.num).miss = (st.slot e.num).miss + 1 ∧ x.misscnt = min (2 ^ 32 - 1) (st.misscnt + 1)))) ∧
    (let z := st.slot slot.toNat
     let action := st.bankCfg st.heldBank 4 1 0
     let due : Prop := (∃ e ∈ st.heldOuts, e.num = slot.toNat) ∧ st.bankCfg st.heldBank 3 1 1 ≤ z.miss ∧ z.comms = false
     (due → stnIs (.commsLossAction k pos slot) (fun x => (x.slot slot.toNat).comms = true ∧
       (action = 0 → (x.slot slot.toNat).out = z.out) ∧ (action = 1 → (x.slot slot.toNat).out = Config.stationSafe k pos slot.toNat) ∧
       (2 ≤ action → (x.slot slot.toNat).out = List.replicate z.out.length 0#8))) ∧
     (¬ due → stnIs (.commsLossAction k pos slot) (fun x => x = st))) ∧
    (st.cfg 5 1 4 ≤ st.miss → stnIs (.listenOnly k pos) (fun x => x = { st with listen := true, good := 0 })) ∧
    (st.miss < st.cfg 5 1 4 → stnIs (.listenOnly k pos) (fun x => x = st)) ∧
    (st.listen = true → st.cfg 6 1 3 ≤ st.good → stnIs (.loExit k pos) (fun x => x = { st with listen := false })) ∧
    (st.listen = false ∨ st.good < st.cfg 6 1 3 → stnIs (.loExit k pos) (fun x => x = st)) ∧
    -- start-up
    (phase = 0 → Does (.start m k) s (fun t => ringPhase t k = 1 ∧ (t.ring k).claims = 0)) ∧
    (phase ≠ 0 → none_ (.start m k)) ∧
    (phase = 1 → s.rd (VGX_RCTL k) VGX_RCTL_TOKEN_WAIT ≤ r.claims → Does (.tokenWaitExpiry k) s (fun t => ringPhase t k = 2 ∧
      (t.ring k).phTicks = 0)) ∧
    (phase ≠ 1 ∨ r.claims < s.rd (VGX_RCTL k) VGX_RCTL_TOKEN_WAIT → none_ (.tokenWaitExpiry k)) ∧
    (let goes (ph need ph2 : Nat) (P : State → Prop) : Prop := phase = ph →
        (need ≤ r.phTicks → Does (.startupPhaseEnd k) s (fun t => ringPhase t k = ph2 ∧ (t.ring k).phTicks = 0 ∧ P t)) ∧
        (r.phTicks < need → none_ (.startupPhaseEnd k))
     goes 2 16 3 (fun _ => True) ∧ goes 3 1 4 (fun t => t.rd (VGX_RMODE k) VGX_RMODE_STN_CNT = min 63 r.mCnt) ∧
     goes 4 3 5 (fun t => (t.ring k).order.length = s.rd (VGX_RMODE k) VGX_RMODE_STN_CNT) ∧
     goes 6 ((s.rd (VGX_RMODE k) VGX_RMODE_STN_CNT + 7) / 8) 7 (fun _ => True) ∧ goes 7 1 8 (fun _ => True) ∧
     (phase = 5 → r.phTicks = 0 → none_ (.startupPhaseEnd k)) ∧
     (phase = 5 → 1 ≤ r.phTicks → Does (.startupPhaseEnd k) s (fun t => (t.ring k).phTicks = 0 ∧
       ((measure k s).1 = 0 → ringPhase t k = 6) ∧
       ((measure k s).1 ≠ 0 → ringPhase t k = 8 ∧ t.on (VGX_EVT k) VGX_EVT_FITFAIL = true))) ∧
     (phase < 2 ∨ 8 ≤ phase → none_ (.startupPhaseEnd k)))

/-! ### Plant network and CAN (12) -/

/-- Ports of the plant network (12 R318 to R320, R322 to R325, R327; 02 R43): links, tails, the start of a DMA ring, the fetch, start and end of a
transmission, and reception: each frame is counted by what becomes of it. CAN FD controllers (12 R329, R331 to R334, R336 to R340): requests and
aborts, the selected buffer, what a success, an error and a received frame change, bus-off and the way back. -/
def Obligations.NetworkAndCanResults : Prop :=
  (∀ (m : Master) (n : Fin 4) (r : Fin 16) (q : Fin 8) (v : Word) (l : List Byte) (s : State),
     let none_ (c : Instr) : Prop := Does c s (fun t => t = s)
     let st := s.unitState (.eth n)
     let up : Prop := (st = 1 ∧ (s.unit (enAddr (.eth n))).waiting = false) ∨ st = 2
     let tested := testsDone s (.eth n)
     let link := s.on (ETH_STATUS n) ETH_STATUS_LINK
     let p := s.port n
     let cnt (i : Nat) (t : State) : Prop := t.rd (ETH_CNT n i) ETH_CNT_COUNT = min (2 ^ 32 - 1) (s.rd (ETH_CNT n i) ETH_CNT_COUNT + 1)
     (up → Does (.ethLinkUp n) s (fun t => (tested = true ∨ st = 2 → t.isOn (.eth n) = true) ∧ (tested = false → t.unitState (.eth n) = st) ∧
       t.on (ETH_STATUS n) ETH_STATUS_LINK = true ∧
       (link = false → t.on (ETH_EVT n) ETH_EVT_LINKCHG = true) ∧
       OnlyRegsEvr [enAddr (.eth n), ETH_STATUS n, ETH_EVT n] s t)) ∧
     (¬ up → none_ (.ethLinkUp n)) ∧
     (link = true → Does (.ethLinkDown n) s (fun t => t.on (ETH_STATUS n) ETH_STATUS_LINK = false ∧
       t.on (ETH_EVT n) ETH_EVT_LINKCHG = true ∧ OnlyRegsEvr [ETH_STATUS n, ETH_EVT n] s t)) ∧
     (link = false → none_ (.ethLinkDown n)) ∧
     (v.toNat % 4096 < ringN s n r → Does (.ringTailWrite m n r v) s (fun t => ringTail t n r = v.toNat % 4096 ∧ OnlyRegs [ETH_RING_TAIL n r] s t)) ∧
     (ringN s n r ≤ v.toNat % 4096 → none_ (.ringTailWrite m n r v)) ∧
     (let size := s.rd (ETH_RING_CFG n r) ETH_RING_CFG_SIZE
      let good : Prop := 4 ≤ size ∧ size ≤ 12 ∧ mapOf (ringBase s n r) ≠ none
      let en := enAddr (.ring n r)
      (s.unitState (.ring n r) ≠ 1 → none_ (.dmaRingStarted n r)) ∧
      (s.unitState (.ring n r) = 1 → good → (s.unit en).waiting = false → Does (.dmaRingStarted n r) s (fun t => ringOn t n r = true ∧
        ringHead t n r = 0 ∧ OnlyRegs [en, ETH_RING_HEAD n r] s t)) ∧
      (s.unitState (.ring n r) = 1 → ¬ good → Does (.dmaRingStarted n r) s (fun t => t.on en U_FAIL = true ∧ t.on en U_EN = false ∧
        t.unitState (.ring n r) = 3 ∧ OnlyRegs [en] s t))) ∧
     (let higher : Prop := ∃ x, q.val < x ∧ x < 8 ∧ wantsFetch s n x = true
      let i := ringHead s n q
      let da := ringBase s n q + 32 * i
      (wantsFetch s n q = false ∨ higher → none_ (.txFetch n q)) ∧
      (∀ d t, wantsFetch s n q = true → ¬ higher → dmaRead s (netXfer s n 2) da 32 = (d, none, t) → (d.getD 12 0#8).getLsbD 0 = false →
        Does (.txFetch n q) s (fun u => u.on (ETH_EVT n) ETH_EVT_RINGERR = true ∧ ringOn u n q = false ∧ u.port n = p)) ∧
      (∀ d t b w, wantsFetch s n q = true → ¬ higher → dmaRead s (netXfer s n 2) da 32 = (d, none, t) → (d.getD 12 0#8).getLsbD 0 = true →
        (d.getD 12 0#8).getLsbD 1 = false → (d.getD 12 0#8).getLsbD 3 = false →
        dmaRead t (netXfer t n 2) (leVal (d.take 5)) (leVal ((d.drop 6).take 2)) = (b, none, w) →
        Does (.txFetch n q) s (fun u => u.port n = { p with buf := p.buf ++ [⟨q, i, d, onWire b, none, true, false, 0#32⟩] } ∧ u.mem = s.mem))) ∧
     (∀ f x, p.buf = [f] → f.launch = some x →
       (f.ring = q.val → (x - s.short).toInt ≤ 0 → Does (.launchEligible n q) s (fun t => (t.port n).buf = [{ f with elig := true }] ∧
         t = { s with net := t.net })) ∧
       (f.ring ≠ q.val ∨ 0 < (x - s.short).toInt → Does (.launchEligible n q) s (fun t => (t.port n).buf = [f] ∧ t = { s with net := t.net }))) ∧
     (let may : Prop := s.isOn (.eth n) = true ∧ link = true ∧ s.on (ETH_STATUS n) ETH_STATUS_PAUSED = false ∧ p.medium = none
      (¬ may ∨ txPick s n = none → none_ (.txStart n)) ∧
      (∀ f, may → txPick s n = some f → Does (.txStart n) s (fun t => t = { s with net := t.net } ∧
        (t.port n).medium = some { f with stamp := s.short + BitVec.ofNat 32 (s.rd (PTP_LAT n) PTP_LAT_EGRESS) } ∧
        (t.port n).buf = p.buf.filter (fun g => g.ring != f.ring)))) ∧
     (p.medium = none → none_ (.txDone n)) ∧
     (∀ f, p.medium = some f → Does (.txDone n) s (fun t => t.out = s.out ++ [.eth n f.bytes] ∧ (t.port n).medium = none ∧
       (t.port n).buf = p.buf ∧ cnt 1 t)) ∧
     (let f := l.take (l.length - 4)
      let short : Prop := l.length < 64 ∨ s.rd (ETH_CFG n) ETH_CFG_MAXLEN + (if isTagged f then 4 else 0) < l.length
      let fcs : Prop := leVal (l.drop (l.length - 4)) = (crc32 f).toNat
      let pause : Prop := etherType f = 0x8808 ∧ be f 14 2 = 1 ∧ (be f 0 6 = 0x0180C2000001 ∨ f.take 6 = ownMac s n)
      let ring := 8 + (classify s n f).2
      let kept (t : State) : Prop := t.mem = s.mem ∧ t.port n = p
      (s.isOn (.eth n) = false ∨ link = false → none_ (.rxFrame n l)) ∧
      (s.isOn (.eth n) = true → link = true →
        (short → Does (.rxFrame n l) s (fun t => cnt 3 t ∧ kept t)) ∧
        (¬ short → ¬ fcs → Does (.rxFrame n l) s (fun t => cnt 2 t ∧ kept t)) ∧
        (¬ short → fcs → pause → s.on (ETH_CFG n) ETH_CFG_PAUSE_RX = true → Does (.rxFrame n l) s (fun t => cnt 0 t ∧ cnt 6 t ∧ t.mem = s.mem ∧
          t.on (ETH_STATUS n) ETH_STATUS_PAUSED = decide (be f 16 2 ≠ 0) ∧ (t.port n).buf = p.buf)) ∧
        (¬ short → fcs → ¬ pause → addrPass s n f = false → Does (.rxFrame n l) s (fun t => cnt 0 t ∧ cnt 5 t ∧ kept t)) ∧
        (¬ short → fcs → ¬ pause → addrPass s n f = true → ringOn s n ring = false ∨ ringHead s n ring = ringTail s n ring →
          Does (.rxFrame n l) s (fun t => cnt 0 t ∧ cnt 4 t ∧ kept t ∧ t.on (ETH_EVT n) ETH_EVT_RXDROP = true ∧
            t.rd (ETH_RING_DROP n ring) ETH_RING_DROP_COUNT = min (2 ^ 32 - 1) (s.rd (ETH_RING_DROP n ring) ETH_RING_DROP_COUNT + 1))))) ∧
     (s.on (ETH_STATUS n) ETH_STATUS_PAUSED = false ∨ s.clk.mono < p.pauseEnd → none_ (.pauseExpiry n)) ∧
     (s.on (ETH_STATUS n) ETH_STATUS_PAUSED = true → p.pauseEnd ≤ s.clk.mono → (∀ f ∈ p.buf, f.launch = none) → Does (.pauseExpiry n) s (fun t =>
       t.on (ETH_STATUS n) ETH_STATUS_PAUSED = false ∧ (t.port n).buf = p.buf ∧ OnlyRegs [ETH_STATUS n] { s with net := t.net } t))) ∧
  (∀ (m : Master) (n : Fin 8) (b : Fin 128) (j : Fin 4) (k : CanErr) (inData dominant : Bool) (f : CanFrame) (since v : Word) (s : State),
     let none_ (c : Instr) : Prop := Does c s (fun t => t = s)
     let a := CAN_MB_CTRL n b
     let cs := s.canSt n
     let tec := s.rd (CAN_STATUS n) CAN_STATUS_TEC
     let rec_ := s.rd (CAN_STATUS n) CAN_STATUS_REC
     let live : Prop := s.isOn (.can n) = true ∧ s.rd (CAN_STATUS n) CAN_STATUS_ESTATE ≠ 2
     let receives : Prop := (s.isOn (.can n) = true ∨ s.unitState (.can n) = 3) ∧ s.rd (CAN_STATUS n) CAN_STATUS_ESTATE ≠ 2
     let late := launchLate s (s.rget (CAN_MB_LAUNCH n b)) (s.rd (CAN_CFG n) CAN_CFG_LATE_TOL)
     let ended (x : Fld) (t : State) : Prop := t.on a CAN_MB_CTRL_TXREQ = false ∧ t.on a x = true ∧
       wbit (t.rget (CAN_BEVT n (b.val / 32))).toNat (b.val % 32) = true
     let start := s.unitState (.can n)
     (s.on a CAN_MB_CTRL_TXREQ = true → none_ (.txreq m n b)) ∧
     (s.on a CAN_MB_CTRL_TXREQ = false →
       (s.on a CAN_MB_CTRL_LAUNCH = false ∨ late = false → Does (.txreq m n b) s (fun t => t.on a CAN_MB_CTRL_TXREQ = true ∧
         t.rget (CAN_MB_CNT n b) = 0#32 ∧ OnlyRegs [a, CAN_MB_CNT n b] { s with can := t.can } t)) ∧
       (s.on a CAN_MB_CTRL_LAUNCH = true → late = true → s.on a CAN_MB_CTRL_LATE_DROP = true → Does (.txreq m n b) s (ended CAN_MB_CTRL_LATE)) ∧
       (s.on a CAN_MB_CTRL_LAUNCH = true → late = true → s.on a CAN_MB_CTRL_LATE_DROP = false → Does (.txreq m n b) s (fun t =>
         t.on a CAN_MB_CTRL_TXREQ = true ∧ t.on a CAN_MB_CTRL_LATE = true))) ∧
     (s.on a CAN_MB_CTRL_TXREQ = false → none_ (.txabort m n b)) ∧
     (s.on a CAN_MB_CTRL_TXREQ = true →
       (cs.onBus = some b.val → Does (.txabort m n b) s (fun t => t = { s with can := t.can } ∧ t.canSt n = { cs with abort := true })) ∧
       (cs.onBus ≠ some b.val → Does (.txabort m n b) s (ended CAN_MB_CTRL_ABORTED))) ∧
     (¬ live ∨ s.on (CAN_CFG n) CAN_CFG_LISTEN = true ∨ cs.onBus ≠ none ∨ canWinner s n = none → none_ (.canSelection n)) ∧
     (live → s.on (CAN_CFG n) CAN_CFG_LISTEN = false → cs.onBus = none → canWinner s n = some b.val →
       Does (.canSelection n) s (fun t => t.canSt n = { cs with onBus := some b.val, abort := false } ∧
         t.rd (CAN_MB_CNT n b) CAN_MB_CNT_ATTEMPTS = min 65535 (s.rd (CAN_MB_CNT n b) CAN_MB_CNT_ATTEMPTS + 1) ∧
         OnlyRegs [CAN_MB_CNT n b] { s with can := t.can } t)) ∧
     (canWinner s n = some b.val → canElig s n b = true ∧ ∀ c, c < 128 → canElig s n c = true →
       arbKey s n b < arbKey s n c ∨ (arbKey s n b = arbKey s n c ∧ b.val ≤ c)) ∧
     (cs.onBus = none → none_ (.canTxSuccess ⟨n, since⟩) ∧ none_ (.canTxError n k inData dominant)) ∧
     (cs.onBus = some b.val → s.on (CAN_CFG n) CAN_CFG_LOOPBACK = false → Does (.canTxSuccess ⟨n, since⟩) s (fun t =>
       ended CAN_MB_CTRL_TXOK t ∧ (t.canSt n).onBus = none ∧ t.rget (CAN_MB_STAMP n b) = s.short - since ∧ t.rd (CAN_STATUS n) CAN_STATUS_TEC = tec - 1 ∧
       t.on (CAN_STATUS n) CAN_STATUS_NOACK = false ∧ t.rd (CAN_MB_CNT n b) CAN_MB_CNT_COLL = 0 ∧
       t.out = s.out ++ [.can n { mbFrame s n b with data := canData (mbFrame s n b) }])) ∧
     (cs.onBus = some b.val →
       let grows : Prop := k ≠ .arb ∧ ¬ (k = .ack ∧ s.rd (CAN_STATUS n) CAN_STATUS_ESTATE = 1 ∧ dominant = false)
       let E (P : State → Prop) : Prop := Does (.canTxError n k inData dominant) s (fun t => (t.canSt n).onBus = none ∧ P t)
       (¬ grows → E (fun t => t.rd (CAN_STATUS n) CAN_STATUS_TEC = tec)) ∧
       (grows → tec + 8 ≤ 255 → E (fun t => t.rd (CAN_STATUS n) CAN_STATUS_TEC = tec + 8)) ∧
       (grows → 255 < tec + 8 → E (fun t => t.rd (CAN_STATUS n) CAN_STATUS_ESTATE = 2 ∧ t.on (CAN_STATUS n) CAN_STATUS_BOREC = true ∧
         t.on (CAN_EVT n) CAN_EVT_BUSOFF = true ∧ t.isOn (.can n) = false)) ∧
       (cs.abort = true → E (ended CAN_MB_CTRL_ABORTED)) ∧
       (cs.abort = false → E (fun t => t.on a CAN_MB_CTRL_TXREQ = s.on a CAN_MB_CTRL_TXREQ)) ∧
       (k = .ack → cs.acks = 15 → E (fun t => t.on (CAN_STATUS n) CAN_STATUS_NOACK = true ∧ t.on (CAN_EVT n) CAN_EVT_NO_ACK = true))) ∧
     (¬ receives → none_ (.canRxFrame n f since) ∧ none_ (.canRxError n k dominant)) ∧
     (receives → f.fdf = true → s.on (CAN_CFG n) CAN_CFG_FDE = false → Does (.canRxFrame n f since) s (fun t =>
       t.rd (CAN_STATUS n) CAN_STATUS_REC = min 255 (rec_ + 1) ∧ OnlyRegsEvr [CAN_STATUS n, CAN_CNT n 4, CAN_EVT n] s t)) ∧
     (receives → f.fdf = false ∨ s.on (CAN_CFG n) CAN_CFG_FDE = true → s.on (CAN_LOG_CFG n) CAN_LOG_CFG_LOG_EN = false →
       (canMatch s n f = none → Does (.canRxFrame n f since) s (fun t => (∀ c, c < 128 → t.rget (CAN_MB_CTRL n c) = s.rget (CAN_MB_CTRL n c) ∧
         t.rget (CAN_MB_ID n c) = s.rget (CAN_MB_ID n c)) ∧ (rec_ ≤ 127 → t.rd (CAN_STATUS n) CAN_STATUS_REC = rec_ - 1) ∧
         (127 < rec_ → 119 ≤ t.rd (CAN_STATUS n) CAN_STATUS_REC ∧ t.rd (CAN_STATUS n) CAN_STATUS_REC ≤ 127))) ∧
       (canMatch s n f = some b.val → Does (.canRxFrame n f since) s (fun t => t.on a CAN_MB_CTRL_NEWDAT = true ∧
         wbit (t.rget (CAN_NEWDAT n (b.val / 32))).toNat (b.val % 32) = true ∧ t.rd (CAN_MB_ID n b) CAN_MB_ID_ID = f.id.toNat ∧
         t.rget (CAN_MB_STAMP n b) = s.short - since ∧ t.rd a CAN_MB_CTRL_DLC = f.dlc.toNat ∧ t.on a CAN_MB_CTRL_RTR = f.rtr ∧
         t.on a CAN_MB_CTRL_FDF = f.fdf ∧ t.on a CAN_MB_CTRL_EN = s.on a CAN_MB_CTRL_EN ∧
         (∀ i, i < 16 → t.rget (CAN_MB_DATA n b i) = BitVec.ofNat 32 (leVal (((canData f).drop (4 * i)).take 4))) ∧
         (s.on a CAN_MB_CTRL_NEWDAT = true → t.on a CAN_MB_CTRL_MSGLOST = true ∧ t.on (CAN_EVT n) CAN_EVT_MSGLOST = true)))) ∧
     (receives → Does (.canRxError n k dominant) s (fun t => t.rd (CAN_STATUS n) CAN_STATUS_REC = min 255 (rec_ + if dominant then 8 else 1) ∧
       t.rd (CAN_CNT n (canCntOf k)) CAN_CNT_COUNT = min (2 ^ 32 - 1) (s.rd (CAN_CNT n (canCntOf k)) CAN_CNT_COUNT + 1) ∧
       OnlyRegsEvr [CAN_STATUS n, CAN_CNT n (canCntOf k), CAN_EVT n] s t)) ∧
     Does (.canNewdatClear m n j v) s (fun t => ∀ i, i < 32 →
       (v.getLsbD i = true → t.on (CAN_MB_CTRL n (32 * j + i)) CAN_MB_CTRL_NEWDAT = false ∧ wbit (t.rget (CAN_NEWDAT n j)).toNat i = false) ∧
       (v.getLsbD i = false → t.rget (CAN_MB_CTRL n (32 * j + i)) = s.rget (CAN_MB_CTRL n (32 * j + i)) ∧
         wbit (t.rget (CAN_NEWDAT n j)).toNat i = wbit (s.rget (CAN_NEWDAT n j)).toNat i)) ∧
     (start ≠ 1 → none_ (.canBusoffRecovery n) ∧ none_ (.canIntegration n)) ∧
     (start = 1 → Does (.canBusoffRecovery n) s (fun t => t.on (CAN_STATUS n) CAN_STATUS_BOREC = false ∧
       t.rd (CAN_STATUS n) CAN_STATUS_TEC = 0 ∧ t.rd (CAN_STATUS n) CAN_STATUS_REC = 0 ∧ OnlyRegs [CAN_STATUS n] s t)) ∧
     (start = 1 → (s.unit (enAddr (.can n))).waiting = false → s.on (CAN_STATUS n) CAN_STATUS_BOREC = false → Does (.canIntegration n) s (fun t =>
       (testsDone s (.can n) = true → t.isOn (.can n) = true) ∧ t.rd (CAN_STATUS n) CAN_STATUS_TEC = 0 ∧ t.rd (CAN_STATUS n) CAN_STATUS_REC = 0 ∧
       t.rd (CAN_STATUS n) CAN_STATUS_ESTATE = 0)))

/-! ### Local 24 V channels (13) -/

/-- Local channels and their field supplies (13 R344 to R347, R351 to R359; 14 R373): an edge starts the debounce interval, its end accepts the level,
counts a rising edge and records it; a gate's end gives its edges; terminal faults are shown and stop the driver; supply and group current latch the
drivers off, fail the starts under way, and re-arm them; a read of LIO_SOE_INFO takes the oldest record. -/
def Obligations.LocalChannelResults : Prop :=
  ∀ (m : Master) (c : Fin 32) (g : Fin 2) (level : Bool) (v : BitVec 16) (s : State),
    let none_ (i : Instr) : Prop := Does i s (fun t => t = s)
    let r := s.lioCh c
    let x := s.lioGrp g
    let D := LIO_DIAG c
    let G := LIO_GRP_STAT g
    let lvl := s.on D LIO_DIAG_LEVEL
    let output : Prop := lioOn s c = true ∧ lioMode s c = 3
    let input : Prop := lioOn s c = true ∧ lioMode s c ≠ 3
    let shows (i : Instr) (f : Fld) : Prop := Does i s (fun t => t.on D f = true ∧ (s.on D f = true → t = s) ∧
      (s.on D f = false → t.on LIO_EVT LIO_EVT_DIAG = true ∧ OnlyRegsEvr [D, LIO_EVT] s t))
    let undriven (t : State) : Prop := ∀ i, i < 16 → t.on (LIO_DIAG (16 * g.val + i)) LIO_DIAG_DRIVE = false
    let latched (t : State) : Prop := t.on G LIO_GRP_STAT_LATCH = true ∧ t.on G LIO_GRP_STAT_REARM_OK = false ∧
      t.on LIO_EVT LIO_EVT_LOW = true ∧ undriven t
    -- no re-arm window ends at this instant: one that does has ended before a measurement of the same instant
    let noEnd : Prop := ∀ t0, x.rise = some t0 → s.on G LIO_GRP_STAT_REARM_OK = true ∨ s.clk.mono < t0 + 100000000
    let measured (i : Instr) : Prop := Does i s (fun t => t.rd G LIO_GRP_STAT_VSUP = v.toNat ∧
      (v.toNat < 1800 → t.on G LIO_GRP_STAT_WARN = true) ∧ (1850 ≤ v.toNat → t.on G LIO_GRP_STAT_WARN = false) ∧
      (1800 ≤ v.toNat → v.toNat < 1850 → t.on G LIO_GRP_STAT_WARN = s.on G LIO_GRP_STAT_WARN) ∧
      t.on G LIO_GRP_STAT_LOW = decide (v.toNat < 1500) ∧
      (v.toNat < 1500 → s.on G LIO_GRP_STAT_LOW = false → latched t) ∧
      (noEnd → 1500 ≤ v.toNat ∨ s.on G LIO_GRP_STAT_LOW = true → t.on G LIO_GRP_STAT_LATCH = s.on G LIO_GRP_STAT_LATCH) ∧
      (v.toNat < 1500 → s.on G LIO_GRP_STAT_LOW = false → ∀ i : Fin 32, lioGroup i = g.val → s.unitState (.lio i) = 1 →
        t.on (LIO_EN i) U_FAIL = true ∧ t.on (LIO_EN i) U_EN = false ∧ t.unitState (.lio i) = 3) ∧
      (v.toNat < 1900 → (t.lioGrp g).rise = none) ∧
      (1900 ≤ v.toNat → x.ovl = false → (t.lioGrp g).rise = some (x.rise.getD s.clk.mono)))
    let unlatched (i : Instr) : Prop := Does i s (fun t => t.on G LIO_GRP_STAT_LATCH = false ∧
      (s.on G LIO_GRP_STAT_LATCH = true → t.on LIO_EVT LIO_EVT_REARM = true))
    -- inputs
    (r.deb = none → lvl = level → none_ (.rawInputEdge c level)) ∧
    (r.deb = none → lvl ≠ level → Does (.rawInputEdge c level) s (fun t => t.on D LIO_DIAG_LEVEL = level ∧
      (input → t.lioCh c = { r with deb := some (s.clk.mono, s.short) }) ∧ (¬ input → OnlyRegs [D] s t) ∧ t.lio.soe = s.lio.soe)) ∧
    (r.deb = none → none_ (.debounceAccept c)) ∧
    (∀ t0 stamp, r.deb = some (t0, stamp) →
      let due : Prop := t0 + s.rd (LIO_CFG c) LIO_CFG_DEB * 1000 ≤ s.clk.mono
      let kept : Prop := s.on (LIO_CFG c) LIO_CFG_SOE_EN = true ∧ wbit (s.rd (LIO_CFG c) LIO_CFG_SOE_EDGE) (if lvl then 0 else 1) = true
      (¬ due → none_ (.debounceAccept c)) ∧
      (due → r.gate = none → lvl = r.level → Does (.debounceAccept c) s (fun t => t.lioCh c = { r with deb := none } ∧ t.lio.soe = s.lio.soe)) ∧
      (due → r.gate = none → lvl ≠ r.level → Does (.debounceAccept c) s (fun t =>
        t.lioCh c = { r with deb := none, level := lvl, count := if lvl then r.count + 1#32 else r.count } ∧
        (kept → s.lio.soe.length < 1024 → t.lio.soe = s.lio.soe ++ [(c.val, lvl, stamp)]) ∧
        (kept → 1024 ≤ s.lio.soe.length → t.lio.soe = s.lio.soe ∧ t.on LIO_EVT LIO_EVT_SOE_OVF = true ∧
          t.rd LIO_SOE_INFO LIO_SOE_INFO_LOST = min 255 (s.rd LIO_SOE_INFO LIO_SOE_INFO_LOST + 1)) ∧
        (¬ kept → t.lio.soe = s.lio.soe)))) ∧
    (let len := s.rd (LIO_GATE c) LIO_GATE_G * 1000
     (r.gate = none → none_ (.freqGateEnd c)) ∧
     (∀ t0, r.gate = some t0 → s.clk.mono < t0 + len → none_ (.freqGateEnd c)) ∧
     (∀ t0, r.gate = some t0 → t0 + len ≤ s.clk.mono → s.clk.mono < t0 + 2 * len → Does (.freqGateEnd c) s (fun t =>
       t.lioCh c = { r with gate := some (t0 + len), edges := 0, last := some r.edges } ∧ t.rget (LIO_MEAS c) = BitVec.ofNat 32 r.edges ∧
       OnlyRegs [LIO_MEAS c] { s with lio := t.lio } t))) ∧
    -- terminal faults
    (output → Does (.overload c) s (fun t => t.on D LIO_DIAG_OVERLOAD = true ∧ lioOn t c = false ∧ t.on D LIO_DIAG_DRIVE = false ∧
        t.on (LIO_EN c) U_HWSTOP = true ∧ (t.lioCh c).hw = some s.clk.mono) ∧
      Does (.overtemp c) s (fun t => t.on D LIO_DIAG_OVERTEMP = true ∧ lioOn t c = false ∧ t.on D LIO_DIAG_DRIVE = false ∧
        t.on (LIO_EN c) U_HWSTOP = true ∧ (t.lioCh c).hw = some s.clk.mono)) ∧
    (¬ output → none_ (.overload c) ∧ none_ (.overtemp c) ∧ none_ (.openload c) ∧ none_ (.extv c)) ∧
    (let open_ : Prop := lioPar s c = false ∧ s.lio.cmd.getLsbD c = true
     let low : Prop := (lioPar s c = true → ∃ w, s.lio.par = some w ∧ s.lio.cmd.getLsbD c = false ∧ w.getLsbD c = false) ∧
       (lioPar s c = false → s.on D LIO_DIAG_DRIVE = false)
     (output → open_ → shows (.openload c) LIO_DIAG_OPENWIRE) ∧ (¬ open_ → none_ (.openload c)) ∧
     (output → low → shows (.extv c) LIO_DIAG_EXTV) ∧ (¬ low → none_ (.extv c))) ∧
    (input → s.on (LIO_CFG c) LIO_CFG_OW_EN = true → shows (.openwire c) LIO_DIAG_OPENWIRE) ∧
    (¬ input ∨ s.on (LIO_CFG c) LIO_CFG_OW_EN = false → none_ (.openwire c)) ∧
    -- field supplies
    measured (.supplyWarn g v) ∧ (v.toNat < 1500 → measured (.supplyLow g v)) ∧ (1500 ≤ v.toNat → none_ (.supplyLow g v)) ∧
    (x.rise = none ∨ s.on G LIO_GRP_STAT_REARM_OK = true → none_ (.rearmWindowEnd g)) ∧
    (∀ t0, x.rise = some t0 → s.on G LIO_GRP_STAT_REARM_OK = false →
      (s.clk.mono < t0 + 100000000 → none_ (.rearmWindowEnd g)) ∧
      (t0 + 100000000 ≤ s.clk.mono → Does (.rearmWindowEnd g) s (fun t => t.on G LIO_GRP_STAT_REARM_OK = true) ∧
        (s.on (LIO_GRP_CFG g) LIO_GRP_CFG_AUTO_REARM = true → unlatched (.rearmWindowEnd g)))) ∧
    (s.on G LIO_GRP_STAT_REARM_OK = true → unlatched (.rearm m g)) ∧ (s.on G LIO_GRP_STAT_REARM_OK = false → none_ (.rearm m g)) ∧
    Does (.groupOvercurrent g v) s (fun t => t.rd G LIO_GRP_STAT_IGRP = min 255 v.toNat ∧
      (220 < v.toNat → latched t ∧ t.on G LIO_GRP_STAT_GOVL = true ∧ (t.lioGrp g).ovl = true ∧ (t.lioGrp g).rise = none) ∧
      (noEnd → v.toNat ≤ 220 → OnlyRegs [G] { s with lio := t.lio } t ∧ t.on G LIO_GRP_STAT_LATCH = s.on G LIO_GRP_STAT_LATCH) ∧
      (v.toNat < 200 → (t.lioGrp g).ovl = false)) ∧
    Does (.linkloss g) s (fun t => t.on G LIO_GRP_STAT_LINKLOSS = true ∧ (t.lioGrp g).lost = true ∧ undriven t ∧
      t.on LIO_EVT LIO_EVT_LINKLOSS = true ∧ t.on G LIO_GRP_STAT_LATCH = s.on G LIO_GRP_STAT_LATCH) ∧
    -- the queue, the controllers, a channel's start
    (let lost := s.rd LIO_SOE_INFO LIO_SOE_INFO_LOST
     (s.lio.soe = [] → Does (.soeInfoRead m) s (fun t => t.resp = .word (BitVec.ofNat 32 (lost * 256)) ∧
       t.rd LIO_SOE_INFO LIO_SOE_INFO_LOST = 0 ∧ t.lio = s.lio ∧ t.latch = s.latch)) ∧
     (∀ k up stamp rest, s.lio.soe = (k, up, stamp) :: rest → k < 32 → rest.length < 1024 → Does (.soeInfoRead m) s (fun t =>
       t.lio = { s.lio with soe := rest } ∧ t.rd LIO_SOE_INFO LIO_SOE_INFO_LOST = 0 ∧ t.getLatch m LIO_SOE_STAMP = stamp ∧
       ∃ w : Word, t.resp = .word w ∧ bitsOf w LIO_SOE_INFO_VALID = 1 ∧ bitsOf w LIO_SOE_INFO_DEPTH = rest.length ∧
         bitsOf w LIO_SOE_INFO_LOST = lost ∧ bitsOf w LIO_SOE_INFO_LEVEL = (if up then 1 else 0) ∧ bitsOf w LIO_SOE_INFO_CH = k))) ∧
    (s.isOn (.domain 10) = false → none_ (.groupControllerReady g)) ∧
    (s.isOn (.domain 10) = true → Does (.groupControllerReady g) s (fun t => t.on G LIO_GRP_STAT_READY = true ∧
      wbit (t.rget RDY_VEC).toNat (13 + g.val) = true ∧ OnlyRegsEvr [G, RDY_VEC, RDY_EVT] s t)) ∧
    (let ready : Prop := s.rd (LIO_EN c) U_STATE = 1 ∧ (s.unit (LIO_EN c)).waiting = false ∧ ∀ t0, r.hw = some t0 → t0 + 10000000 ≤ s.clk.mono
     (ready → Does (.channelSettled c) s (fun t => t.lioCh c = { r with settled := true } ∧ t = { s with lio := t.lio })) ∧
     (¬ ready → none_ (.channelSettled c)))

/-! ### Units, boot and update, recorder and counters, power and test access (01, 06, 14, 15, 16) -/

/-- The unit enable model (01 R19 to R26, R420; 06 R159; 12 R331; 14 R373; 16 R404): what an EN write does in each state of a unit, with its
dependants; a Grove in use is stopped as a fault; the off-time; a start that times out; the end of a stop; a domain in regulation. -/
def Obligations.UnitResults : Prop :=
  ∀ (m : Master) (u : UnitId) (en : Bool) (g d : Fin 8) (dd : Fin 12) (n : Fin 8) (s : State),
    let a := enAddr u
    let st := s.unitState u
    let none_ (c : Instr) : Prop := Does c s (fun t => t = s)
    let plain : Prop := (∀ g, u ≠ .grove g) ∧ ∀ e : Fin 12, e.val < 8 → u ≠ .domain e
    let failsEn : Prop := Does (.enWrite m u true) s (fun t => t.on a U_FAIL = true ∧ OnlyRegs [a] s t ∧ t.unitState u = 0 ∧ t.on a U_EN = s.on a U_EN)
    let off (v : UnitId) (t : State) : Prop := t.unitState v = 0 ∨ t.unitState v = 3
    (plain →
      (st = 0 → unitReady s u = false ∨ parentOn s u = false → failsEn) ∧
      (st = 0 → unitReady s u = true → parentOn s u = true → Does (.enWrite m u true) s (fun t => t.unitState u = 1 ∧ t.on a U_EN = true ∧
        OnlyRegs (a :: (startTests s u).map LSC_CMP) { s with units := t.units, lio := t.lio } t ∧ (t.unit a).started = s.clk.mono ∧
        ((t.unit a).waiting = true ↔ offTimeOver s u = false) ∧ ∀ j ∈ startTests s u, t.on (LSC_CMP j) LSC_CMP_BUSY = true)) ∧
      (st = 0 → none_ (.enWrite m u false)) ∧
      (st = 1 ∨ st = 2 → none_ (.enWrite m u true) ∧ (st = 2 ∨ (s.unit a).stopped ≠ some s.clk.mono → Does (.enWrite m u false) s (fun t =>
        t.unitState u = 3 ∧ t.on a U_EN = false ∧ ∀ v ∈ dependants u, off v t ∧ ∀ w ∈ dependants v, off w t))) ∧
      (st = 1 → (s.unit a).stopped = some s.clk.mono → Does (.enWrite m u false) s (fun t => t.unitState u = 0 ∧ t.on a U_EN = false ∧
        OnlyRegs [a] { s with units := t.units } t)) ∧
      (st = 3 → Does (.enWrite m u en) s (fun t => t.unitState u = 3 ∧ t.on a U_EN = en ∧ t.on a U_PEND = en ∧ OnlyRegs [a] s t))) ∧
    (let w := UnitId.grove g
     (s.unitState w = 1 ∨ s.unitState w = 2 → groveInUse s g = true → Does (.enWrite m w false) s (fun t => t.unitState w = 3 ∧ t.on (GRV_EN g) U_EN = false ∧
       t.on (GRV_STATUS g) GRV_STATUS_STOPCMD = true ∧ t.on (GRV_STATUS g) GRV_STATUS_ISOLATED = true ∧
       t.on (GRV_STATUS g) GRV_STATUS_RESYNC = true)) ∧
     (s.unitState w = 2 → groveInUse s g = false → Does (.enWrite m w false) s (fun t => t.unitState w = 3 ∧ t.on (GRV_EN g) U_EN = false ∧
       ∀ i, i < 8 → t.rd (ENG_STATUS (8 * g.val + i)) ENG_STATUS_STATE = 4)) ∧
     (s.unitState w = 0 → (s.grove g).stuck = true → Does (.enWrite m w true) s (fun t => t.on (GRV_EN g) U_FAIL = true ∧ OnlyRegs [GRV_EN g] s t)) ∧
     (s.unitState w = 0 → (s.grove g).stuck = false → s.phase g = 0 → s.isOn (.domain ⟨g.val, by omega⟩) = true →
       Does (.enWrite m w true) s (fun t => t.unitState w = 1 ∧ t.on (GRV_EN g) U_EN = true)) ∧
     (s.phase d = 2 ∨ s.phase d = 3 → ∀ b, Does (.enWrite m (.domain ⟨d.val, by omega⟩) b) s (fun t =>
       t.on (PWR_EN d) U_FAIL = true ∧ OnlyRegs [PWR_EN d] s t))) ∧
    (let due : Prop := st = 1 ∧ (s.unit a).waiting = true ∧ offTimeOver s u = true
     let again (e : Fin 8) : Prop := u = .domain ⟨e.val, by omega⟩ ∧ s.phase e = 2 ∧ s.unitState (.grove e) = 0 ∧ st = 0 ∧ offTimeOver s u = true
     (due → (∀ g, u ≠ .grove g) → Does (.minOffElapsed u) s (fun t => t = { s with units := t.units } ∧ (t.unit a).waiting = false ∧
       (t.unit a).started = s.clk.mono)) ∧
     (¬ due → (∀ e, ¬ again e) → none_ (.minOffElapsed u)) ∧
     (∀ e, again e → Does (.minOffElapsed u) s (fun t => t.unitState u = 1 ∧ t.on a U_EN = true ∧ OnlyRegs [a] { s with units := t.units } t))) ∧
    (∀ l, startLimit s u = some l →
      let late : Prop := st = 1 ∧ (s.unit a).waiting = false ∧ (s.unit a).started + l ≤ s.clk.mono
      (late → plain → Does (.startTimeout u) s (fun t => t.unitState u = 3 ∧ t.on a U_FAIL = true ∧ t.on a U_EN = false)) ∧
      (¬ late → none_ (.startTimeout u))) ∧
    (let done : Prop := st = 3 ∧ dependantsOff s u = true
     let simple : Prop := (∀ g, u ≠ .grove g) ∧ (∀ n, u ≠ .can n) ∧ (∀ n, u ≠ .eth n) ∧ ∀ n r, u ≠ .ring n r
     (simple → ¬ done → none_ (.stopComplete u)) ∧
     (simple → done → s.on a U_PEND = false → Does (.stopComplete u) s (fun t => t.unitState u = 0 ∧ (t.unit a).stopped = some s.clk.mono ∧
       OnlyRegs [a] { s with units := t.units } t)) ∧
     (simple → done → s.on a U_PEND = true → parentOn s u = true → Does (.stopComplete u) s (fun t => t.unitState u = 1 ∧ t.on a U_PEND = false)) ∧
     (simple → done → s.on a U_PEND = true → parentOn s u = false → Does (.stopComplete u) s (fun t => t.unitState u = 0 ∧
       t.on a U_PEND = false ∧ t.on a U_EN = false ∧ t.on a U_FAIL = true))) ∧
    (∀ e : Fin 4, s.unitState (.eth e) = 3 → (s.port e).medium = none → s.on (ETH_EN e) U_PEND = false → Does (.stopComplete (.eth e)) s (fun t =>
      t.on (ETH_STATUS e) ETH_STATUS_LINK = false ∧ (dependantsOff s (.eth e) = true → t.unitState (.eth e) = 0) ∧
      (dependantsOff s (.eth e) = false → t.unitState (.eth e) = 3))) ∧
    (∀ e : Fin 4, s.unitState (.eth e) ≠ 3 ∨ (s.port e).medium ≠ none → none_ (.stopComplete (.eth e))) ∧
    (s.unitState (.can n) = 3 → (s.canSt n).onBus = none → s.on (CAN_EN n) U_PEND = false → Does (.stopComplete (.can n)) s (fun t =>
      t.unitState (.can n) = 0 ∧ t.rd (CAN_STATUS n) CAN_STATUS_ESTATE = 2 ∧
      ∀ b, b < 128 → s.on (CAN_MB_CTRL n b) CAN_MB_CTRL_TXREQ = true → s.on (CAN_MB_CTRL n b) CAN_MB_CTRL_DIR = true →
        t.on (CAN_MB_CTRL n b) CAN_MB_CTRL_TXREQ = false ∧ t.on (CAN_MB_CTRL n b) CAN_MB_CTRL_ABORTED = true)) ∧
    (let w := UnitId.domain dd
     let b := enAddr w
     (s.unitState w = 1 → (s.unit b).waiting = false → Does (.domainInRegulation dd) s (fun t => t.isOn w = true ∧
       (8 ≤ dd.val → ∀ i ∈ rdyBits w, i ≠ 13 → i ≠ 14 → wbit (t.rget RDY_VEC).toNat i = true ∧ wbit (t.rget RDY_EVT).toNat i = true))) ∧
     (s.unitState w ≠ 1 ∨ (s.unit b).waiting = true → none_ (.domainInRegulation dd)) ∧
     (s.unitState w = 3 → dependantsOff s w = true → s.on b U_PEND = false → Does (.domainDischarged dd) s (fun t => t.unitState w = 0 ∧
       (t.unit b).stopped = some s.clk.mono ∧ OnlyRegs [b] { s with units := t.units } t)) ∧
     (s.unitState w ≠ 3 ∨ dependantsOff s w = false → none_ (.domainDischarged dd)))

/-- Reset, boot and firmware update (14 R365, R368, R371 to R378; 06 R165): what the module is after a reset, with the images of a bootable set loaded
and its cores waiting for the comparator tests, or NOBOOT; a requested reset says LEAVE and falls due; slot writes, trials, their confirmation and
their ends, keys and retirement, each refused with its code or done. -/
def Obligations.BootResults : Prop :=
  ∀ (m : Master) (strapB : Bool) (v : Word) (bad : Option (BitVec 32)) (s : State),
    let none_ (c : Instr) : Prop := Does c s (fun t => t = s)
    let refused (c : Instr) (code : Nat) : Prop := Does c s (fun t => t.on UPD_STATUS UPD_STATUS_REJ = true ∧ t.rd UPD_STATUS UPD_STATUS_CODE = code)
    let refusedOnly (c : Instr) (code : Nat) : Prop := Does c s (fun t => t.on UPD_STATUS UPD_STATUS_REJ = true ∧
      t.rd UPD_STATUS UPD_STATUS_CODE = code ∧ OnlyRegs [UPD_STATUS] s t)
    let l := stateRec s
    let runs := trialRuns s
    let p := s.rd UPD_TGT UPD_TGT_PART
    let d := s.rd UPD_TGT UPD_TGT_SLOT
    let len := (s.rget UPD_LEN).toNat
    let mask := s.rd UPD_TMASK UPD_TMASK_TMASK
    let ended (c : Instr) (cause : Nat) : Prop := Does c s (fun t => recOutcome (stateRec t) = 3 ∧ le (stateRec t) 7 1 = cause ∧
      t.rd UPD_STATUS UPD_STATUS_STAGE = 6 ∧ t.on UPD_EVT UPD_EVT_REJECTED = true ∧ t.boot.trialAt = none ∧ t.boot.due = some (s.clk.mono + 100000))
    let asleep (t : State) : Prop := ∀ c : Proc, (t.core (coreNo c)).run = .off
    -- reset
    Does (.moduleReset strapB) s (fun t => t.role = .booting ∧ t.on PAR_STATUS PAR_STATUS_POS = strapB ∧ t.on TSQ_STATUS TSQ_STATUS_RUNNING = false ∧
      t.nor = s.nor ∧ t.stations = s.stations ∧ t.pending = s.pending ∧ t.out = s.out ∧ t.boot.due = none ∧
      (∀ a, 0x0400002000 ≤ a → a < 0x0401000000 → t.byte a = s.byte a) ∧
      (s.pwr.held ≠ 0 → t.rget RDY_VEC = 0#32 ∧ asleep t) ∧
      (s.pwr.held = 0 → asleep t ∧ (∀ g, g < 45 → t.on (GATE_CTRL g) GATE_CTRL_ENFORCE = true) ∧
        (∀ i ∈ [2, 3, 4, 5, 7, 8, 9], wbit (t.rget RDY_VEC).toNat i = true) ∧ (∀ i, i < 8 → t.on (LSC_CMP (64 + i)) LSC_CMP_BUSY = true) ∧
        (t.on HWD_STATUS HWD_STATUS_NOBOOT = true ↔ t.boot.entry = none) ∧
        (∀ e, t.boot.entry = some e → ∃ d, d < 2 ∧ slotMark s 1 d = true ∧ e = slotField s 1 d 80 4 ∧
          (slotField s 1 d 72 4 ≤ 0x1FFF000 → ∀ o, o < slotField s 1 d 76 4 → o < slotField s 1 d 72 4 →
            t.byte (0x0010000000 + o) = norByte s d (slotOff 1 + 4096 + o)))) ∧
      (s.pwr.held = 0 → s.boot.retired = true ∨ (∀ q d, q < 5 → d < 2 → slotMark s q d = false) →
        t.on HWD_STATUS HWD_STATUS_NOBOOT = true ∧ (s.boot.retired = true → t.rd HWD_STATUS HWD_STATUS_LIFECYCLE = 2))) ∧
    (let key : Prop := bitsOf v HWD_RESET_KEY = 0x6480 ∧ bitsOf v HWD_RESET_RESET = 1
     (key → Does (.hwdReset m v) s (fun t => (∀ a, isPmc a = false → t.rget a = s.rget a) ∧ t.mem = s.mem ∧ t.pwr.next = 0 ∧
       (∃ x, t.boot.due = some x ∧ x ≤ s.clk.mono + 100000 ∧ (s.boot.due = none → x = s.clk.mono + 100000)) ∧
       t.out = s.out ++ (if s.on HB_STATUS HB_STATUS_PATH_L then laneOut s (.leave (hbBody s)) else []) ++
         (if s.on HB_STATUS HB_STATUS_PATH_H then [.line true (hbBody s)] else []))) ∧
     (¬ key → none_ (.hwdReset m v))) ∧
    Does (.rdyFwset m v) s (fun t => OnlyRegsEvr [RDY_FAIL] s t ∧ ∀ i, i < 32 → wbit (t.rget RDY_FAIL).toNat i =
      (wbit (s.rget RDY_FAIL).toNat i || (v.getLsbD i && (i == 1 || i == 18 || (decide (20 ≤ i) && decide (i < 28)))))) ∧
    -- slots
    (slotTaken s p d = true → refusedOnly (.updWrite m) 1) ∧
    (slotTaken s p d = false → len < 4096 ∨ slotSize p < len → refusedOnly (.updWrite m) 2) ∧
    (slotTaken s p d = false → 4096 ≤ len → len ≤ slotSize p → updBusy s = true → refusedOnly (.updWrite m) 3) ∧
    (slotTaken s p d = false → 4096 ≤ len → len ≤ slotSize p → updBusy s = false → Does (.updWrite m) s (fun t =>
      t.on UPD_STATUS UPD_STATUS_BUSY = true ∧ t.rd UPD_STATUS UPD_STATUS_STAGE = 1 ∧ t.rget UPD_DONE = 0#32 ∧
      t.boot.write = some ⟨s.rd64 UPD_SRC_LO UPD_SRC_HI, len, p, d⟩ ∧ (∀ o, o < slotSize p → norByte t d (slotOff p + o) = 0xFF#8) ∧
      ∀ o, o < 0x8000000 → norByte t (1 - d) o = norByte s (1 - d) o)) ∧
    (s.boot.write = none → none_ (.updWriteDone bad)) ∧
    (∀ w, s.boot.write = some w →
      Does (.updWriteDone bad) s (fun t => t.on UPD_STATUS UPD_STATUS_BUSY = false ∧ t.boot.write = none ∧ t.on UPD_EVT UPD_EVT_WRDONE = true ∧
        (bad ≠ none → t.on UPD_STATUS UPD_STATUS_WRERR = true ∧ t.rd UPD_STATUS UPD_STATUS_STAGE = 0)) ∧
      (∀ hi lo t1 t2, bad = none → dmaRead s (updXfer s) (w.src + 4096) (w.len - 4096) = (hi, none, t1) →
        dmaRead t1 (updXfer t1) w.src 4096 = (lo, none, t2) → lo.length = 4096 → Does (.updWriteDone bad) s (fun t =>
          t.rd UPD_STATUS UPD_STATUS_STAGE = 2 ∧ slotBytes t w.part w.slot 0 4096 = lo ∧ slotBytes t w.part w.slot 4096 hi.length = hi))) ∧
    -- trials
    (recOutcome l = 1 → refusedOnly (.trial m) 3) ∧
    (recOutcome l ≠ 1 → mask = 0 → refusedOnly (.trial m) 5) ∧
    (let marked : Prop := ∀ q, q < 5 → wbit mask q = true → slotMark s q (1 - recConf l q) = true
     (recOutcome l ≠ 1 → mask ≠ 0 → ¬ marked → refusedOnly (.trial m) 4) ∧
     (recOutcome l ≠ 1 → mask ≠ 0 → marked → Does (.trial m) s (fun t => recOutcome (stateRec t) = 1 ∧ recTmask (stateRec t) = mask ∧
       t.rd UPD_STATUS UPD_STATUS_STAGE = 3 ∧ ∀ q, q < 5 → recConf (stateRec t) q = recConf l q ∧
         (wbit mask q = true → recTrial (stateRec t) q = 1 - recConf l q)))) ∧
    (recOutcome l = 1 → runs = false → Does (.updCancel m) s (fun t => recOutcome (stateRec t) = 0 ∧ t.rd UPD_STATUS UPD_STATUS_STAGE = 0)) ∧
    (recOutcome l ≠ 1 ∨ runs = true → refusedOnly (.updCancel m) 5) ∧
    (let may : Prop := windowOpen s = true ∧ (s.on UPD_CFG UPD_CFG_CONF_MASTER = true → s.role.master = true)
     (may → Does (.confirm m) s (fun t => recOutcome (stateRec t) = 2 ∧ t.boot.trialAt = none ∧ t.rd UPD_STATUS UPD_STATUS_STAGE = 5 ∧
       t.on UPD_EVT UPD_EVT_CONFIRMED = true ∧ ∀ q, q < 5 →
         recConf (stateRec t) q = if wbit (recTmask l) q = true then recTrial l q else recConf l q)) ∧
     (¬ may → refusedOnly (.confirm m) 5)) ∧
    (runs = true → ended (.reject m) 2) ∧ (runs = false → refusedOnly (.reject m) 5) ∧
    (runs = true → windowOpen s = false → ended .confirmWindowExpiry 1) ∧
    (runs = false ∨ windowOpen s = true → none_ .confirmWindowExpiry) ∧
    (let late : Prop := s.on RDY_VEC RDY_VEC_HWD = true ∧ s.on RDY_VEC RDY_VEC_CANOPY = false ∧ s.boot.bootAt + 5000000000 ≤ s.clk.mono
     (late → runs = true → ended .canopyReadyTimeout 7) ∧
     (late → runs = false → Does .canopyReadyTimeout s (fun t => t.on HWD_STATUS HWD_STATUS_FWTIMEOUT = true ∧ OnlyRegsEvr [HWD_STATUS] s t)) ∧
     (¬ late → none_ .canopyReadyTimeout)) ∧
    -- keys
    (updBusy s = true → refusedOnly (.revoke m) 3 ∧ refusedOnly (.retire m) 3) ∧
    (updBusy s = false → (keyRecord s).1 = none → refused (.revoke m) 6 ∧ refused (.retire m) 6) ∧
    (∀ x t k, updBusy s = false → keyRecord s = (some x, t) →
      let firmware (i : Nat) : Prop := t.on (HWD_KEYST i) HWD_KEYST_VALID = true ∧ t.on (HWD_KEYST i) HWD_KEYST_REVOKED = false ∧
        wbit (t.rd (HWD_KEYST i) HWD_KEYST_USAGE) 0 = true
      (le x 0 4 ≠ 0x52544652 ∨ le x 4 4 ≠ 0 → refused (.retire m) 6) ∧
      (le x 0 4 = 0x52544652 → le x 4 4 = 0 → Does (.retire m) s (fun u => u.boot.retired = true ∧ u.rd HWD_STATUS HWD_STATUS_LIFECYCLE = 2)) ∧
      ((List.range 8).find? (fun i => t.on (HWD_KEYST i) HWD_KEYST_VALID && (t.rget (HWD_KEYID i)).toNat == le x 4 4) = some k →
        (le x 0 4 ≠ 0x4B564652 ∨ le x 32 4 = le x 4 4 → refused (.revoke m) 6) ∧
        (le x 0 4 = 0x4B564652 → le x 32 4 ≠ le x 4 4 → firmware k → (∀ i, i < 8 → i ≠ k → ¬ firmware i) → refused (.revoke m) 7) ∧
        (le x 0 4 = 0x4B564652 → le x 32 4 ≠ le x 4 4 → ¬ firmware k ∨ (∃ i, i < 8 ∧ i ≠ k ∧ firmware i) → Does (.revoke m) s (fun u =>
          u.on (HWD_KEYST k) HWD_KEYST_REVOKED = true ∧ u.on UPD_EVT UPD_EVT_REVOKED = true))))

/-- Performance counters and the event recorder (15 R384, R388, R389, R391 to R397): clearing and windows; a software record; the oldest record goes
to the slot at HEAD; the scan at the first RUN; the stored operating seconds; a slot delivered to EVR_RD_DATA. -/
def Obligations.RecorderResults : Prop :=
  ∀ (m : Master) (j : Fin 8) (i : Fin 64) (slot : BitVec 16) (s : State),
    let none_ (c : Instr) : Prop := Does c s (fun t => t = s)
    let val (t : State) : Nat := t.rd64 (PMC_VAL_LO j i) (PMC_VAL_HI j i)
    let snap (t : State) : Nat := t.rd64 (PMC_SNAP_LO j i) (PMC_SNAP_HI j i)
    let frozen := s.on (PMC_BCTL j) PMC_BCTL_FREEZE || s.on (PMC_BCTL 0) PMC_BCTL_FREEZE_ALL
    let windowed : Prop := s.on (PMC_CTL j i) PMC_CTL_EN = true ∧ s.on (PMC_CTL j i) PMC_CTL_MODE = true
    Does (.clr m j i) s (fun t => val t = 0 ∧ OnlyRegs [PMC_VAL_LO j i, PMC_VAL_HI j i] s t) ∧
    (pmcWindowDue s j = false → none_ (.pmcWindowEnd j)) ∧
    (pmcWindowDue s j = true → Does (.pmcWindowEnd j) s (fun t =>
      t.rd (PMC_WSTAT j) PMC_WSTAT_WSEQ = (s.rd (PMC_WSTAT j) PMC_WSTAT_WSEQ + 1) % 2 ^ 31 ∧
      (frozen = true ∨ ¬ windowed → val t = val s ∧ snap t = snap s) ∧
      (frozen = false → windowed → val t = 0 ∧ ((s.regs.map Prod.fst).Nodup → snap t = val s)) ∧
      ∀ a, isPmc a = false → t.rget a = s.rget a)) ∧
    (let r := evrRecord s 0x100 0xFFFF (s.rd EVR_SW_CODE EVR_SW_CODE_CODE) (s.rget EVR_SW_DATA) (evrSnap s (s.rd EVR_SW_CODE EVR_SW_CODE_LIST))
     (s.evr.pf = false → s.evr.queue.length < 64 → Does (.swrec m) s (fun t => t.evr = { s.evr with queue := s.evr.queue ++ [r] } ∧
       t.rd EVR_STATUS EVR_STATUS_QDEPTH = s.evr.queue.length + 1 ∧ OnlyRegsEvr [] s t)) ∧
     (s.evr.pf = false → 64 ≤ s.evr.queue.length → Does (.swrec m) s (fun t => t.evr = { s.evr with lost := s.evr.lost + 1 } ∧
       t.on EVR_STATUS EVR_STATUS_DROP = true ∧ OnlyRegsEvr [] s t)) ∧
     (s.evr.pf = true → Does (.swrec m) s (fun t => t = { s with evr := { s.evr with pfLost := s.evr.pfLost + 1 } }))) ∧
    (s.evr.queue = [] ∨ evrRuns s = false → none_ .recordWritten) ∧
    (∀ r rest, s.evr.queue = r :: rest → evrRuns s = true → r.source ≠ 0x101 →
      let seq := (s.rget EVR_NEXT).toNat
      let head := s.rd EVR_HEAD EVR_HEAD_SLOT
      let a := evrSlot head
      let w := evrWrites s [(a + 244, leBytes 4 0), (a, recordBytes { r with pfail := s.evr.pf } seq s.evr.lost), (a + 244, leBytes 4 seq)]
      (w.1 = true → Does .recordWritten s (fun t => t.evr.queue = rest ∧ t.rd EVR_HEAD EVR_HEAD_SLOT = (head + 1) % 65536 ∧
        t.rget EVR_NEXT = BitVec.ofNat 32 (seqAfter seq) ∧ t.evr.lost = 0)) ∧
      (w.1 = false → Does .recordWritten s (fun t => t.on EVR_CTRL EVR_CTRL_RUN = false ∧ t.on EVR_STATUS EVR_STATUS_WERR = true))) ∧
    (s.on EVR_STATUS EVR_STATUS_SCANNED = true → Does (.run m) s (fun t => OnlyRegs [EVR_CTRL] s t ∧ t.on EVR_CTRL EVR_CTRL_RUN = true)) ∧
    (s.on EVR_STATUS EVR_STATUS_SCANNED = false → evrMayScan s = false → Does (.run m) s (fun t => t.on EVR_CTRL EVR_CTRL_RUN = false ∧
      t.on EVR_STATUS EVR_STATUS_WERR = true ∧ t.on EVR_STATUS EVR_STATUS_SCANNED = false)) ∧
    (s.on EVR_STATUS EVR_STATUS_SCANNED = false → evrMayScan s = true → Does (.run m) s (fun t => t.on EVR_STATUS EVR_STATUS_SCANNED = true ∧
      (evrNewest s = none → t.rd EVR_HEAD EVR_HEAD_SLOT = 0 ∧ t.rget EVR_NEXT = 1#32) ∧
      (∀ n q, evrNewest s = some (n, q) → t.rd EVR_HEAD EVR_HEAD_SLOT = (n + 1) % 65536 ∧ t.rget EVR_NEXT = BitVec.ofNat 32 (seqAfter q)) ∧
      ∃ r rest, t.evr.queue = r :: rest ∧ r.source = 0x101 ∧ r.bit = 0)) ∧
    (evrRuns s = false → none_ .opsecStore) ∧
    (evrRuns s = true → (evrStore s).1 = true → Does .opsecStore s (fun t => ∃ c l, evrState t = some (c, l) ∧
      le l 4 4 = s.rd EVR_OPSEC EVR_OPSEC_OPSEC ∧ le l 8 4 = s.rd EVR_PWRCYC EVR_PWRCYC_PWRCYC)) ∧
    (let s1 := s.wr EVR_RD_SLOT EVR_RD_SLOT_SLOT slot.toNat
     (∀ l t, dmaRead s1 (evrXfer s1) (evrSlot slot.toNat) 248 = (l, none, t) → l.length = 248 → Does (.rdSlotWrite m slot) s (fun u =>
       (∀ w, w < 62 → u.rget (EVR_RD_DATA w) = BitVec.ofNat 32 (le l (4 * w) 4)) ∧
       u.rget (EVR_RD_DATA 62) = BitVec.ofNat 32 slot.toNat ∧ u.rd EVR_RD_SLOT EVR_RD_SLOT_SLOT = slot.toNat)) ∧
     (∀ l e t, dmaRead s1 (evrXfer s1) (evrSlot slot.toNat) 248 = (l, some e, t) → Does (.rdSlotWrite m slot) s (fun u =>
       u.on EVR_RD_SLOT EVR_RD_SLOT_VALID = false ∧ u.on EVR_CTRL EVR_CTRL_RUN = false ∧ u.on EVR_STATUS EVR_STATUS_WERR = true)))

/-- Feeds, power fail, temperature, tamper, insertion, the ejector, the PWR status LED and the test access port (16 R401 to R411, R417, R419): each
measurement and event shows in PWR_STATUS and PWR_EVT, and resets, holds or releases the module as the rule says; a test access instruction selects its register, and a misaligned
or denied direct transfer shows an error. -/
def Obligations.PowerResults : Prop :=
  ∀ (i : Fin 2) (v cur die inlet : BitVec 16) (present strapB write : Bool) (a : Addr) (data : Word) (s : State),
    let none_ (c : Instr) : Prop := Does c s (fun t => t = s)
    let pst (f : Fld) (t : State) : Bool := t.on PWR_STATUS f
    let evt (f : Fld) (t : State) : Prop := t.on PWR_EVT f = true
    let pfw := pst PWR_STATUS_PFW s
    let leaves (hold : Nat) (t : State) : Prop := t.pwr.next = hold ∧
      ∃ x, t.boot.due = some x ∧ x ≤ s.clk.mono + 100000 ∧ (s.boot.due = none → x = s.clk.mono + 100000)
    let held (hold : Nat) (t : State) : Prop := t.pwr.held = hold ∧ t.role = .booting ∧ t.rget RDY_VEC = 0#32 ∧ t.nor = s.nor ∧ t.out = s.out ∧
      ∀ c : Proc, (t.core (coreNo c)).run = .off
    let temp := die.toInt
    let fed (t : State) : Prop := t.rd (PWR_FEED i) PWR_FEED_VOLTAGE = v.toNat ∧ t.rd (PWR_FEED i) PWR_FEED_CURRENT = cur.toNat
    let felt (t : State) : Prop := t.rd PWR_TEMP PWR_TEMP_DIE = die.toNat ∧ t.rd PWR_TEMP PWR_TEMP_INLET = inlet.toNat
    let powered : Prop := s.pwr.held ≠ 4 ∧ s.pwr.enable = true ∧ s.pwr.ramp = false
    let dark (t : State) : Prop := statusLeds t = ⟨.off, .off, .off, .off⟩
    (v.toNat < 1800 → Does (.feedlow i ⟨v, cur⟩) s (fun t => fed t ∧ pst (feedOk i) t = false ∧
      evt PWR_EVT_FEEDLOW t ∧ OnlyRegsEvr [PWR_FEED i, PWR_STATUS, PWR_EVT] s t ∧ (powered → pfw = false → (statusLeds t).pwr = .amber))) ∧
    (1800 ≤ v.toNat → none_ (.feedlow i ⟨v, cur⟩) ∧ Does (.feedRestored i ⟨v, cur⟩) s (fun t => fed t ∧
      pst (feedOk i) t = (decide (1850 ≤ v.toNat) || pst (feedOk i) s) ∧ OnlyRegs [PWR_FEED i, PWR_STATUS] s t ∧
      (powered → pfw = false → pst (feedOk (1 - i)) s = true → 1850 ≤ v.toNat → (statusLeds t).pwr = .green))) ∧
    (v.toNat < 1800 → none_ (.feedRestored i ⟨v, cur⟩)) ∧
    (pfw = true → none_ .pfw ∧ Does .pfwEnd s (fun t => pst PWR_STATUS_PFW t = false ∧ evt PWR_EVT_PFW_END t ∧ t.evr.pf = false)) ∧
    (pfw = false → none_ .pfwEnd ∧ Does .pfw s (fun t => pst PWR_STATUS_PFW t = true ∧ evt PWR_EVT_PFW t ∧ t.pwr.pfwAt = s.clk.mono ∧
      t.evr.pf = true ∧ (∃ q r, t.evr.queue = q ++ [r] ∧ r.source = 0x101 ∧ r.bit = 1) ∧ (powered → (statusLeds t).pwr = .amberFlash))) ∧
    (let due : Prop := pfw = true ∧ s.pwr.pfwAt + s.rd PWR_CFG PWR_CFG_PF_LEAVE * 1000000 ≤ s.clk.mono
     (due → Does .pfLeaveExpiry s (leaves 1)) ∧ (¬ due → none_ .pfLeaveExpiry)) ∧
    Does .holdupExhausted s (fun t => held 4 t ∧ dark t) ∧
    (s.pwr.held = 1 ∨ s.pwr.held = 4 → Does .powerReturn s (fun t => t.pwr.held = 0 ∧ wbit (t.rget RDY_VEC).toNat 9 = true ∧ wbit (t.rget RDY_VEC).toNat 4 = true)) ∧
    (s.pwr.held ≠ 1 → s.pwr.held ≠ 4 → none_ .powerReturn) ∧
    Does (.twarn ⟨die, inlet⟩) s (fun t => felt t ∧ OnlyRegsEvr [PWR_TEMP, PWR_STATUS, PWR_EVT] s t ∧
      (880 ≤ temp → pst PWR_STATUS_TWARN t = true ∧ (pst PWR_STATUS_TWARN s = false → evt PWR_EVT_TWARN t)) ∧
      (temp ≤ 840 → pst PWR_STATUS_TWARN t = false) ∧ (840 < temp → temp < 880 → pst PWR_STATUS_TWARN t = pst PWR_STATUS_TWARN s)) ∧
    (1000 ≤ temp → Does (.tshut ⟨die, inlet⟩) s (fun t => leaves 2 t ∧ pst PWR_STATUS_TSHUT t = true ∧ pst PWR_STATUS_TWARN t = true)) ∧
    (temp < 1000 → Does (.tshut ⟨die, inlet⟩) s (fun t => felt t ∧ pst PWR_STATUS_TSHUT t = pst PWR_STATUS_TSHUT s ∧ t.boot = s.boot ∧ t.pwr = s.pwr)) ∧
    (temp < 720 → s.pwr.held = 2 → Does (.tempRecovered ⟨die, inlet⟩) s (fun t => t.pwr.held = 0 ∧ felt t)) ∧
    (720 ≤ temp ∨ s.pwr.held ≠ 2 → Does (.tempRecovered ⟨die, inlet⟩) s (fun t => t.pwr = s.pwr ∧ t.boot = s.boot ∧ felt t)) ∧
    Does .tamper s (fun t => t.on HWD_STATUS HWD_STATUS_TAMPER = true ∧ t.on TIM_STATUS TIM_STATUS_RTC_VALID = false ∧
      OnlyRegsEvr [HWD_STATUS, TIM_STATUS] s t) ∧
    (pst PWR_STATUS_PPRES s = present → none_ (.presentNChange present)) ∧
    (pst PWR_STATUS_PPRES s ≠ present → Does (.presentNChange present) s (fun t => pst PWR_STATUS_PPRES t = present ∧ evt PWR_EVT_PPRES t ∧
      OnlyRegsEvr [PWR_STATUS, PWR_EVT] s t)) ∧
    (s.pwr.enable = true → none_ .enableRise ∧ Does .enableFall s (fun t => held 3 t ∧ t.pwr.enable = false ∧ dark t)) ∧
    (s.pwr.enable = false → none_ .enableFall ∧ Does .enableRise s (fun t => t = { s with pwr := { s.pwr with enable := true, ramp := true } })) ∧
    (s.pwr.enable = true → s.pwr.ramp = true → Does (.rampComplete strapB) s (fun t => t.pwr.held = 0 ∧ t.pwr.ramp = false ∧ t.role = .booting ∧
      t.on PAR_STATUS PAR_STATUS_POS = strapB ∧ wbit (t.rget RDY_VEC).toNat 9 = true)) ∧
    (s.pwr.enable = false ∨ s.pwr.ramp = false → none_ (.rampComplete strapB)) ∧
    (pst PWR_STATUS_EJECT s = true → none_ (.eject true)) ∧
    (pst PWR_STATUS_EJECT s = false → Does (.eject true) s (fun t => pst PWR_STATUS_EJECT t = true ∧ evt PWR_EVT_EJECT t ∧
      (s.on PWR_CFG PWR_CFG_EJECT_LEAVE = true → leaves 0 t) ∧ (s.on PWR_CFG PWR_CFG_EJECT_LEAVE = false → t.boot = s.boot))) ∧
    Does (.eject false) s (fun t => pst PWR_STATUS_EJECT t = false ∧ OnlyRegs [PWR_STATUS] s t) ∧
    Does .extest s (fun t => t = { s with tap := t.tap, free := s.free + 1 } ∧ t.tap.ir = 0#6) ∧
    Does .samplePreload s (fun t => t = { s with tap := t.tap, free := s.free + 1 } ∧ t.tap.ir = 2#6) ∧
    Does .idcode s (fun t => t = { s with tap := { s.tap with ir := 1#6 }, resp := t.resp } ∧ t.resp = .word 0x1648074B#32) ∧
    Does .bypass s (fun t => t = { s with tap := { s.tap with ir := 63#6, byp := false } }) ∧
    (a.toNat % 4 ≠ 0 → Does (.dapacc write a data) s (fun t => t = { s with tap := { s.tap with ir := 0x10#6, status := 1, data := 6#32 } })) ∧
    (a.toNat % 4 = 0 → isRegs a.toNat = false →
      (∀ g k n, gateDecide s (if write then .write else .read) (mattrXfer s 0x7F 2) a.toNat 4 = .deny g k n →
        Does (.dapacc write a data) s (fun t => t.tap.status = 1 ∧ t.tap.data = BitVec.ofNat 32 (k % 8) ∧ t.mem = s.mem)) ∧
      (∀ g, write = false → gateDecide s .read (mattrXfer s 0x7F 2) a.toNat 4 = .allow g .sram → s.eccAt a.toNat = none →
        Does (.dapacc write a data) s (fun t => t.tap.status = 0 ∧ t.tap.data = BitVec.ofNat 32 (leVal (s.bytes a.toNat 4)) ∧ t.mem = s.mem)) ∧
      (∀ g, write = true → gateDecide s .write (mattrXfer s 0x7F 2) a.toNat 4 = .allow g .sram → mapOf a.toNat = some (.sram, 1, true) →
        Does (.dapacc write a data) s (fun t => t.tap.status = 0 ∧ t.bytes a.toNat 4 = leBytes 4 data.toNat)))
end

