-- ==== Sys2Proof/Laws/AMap.lean ====
section
/-! SUPPORT. Sparse maps: read after write for every list, and the canonical form, which every write keeps. -/

namespace Sys2Proof.Machine

variable {V : Type} {d : Nat → V}

@[simp] theorem amGet_nil (k : Nat) : amGet d [] k = d k := rfl

theorem amGet_amDrop_same (m : AMap V) (k : Nat) : amGet d (amDrop k m) k = d k := by
  induction m with
  | nil => rfl
  | cons e m ih =>
    obtain ⟨j, v⟩ := e
    by_cases h : j = k
    · simp [amDrop, h, ih]
    · simp [amDrop, amGet, h, ih]

theorem amGet_amDrop_ne (m : AMap V) {k j : Nat} (h : j ≠ k) : amGet d (amDrop k m) j = amGet d m j := by
  induction m with
  | nil => rfl
  | cons e m ih =>
    obtain ⟨i, v⟩ := e
    by_cases hi : i = k
    · simp [amDrop, amGet, hi, ih, h.symm]
    · by_cases hj : i = j <;> simp [amDrop, amGet, hi, hj, ih, h]

theorem amGet_amPut_same (m : AMap V) (k : Nat) (v : V) : amGet d (amPut k v m) k = v := by
  induction m with
  | nil => simp [amPut, amGet]
  | cons e m ih =>
    obtain ⟨i, w⟩ := e
    by_cases h : k < i
    · simp [amPut, amGet, h]
    · by_cases hi : k = i
      · simp [amPut, amGet, hi]
      · simp [amPut, amGet, h, hi, Ne.symm hi, ih]

theorem amGet_amPut_ne (m : AMap V) {k j : Nat} (v : V) (h : j ≠ k) : amGet d (amPut k v m) j = amGet d m j := by
  induction m with
  | nil => simp [amPut, amGet, h.symm]
  | cons e m ih =>
    obtain ⟨i, w⟩ := e
    by_cases hk : k < i
    · simp [amPut, amGet, hk, h.symm]
    · by_cases hi : k = i
      · subst hi; simp [amPut, amGet, h.symm]
      · rw [amPut, if_neg hk, if_neg hi, amGet, amGet, ih]

/-- A written key reads the value written. -/
@[simp] theorem amGet_amSet_same [DecidableEq V] (m : AMap V) (k : Nat) (v : V) : amGet d (amSet d m k v) k = v := by
  unfold amSet
  split
  · next h => rw [amGet_amDrop_same, h]
  · exact amGet_amPut_same m k v

/-- Every other key reads as before. -/
theorem amGet_amSet_ne [DecidableEq V] (m : AMap V) {k j : Nat} (v : V) (h : j ≠ k) : amGet d (amSet d m k v) j = amGet d m j := by
  unfold amSet
  split
  · exact amGet_amDrop_ne m h
  · exact amGet_amPut_ne m v h

theorem amGet_amSet [DecidableEq V] (m : AMap V) (k j : Nat) (v : V) :
    amGet d (amSet d m k v) j = if j = k then v else amGet d m j := by
  by_cases h : j = k
  · subst h; simp
  · simp [h, amGet_amSet_ne m v h]

/-! ### The canonical form -/

variable [DecidableEq V]

theorem amWfFrom_mono {m : AMap V} {a b : Nat} (h : a ≤ b) (hm : amWfFrom d b m = true) : amWfFrom d a m = true := by
  cases m with
  | nil => rfl
  | cons e m =>
    obtain ⟨k, v⟩ := e
    simp only [amWfFrom, Bool.and_eq_true, decide_eq_true_eq] at hm ⊢
    exact ⟨⟨h.trans hm.1.1, hm.1.2⟩, hm.2⟩

theorem amWfFrom_amDrop {m : AMap V} {b : Nat} (k : Nat) (hm : amWfFrom d b m = true) : amWfFrom d b (amDrop k m) = true := by
  induction m generalizing b with
  | nil => rfl
  | cons e m ih =>
    obtain ⟨j, v⟩ := e
    simp only [amWfFrom, Bool.and_eq_true, decide_eq_true_eq] at hm
    by_cases h : j = k
    · simp only [amDrop, h, if_true]
      exact amWfFrom_mono (by omega) (ih hm.2)
    · simp only [amDrop, h, if_false, amWfFrom, Bool.and_eq_true, decide_eq_true_eq]
      exact ⟨hm.1, ih hm.2⟩

theorem amWfFrom_amPut {m : AMap V} {b k : Nat} {v : V} (hv : v ≠ d k) (hb : b ≤ k) (hm : amWfFrom d b m = true) :
    amWfFrom d b (amPut k v m) = true := by
  induction m generalizing b with
  | nil => simp [amPut, amWfFrom, hv, hb]
  | cons e m ih =>
    obtain ⟨j, w⟩ := e
    simp only [amWfFrom, Bool.and_eq_true, decide_eq_true_eq] at hm
    unfold amPut
    split
    · next h =>
      simp only [amWfFrom, Bool.and_eq_true, decide_eq_true_eq]
      exact ⟨⟨hb, hv⟩, ⟨by omega, hm.1.2⟩, hm.2⟩
    · split
      · next h => subst h; simp only [amWfFrom, Bool.and_eq_true, decide_eq_true_eq]; exact ⟨⟨hb, hv⟩, hm.2⟩
      · simp only [amWfFrom, Bool.and_eq_true, decide_eq_true_eq]
        exact ⟨hm.1, ih (by omega) hm.2⟩

/-- Every write keeps the canonical form. -/
theorem amWf_amSet {m : AMap V} (k : Nat) (v : V) (hm : amWf d m = true) : amWf d (amSet d m k v) = true := by
  unfold amSet
  split
  · exact amWfFrom_amDrop k hm
  · next h => exact amWfFrom_amPut h (Nat.zero_le k) hm

theorem amWf_nil : amWf d ([] : AMap V) = true := rfl

omit [DecidableEq V] in
/-- A key that is not listed reads its default. -/
theorem amGet_absent : ∀ (m : AMap V) (k : Nat), (∀ e ∈ m, e.1 ≠ k) → amGet d m k = d k
  | [], _, _ => rfl
  | e :: m, k, h => by
    have ih := amGet_absent m k (fun x hx => h x (by simp [hx]))
    simpa [amGet, h e (by simp)] using ih

end Sys2Proof.Machine
end

