-- ==== Sys2Proof/Laws/Regs.lean ====
section
/-! SUPPORT. Registers and their fields: what a read finds after a write. -/

namespace Sys2Proof.Machine

open Sys2Proof

@[simp] theorem rget_rset_same (s : State) (a : Nat) (w : Word) : (s.rset a w).rget a = w := amGet_amSet_same _ _ _

theorem rget_rset_ne (s : State) {a b : Nat} (w : Word) (h : b ≠ a) : (s.rset a w).rget b = s.rget b := amGet_amSet_ne _ _ h

theorem bitsOf_lt (w : Word) (f : Fld) : bitsOf w f < 2 ^ (f.hi + 1 - f.lo) := Nat.mod_lt _ (by positivity)

/-- Bits of a word with a field replaced, as numbers: what stands above, the field, what stands below. -/
theorem setBits_toNat (w : Word) (f : Fld) (v : Nat) (h : f.lo ≤ f.hi) (h32 : f.hi < 32) :
    (setBits w f v).toNat = w.toNat / 2 ^ (f.hi + 1) * 2 ^ (f.hi + 1) + v % 2 ^ (f.hi + 1 - f.lo) * 2 ^ f.lo + w.toNat % 2 ^ f.lo := by
  obtain ⟨n, hn⟩ : ∃ n, f.hi + 1 = f.lo + n := ⟨f.hi + 1 - f.lo, by omega⟩
  have e : f.hi + 1 - f.lo = n := by omega
  have hw := w.isLt
  have hp : (2 : Nat) ^ (f.hi + 1) = 2 ^ f.lo * 2 ^ n := by rw [hn, pow_add]
  have h1 : w.toNat / 2 ^ f.lo / 2 ^ n = w.toNat / 2 ^ (f.hi + 1) := by rw [hp, Nat.div_div_eq_div_mul]
  have d1 := Nat.div_add_mod w.toNat (2 ^ f.lo)
  have d2 := Nat.div_add_mod (w.toNat / 2 ^ f.lo) (2 ^ n)
  have hv : v % 2 ^ n < 2 ^ n := Nat.mod_lt _ (by positivity)
  have hm : w.toNat % 2 ^ f.lo < 2 ^ f.lo := Nat.mod_lt _ (by positivity)
  unfold setBits bitsOf
  rw [e, BitVec.toNat_ofNat]
  rw [h1] at d2
  set A := w.toNat / 2 ^ (f.hi + 1)
  set B := w.toNat / 2 ^ f.lo
  set C := B % 2 ^ n
  set V := v % 2 ^ n
  set M := w.toNat % 2 ^ f.lo
  have key : w.toNat - C * 2 ^ f.lo + V * 2 ^ f.lo = A * 2 ^ (f.hi + 1) + V * 2 ^ f.lo + M := by
    have : w.toNat = A * 2 ^ (f.hi + 1) + C * 2 ^ f.lo + M := by
      rw [hp, ← d1, ← d2]; ring
    omega
  rw [key]
  apply Nat.mod_eq_of_lt
  obtain ⟨k, hk⟩ : ∃ k, 32 = f.hi + 1 + k := ⟨32 - (f.hi + 1), by omega⟩
  have hA : A < 2 ^ k := by
    have : w.toNat < 2 ^ (f.hi + 1) * 2 ^ k := by rw [← pow_add, ← hk]; exact hw
    exact Nat.div_lt_of_lt_mul this
  have h2 : (2 : Nat) ^ 32 = 2 ^ k * 2 ^ (f.hi + 1) := by rw [← pow_add]; congr 1; omega
  rw [h2]
  have h3 : V * 2 ^ f.lo + M < 2 ^ (f.hi + 1) := by
    rw [hp]
    have : (V + 1) * 2 ^ f.lo ≤ 2 ^ n * 2 ^ f.lo := Nat.mul_le_mul_right _ hv
    nlinarith
  have h4 : (A + 1) * 2 ^ (f.hi + 1) ≤ 2 ^ k * 2 ^ (f.hi + 1) := Nat.mul_le_mul_right _ hA
  nlinarith

/-- A field reads the value written, cut to its width. -/
theorem bitsOf_setBits_same (w : Word) (f : Fld) (v : Nat) (h : f.lo ≤ f.hi) (h32 : f.hi < 32) :
    bitsOf (setBits w f v) f = v % 2 ^ (f.hi + 1 - f.lo) := by
  have hp : (2 : Nat) ^ (f.hi + 1) = 2 ^ (f.hi + 1 - f.lo) * 2 ^ f.lo := by rw [← pow_add]; congr 1; omega
  have hm : w.toNat % 2 ^ f.lo < 2 ^ f.lo := Nat.mod_lt _ (by positivity)
  unfold bitsOf
  rw [setBits_toNat w f v h h32, hp]
  set P := 2 ^ (f.hi + 1 - f.lo)
  set Q := 2 ^ f.lo
  have hq : 0 < Q := by positivity
  have : w.toNat / (P * Q) * (P * Q) + v % P * Q + w.toNat % Q = w.toNat % Q + (w.toNat / (P * Q) * P + v % P) * Q := by ring
  rw [this, Nat.add_mul_div_right _ _ hq, Nat.div_eq_of_lt hm, zero_add, Nat.add_comm, Nat.add_mul_mod_self_right, Nat.mod_mod]

/-- A field above or below the one written keeps its value. -/
theorem bitsOf_setBits_ne (w : Word) (f g : Fld) (v : Nat) (h : f.lo ≤ f.hi) (h32 : f.hi < 32) (hd : f.hi < g.lo ∨ g.hi < f.lo)
    (hg : g.lo ≤ g.hi) : bitsOf (setBits w f v) g = bitsOf w g := by
  have hm : w.toNat % 2 ^ f.lo < 2 ^ f.lo := Nat.mod_lt _ (by positivity)
  have hp : (2 : Nat) ^ (f.hi + 1) = 2 ^ (f.hi + 1 - f.lo) * 2 ^ f.lo := by rw [← pow_add]; congr 1; omega
  have hv : v % 2 ^ (f.hi + 1 - f.lo) < 2 ^ (f.hi + 1 - f.lo) := Nat.mod_lt _ (by positivity)
  unfold bitsOf
  rw [setBits_toNat w f v h h32]
  set V := v % 2 ^ (f.hi + 1 - f.lo)
  rcases hd with hd | hd
  · have hlow : V * 2 ^ f.lo + w.toNat % 2 ^ f.lo < 2 ^ (f.hi + 1) := by
      rw [hp]
      have : (V + 1) * 2 ^ f.lo ≤ 2 ^ (f.hi + 1 - f.lo) * 2 ^ f.lo := Nat.mul_le_mul_right _ hv
      nlinarith
    have hgl : (2 : Nat) ^ g.lo = 2 ^ (f.hi + 1) * 2 ^ (g.lo - (f.hi + 1)) := by rw [← pow_add]; congr 1; omega
    congr 1
    rw [hgl, ← Nat.div_div_eq_div_mul, ← Nat.div_div_eq_div_mul, Nat.add_assoc, Nat.add_comm, Nat.add_mul_div_right _ _ (by positivity),
      Nat.div_eq_of_lt hlow, zero_add]
  · obtain ⟨n, hn⟩ : ∃ n, f.lo = g.hi + 1 + n := ⟨f.lo - (g.hi + 1), by omega⟩
    have e : (2 : Nat) ^ (g.hi + 1) = 2 ^ g.lo * 2 ^ (g.hi + 1 - g.lo) := by rw [← pow_add]; congr 1; omega
    rw [← Nat.mod_mul_right_div_self, ← Nat.mod_mul_right_div_self, ← e]
    congr 1
    have e1 : (2 : Nat) ^ f.lo = 2 ^ n * 2 ^ (g.hi + 1) := by rw [← pow_add]; congr 1; omega
    have e2 : (2 : Nat) ^ (f.hi + 1) = 2 ^ (f.hi + 1 - (g.hi + 1)) * 2 ^ (g.hi + 1) := by rw [← pow_add]; congr 1; omega
    have : w.toNat / 2 ^ (f.hi + 1) * 2 ^ (f.hi + 1) + V * 2 ^ f.lo + w.toNat % 2 ^ f.lo
        = w.toNat % 2 ^ f.lo + (w.toNat / 2 ^ (f.hi + 1) * 2 ^ (f.hi + 1 - (g.hi + 1)) + V * 2 ^ n) * 2 ^ (g.hi + 1) := by
      rw [e2, e1]; ring
    rw [this, Nat.add_mul_mod_self_right, e1, Nat.mod_mul_left_mod]

theorem rd_wr_same (s : State) (a : Nat) (f : Fld) (v : Nat) (h : f.lo ≤ f.hi) (h32 : f.hi < 32) :
    (s.wr a f v).rd a f = v % 2 ^ (f.hi + 1 - f.lo) := by
  simp [State.wr, State.rd, bitsOf_setBits_same, h, h32]

theorem rd_wr_fld (s : State) (a : Nat) (f g : Fld) (v : Nat) (h : f.lo ≤ f.hi) (h32 : f.hi < 32) (hd : f.hi < g.lo ∨ g.hi < f.lo)
    (hg : g.lo ≤ g.hi) : (s.wr a f v).rd a g = s.rd a g := by
  simp [State.wr, State.rd, bitsOf_setBits_ne, h, h32, hd, hg]

theorem rget_wr_ne (s : State) {a b : Nat} (f : Fld) (v : Nat) (h : b ≠ a) : (s.wr a f v).rget b = s.rget b := rget_rset_ne s _ h

theorem rd_wr_reg (s : State) {a b : Nat} (f g : Fld) (v : Nat) (h : b ≠ a) : (s.wr a f v).rd b g = s.rd b g := by
  simp [State.rd, rget_wr_ne s f v h]

theorem rd_rset_ne (s : State) {a b : Nat} (w : Word) (g : Fld) (h : b ≠ a) : (s.rset a w).rd b g = s.rd b g := by
  simp [State.rd, rget_rset_ne s w h]

@[simp] theorem rd_rset_same (s : State) (a : Nat) (w : Word) (g : Fld) : (s.rset a w).rd a g = bitsOf w g := by simp [State.rd]

/-- A register written whole in a _LO and a _HI half reads back below 2^64. -/
theorem rd64_wr64 (s : State) {lo hi : Nat} (v : Nat) (h : lo ≠ hi) (hv : v < 2 ^ 64) : (s.wr64 lo hi v).rd64 lo hi = v := by
  simp only [State.wr64, State.rd64, rget_rset_same, rget_rset_ne _ _ h, BitVec.toNat_ofNat]
  omega

/-- The copies of a register stand within its index strides. -/
theorem dimsHit_lt (n st : Nat) (ds : List (Nat × Nat)) (off : Nat) (p : 0 < st) (h : dimsHit ((n, st) :: ds) off = true) : off < n * st := by
  simp only [dimsHit, Bool.and_eq_true, decide_eq_true_eq] at h
  exact (Nat.div_lt_iff_lt_mul p).1 h.1

/-- Whether a row of the register table lies outside an address range, or resets to zero. -/
def rowOut (lo hi : Nat) (r : RegDef) : Bool :=
  resetWord r.fields == 0 || decide (hi ≤ r.base) || (match r.dims with
    | [] => decide (r.base < lo)
    | (n, st) :: _ => decide (0 < st) && decide (r.base + n * st ≤ lo))

/-- The register at an address is a row of the table, and the address is one of its copies. -/
theorem regDef?_some {a : Nat} {r : RegDef} (h : regDef? a = some r) :
    r ∈ regTable ∧ r.base ≤ a ∧ dimsHit r.dims (a - r.base) = true := by
  unfold regDef? at h
  obtain ⟨g, hg, e⟩ := List.exists_of_findSome?_eq_some h
  split at e
  · have q := List.find?_some e
    simp only [Bool.and_eq_true, decide_eq_true_eq] at q
    exact ⟨List.mem_flatMap.2 ⟨g, hg, List.mem_of_find?_eq_some e⟩, q⟩
  · cases e

/-- In a range that no register with another reset value touches, every register resets to zero. -/
theorem regReset_zero (lo hi a : Nat) (h1 : lo ≤ a) (h2 : a < hi) (hl : 0x300500300 ≤ lo) (t : regTable.all (rowOut lo hi) = true) :
    regReset a = 0#32 := by
  unfold regReset
  rw [if_neg (by omega), if_neg (by omega), if_neg (by omega)]
  cases e : regDef? a with
  | none => rfl
  | some r =>
    obtain ⟨hr, g1, g2⟩ := regDef?_some e
    have m := List.all_eq_true.1 t r hr
    simp only [rowOut, Bool.or_eq_true, beq_iff_eq, decide_eq_true_eq] at m
    rcases m with (m | m) | m
    · simp [m]
    · omega
    · rcases d : r.dims with _ | ⟨⟨n, st⟩, ds⟩
      · rw [d] at g2 m
        simp [dimsHit] at g2 m
        omega
      · rw [d] at g2 m
        simp only [Bool.and_eq_true, decide_eq_true_eq] at m
        have := dimsHit_lt n st ds _ m.1 g2
        omega

/-- The range given with a group holds every copy of its registers, so the groups hide no register. -/
theorem regGroups_hold : regGroups.all (fun g => g.2.2.all fun r =>
    decide (g.1 ≤ r.base) && decide (r.base + (r.dims.map fun d => (d.1 - 1) * d.2).sum < g.2.1)) = true := by decide +kernel

/-- Every register of the gates resets to zero. -/
theorem gates_reset_zero (a : Nat) (h1 : 0x300501000 ≤ a) (h2 : a < 0x30052E000) : regReset a = 0#32 :=
  regReset_zero 0x300501000 0x30052E000 a h1 h2 (by omega) (by decide +kernel)
end Sys2Proof.Machine
end

