-- ==== Sys2Proof/Laws/State.lean ====
section
/-! SUPPORT. What each update of the state leaves alone: one lemma per field per update. -/

namespace Sys2Proof.Machine

open Sys2Proof

/-! ### rset -/

@[simp] theorem rset_latch (s : State) (a : Nat) (w : Word) : (s.rset a w).latch = s.latch := rfl
@[simp] theorem rset_clk (s : State) (a : Nat) (w : Word) : (s.rset a w).clk = s.clk := rfl
@[simp] theorem rset_seq (s : State) (a : Nat) (w : Word) : (s.rset a w).seq = s.seq := rfl
@[simp] theorem rset_cores (s : State) (a : Nat) (w : Word) : (s.rset a w).cores = s.cores := rfl
@[simp] theorem rset_tasks (s : State) (a : Nat) (w : Word) : (s.rset a w).tasks = s.tasks := rfl
@[simp] theorem rset_acts (s : State) (a : Nat) (w : Word) : (s.rset a w).acts = s.acts := rfl
@[simp] theorem rset_mem (s : State) (a : Nat) (w : Word) : (s.rset a w).mem = s.mem := rfl
@[simp] theorem rset_nor (s : State) (a : Nat) (w : Word) : (s.rset a w).nor = s.nor := rfl
@[simp] theorem rset_ecc (s : State) (a : Nat) (w : Word) : (s.rset a w).ecc = s.ecc := rfl
@[simp] theorem rset_image (s : State) (a : Nat) (w : Word) : (s.rset a w).image = s.image := rfl
@[simp] theorem rset_mapArea (s : State) (a : Nat) (w : Word) : (s.rset a w).mapArea = s.mapArea := rfl
@[simp] theorem rset_desc (s : State) (a : Nat) (w : Word) : (s.rset a w).desc = s.desc := rfl
@[simp] theorem rset_lastSent (s : State) (a : Nat) (w : Word) : (s.rset a w).lastSent = s.lastSent := rfl
@[simp] theorem rset_armed (s : State) (a : Nat) (w : Word) : (s.rset a w).armed = s.armed := rfl
@[simp] theorem rset_frcGen (s : State) (a : Nat) (w : Word) : (s.rset a w).frcGen = s.frcGen := rfl
@[simp] theorem rset_groves (s : State) (a : Nat) (w : Word) : (s.rset a w).groves = s.groves := rfl
@[simp] theorem rset_esd (s : State) (a : Nat) (w : Word) : (s.rset a w).esd = s.esd := rfl
@[simp] theorem rset_units (s : State) (a : Nat) (w : Word) : (s.rset a w).units = s.units := rfl
@[simp] theorem rset_tracePos (s : State) (a : Nat) (w : Word) : (s.rset a w).tracePos = s.tracePos := rfl
@[simp] theorem rset_traceSeq (s : State) (a : Nat) (w : Word) : (s.rset a w).traceSeq = s.traceSeq := rfl
@[simp] theorem rset_pair (s : State) (a : Nat) (w : Word) : (s.rset a w).pair = s.pair := rfl
@[simp] theorem rset_chg (s : State) (a : Nat) (w : Word) : (s.rset a w).chg = s.chg := rfl
@[simp] theorem rset_fw (s : State) (a : Nat) (w : Word) : (s.rset a w).fw = s.fw := rfl
@[simp] theorem rset_keys (s : State) (a : Nat) (w : Word) : (s.rset a w).keys = s.keys := rfl
@[simp] theorem rset_rings (s : State) (a : Nat) (w : Word) : (s.rset a w).rings = s.rings := rfl
@[simp] theorem rset_stations (s : State) (a : Nat) (w : Word) : (s.rset a w).stations = s.stations := rfl
@[simp] theorem rset_net (s : State) (a : Nat) (w : Word) : (s.rset a w).net = s.net := rfl
@[simp] theorem rset_peers (s : State) (a : Nat) (w : Word) : (s.rset a w).peers = s.peers := rfl
@[simp] theorem rset_can (s : State) (a : Nat) (w : Word) : (s.rset a w).can = s.can := rfl
@[simp] theorem rset_lio (s : State) (a : Nat) (w : Word) : (s.rset a w).lio = s.lio := rfl
@[simp] theorem rset_boot (s : State) (a : Nat) (w : Word) : (s.rset a w).boot = s.boot := rfl
@[simp] theorem rset_pwr (s : State) (a : Nat) (w : Word) : (s.rset a w).pwr = s.pwr := rfl
@[simp] theorem rset_tap (s : State) (a : Nat) (w : Word) : (s.rset a w).tap = s.tap := rfl
@[simp] theorem rset_evr (s : State) (a : Nat) (w : Word) : (s.rset a w).evr = s.evr := rfl
@[simp] theorem rset_pmcStart (s : State) (a : Nat) (w : Word) : (s.rset a w).pmcStart = s.pmcStart := rfl
@[simp] theorem rset_pending (s : State) (a : Nat) (w : Word) : (s.rset a w).pending = s.pending := rfl
@[simp] theorem rset_resp (s : State) (a : Nat) (w : Word) : (s.rset a w).resp = s.resp := rfl
@[simp] theorem rset_out (s : State) (a : Nat) (w : Word) : (s.rset a w).out = s.out := rfl
@[simp] theorem rset_free (s : State) (a : Nat) (w : Word) : (s.rset a w).free = s.free := rfl

/-! ### wr -/

@[simp] theorem wr_latch (s : State) (a : Nat) (f : Fld) (v : Nat) : (s.wr a f v).latch = s.latch := rfl
@[simp] theorem wr_clk (s : State) (a : Nat) (f : Fld) (v : Nat) : (s.wr a f v).clk = s.clk := rfl
@[simp] theorem wr_seq (s : State) (a : Nat) (f : Fld) (v : Nat) : (s.wr a f v).seq = s.seq := rfl
@[simp] theorem wr_cores (s : State) (a : Nat) (f : Fld) (v : Nat) : (s.wr a f v).cores = s.cores := rfl
@[simp] theorem wr_tasks (s : State) (a : Nat) (f : Fld) (v : Nat) : (s.wr a f v).tasks = s.tasks := rfl
@[simp] theorem wr_acts (s : State) (a : Nat) (f : Fld) (v : Nat) : (s.wr a f v).acts = s.acts := rfl
@[simp] theorem wr_mem (s : State) (a : Nat) (f : Fld) (v : Nat) : (s.wr a f v).mem = s.mem := rfl
@[simp] theorem wr_nor (s : State) (a : Nat) (f : Fld) (v : Nat) : (s.wr a f v).nor = s.nor := rfl
@[simp] theorem wr_ecc (s : State) (a : Nat) (f : Fld) (v : Nat) : (s.wr a f v).ecc = s.ecc := rfl
@[simp] theorem wr_image (s : State) (a : Nat) (f : Fld) (v : Nat) : (s.wr a f v).image = s.image := rfl
@[simp] theorem wr_mapArea (s : State) (a : Nat) (f : Fld) (v : Nat) : (s.wr a f v).mapArea = s.mapArea := rfl
@[simp] theorem wr_desc (s : State) (a : Nat) (f : Fld) (v : Nat) : (s.wr a f v).desc = s.desc := rfl
@[simp] theorem wr_lastSent (s : State) (a : Nat) (f : Fld) (v : Nat) : (s.wr a f v).lastSent = s.lastSent := rfl
@[simp] theorem wr_armed (s : State) (a : Nat) (f : Fld) (v : Nat) : (s.wr a f v).armed = s.armed := rfl
@[simp] theorem wr_frcGen (s : State) (a : Nat) (f : Fld) (v : Nat) : (s.wr a f v).frcGen = s.frcGen := rfl
@[simp] theorem wr_groves (s : State) (a : Nat) (f : Fld) (v : Nat) : (s.wr a f v).groves = s.groves := rfl
@[simp] theorem wr_esd (s : State) (a : Nat) (f : Fld) (v : Nat) : (s.wr a f v).esd = s.esd := rfl
@[simp] theorem wr_units (s : State) (a : Nat) (f : Fld) (v : Nat) : (s.wr a f v).units = s.units := rfl
@[simp] theorem wr_tracePos (s : State) (a : Nat) (f : Fld) (v : Nat) : (s.wr a f v).tracePos = s.tracePos := rfl
@[simp] theorem wr_traceSeq (s : State) (a : Nat) (f : Fld) (v : Nat) : (s.wr a f v).traceSeq = s.traceSeq := rfl
@[simp] theorem wr_pair (s : State) (a : Nat) (f : Fld) (v : Nat) : (s.wr a f v).pair = s.pair := rfl
@[simp] theorem wr_chg (s : State) (a : Nat) (f : Fld) (v : Nat) : (s.wr a f v).chg = s.chg := rfl
@[simp] theorem wr_fw (s : State) (a : Nat) (f : Fld) (v : Nat) : (s.wr a f v).fw = s.fw := rfl
@[simp] theorem wr_keys (s : State) (a : Nat) (f : Fld) (v : Nat) : (s.wr a f v).keys = s.keys := rfl
@[simp] theorem wr_rings (s : State) (a : Nat) (f : Fld) (v : Nat) : (s.wr a f v).rings = s.rings := rfl
@[simp] theorem wr_stations (s : State) (a : Nat) (f : Fld) (v : Nat) : (s.wr a f v).stations = s.stations := rfl
@[simp] theorem wr_net (s : State) (a : Nat) (f : Fld) (v : Nat) : (s.wr a f v).net = s.net := rfl
@[simp] theorem wr_peers (s : State) (a : Nat) (f : Fld) (v : Nat) : (s.wr a f v).peers = s.peers := rfl
@[simp] theorem wr_can (s : State) (a : Nat) (f : Fld) (v : Nat) : (s.wr a f v).can = s.can := rfl
@[simp] theorem wr_lio (s : State) (a : Nat) (f : Fld) (v : Nat) : (s.wr a f v).lio = s.lio := rfl
@[simp] theorem wr_boot (s : State) (a : Nat) (f : Fld) (v : Nat) : (s.wr a f v).boot = s.boot := rfl
@[simp] theorem wr_pwr (s : State) (a : Nat) (f : Fld) (v : Nat) : (s.wr a f v).pwr = s.pwr := rfl
@[simp] theorem wr_tap (s : State) (a : Nat) (f : Fld) (v : Nat) : (s.wr a f v).tap = s.tap := rfl
@[simp] theorem wr_evr (s : State) (a : Nat) (f : Fld) (v : Nat) : (s.wr a f v).evr = s.evr := rfl
@[simp] theorem wr_pmcStart (s : State) (a : Nat) (f : Fld) (v : Nat) : (s.wr a f v).pmcStart = s.pmcStart := rfl
@[simp] theorem wr_pending (s : State) (a : Nat) (f : Fld) (v : Nat) : (s.wr a f v).pending = s.pending := rfl
@[simp] theorem wr_resp (s : State) (a : Nat) (f : Fld) (v : Nat) : (s.wr a f v).resp = s.resp := rfl
@[simp] theorem wr_out (s : State) (a : Nat) (f : Fld) (v : Nat) : (s.wr a f v).out = s.out := rfl
@[simp] theorem wr_free (s : State) (a : Nat) (f : Fld) (v : Nat) : (s.wr a f v).free = s.free := rfl

/-! ### flag -/

@[simp] theorem flag_latch (s : State) (a : Nat) (f : Fld) (b : Bool) : (s.flag a f b).latch = s.latch := rfl
@[simp] theorem flag_clk (s : State) (a : Nat) (f : Fld) (b : Bool) : (s.flag a f b).clk = s.clk := rfl
@[simp] theorem flag_seq (s : State) (a : Nat) (f : Fld) (b : Bool) : (s.flag a f b).seq = s.seq := rfl
@[simp] theorem flag_cores (s : State) (a : Nat) (f : Fld) (b : Bool) : (s.flag a f b).cores = s.cores := rfl
@[simp] theorem flag_tasks (s : State) (a : Nat) (f : Fld) (b : Bool) : (s.flag a f b).tasks = s.tasks := rfl
@[simp] theorem flag_acts (s : State) (a : Nat) (f : Fld) (b : Bool) : (s.flag a f b).acts = s.acts := rfl
@[simp] theorem flag_mem (s : State) (a : Nat) (f : Fld) (b : Bool) : (s.flag a f b).mem = s.mem := rfl
@[simp] theorem flag_nor (s : State) (a : Nat) (f : Fld) (b : Bool) : (s.flag a f b).nor = s.nor := rfl
@[simp] theorem flag_ecc (s : State) (a : Nat) (f : Fld) (b : Bool) : (s.flag a f b).ecc = s.ecc := rfl
@[simp] theorem flag_image (s : State) (a : Nat) (f : Fld) (b : Bool) : (s.flag a f b).image = s.image := rfl
@[simp] theorem flag_mapArea (s : State) (a : Nat) (f : Fld) (b : Bool) : (s.flag a f b).mapArea = s.mapArea := rfl
@[simp] theorem flag_desc (s : State) (a : Nat) (f : Fld) (b : Bool) : (s.flag a f b).desc = s.desc := rfl
@[simp] theorem flag_lastSent (s : State) (a : Nat) (f : Fld) (b : Bool) : (s.flag a f b).lastSent = s.lastSent := rfl
@[simp] theorem flag_armed (s : State) (a : Nat) (f : Fld) (b : Bool) : (s.flag a f b).armed = s.armed := rfl
@[simp] theorem flag_frcGen (s : State) (a : Nat) (f : Fld) (b : Bool) : (s.flag a f b).frcGen = s.frcGen := rfl
@[simp] theorem flag_groves (s : State) (a : Nat) (f : Fld) (b : Bool) : (s.flag a f b).groves = s.groves := rfl
@[simp] theorem flag_esd (s : State) (a : Nat) (f : Fld) (b : Bool) : (s.flag a f b).esd = s.esd := rfl
@[simp] theorem flag_units (s : State) (a : Nat) (f : Fld) (b : Bool) : (s.flag a f b).units = s.units := rfl
@[simp] theorem flag_tracePos (s : State) (a : Nat) (f : Fld) (b : Bool) : (s.flag a f b).tracePos = s.tracePos := rfl
@[simp] theorem flag_traceSeq (s : State) (a : Nat) (f : Fld) (b : Bool) : (s.flag a f b).traceSeq = s.traceSeq := rfl
@[simp] theorem flag_pair (s : State) (a : Nat) (f : Fld) (b : Bool) : (s.flag a f b).pair = s.pair := rfl
@[simp] theorem flag_chg (s : State) (a : Nat) (f : Fld) (b : Bool) : (s.flag a f b).chg = s.chg := rfl
@[simp] theorem flag_fw (s : State) (a : Nat) (f : Fld) (b : Bool) : (s.flag a f b).fw = s.fw := rfl
@[simp] theorem flag_keys (s : State) (a : Nat) (f : Fld) (b : Bool) : (s.flag a f b).keys = s.keys := rfl
@[simp] theorem flag_rings (s : State) (a : Nat) (f : Fld) (b : Bool) : (s.flag a f b).rings = s.rings := rfl
@[simp] theorem flag_stations (s : State) (a : Nat) (f : Fld) (b : Bool) : (s.flag a f b).stations = s.stations := rfl
@[simp] theorem flag_net (s : State) (a : Nat) (f : Fld) (b : Bool) : (s.flag a f b).net = s.net := rfl
@[simp] theorem flag_peers (s : State) (a : Nat) (f : Fld) (b : Bool) : (s.flag a f b).peers = s.peers := rfl
@[simp] theorem flag_can (s : State) (a : Nat) (f : Fld) (b : Bool) : (s.flag a f b).can = s.can := rfl
@[simp] theorem flag_lio (s : State) (a : Nat) (f : Fld) (b : Bool) : (s.flag a f b).lio = s.lio := rfl
@[simp] theorem flag_boot (s : State) (a : Nat) (f : Fld) (b : Bool) : (s.flag a f b).boot = s.boot := rfl
@[simp] theorem flag_pwr (s : State) (a : Nat) (f : Fld) (b : Bool) : (s.flag a f b).pwr = s.pwr := rfl
@[simp] theorem flag_tap (s : State) (a : Nat) (f : Fld) (b : Bool) : (s.flag a f b).tap = s.tap := rfl
@[simp] theorem flag_evr (s : State) (a : Nat) (f : Fld) (b : Bool) : (s.flag a f b).evr = s.evr := rfl
@[simp] theorem flag_pmcStart (s : State) (a : Nat) (f : Fld) (b : Bool) : (s.flag a f b).pmcStart = s.pmcStart := rfl
@[simp] theorem flag_pending (s : State) (a : Nat) (f : Fld) (b : Bool) : (s.flag a f b).pending = s.pending := rfl
@[simp] theorem flag_resp (s : State) (a : Nat) (f : Fld) (b : Bool) : (s.flag a f b).resp = s.resp := rfl
@[simp] theorem flag_out (s : State) (a : Nat) (f : Fld) (b : Bool) : (s.flag a f b).out = s.out := rfl
@[simp] theorem flag_free (s : State) (a : Nat) (f : Fld) (b : Bool) : (s.flag a f b).free = s.free := rfl

/-! ### wr64 -/

@[simp] theorem wr64_latch (s : State) (lo hi v : Nat) : (s.wr64 lo hi v).latch = s.latch := rfl
@[simp] theorem wr64_clk (s : State) (lo hi v : Nat) : (s.wr64 lo hi v).clk = s.clk := rfl
@[simp] theorem wr64_seq (s : State) (lo hi v : Nat) : (s.wr64 lo hi v).seq = s.seq := rfl
@[simp] theorem wr64_cores (s : State) (lo hi v : Nat) : (s.wr64 lo hi v).cores = s.cores := rfl
@[simp] theorem wr64_tasks (s : State) (lo hi v : Nat) : (s.wr64 lo hi v).tasks = s.tasks := rfl
@[simp] theorem wr64_acts (s : State) (lo hi v : Nat) : (s.wr64 lo hi v).acts = s.acts := rfl
@[simp] theorem wr64_mem (s : State) (lo hi v : Nat) : (s.wr64 lo hi v).mem = s.mem := rfl
@[simp] theorem wr64_nor (s : State) (lo hi v : Nat) : (s.wr64 lo hi v).nor = s.nor := rfl
@[simp] theorem wr64_ecc (s : State) (lo hi v : Nat) : (s.wr64 lo hi v).ecc = s.ecc := rfl
@[simp] theorem wr64_image (s : State) (lo hi v : Nat) : (s.wr64 lo hi v).image = s.image := rfl
@[simp] theorem wr64_mapArea (s : State) (lo hi v : Nat) : (s.wr64 lo hi v).mapArea = s.mapArea := rfl
@[simp] theorem wr64_desc (s : State) (lo hi v : Nat) : (s.wr64 lo hi v).desc = s.desc := rfl
@[simp] theorem wr64_lastSent (s : State) (lo hi v : Nat) : (s.wr64 lo hi v).lastSent = s.lastSent := rfl
@[simp] theorem wr64_armed (s : State) (lo hi v : Nat) : (s.wr64 lo hi v).armed = s.armed := rfl
@[simp] theorem wr64_frcGen (s : State) (lo hi v : Nat) : (s.wr64 lo hi v).frcGen = s.frcGen := rfl
@[simp] theorem wr64_groves (s : State) (lo hi v : Nat) : (s.wr64 lo hi v).groves = s.groves := rfl
@[simp] theorem wr64_esd (s : State) (lo hi v : Nat) : (s.wr64 lo hi v).esd = s.esd := rfl
@[simp] theorem wr64_units (s : State) (lo hi v : Nat) : (s.wr64 lo hi v).units = s.units := rfl
@[simp] theorem wr64_tracePos (s : State) (lo hi v : Nat) : (s.wr64 lo hi v).tracePos = s.tracePos := rfl
@[simp] theorem wr64_traceSeq (s : State) (lo hi v : Nat) : (s.wr64 lo hi v).traceSeq = s.traceSeq := rfl
@[simp] theorem wr64_pair (s : State) (lo hi v : Nat) : (s.wr64 lo hi v).pair = s.pair := rfl
@[simp] theorem wr64_chg (s : State) (lo hi v : Nat) : (s.wr64 lo hi v).chg = s.chg := rfl
@[simp] theorem wr64_fw (s : State) (lo hi v : Nat) : (s.wr64 lo hi v).fw = s.fw := rfl
@[simp] theorem wr64_keys (s : State) (lo hi v : Nat) : (s.wr64 lo hi v).keys = s.keys := rfl
@[simp] theorem wr64_rings (s : State) (lo hi v : Nat) : (s.wr64 lo hi v).rings = s.rings := rfl
@[simp] theorem wr64_stations (s : State) (lo hi v : Nat) : (s.wr64 lo hi v).stations = s.stations := rfl
@[simp] theorem wr64_net (s : State) (lo hi v : Nat) : (s.wr64 lo hi v).net = s.net := rfl
@[simp] theorem wr64_peers (s : State) (lo hi v : Nat) : (s.wr64 lo hi v).peers = s.peers := rfl
@[simp] theorem wr64_can (s : State) (lo hi v : Nat) : (s.wr64 lo hi v).can = s.can := rfl
@[simp] theorem wr64_lio (s : State) (lo hi v : Nat) : (s.wr64 lo hi v).lio = s.lio := rfl
@[simp] theorem wr64_boot (s : State) (lo hi v : Nat) : (s.wr64 lo hi v).boot = s.boot := rfl
@[simp] theorem wr64_pwr (s : State) (lo hi v : Nat) : (s.wr64 lo hi v).pwr = s.pwr := rfl
@[simp] theorem wr64_tap (s : State) (lo hi v : Nat) : (s.wr64 lo hi v).tap = s.tap := rfl
@[simp] theorem wr64_evr (s : State) (lo hi v : Nat) : (s.wr64 lo hi v).evr = s.evr := rfl
@[simp] theorem wr64_pmcStart (s : State) (lo hi v : Nat) : (s.wr64 lo hi v).pmcStart = s.pmcStart := rfl
@[simp] theorem wr64_pending (s : State) (lo hi v : Nat) : (s.wr64 lo hi v).pending = s.pending := rfl
@[simp] theorem wr64_resp (s : State) (lo hi v : Nat) : (s.wr64 lo hi v).resp = s.resp := rfl
@[simp] theorem wr64_out (s : State) (lo hi v : Nat) : (s.wr64 lo hi v).out = s.out := rfl
@[simp] theorem wr64_free (s : State) (lo hi v : Nat) : (s.wr64 lo hi v).free = s.free := rfl

/-! ### bump -/

@[simp] theorem bump_latch (s : State) (a : Nat) (f : Fld) (n : Nat) : (s.bump a f n).latch = s.latch := rfl
@[simp] theorem bump_clk (s : State) (a : Nat) (f : Fld) (n : Nat) : (s.bump a f n).clk = s.clk := rfl
@[simp] theorem bump_seq (s : State) (a : Nat) (f : Fld) (n : Nat) : (s.bump a f n).seq = s.seq := rfl
@[simp] theorem bump_cores (s : State) (a : Nat) (f : Fld) (n : Nat) : (s.bump a f n).cores = s.cores := rfl
@[simp] theorem bump_tasks (s : State) (a : Nat) (f : Fld) (n : Nat) : (s.bump a f n).tasks = s.tasks := rfl
@[simp] theorem bump_acts (s : State) (a : Nat) (f : Fld) (n : Nat) : (s.bump a f n).acts = s.acts := rfl
@[simp] theorem bump_mem (s : State) (a : Nat) (f : Fld) (n : Nat) : (s.bump a f n).mem = s.mem := rfl
@[simp] theorem bump_nor (s : State) (a : Nat) (f : Fld) (n : Nat) : (s.bump a f n).nor = s.nor := rfl
@[simp] theorem bump_ecc (s : State) (a : Nat) (f : Fld) (n : Nat) : (s.bump a f n).ecc = s.ecc := rfl
@[simp] theorem bump_image (s : State) (a : Nat) (f : Fld) (n : Nat) : (s.bump a f n).image = s.image := rfl
@[simp] theorem bump_mapArea (s : State) (a : Nat) (f : Fld) (n : Nat) : (s.bump a f n).mapArea = s.mapArea := rfl
@[simp] theorem bump_desc (s : State) (a : Nat) (f : Fld) (n : Nat) : (s.bump a f n).desc = s.desc := rfl
@[simp] theorem bump_lastSent (s : State) (a : Nat) (f : Fld) (n : Nat) : (s.bump a f n).lastSent = s.lastSent := rfl
@[simp] theorem bump_armed (s : State) (a : Nat) (f : Fld) (n : Nat) : (s.bump a f n).armed = s.armed := rfl
@[simp] theorem bump_frcGen (s : State) (a : Nat) (f : Fld) (n : Nat) : (s.bump a f n).frcGen = s.frcGen := rfl
@[simp] theorem bump_groves (s : State) (a : Nat) (f : Fld) (n : Nat) : (s.bump a f n).groves = s.groves := rfl
@[simp] theorem bump_esd (s : State) (a : Nat) (f : Fld) (n : Nat) : (s.bump a f n).esd = s.esd := rfl
@[simp] theorem bump_units (s : State) (a : Nat) (f : Fld) (n : Nat) : (s.bump a f n).units = s.units := rfl
@[simp] theorem bump_tracePos (s : State) (a : Nat) (f : Fld) (n : Nat) : (s.bump a f n).tracePos = s.tracePos := rfl
@[simp] theorem bump_traceSeq (s : State) (a : Nat) (f : Fld) (n : Nat) : (s.bump a f n).traceSeq = s.traceSeq := rfl
@[simp] theorem bump_pair (s : State) (a : Nat) (f : Fld) (n : Nat) : (s.bump a f n).pair = s.pair := rfl
@[simp] theorem bump_chg (s : State) (a : Nat) (f : Fld) (n : Nat) : (s.bump a f n).chg = s.chg := rfl
@[simp] theorem bump_fw (s : State) (a : Nat) (f : Fld) (n : Nat) : (s.bump a f n).fw = s.fw := rfl
@[simp] theorem bump_keys (s : State) (a : Nat) (f : Fld) (n : Nat) : (s.bump a f n).keys = s.keys := rfl
@[simp] theorem bump_rings (s : State) (a : Nat) (f : Fld) (n : Nat) : (s.bump a f n).rings = s.rings := rfl
@[simp] theorem bump_stations (s : State) (a : Nat) (f : Fld) (n : Nat) : (s.bump a f n).stations = s.stations := rfl
@[simp] theorem bump_net (s : State) (a : Nat) (f : Fld) (n : Nat) : (s.bump a f n).net = s.net := rfl
@[simp] theorem bump_peers (s : State) (a : Nat) (f : Fld) (n : Nat) : (s.bump a f n).peers = s.peers := rfl
@[simp] theorem bump_can (s : State) (a : Nat) (f : Fld) (n : Nat) : (s.bump a f n).can = s.can := rfl
@[simp] theorem bump_lio (s : State) (a : Nat) (f : Fld) (n : Nat) : (s.bump a f n).lio = s.lio := rfl
@[simp] theorem bump_boot (s : State) (a : Nat) (f : Fld) (n : Nat) : (s.bump a f n).boot = s.boot := rfl
@[simp] theorem bump_pwr (s : State) (a : Nat) (f : Fld) (n : Nat) : (s.bump a f n).pwr = s.pwr := rfl
@[simp] theorem bump_tap (s : State) (a : Nat) (f : Fld) (n : Nat) : (s.bump a f n).tap = s.tap := rfl
@[simp] theorem bump_evr (s : State) (a : Nat) (f : Fld) (n : Nat) : (s.bump a f n).evr = s.evr := rfl
@[simp] theorem bump_pmcStart (s : State) (a : Nat) (f : Fld) (n : Nat) : (s.bump a f n).pmcStart = s.pmcStart := rfl
@[simp] theorem bump_pending (s : State) (a : Nat) (f : Fld) (n : Nat) : (s.bump a f n).pending = s.pending := rfl
@[simp] theorem bump_resp (s : State) (a : Nat) (f : Fld) (n : Nat) : (s.bump a f n).resp = s.resp := rfl
@[simp] theorem bump_out (s : State) (a : Nat) (f : Fld) (n : Nat) : (s.bump a f n).out = s.out := rfl
@[simp] theorem bump_free (s : State) (a : Nat) (f : Fld) (n : Nat) : (s.bump a f n).free = s.free := rfl

/-! ### setCore -/

@[simp] theorem setCore_regs (s : State) (n : Nat) (c : Core) : (s.setCore n c).regs = s.regs := rfl
@[simp] theorem setCore_latch (s : State) (n : Nat) (c : Core) : (s.setCore n c).latch = s.latch := rfl
@[simp] theorem setCore_clk (s : State) (n : Nat) (c : Core) : (s.setCore n c).clk = s.clk := rfl
@[simp] theorem setCore_seq (s : State) (n : Nat) (c : Core) : (s.setCore n c).seq = s.seq := rfl
@[simp] theorem setCore_tasks (s : State) (n : Nat) (c : Core) : (s.setCore n c).tasks = s.tasks := rfl
@[simp] theorem setCore_acts (s : State) (n : Nat) (c : Core) : (s.setCore n c).acts = s.acts := rfl
@[simp] theorem setCore_mem (s : State) (n : Nat) (c : Core) : (s.setCore n c).mem = s.mem := rfl
@[simp] theorem setCore_nor (s : State) (n : Nat) (c : Core) : (s.setCore n c).nor = s.nor := rfl
@[simp] theorem setCore_ecc (s : State) (n : Nat) (c : Core) : (s.setCore n c).ecc = s.ecc := rfl
@[simp] theorem setCore_image (s : State) (n : Nat) (c : Core) : (s.setCore n c).image = s.image := rfl
@[simp] theorem setCore_mapArea (s : State) (n : Nat) (c : Core) : (s.setCore n c).mapArea = s.mapArea := rfl
@[simp] theorem setCore_desc (s : State) (n : Nat) (c : Core) : (s.setCore n c).desc = s.desc := rfl
@[simp] theorem setCore_lastSent (s : State) (n : Nat) (c : Core) : (s.setCore n c).lastSent = s.lastSent := rfl
@[simp] theorem setCore_armed (s : State) (n : Nat) (c : Core) : (s.setCore n c).armed = s.armed := rfl
@[simp] theorem setCore_frcGen (s : State) (n : Nat) (c : Core) : (s.setCore n c).frcGen = s.frcGen := rfl
@[simp] theorem setCore_groves (s : State) (n : Nat) (c : Core) : (s.setCore n c).groves = s.groves := rfl
@[simp] theorem setCore_esd (s : State) (n : Nat) (c : Core) : (s.setCore n c).esd = s.esd := rfl
@[simp] theorem setCore_units (s : State) (n : Nat) (c : Core) : (s.setCore n c).units = s.units := rfl
@[simp] theorem setCore_tracePos (s : State) (n : Nat) (c : Core) : (s.setCore n c).tracePos = s.tracePos := rfl
@[simp] theorem setCore_traceSeq (s : State) (n : Nat) (c : Core) : (s.setCore n c).traceSeq = s.traceSeq := rfl
@[simp] theorem setCore_pair (s : State) (n : Nat) (c : Core) : (s.setCore n c).pair = s.pair := rfl
@[simp] theorem setCore_chg (s : State) (n : Nat) (c : Core) : (s.setCore n c).chg = s.chg := rfl
@[simp] theorem setCore_fw (s : State) (n : Nat) (c : Core) : (s.setCore n c).fw = s.fw := rfl
@[simp] theorem setCore_keys (s : State) (n : Nat) (c : Core) : (s.setCore n c).keys = s.keys := rfl
@[simp] theorem setCore_rings (s : State) (n : Nat) (c : Core) : (s.setCore n c).rings = s.rings := rfl
@[simp] theorem setCore_stations (s : State) (n : Nat) (c : Core) : (s.setCore n c).stations = s.stations := rfl
@[simp] theorem setCore_net (s : State) (n : Nat) (c : Core) : (s.setCore n c).net = s.net := rfl
@[simp] theorem setCore_peers (s : State) (n : Nat) (c : Core) : (s.setCore n c).peers = s.peers := rfl
@[simp] theorem setCore_can (s : State) (n : Nat) (c : Core) : (s.setCore n c).can = s.can := rfl
@[simp] theorem setCore_lio (s : State) (n : Nat) (c : Core) : (s.setCore n c).lio = s.lio := rfl
@[simp] theorem setCore_boot (s : State) (n : Nat) (c : Core) : (s.setCore n c).boot = s.boot := rfl
@[simp] theorem setCore_pwr (s : State) (n : Nat) (c : Core) : (s.setCore n c).pwr = s.pwr := rfl
@[simp] theorem setCore_tap (s : State) (n : Nat) (c : Core) : (s.setCore n c).tap = s.tap := rfl
@[simp] theorem setCore_evr (s : State) (n : Nat) (c : Core) : (s.setCore n c).evr = s.evr := rfl
@[simp] theorem setCore_pmcStart (s : State) (n : Nat) (c : Core) : (s.setCore n c).pmcStart = s.pmcStart := rfl
@[simp] theorem setCore_pending (s : State) (n : Nat) (c : Core) : (s.setCore n c).pending = s.pending := rfl
@[simp] theorem setCore_resp (s : State) (n : Nat) (c : Core) : (s.setCore n c).resp = s.resp := rfl
@[simp] theorem setCore_out (s : State) (n : Nat) (c : Core) : (s.setCore n c).out = s.out := rfl
@[simp] theorem setCore_free (s : State) (n : Nat) (c : Core) : (s.setCore n c).free = s.free := rfl

/-! ### setTask -/

@[simp] theorem setTask_regs (s : State) (e c : Nat) (t : Task) : (s.setTask e c t).regs = s.regs := rfl
@[simp] theorem setTask_latch (s : State) (e c : Nat) (t : Task) : (s.setTask e c t).latch = s.latch := rfl
@[simp] theorem setTask_clk (s : State) (e c : Nat) (t : Task) : (s.setTask e c t).clk = s.clk := rfl
@[simp] theorem setTask_seq (s : State) (e c : Nat) (t : Task) : (s.setTask e c t).seq = s.seq := rfl
@[simp] theorem setTask_cores (s : State) (e c : Nat) (t : Task) : (s.setTask e c t).cores = s.cores := rfl
@[simp] theorem setTask_acts (s : State) (e c : Nat) (t : Task) : (s.setTask e c t).acts = s.acts := rfl
@[simp] theorem setTask_mem (s : State) (e c : Nat) (t : Task) : (s.setTask e c t).mem = s.mem := rfl
@[simp] theorem setTask_nor (s : State) (e c : Nat) (t : Task) : (s.setTask e c t).nor = s.nor := rfl
@[simp] theorem setTask_ecc (s : State) (e c : Nat) (t : Task) : (s.setTask e c t).ecc = s.ecc := rfl
@[simp] theorem setTask_image (s : State) (e c : Nat) (t : Task) : (s.setTask e c t).image = s.image := rfl
@[simp] theorem setTask_mapArea (s : State) (e c : Nat) (t : Task) : (s.setTask e c t).mapArea = s.mapArea := rfl
@[simp] theorem setTask_desc (s : State) (e c : Nat) (t : Task) : (s.setTask e c t).desc = s.desc := rfl
@[simp] theorem setTask_lastSent (s : State) (e c : Nat) (t : Task) : (s.setTask e c t).lastSent = s.lastSent := rfl
@[simp] theorem setTask_armed (s : State) (e c : Nat) (t : Task) : (s.setTask e c t).armed = s.armed := rfl
@[simp] theorem setTask_frcGen (s : State) (e c : Nat) (t : Task) : (s.setTask e c t).frcGen = s.frcGen := rfl
@[simp] theorem setTask_groves (s : State) (e c : Nat) (t : Task) : (s.setTask e c t).groves = s.groves := rfl
@[simp] theorem setTask_esd (s : State) (e c : Nat) (t : Task) : (s.setTask e c t).esd = s.esd := rfl
@[simp] theorem setTask_units (s : State) (e c : Nat) (t : Task) : (s.setTask e c t).units = s.units := rfl
@[simp] theorem setTask_tracePos (s : State) (e c : Nat) (t : Task) : (s.setTask e c t).tracePos = s.tracePos := rfl
@[simp] theorem setTask_traceSeq (s : State) (e c : Nat) (t : Task) : (s.setTask e c t).traceSeq = s.traceSeq := rfl
@[simp] theorem setTask_pair (s : State) (e c : Nat) (t : Task) : (s.setTask e c t).pair = s.pair := rfl
@[simp] theorem setTask_chg (s : State) (e c : Nat) (t : Task) : (s.setTask e c t).chg = s.chg := rfl
@[simp] theorem setTask_fw (s : State) (e c : Nat) (t : Task) : (s.setTask e c t).fw = s.fw := rfl
@[simp] theorem setTask_keys (s : State) (e c : Nat) (t : Task) : (s.setTask e c t).keys = s.keys := rfl
@[simp] theorem setTask_rings (s : State) (e c : Nat) (t : Task) : (s.setTask e c t).rings = s.rings := rfl
@[simp] theorem setTask_stations (s : State) (e c : Nat) (t : Task) : (s.setTask e c t).stations = s.stations := rfl
@[simp] theorem setTask_net (s : State) (e c : Nat) (t : Task) : (s.setTask e c t).net = s.net := rfl
@[simp] theorem setTask_peers (s : State) (e c : Nat) (t : Task) : (s.setTask e c t).peers = s.peers := rfl
@[simp] theorem setTask_can (s : State) (e c : Nat) (t : Task) : (s.setTask e c t).can = s.can := rfl
@[simp] theorem setTask_lio (s : State) (e c : Nat) (t : Task) : (s.setTask e c t).lio = s.lio := rfl
@[simp] theorem setTask_boot (s : State) (e c : Nat) (t : Task) : (s.setTask e c t).boot = s.boot := rfl
@[simp] theorem setTask_pwr (s : State) (e c : Nat) (t : Task) : (s.setTask e c t).pwr = s.pwr := rfl
@[simp] theorem setTask_tap (s : State) (e c : Nat) (t : Task) : (s.setTask e c t).tap = s.tap := rfl
@[simp] theorem setTask_evr (s : State) (e c : Nat) (t : Task) : (s.setTask e c t).evr = s.evr := rfl
@[simp] theorem setTask_pmcStart (s : State) (e c : Nat) (t : Task) : (s.setTask e c t).pmcStart = s.pmcStart := rfl
@[simp] theorem setTask_pending (s : State) (e c : Nat) (t : Task) : (s.setTask e c t).pending = s.pending := rfl
@[simp] theorem setTask_resp (s : State) (e c : Nat) (t : Task) : (s.setTask e c t).resp = s.resp := rfl
@[simp] theorem setTask_out (s : State) (e c : Nat) (t : Task) : (s.setTask e c t).out = s.out := rfl
@[simp] theorem setTask_free (s : State) (e c : Nat) (t : Task) : (s.setTask e c t).free = s.free := rfl

/-! ### setAct -/

@[simp] theorem setAct_regs (s : State) (c : Nat) (a : Act) : (s.setAct c a).regs = s.regs := rfl
@[simp] theorem setAct_latch (s : State) (c : Nat) (a : Act) : (s.setAct c a).latch = s.latch := rfl
@[simp] theorem setAct_clk (s : State) (c : Nat) (a : Act) : (s.setAct c a).clk = s.clk := rfl
@[simp] theorem setAct_seq (s : State) (c : Nat) (a : Act) : (s.setAct c a).seq = s.seq := rfl
@[simp] theorem setAct_cores (s : State) (c : Nat) (a : Act) : (s.setAct c a).cores = s.cores := rfl
@[simp] theorem setAct_tasks (s : State) (c : Nat) (a : Act) : (s.setAct c a).tasks = s.tasks := rfl
@[simp] theorem setAct_mem (s : State) (c : Nat) (a : Act) : (s.setAct c a).mem = s.mem := rfl
@[simp] theorem setAct_nor (s : State) (c : Nat) (a : Act) : (s.setAct c a).nor = s.nor := rfl
@[simp] theorem setAct_ecc (s : State) (c : Nat) (a : Act) : (s.setAct c a).ecc = s.ecc := rfl
@[simp] theorem setAct_image (s : State) (c : Nat) (a : Act) : (s.setAct c a).image = s.image := rfl
@[simp] theorem setAct_mapArea (s : State) (c : Nat) (a : Act) : (s.setAct c a).mapArea = s.mapArea := rfl
@[simp] theorem setAct_desc (s : State) (c : Nat) (a : Act) : (s.setAct c a).desc = s.desc := rfl
@[simp] theorem setAct_lastSent (s : State) (c : Nat) (a : Act) : (s.setAct c a).lastSent = s.lastSent := rfl
@[simp] theorem setAct_armed (s : State) (c : Nat) (a : Act) : (s.setAct c a).armed = s.armed := rfl
@[simp] theorem setAct_frcGen (s : State) (c : Nat) (a : Act) : (s.setAct c a).frcGen = s.frcGen := rfl
@[simp] theorem setAct_groves (s : State) (c : Nat) (a : Act) : (s.setAct c a).groves = s.groves := rfl
@[simp] theorem setAct_esd (s : State) (c : Nat) (a : Act) : (s.setAct c a).esd = s.esd := rfl
@[simp] theorem setAct_units (s : State) (c : Nat) (a : Act) : (s.setAct c a).units = s.units := rfl
@[simp] theorem setAct_tracePos (s : State) (c : Nat) (a : Act) : (s.setAct c a).tracePos = s.tracePos := rfl
@[simp] theorem setAct_traceSeq (s : State) (c : Nat) (a : Act) : (s.setAct c a).traceSeq = s.traceSeq := rfl
@[simp] theorem setAct_pair (s : State) (c : Nat) (a : Act) : (s.setAct c a).pair = s.pair := rfl
@[simp] theorem setAct_chg (s : State) (c : Nat) (a : Act) : (s.setAct c a).chg = s.chg := rfl
@[simp] theorem setAct_fw (s : State) (c : Nat) (a : Act) : (s.setAct c a).fw = s.fw := rfl
@[simp] theorem setAct_keys (s : State) (c : Nat) (a : Act) : (s.setAct c a).keys = s.keys := rfl
@[simp] theorem setAct_rings (s : State) (c : Nat) (a : Act) : (s.setAct c a).rings = s.rings := rfl
@[simp] theorem setAct_stations (s : State) (c : Nat) (a : Act) : (s.setAct c a).stations = s.stations := rfl
@[simp] theorem setAct_net (s : State) (c : Nat) (a : Act) : (s.setAct c a).net = s.net := rfl
@[simp] theorem setAct_peers (s : State) (c : Nat) (a : Act) : (s.setAct c a).peers = s.peers := rfl
@[simp] theorem setAct_can (s : State) (c : Nat) (a : Act) : (s.setAct c a).can = s.can := rfl
@[simp] theorem setAct_lio (s : State) (c : Nat) (a : Act) : (s.setAct c a).lio = s.lio := rfl
@[simp] theorem setAct_boot (s : State) (c : Nat) (a : Act) : (s.setAct c a).boot = s.boot := rfl
@[simp] theorem setAct_pwr (s : State) (c : Nat) (a : Act) : (s.setAct c a).pwr = s.pwr := rfl
@[simp] theorem setAct_tap (s : State) (c : Nat) (a : Act) : (s.setAct c a).tap = s.tap := rfl
@[simp] theorem setAct_evr (s : State) (c : Nat) (a : Act) : (s.setAct c a).evr = s.evr := rfl
@[simp] theorem setAct_pmcStart (s : State) (c : Nat) (a : Act) : (s.setAct c a).pmcStart = s.pmcStart := rfl
@[simp] theorem setAct_pending (s : State) (c : Nat) (a : Act) : (s.setAct c a).pending = s.pending := rfl
@[simp] theorem setAct_resp (s : State) (c : Nat) (a : Act) : (s.setAct c a).resp = s.resp := rfl
@[simp] theorem setAct_out (s : State) (c : Nat) (a : Act) : (s.setAct c a).out = s.out := rfl
@[simp] theorem setAct_free (s : State) (c : Nat) (a : Act) : (s.setAct c a).free = s.free := rfl

/-! ### setGrove -/

@[simp] theorem setGrove_regs (s : State) (g : Nat) (r : Grove) : (s.setGrove g r).regs = s.regs := rfl
@[simp] theorem setGrove_latch (s : State) (g : Nat) (r : Grove) : (s.setGrove g r).latch = s.latch := rfl
@[simp] theorem setGrove_clk (s : State) (g : Nat) (r : Grove) : (s.setGrove g r).clk = s.clk := rfl
@[simp] theorem setGrove_seq (s : State) (g : Nat) (r : Grove) : (s.setGrove g r).seq = s.seq := rfl
@[simp] theorem setGrove_cores (s : State) (g : Nat) (r : Grove) : (s.setGrove g r).cores = s.cores := rfl
@[simp] theorem setGrove_tasks (s : State) (g : Nat) (r : Grove) : (s.setGrove g r).tasks = s.tasks := rfl
@[simp] theorem setGrove_acts (s : State) (g : Nat) (r : Grove) : (s.setGrove g r).acts = s.acts := rfl
@[simp] theorem setGrove_mem (s : State) (g : Nat) (r : Grove) : (s.setGrove g r).mem = s.mem := rfl
@[simp] theorem setGrove_nor (s : State) (g : Nat) (r : Grove) : (s.setGrove g r).nor = s.nor := rfl
@[simp] theorem setGrove_ecc (s : State) (g : Nat) (r : Grove) : (s.setGrove g r).ecc = s.ecc := rfl
@[simp] theorem setGrove_image (s : State) (g : Nat) (r : Grove) : (s.setGrove g r).image = s.image := rfl
@[simp] theorem setGrove_mapArea (s : State) (g : Nat) (r : Grove) : (s.setGrove g r).mapArea = s.mapArea := rfl
@[simp] theorem setGrove_desc (s : State) (g : Nat) (r : Grove) : (s.setGrove g r).desc = s.desc := rfl
@[simp] theorem setGrove_lastSent (s : State) (g : Nat) (r : Grove) : (s.setGrove g r).lastSent = s.lastSent := rfl
@[simp] theorem setGrove_armed (s : State) (g : Nat) (r : Grove) : (s.setGrove g r).armed = s.armed := rfl
@[simp] theorem setGrove_frcGen (s : State) (g : Nat) (r : Grove) : (s.setGrove g r).frcGen = s.frcGen := rfl
@[simp] theorem setGrove_esd (s : State) (g : Nat) (r : Grove) : (s.setGrove g r).esd = s.esd := rfl
@[simp] theorem setGrove_units (s : State) (g : Nat) (r : Grove) : (s.setGrove g r).units = s.units := rfl
@[simp] theorem setGrove_tracePos (s : State) (g : Nat) (r : Grove) : (s.setGrove g r).tracePos = s.tracePos := rfl
@[simp] theorem setGrove_traceSeq (s : State) (g : Nat) (r : Grove) : (s.setGrove g r).traceSeq = s.traceSeq := rfl
@[simp] theorem setGrove_pair (s : State) (g : Nat) (r : Grove) : (s.setGrove g r).pair = s.pair := rfl
@[simp] theorem setGrove_chg (s : State) (g : Nat) (r : Grove) : (s.setGrove g r).chg = s.chg := rfl
@[simp] theorem setGrove_fw (s : State) (g : Nat) (r : Grove) : (s.setGrove g r).fw = s.fw := rfl
@[simp] theorem setGrove_keys (s : State) (g : Nat) (r : Grove) : (s.setGrove g r).keys = s.keys := rfl
@[simp] theorem setGrove_rings (s : State) (g : Nat) (r : Grove) : (s.setGrove g r).rings = s.rings := rfl
@[simp] theorem setGrove_stations (s : State) (g : Nat) (r : Grove) : (s.setGrove g r).stations = s.stations := rfl
@[simp] theorem setGrove_net (s : State) (g : Nat) (r : Grove) : (s.setGrove g r).net = s.net := rfl
@[simp] theorem setGrove_peers (s : State) (g : Nat) (r : Grove) : (s.setGrove g r).peers = s.peers := rfl
@[simp] theorem setGrove_can (s : State) (g : Nat) (r : Grove) : (s.setGrove g r).can = s.can := rfl
@[simp] theorem setGrove_lio (s : State) (g : Nat) (r : Grove) : (s.setGrove g r).lio = s.lio := rfl
@[simp] theorem setGrove_boot (s : State) (g : Nat) (r : Grove) : (s.setGrove g r).boot = s.boot := rfl
@[simp] theorem setGrove_pwr (s : State) (g : Nat) (r : Grove) : (s.setGrove g r).pwr = s.pwr := rfl
@[simp] theorem setGrove_tap (s : State) (g : Nat) (r : Grove) : (s.setGrove g r).tap = s.tap := rfl
@[simp] theorem setGrove_evr (s : State) (g : Nat) (r : Grove) : (s.setGrove g r).evr = s.evr := rfl
@[simp] theorem setGrove_pmcStart (s : State) (g : Nat) (r : Grove) : (s.setGrove g r).pmcStart = s.pmcStart := rfl
@[simp] theorem setGrove_pending (s : State) (g : Nat) (r : Grove) : (s.setGrove g r).pending = s.pending := rfl
@[simp] theorem setGrove_resp (s : State) (g : Nat) (r : Grove) : (s.setGrove g r).resp = s.resp := rfl
@[simp] theorem setGrove_out (s : State) (g : Nat) (r : Grove) : (s.setGrove g r).out = s.out := rfl
@[simp] theorem setGrove_free (s : State) (g : Nat) (r : Grove) : (s.setGrove g r).free = s.free := rfl

/-! ### setUnit -/

@[simp] theorem setUnit_regs (s : State) (e : Nat) (r : UnitRec) : (s.setUnit e r).regs = s.regs := rfl
@[simp] theorem setUnit_latch (s : State) (e : Nat) (r : UnitRec) : (s.setUnit e r).latch = s.latch := rfl
@[simp] theorem setUnit_clk (s : State) (e : Nat) (r : UnitRec) : (s.setUnit e r).clk = s.clk := rfl
@[simp] theorem setUnit_seq (s : State) (e : Nat) (r : UnitRec) : (s.setUnit e r).seq = s.seq := rfl
@[simp] theorem setUnit_cores (s : State) (e : Nat) (r : UnitRec) : (s.setUnit e r).cores = s.cores := rfl
@[simp] theorem setUnit_tasks (s : State) (e : Nat) (r : UnitRec) : (s.setUnit e r).tasks = s.tasks := rfl
@[simp] theorem setUnit_acts (s : State) (e : Nat) (r : UnitRec) : (s.setUnit e r).acts = s.acts := rfl
@[simp] theorem setUnit_mem (s : State) (e : Nat) (r : UnitRec) : (s.setUnit e r).mem = s.mem := rfl
@[simp] theorem setUnit_nor (s : State) (e : Nat) (r : UnitRec) : (s.setUnit e r).nor = s.nor := rfl
@[simp] theorem setUnit_ecc (s : State) (e : Nat) (r : UnitRec) : (s.setUnit e r).ecc = s.ecc := rfl
@[simp] theorem setUnit_image (s : State) (e : Nat) (r : UnitRec) : (s.setUnit e r).image = s.image := rfl
@[simp] theorem setUnit_mapArea (s : State) (e : Nat) (r : UnitRec) : (s.setUnit e r).mapArea = s.mapArea := rfl
@[simp] theorem setUnit_desc (s : State) (e : Nat) (r : UnitRec) : (s.setUnit e r).desc = s.desc := rfl
@[simp] theorem setUnit_lastSent (s : State) (e : Nat) (r : UnitRec) : (s.setUnit e r).lastSent = s.lastSent := rfl
@[simp] theorem setUnit_armed (s : State) (e : Nat) (r : UnitRec) : (s.setUnit e r).armed = s.armed := rfl
@[simp] theorem setUnit_frcGen (s : State) (e : Nat) (r : UnitRec) : (s.setUnit e r).frcGen = s.frcGen := rfl
@[simp] theorem setUnit_groves (s : State) (e : Nat) (r : UnitRec) : (s.setUnit e r).groves = s.groves := rfl
@[simp] theorem setUnit_esd (s : State) (e : Nat) (r : UnitRec) : (s.setUnit e r).esd = s.esd := rfl
@[simp] theorem setUnit_tracePos (s : State) (e : Nat) (r : UnitRec) : (s.setUnit e r).tracePos = s.tracePos := rfl
@[simp] theorem setUnit_traceSeq (s : State) (e : Nat) (r : UnitRec) : (s.setUnit e r).traceSeq = s.traceSeq := rfl
@[simp] theorem setUnit_pair (s : State) (e : Nat) (r : UnitRec) : (s.setUnit e r).pair = s.pair := rfl
@[simp] theorem setUnit_chg (s : State) (e : Nat) (r : UnitRec) : (s.setUnit e r).chg = s.chg := rfl
@[simp] theorem setUnit_fw (s : State) (e : Nat) (r : UnitRec) : (s.setUnit e r).fw = s.fw := rfl
@[simp] theorem setUnit_keys (s : State) (e : Nat) (r : UnitRec) : (s.setUnit e r).keys = s.keys := rfl
@[simp] theorem setUnit_rings (s : State) (e : Nat) (r : UnitRec) : (s.setUnit e r).rings = s.rings := rfl
@[simp] theorem setUnit_stations (s : State) (e : Nat) (r : UnitRec) : (s.setUnit e r).stations = s.stations := rfl
@[simp] theorem setUnit_net (s : State) (e : Nat) (r : UnitRec) : (s.setUnit e r).net = s.net := rfl
@[simp] theorem setUnit_peers (s : State) (e : Nat) (r : UnitRec) : (s.setUnit e r).peers = s.peers := rfl
@[simp] theorem setUnit_can (s : State) (e : Nat) (r : UnitRec) : (s.setUnit e r).can = s.can := rfl
@[simp] theorem setUnit_lio (s : State) (e : Nat) (r : UnitRec) : (s.setUnit e r).lio = s.lio := rfl
@[simp] theorem setUnit_boot (s : State) (e : Nat) (r : UnitRec) : (s.setUnit e r).boot = s.boot := rfl
@[simp] theorem setUnit_pwr (s : State) (e : Nat) (r : UnitRec) : (s.setUnit e r).pwr = s.pwr := rfl
@[simp] theorem setUnit_tap (s : State) (e : Nat) (r : UnitRec) : (s.setUnit e r).tap = s.tap := rfl
@[simp] theorem setUnit_evr (s : State) (e : Nat) (r : UnitRec) : (s.setUnit e r).evr = s.evr := rfl
@[simp] theorem setUnit_pmcStart (s : State) (e : Nat) (r : UnitRec) : (s.setUnit e r).pmcStart = s.pmcStart := rfl
@[simp] theorem setUnit_pending (s : State) (e : Nat) (r : UnitRec) : (s.setUnit e r).pending = s.pending := rfl
@[simp] theorem setUnit_resp (s : State) (e : Nat) (r : UnitRec) : (s.setUnit e r).resp = s.resp := rfl
@[simp] theorem setUnit_out (s : State) (e : Nat) (r : UnitRec) : (s.setUnit e r).out = s.out := rfl
@[simp] theorem setUnit_free (s : State) (e : Nat) (r : UnitRec) : (s.setUnit e r).free = s.free := rfl

/-! ### setRing -/

@[simp] theorem setRing_regs (s : State) (k : Nat) (f : RingSt → RingSt) : (s.setRing k f).regs = s.regs := rfl
@[simp] theorem setRing_latch (s : State) (k : Nat) (f : RingSt → RingSt) : (s.setRing k f).latch = s.latch := rfl
@[simp] theorem setRing_clk (s : State) (k : Nat) (f : RingSt → RingSt) : (s.setRing k f).clk = s.clk := rfl
@[simp] theorem setRing_seq (s : State) (k : Nat) (f : RingSt → RingSt) : (s.setRing k f).seq = s.seq := rfl
@[simp] theorem setRing_cores (s : State) (k : Nat) (f : RingSt → RingSt) : (s.setRing k f).cores = s.cores := rfl
@[simp] theorem setRing_tasks (s : State) (k : Nat) (f : RingSt → RingSt) : (s.setRing k f).tasks = s.tasks := rfl
@[simp] theorem setRing_acts (s : State) (k : Nat) (f : RingSt → RingSt) : (s.setRing k f).acts = s.acts := rfl
@[simp] theorem setRing_mem (s : State) (k : Nat) (f : RingSt → RingSt) : (s.setRing k f).mem = s.mem := rfl
@[simp] theorem setRing_nor (s : State) (k : Nat) (f : RingSt → RingSt) : (s.setRing k f).nor = s.nor := rfl
@[simp] theorem setRing_ecc (s : State) (k : Nat) (f : RingSt → RingSt) : (s.setRing k f).ecc = s.ecc := rfl
@[simp] theorem setRing_image (s : State) (k : Nat) (f : RingSt → RingSt) : (s.setRing k f).image = s.image := rfl
@[simp] theorem setRing_mapArea (s : State) (k : Nat) (f : RingSt → RingSt) : (s.setRing k f).mapArea = s.mapArea := rfl
@[simp] theorem setRing_desc (s : State) (k : Nat) (f : RingSt → RingSt) : (s.setRing k f).desc = s.desc := rfl
@[simp] theorem setRing_lastSent (s : State) (k : Nat) (f : RingSt → RingSt) : (s.setRing k f).lastSent = s.lastSent := rfl
@[simp] theorem setRing_armed (s : State) (k : Nat) (f : RingSt → RingSt) : (s.setRing k f).armed = s.armed := rfl
@[simp] theorem setRing_frcGen (s : State) (k : Nat) (f : RingSt → RingSt) : (s.setRing k f).frcGen = s.frcGen := rfl
@[simp] theorem setRing_groves (s : State) (k : Nat) (f : RingSt → RingSt) : (s.setRing k f).groves = s.groves := rfl
@[simp] theorem setRing_esd (s : State) (k : Nat) (f : RingSt → RingSt) : (s.setRing k f).esd = s.esd := rfl
@[simp] theorem setRing_units (s : State) (k : Nat) (f : RingSt → RingSt) : (s.setRing k f).units = s.units := rfl
@[simp] theorem setRing_tracePos (s : State) (k : Nat) (f : RingSt → RingSt) : (s.setRing k f).tracePos = s.tracePos := rfl
@[simp] theorem setRing_traceSeq (s : State) (k : Nat) (f : RingSt → RingSt) : (s.setRing k f).traceSeq = s.traceSeq := rfl
@[simp] theorem setRing_pair (s : State) (k : Nat) (f : RingSt → RingSt) : (s.setRing k f).pair = s.pair := rfl
@[simp] theorem setRing_chg (s : State) (k : Nat) (f : RingSt → RingSt) : (s.setRing k f).chg = s.chg := rfl
@[simp] theorem setRing_fw (s : State) (k : Nat) (f : RingSt → RingSt) : (s.setRing k f).fw = s.fw := rfl
@[simp] theorem setRing_keys (s : State) (k : Nat) (f : RingSt → RingSt) : (s.setRing k f).keys = s.keys := rfl
@[simp] theorem setRing_stations (s : State) (k : Nat) (f : RingSt → RingSt) : (s.setRing k f).stations = s.stations := rfl
@[simp] theorem setRing_net (s : State) (k : Nat) (f : RingSt → RingSt) : (s.setRing k f).net = s.net := rfl
@[simp] theorem setRing_peers (s : State) (k : Nat) (f : RingSt → RingSt) : (s.setRing k f).peers = s.peers := rfl
@[simp] theorem setRing_can (s : State) (k : Nat) (f : RingSt → RingSt) : (s.setRing k f).can = s.can := rfl
@[simp] theorem setRing_lio (s : State) (k : Nat) (f : RingSt → RingSt) : (s.setRing k f).lio = s.lio := rfl
@[simp] theorem setRing_boot (s : State) (k : Nat) (f : RingSt → RingSt) : (s.setRing k f).boot = s.boot := rfl
@[simp] theorem setRing_pwr (s : State) (k : Nat) (f : RingSt → RingSt) : (s.setRing k f).pwr = s.pwr := rfl
@[simp] theorem setRing_tap (s : State) (k : Nat) (f : RingSt → RingSt) : (s.setRing k f).tap = s.tap := rfl
@[simp] theorem setRing_evr (s : State) (k : Nat) (f : RingSt → RingSt) : (s.setRing k f).evr = s.evr := rfl
@[simp] theorem setRing_pmcStart (s : State) (k : Nat) (f : RingSt → RingSt) : (s.setRing k f).pmcStart = s.pmcStart := rfl
@[simp] theorem setRing_pending (s : State) (k : Nat) (f : RingSt → RingSt) : (s.setRing k f).pending = s.pending := rfl
@[simp] theorem setRing_resp (s : State) (k : Nat) (f : RingSt → RingSt) : (s.setRing k f).resp = s.resp := rfl
@[simp] theorem setRing_out (s : State) (k : Nat) (f : RingSt → RingSt) : (s.setRing k f).out = s.out := rfl
@[simp] theorem setRing_free (s : State) (k : Nat) (f : RingSt → RingSt) : (s.setRing k f).free = s.free := rfl

/-! ### setLioCh -/

@[simp] theorem setLioCh_regs (s : State) (c : Nat) (f : LioCh → LioCh) : (s.setLioCh c f).regs = s.regs := rfl
@[simp] theorem setLioCh_latch (s : State) (c : Nat) (f : LioCh → LioCh) : (s.setLioCh c f).latch = s.latch := rfl
@[simp] theorem setLioCh_clk (s : State) (c : Nat) (f : LioCh → LioCh) : (s.setLioCh c f).clk = s.clk := rfl
@[simp] theorem setLioCh_seq (s : State) (c : Nat) (f : LioCh → LioCh) : (s.setLioCh c f).seq = s.seq := rfl
@[simp] theorem setLioCh_cores (s : State) (c : Nat) (f : LioCh → LioCh) : (s.setLioCh c f).cores = s.cores := rfl
@[simp] theorem setLioCh_tasks (s : State) (c : Nat) (f : LioCh → LioCh) : (s.setLioCh c f).tasks = s.tasks := rfl
@[simp] theorem setLioCh_acts (s : State) (c : Nat) (f : LioCh → LioCh) : (s.setLioCh c f).acts = s.acts := rfl
@[simp] theorem setLioCh_mem (s : State) (c : Nat) (f : LioCh → LioCh) : (s.setLioCh c f).mem = s.mem := rfl
@[simp] theorem setLioCh_nor (s : State) (c : Nat) (f : LioCh → LioCh) : (s.setLioCh c f).nor = s.nor := rfl
@[simp] theorem setLioCh_ecc (s : State) (c : Nat) (f : LioCh → LioCh) : (s.setLioCh c f).ecc = s.ecc := rfl
@[simp] theorem setLioCh_image (s : State) (c : Nat) (f : LioCh → LioCh) : (s.setLioCh c f).image = s.image := rfl
@[simp] theorem setLioCh_mapArea (s : State) (c : Nat) (f : LioCh → LioCh) : (s.setLioCh c f).mapArea = s.mapArea := rfl
@[simp] theorem setLioCh_desc (s : State) (c : Nat) (f : LioCh → LioCh) : (s.setLioCh c f).desc = s.desc := rfl
@[simp] theorem setLioCh_lastSent (s : State) (c : Nat) (f : LioCh → LioCh) : (s.setLioCh c f).lastSent = s.lastSent := rfl
@[simp] theorem setLioCh_armed (s : State) (c : Nat) (f : LioCh → LioCh) : (s.setLioCh c f).armed = s.armed := rfl
@[simp] theorem setLioCh_frcGen (s : State) (c : Nat) (f : LioCh → LioCh) : (s.setLioCh c f).frcGen = s.frcGen := rfl
@[simp] theorem setLioCh_groves (s : State) (c : Nat) (f : LioCh → LioCh) : (s.setLioCh c f).groves = s.groves := rfl
@[simp] theorem setLioCh_esd (s : State) (c : Nat) (f : LioCh → LioCh) : (s.setLioCh c f).esd = s.esd := rfl
@[simp] theorem setLioCh_units (s : State) (c : Nat) (f : LioCh → LioCh) : (s.setLioCh c f).units = s.units := rfl
@[simp] theorem setLioCh_tracePos (s : State) (c : Nat) (f : LioCh → LioCh) : (s.setLioCh c f).tracePos = s.tracePos := rfl
@[simp] theorem setLioCh_traceSeq (s : State) (c : Nat) (f : LioCh → LioCh) : (s.setLioCh c f).traceSeq = s.traceSeq := rfl
@[simp] theorem setLioCh_pair (s : State) (c : Nat) (f : LioCh → LioCh) : (s.setLioCh c f).pair = s.pair := rfl
@[simp] theorem setLioCh_chg (s : State) (c : Nat) (f : LioCh → LioCh) : (s.setLioCh c f).chg = s.chg := rfl
@[simp] theorem setLioCh_fw (s : State) (c : Nat) (f : LioCh → LioCh) : (s.setLioCh c f).fw = s.fw := rfl
@[simp] theorem setLioCh_keys (s : State) (c : Nat) (f : LioCh → LioCh) : (s.setLioCh c f).keys = s.keys := rfl
@[simp] theorem setLioCh_rings (s : State) (c : Nat) (f : LioCh → LioCh) : (s.setLioCh c f).rings = s.rings := rfl
@[simp] theorem setLioCh_stations (s : State) (c : Nat) (f : LioCh → LioCh) : (s.setLioCh c f).stations = s.stations := rfl
@[simp] theorem setLioCh_net (s : State) (c : Nat) (f : LioCh → LioCh) : (s.setLioCh c f).net = s.net := rfl
@[simp] theorem setLioCh_peers (s : State) (c : Nat) (f : LioCh → LioCh) : (s.setLioCh c f).peers = s.peers := rfl
@[simp] theorem setLioCh_can (s : State) (c : Nat) (f : LioCh → LioCh) : (s.setLioCh c f).can = s.can := rfl
@[simp] theorem setLioCh_boot (s : State) (c : Nat) (f : LioCh → LioCh) : (s.setLioCh c f).boot = s.boot := rfl
@[simp] theorem setLioCh_pwr (s : State) (c : Nat) (f : LioCh → LioCh) : (s.setLioCh c f).pwr = s.pwr := rfl
@[simp] theorem setLioCh_tap (s : State) (c : Nat) (f : LioCh → LioCh) : (s.setLioCh c f).tap = s.tap := rfl
@[simp] theorem setLioCh_evr (s : State) (c : Nat) (f : LioCh → LioCh) : (s.setLioCh c f).evr = s.evr := rfl
@[simp] theorem setLioCh_pmcStart (s : State) (c : Nat) (f : LioCh → LioCh) : (s.setLioCh c f).pmcStart = s.pmcStart := rfl
@[simp] theorem setLioCh_pending (s : State) (c : Nat) (f : LioCh → LioCh) : (s.setLioCh c f).pending = s.pending := rfl
@[simp] theorem setLioCh_resp (s : State) (c : Nat) (f : LioCh → LioCh) : (s.setLioCh c f).resp = s.resp := rfl
@[simp] theorem setLioCh_out (s : State) (c : Nat) (f : LioCh → LioCh) : (s.setLioCh c f).out = s.out := rfl
@[simp] theorem setLioCh_free (s : State) (c : Nat) (f : LioCh → LioCh) : (s.setLioCh c f).free = s.free := rfl

/-! ### setLioGrp -/

@[simp] theorem setLioGrp_regs (s : State) (g : Nat) (f : LioGrp → LioGrp) : (s.setLioGrp g f).regs = s.regs := rfl
@[simp] theorem setLioGrp_latch (s : State) (g : Nat) (f : LioGrp → LioGrp) : (s.setLioGrp g f).latch = s.latch := rfl
@[simp] theorem setLioGrp_clk (s : State) (g : Nat) (f : LioGrp → LioGrp) : (s.setLioGrp g f).clk = s.clk := rfl
@[simp] theorem setLioGrp_seq (s : State) (g : Nat) (f : LioGrp → LioGrp) : (s.setLioGrp g f).seq = s.seq := rfl
@[simp] theorem setLioGrp_cores (s : State) (g : Nat) (f : LioGrp → LioGrp) : (s.setLioGrp g f).cores = s.cores := rfl
@[simp] theorem setLioGrp_tasks (s : State) (g : Nat) (f : LioGrp → LioGrp) : (s.setLioGrp g f).tasks = s.tasks := rfl
@[simp] theorem setLioGrp_acts (s : State) (g : Nat) (f : LioGrp → LioGrp) : (s.setLioGrp g f).acts = s.acts := rfl
@[simp] theorem setLioGrp_mem (s : State) (g : Nat) (f : LioGrp → LioGrp) : (s.setLioGrp g f).mem = s.mem := rfl
@[simp] theorem setLioGrp_nor (s : State) (g : Nat) (f : LioGrp → LioGrp) : (s.setLioGrp g f).nor = s.nor := rfl
@[simp] theorem setLioGrp_ecc (s : State) (g : Nat) (f : LioGrp → LioGrp) : (s.setLioGrp g f).ecc = s.ecc := rfl
@[simp] theorem setLioGrp_image (s : State) (g : Nat) (f : LioGrp → LioGrp) : (s.setLioGrp g f).image = s.image := rfl
@[simp] theorem setLioGrp_mapArea (s : State) (g : Nat) (f : LioGrp → LioGrp) : (s.setLioGrp g f).mapArea = s.mapArea := rfl
@[simp] theorem setLioGrp_desc (s : State) (g : Nat) (f : LioGrp → LioGrp) : (s.setLioGrp g f).desc = s.desc := rfl
@[simp] theorem setLioGrp_lastSent (s : State) (g : Nat) (f : LioGrp → LioGrp) : (s.setLioGrp g f).lastSent = s.lastSent := rfl
@[simp] theorem setLioGrp_armed (s : State) (g : Nat) (f : LioGrp → LioGrp) : (s.setLioGrp g f).armed = s.armed := rfl
@[simp] theorem setLioGrp_frcGen (s : State) (g : Nat) (f : LioGrp → LioGrp) : (s.setLioGrp g f).frcGen = s.frcGen := rfl
@[simp] theorem setLioGrp_groves (s : State) (g : Nat) (f : LioGrp → LioGrp) : (s.setLioGrp g f).groves = s.groves := rfl
@[simp] theorem setLioGrp_esd (s : State) (g : Nat) (f : LioGrp → LioGrp) : (s.setLioGrp g f).esd = s.esd := rfl
@[simp] theorem setLioGrp_units (s : State) (g : Nat) (f : LioGrp → LioGrp) : (s.setLioGrp g f).units = s.units := rfl
@[simp] theorem setLioGrp_tracePos (s : State) (g : Nat) (f : LioGrp → LioGrp) : (s.setLioGrp g f).tracePos = s.tracePos := rfl
@[simp] theorem setLioGrp_traceSeq (s : State) (g : Nat) (f : LioGrp → LioGrp) : (s.setLioGrp g f).traceSeq = s.traceSeq := rfl
@[simp] theorem setLioGrp_pair (s : State) (g : Nat) (f : LioGrp → LioGrp) : (s.setLioGrp g f).pair = s.pair := rfl
@[simp] theorem setLioGrp_chg (s : State) (g : Nat) (f : LioGrp → LioGrp) : (s.setLioGrp g f).chg = s.chg := rfl
@[simp] theorem setLioGrp_fw (s : State) (g : Nat) (f : LioGrp → LioGrp) : (s.setLioGrp g f).fw = s.fw := rfl
@[simp] theorem setLioGrp_keys (s : State) (g : Nat) (f : LioGrp → LioGrp) : (s.setLioGrp g f).keys = s.keys := rfl
@[simp] theorem setLioGrp_rings (s : State) (g : Nat) (f : LioGrp → LioGrp) : (s.setLioGrp g f).rings = s.rings := rfl
@[simp] theorem setLioGrp_stations (s : State) (g : Nat) (f : LioGrp → LioGrp) : (s.setLioGrp g f).stations = s.stations := rfl
@[simp] theorem setLioGrp_net (s : State) (g : Nat) (f : LioGrp → LioGrp) : (s.setLioGrp g f).net = s.net := rfl
@[simp] theorem setLioGrp_peers (s : State) (g : Nat) (f : LioGrp → LioGrp) : (s.setLioGrp g f).peers = s.peers := rfl
@[simp] theorem setLioGrp_can (s : State) (g : Nat) (f : LioGrp → LioGrp) : (s.setLioGrp g f).can = s.can := rfl
@[simp] theorem setLioGrp_boot (s : State) (g : Nat) (f : LioGrp → LioGrp) : (s.setLioGrp g f).boot = s.boot := rfl
@[simp] theorem setLioGrp_pwr (s : State) (g : Nat) (f : LioGrp → LioGrp) : (s.setLioGrp g f).pwr = s.pwr := rfl
@[simp] theorem setLioGrp_tap (s : State) (g : Nat) (f : LioGrp → LioGrp) : (s.setLioGrp g f).tap = s.tap := rfl
@[simp] theorem setLioGrp_evr (s : State) (g : Nat) (f : LioGrp → LioGrp) : (s.setLioGrp g f).evr = s.evr := rfl
@[simp] theorem setLioGrp_pmcStart (s : State) (g : Nat) (f : LioGrp → LioGrp) : (s.setLioGrp g f).pmcStart = s.pmcStart := rfl
@[simp] theorem setLioGrp_pending (s : State) (g : Nat) (f : LioGrp → LioGrp) : (s.setLioGrp g f).pending = s.pending := rfl
@[simp] theorem setLioGrp_resp (s : State) (g : Nat) (f : LioGrp → LioGrp) : (s.setLioGrp g f).resp = s.resp := rfl
@[simp] theorem setLioGrp_out (s : State) (g : Nat) (f : LioGrp → LioGrp) : (s.setLioGrp g f).out = s.out := rfl
@[simp] theorem setLioGrp_free (s : State) (g : Nat) (f : LioGrp → LioGrp) : (s.setLioGrp g f).free = s.free := rfl

/-! ### send -/

@[simp] theorem send_regs (s : State) (o : Out) : (s.send o).regs = s.regs := rfl
@[simp] theorem send_latch (s : State) (o : Out) : (s.send o).latch = s.latch := rfl
@[simp] theorem send_clk (s : State) (o : Out) : (s.send o).clk = s.clk := rfl
@[simp] theorem send_seq (s : State) (o : Out) : (s.send o).seq = s.seq := rfl
@[simp] theorem send_cores (s : State) (o : Out) : (s.send o).cores = s.cores := rfl
@[simp] theorem send_tasks (s : State) (o : Out) : (s.send o).tasks = s.tasks := rfl
@[simp] theorem send_acts (s : State) (o : Out) : (s.send o).acts = s.acts := rfl
@[simp] theorem send_mem (s : State) (o : Out) : (s.send o).mem = s.mem := rfl
@[simp] theorem send_nor (s : State) (o : Out) : (s.send o).nor = s.nor := rfl
@[simp] theorem send_ecc (s : State) (o : Out) : (s.send o).ecc = s.ecc := rfl
@[simp] theorem send_image (s : State) (o : Out) : (s.send o).image = s.image := rfl
@[simp] theorem send_mapArea (s : State) (o : Out) : (s.send o).mapArea = s.mapArea := rfl
@[simp] theorem send_desc (s : State) (o : Out) : (s.send o).desc = s.desc := rfl
@[simp] theorem send_lastSent (s : State) (o : Out) : (s.send o).lastSent = s.lastSent := rfl
@[simp] theorem send_armed (s : State) (o : Out) : (s.send o).armed = s.armed := rfl
@[simp] theorem send_frcGen (s : State) (o : Out) : (s.send o).frcGen = s.frcGen := rfl
@[simp] theorem send_groves (s : State) (o : Out) : (s.send o).groves = s.groves := rfl
@[simp] theorem send_esd (s : State) (o : Out) : (s.send o).esd = s.esd := rfl
@[simp] theorem send_units (s : State) (o : Out) : (s.send o).units = s.units := rfl
@[simp] theorem send_tracePos (s : State) (o : Out) : (s.send o).tracePos = s.tracePos := rfl
@[simp] theorem send_traceSeq (s : State) (o : Out) : (s.send o).traceSeq = s.traceSeq := rfl
@[simp] theorem send_pair (s : State) (o : Out) : (s.send o).pair = s.pair := rfl
@[simp] theorem send_chg (s : State) (o : Out) : (s.send o).chg = s.chg := rfl
@[simp] theorem send_fw (s : State) (o : Out) : (s.send o).fw = s.fw := rfl
@[simp] theorem send_keys (s : State) (o : Out) : (s.send o).keys = s.keys := rfl
@[simp] theorem send_rings (s : State) (o : Out) : (s.send o).rings = s.rings := rfl
@[simp] theorem send_stations (s : State) (o : Out) : (s.send o).stations = s.stations := rfl
@[simp] theorem send_net (s : State) (o : Out) : (s.send o).net = s.net := rfl
@[simp] theorem send_peers (s : State) (o : Out) : (s.send o).peers = s.peers := rfl
@[simp] theorem send_can (s : State) (o : Out) : (s.send o).can = s.can := rfl
@[simp] theorem send_lio (s : State) (o : Out) : (s.send o).lio = s.lio := rfl
@[simp] theorem send_boot (s : State) (o : Out) : (s.send o).boot = s.boot := rfl
@[simp] theorem send_pwr (s : State) (o : Out) : (s.send o).pwr = s.pwr := rfl
@[simp] theorem send_tap (s : State) (o : Out) : (s.send o).tap = s.tap := rfl
@[simp] theorem send_evr (s : State) (o : Out) : (s.send o).evr = s.evr := rfl
@[simp] theorem send_pmcStart (s : State) (o : Out) : (s.send o).pmcStart = s.pmcStart := rfl
@[simp] theorem send_pending (s : State) (o : Out) : (s.send o).pending = s.pending := rfl
@[simp] theorem send_resp (s : State) (o : Out) : (s.send o).resp = s.resp := rfl
@[simp] theorem send_free (s : State) (o : Out) : (s.send o).free = s.free := rfl

/-! ### setPair -/

@[simp] theorem setPair_regs (s : State) (f : PairSt → PairSt) : (s.setPair f).regs = s.regs := rfl
@[simp] theorem setPair_latch (s : State) (f : PairSt → PairSt) : (s.setPair f).latch = s.latch := rfl
@[simp] theorem setPair_clk (s : State) (f : PairSt → PairSt) : (s.setPair f).clk = s.clk := rfl
@[simp] theorem setPair_seq (s : State) (f : PairSt → PairSt) : (s.setPair f).seq = s.seq := rfl
@[simp] theorem setPair_cores (s : State) (f : PairSt → PairSt) : (s.setPair f).cores = s.cores := rfl
@[simp] theorem setPair_tasks (s : State) (f : PairSt → PairSt) : (s.setPair f).tasks = s.tasks := rfl
@[simp] theorem setPair_acts (s : State) (f : PairSt → PairSt) : (s.setPair f).acts = s.acts := rfl
@[simp] theorem setPair_mem (s : State) (f : PairSt → PairSt) : (s.setPair f).mem = s.mem := rfl
@[simp] theorem setPair_nor (s : State) (f : PairSt → PairSt) : (s.setPair f).nor = s.nor := rfl
@[simp] theorem setPair_ecc (s : State) (f : PairSt → PairSt) : (s.setPair f).ecc = s.ecc := rfl
@[simp] theorem setPair_image (s : State) (f : PairSt → PairSt) : (s.setPair f).image = s.image := rfl
@[simp] theorem setPair_mapArea (s : State) (f : PairSt → PairSt) : (s.setPair f).mapArea = s.mapArea := rfl
@[simp] theorem setPair_desc (s : State) (f : PairSt → PairSt) : (s.setPair f).desc = s.desc := rfl
@[simp] theorem setPair_lastSent (s : State) (f : PairSt → PairSt) : (s.setPair f).lastSent = s.lastSent := rfl
@[simp] theorem setPair_armed (s : State) (f : PairSt → PairSt) : (s.setPair f).armed = s.armed := rfl
@[simp] theorem setPair_frcGen (s : State) (f : PairSt → PairSt) : (s.setPair f).frcGen = s.frcGen := rfl
@[simp] theorem setPair_groves (s : State) (f : PairSt → PairSt) : (s.setPair f).groves = s.groves := rfl
@[simp] theorem setPair_esd (s : State) (f : PairSt → PairSt) : (s.setPair f).esd = s.esd := rfl
@[simp] theorem setPair_units (s : State) (f : PairSt → PairSt) : (s.setPair f).units = s.units := rfl
@[simp] theorem setPair_tracePos (s : State) (f : PairSt → PairSt) : (s.setPair f).tracePos = s.tracePos := rfl
@[simp] theorem setPair_traceSeq (s : State) (f : PairSt → PairSt) : (s.setPair f).traceSeq = s.traceSeq := rfl
@[simp] theorem setPair_chg (s : State) (f : PairSt → PairSt) : (s.setPair f).chg = s.chg := rfl
@[simp] theorem setPair_fw (s : State) (f : PairSt → PairSt) : (s.setPair f).fw = s.fw := rfl
@[simp] theorem setPair_keys (s : State) (f : PairSt → PairSt) : (s.setPair f).keys = s.keys := rfl
@[simp] theorem setPair_rings (s : State) (f : PairSt → PairSt) : (s.setPair f).rings = s.rings := rfl
@[simp] theorem setPair_stations (s : State) (f : PairSt → PairSt) : (s.setPair f).stations = s.stations := rfl
@[simp] theorem setPair_net (s : State) (f : PairSt → PairSt) : (s.setPair f).net = s.net := rfl
@[simp] theorem setPair_peers (s : State) (f : PairSt → PairSt) : (s.setPair f).peers = s.peers := rfl
@[simp] theorem setPair_can (s : State) (f : PairSt → PairSt) : (s.setPair f).can = s.can := rfl
@[simp] theorem setPair_lio (s : State) (f : PairSt → PairSt) : (s.setPair f).lio = s.lio := rfl
@[simp] theorem setPair_boot (s : State) (f : PairSt → PairSt) : (s.setPair f).boot = s.boot := rfl
@[simp] theorem setPair_pwr (s : State) (f : PairSt → PairSt) : (s.setPair f).pwr = s.pwr := rfl
@[simp] theorem setPair_tap (s : State) (f : PairSt → PairSt) : (s.setPair f).tap = s.tap := rfl
@[simp] theorem setPair_evr (s : State) (f : PairSt → PairSt) : (s.setPair f).evr = s.evr := rfl
@[simp] theorem setPair_pmcStart (s : State) (f : PairSt → PairSt) : (s.setPair f).pmcStart = s.pmcStart := rfl
@[simp] theorem setPair_pending (s : State) (f : PairSt → PairSt) : (s.setPair f).pending = s.pending := rfl
@[simp] theorem setPair_resp (s : State) (f : PairSt → PairSt) : (s.setPair f).resp = s.resp := rfl
@[simp] theorem setPair_out (s : State) (f : PairSt → PairSt) : (s.setPair f).out = s.out := rfl
@[simp] theorem setPair_free (s : State) (f : PairSt → PairSt) : (s.setPair f).free = s.free := rfl

/-! ### setNet -/

@[simp] theorem setNet_regs (s : State) (n : Nat) (f : NetSt → NetSt) : (s.setNet n f).regs = s.regs := rfl
@[simp] theorem setNet_latch (s : State) (n : Nat) (f : NetSt → NetSt) : (s.setNet n f).latch = s.latch := rfl
@[simp] theorem setNet_clk (s : State) (n : Nat) (f : NetSt → NetSt) : (s.setNet n f).clk = s.clk := rfl
@[simp] theorem setNet_seq (s : State) (n : Nat) (f : NetSt → NetSt) : (s.setNet n f).seq = s.seq := rfl
@[simp] theorem setNet_cores (s : State) (n : Nat) (f : NetSt → NetSt) : (s.setNet n f).cores = s.cores := rfl
@[simp] theorem setNet_tasks (s : State) (n : Nat) (f : NetSt → NetSt) : (s.setNet n f).tasks = s.tasks := rfl
@[simp] theorem setNet_acts (s : State) (n : Nat) (f : NetSt → NetSt) : (s.setNet n f).acts = s.acts := rfl
@[simp] theorem setNet_mem (s : State) (n : Nat) (f : NetSt → NetSt) : (s.setNet n f).mem = s.mem := rfl
@[simp] theorem setNet_nor (s : State) (n : Nat) (f : NetSt → NetSt) : (s.setNet n f).nor = s.nor := rfl
@[simp] theorem setNet_ecc (s : State) (n : Nat) (f : NetSt → NetSt) : (s.setNet n f).ecc = s.ecc := rfl
@[simp] theorem setNet_image (s : State) (n : Nat) (f : NetSt → NetSt) : (s.setNet n f).image = s.image := rfl
@[simp] theorem setNet_mapArea (s : State) (n : Nat) (f : NetSt → NetSt) : (s.setNet n f).mapArea = s.mapArea := rfl
@[simp] theorem setNet_desc (s : State) (n : Nat) (f : NetSt → NetSt) : (s.setNet n f).desc = s.desc := rfl
@[simp] theorem setNet_lastSent (s : State) (n : Nat) (f : NetSt → NetSt) : (s.setNet n f).lastSent = s.lastSent := rfl
@[simp] theorem setNet_armed (s : State) (n : Nat) (f : NetSt → NetSt) : (s.setNet n f).armed = s.armed := rfl
@[simp] theorem setNet_frcGen (s : State) (n : Nat) (f : NetSt → NetSt) : (s.setNet n f).frcGen = s.frcGen := rfl
@[simp] theorem setNet_groves (s : State) (n : Nat) (f : NetSt → NetSt) : (s.setNet n f).groves = s.groves := rfl
@[simp] theorem setNet_esd (s : State) (n : Nat) (f : NetSt → NetSt) : (s.setNet n f).esd = s.esd := rfl
@[simp] theorem setNet_units (s : State) (n : Nat) (f : NetSt → NetSt) : (s.setNet n f).units = s.units := rfl
@[simp] theorem setNet_tracePos (s : State) (n : Nat) (f : NetSt → NetSt) : (s.setNet n f).tracePos = s.tracePos := rfl
@[simp] theorem setNet_traceSeq (s : State) (n : Nat) (f : NetSt → NetSt) : (s.setNet n f).traceSeq = s.traceSeq := rfl
@[simp] theorem setNet_pair (s : State) (n : Nat) (f : NetSt → NetSt) : (s.setNet n f).pair = s.pair := rfl
@[simp] theorem setNet_chg (s : State) (n : Nat) (f : NetSt → NetSt) : (s.setNet n f).chg = s.chg := rfl
@[simp] theorem setNet_fw (s : State) (n : Nat) (f : NetSt → NetSt) : (s.setNet n f).fw = s.fw := rfl
@[simp] theorem setNet_keys (s : State) (n : Nat) (f : NetSt → NetSt) : (s.setNet n f).keys = s.keys := rfl
@[simp] theorem setNet_rings (s : State) (n : Nat) (f : NetSt → NetSt) : (s.setNet n f).rings = s.rings := rfl
@[simp] theorem setNet_stations (s : State) (n : Nat) (f : NetSt → NetSt) : (s.setNet n f).stations = s.stations := rfl
@[simp] theorem setNet_peers (s : State) (n : Nat) (f : NetSt → NetSt) : (s.setNet n f).peers = s.peers := rfl
@[simp] theorem setNet_can (s : State) (n : Nat) (f : NetSt → NetSt) : (s.setNet n f).can = s.can := rfl
@[simp] theorem setNet_lio (s : State) (n : Nat) (f : NetSt → NetSt) : (s.setNet n f).lio = s.lio := rfl
@[simp] theorem setNet_boot (s : State) (n : Nat) (f : NetSt → NetSt) : (s.setNet n f).boot = s.boot := rfl
@[simp] theorem setNet_pwr (s : State) (n : Nat) (f : NetSt → NetSt) : (s.setNet n f).pwr = s.pwr := rfl
@[simp] theorem setNet_tap (s : State) (n : Nat) (f : NetSt → NetSt) : (s.setNet n f).tap = s.tap := rfl
@[simp] theorem setNet_evr (s : State) (n : Nat) (f : NetSt → NetSt) : (s.setNet n f).evr = s.evr := rfl
@[simp] theorem setNet_pmcStart (s : State) (n : Nat) (f : NetSt → NetSt) : (s.setNet n f).pmcStart = s.pmcStart := rfl
@[simp] theorem setNet_pending (s : State) (n : Nat) (f : NetSt → NetSt) : (s.setNet n f).pending = s.pending := rfl
@[simp] theorem setNet_resp (s : State) (n : Nat) (f : NetSt → NetSt) : (s.setNet n f).resp = s.resp := rfl
@[simp] theorem setNet_out (s : State) (n : Nat) (f : NetSt → NetSt) : (s.setNet n f).out = s.out := rfl
@[simp] theorem setNet_free (s : State) (n : Nat) (f : NetSt → NetSt) : (s.setNet n f).free = s.free := rfl

/-! ### setCan -/

@[simp] theorem setCan_regs (s : State) (n : Nat) (f : CanSt → CanSt) : (s.setCan n f).regs = s.regs := rfl
@[simp] theorem setCan_latch (s : State) (n : Nat) (f : CanSt → CanSt) : (s.setCan n f).latch = s.latch := rfl
@[simp] theorem setCan_clk (s : State) (n : Nat) (f : CanSt → CanSt) : (s.setCan n f).clk = s.clk := rfl
@[simp] theorem setCan_seq (s : State) (n : Nat) (f : CanSt → CanSt) : (s.setCan n f).seq = s.seq := rfl
@[simp] theorem setCan_cores (s : State) (n : Nat) (f : CanSt → CanSt) : (s.setCan n f).cores = s.cores := rfl
@[simp] theorem setCan_tasks (s : State) (n : Nat) (f : CanSt → CanSt) : (s.setCan n f).tasks = s.tasks := rfl
@[simp] theorem setCan_acts (s : State) (n : Nat) (f : CanSt → CanSt) : (s.setCan n f).acts = s.acts := rfl
@[simp] theorem setCan_mem (s : State) (n : Nat) (f : CanSt → CanSt) : (s.setCan n f).mem = s.mem := rfl
@[simp] theorem setCan_nor (s : State) (n : Nat) (f : CanSt → CanSt) : (s.setCan n f).nor = s.nor := rfl
@[simp] theorem setCan_ecc (s : State) (n : Nat) (f : CanSt → CanSt) : (s.setCan n f).ecc = s.ecc := rfl
@[simp] theorem setCan_image (s : State) (n : Nat) (f : CanSt → CanSt) : (s.setCan n f).image = s.image := rfl
@[simp] theorem setCan_mapArea (s : State) (n : Nat) (f : CanSt → CanSt) : (s.setCan n f).mapArea = s.mapArea := rfl
@[simp] theorem setCan_desc (s : State) (n : Nat) (f : CanSt → CanSt) : (s.setCan n f).desc = s.desc := rfl
@[simp] theorem setCan_lastSent (s : State) (n : Nat) (f : CanSt → CanSt) : (s.setCan n f).lastSent = s.lastSent := rfl
@[simp] theorem setCan_armed (s : State) (n : Nat) (f : CanSt → CanSt) : (s.setCan n f).armed = s.armed := rfl
@[simp] theorem setCan_frcGen (s : State) (n : Nat) (f : CanSt → CanSt) : (s.setCan n f).frcGen = s.frcGen := rfl
@[simp] theorem setCan_groves (s : State) (n : Nat) (f : CanSt → CanSt) : (s.setCan n f).groves = s.groves := rfl
@[simp] theorem setCan_esd (s : State) (n : Nat) (f : CanSt → CanSt) : (s.setCan n f).esd = s.esd := rfl
@[simp] theorem setCan_units (s : State) (n : Nat) (f : CanSt → CanSt) : (s.setCan n f).units = s.units := rfl
@[simp] theorem setCan_tracePos (s : State) (n : Nat) (f : CanSt → CanSt) : (s.setCan n f).tracePos = s.tracePos := rfl
@[simp] theorem setCan_traceSeq (s : State) (n : Nat) (f : CanSt → CanSt) : (s.setCan n f).traceSeq = s.traceSeq := rfl
@[simp] theorem setCan_pair (s : State) (n : Nat) (f : CanSt → CanSt) : (s.setCan n f).pair = s.pair := rfl
@[simp] theorem setCan_chg (s : State) (n : Nat) (f : CanSt → CanSt) : (s.setCan n f).chg = s.chg := rfl
@[simp] theorem setCan_fw (s : State) (n : Nat) (f : CanSt → CanSt) : (s.setCan n f).fw = s.fw := rfl
@[simp] theorem setCan_keys (s : State) (n : Nat) (f : CanSt → CanSt) : (s.setCan n f).keys = s.keys := rfl
@[simp] theorem setCan_rings (s : State) (n : Nat) (f : CanSt → CanSt) : (s.setCan n f).rings = s.rings := rfl
@[simp] theorem setCan_stations (s : State) (n : Nat) (f : CanSt → CanSt) : (s.setCan n f).stations = s.stations := rfl
@[simp] theorem setCan_net (s : State) (n : Nat) (f : CanSt → CanSt) : (s.setCan n f).net = s.net := rfl
@[simp] theorem setCan_peers (s : State) (n : Nat) (f : CanSt → CanSt) : (s.setCan n f).peers = s.peers := rfl
@[simp] theorem setCan_lio (s : State) (n : Nat) (f : CanSt → CanSt) : (s.setCan n f).lio = s.lio := rfl
@[simp] theorem setCan_boot (s : State) (n : Nat) (f : CanSt → CanSt) : (s.setCan n f).boot = s.boot := rfl
@[simp] theorem setCan_pwr (s : State) (n : Nat) (f : CanSt → CanSt) : (s.setCan n f).pwr = s.pwr := rfl
@[simp] theorem setCan_tap (s : State) (n : Nat) (f : CanSt → CanSt) : (s.setCan n f).tap = s.tap := rfl
@[simp] theorem setCan_evr (s : State) (n : Nat) (f : CanSt → CanSt) : (s.setCan n f).evr = s.evr := rfl
@[simp] theorem setCan_pmcStart (s : State) (n : Nat) (f : CanSt → CanSt) : (s.setCan n f).pmcStart = s.pmcStart := rfl
@[simp] theorem setCan_pending (s : State) (n : Nat) (f : CanSt → CanSt) : (s.setCan n f).pending = s.pending := rfl
@[simp] theorem setCan_resp (s : State) (n : Nat) (f : CanSt → CanSt) : (s.setCan n f).resp = s.resp := rfl
@[simp] theorem setCan_out (s : State) (n : Nat) (f : CanSt → CanSt) : (s.setCan n f).out = s.out := rfl
@[simp] theorem setCan_free (s : State) (n : Nat) (f : CanSt → CanSt) : (s.setCan n f).free = s.free := rfl

/-! ### setStn -/

@[simp] theorem setStn_regs (s : State) (k i : Nat) (f : Station → Station) : (s.setStn k i f).regs = s.regs := rfl
@[simp] theorem setStn_latch (s : State) (k i : Nat) (f : Station → Station) : (s.setStn k i f).latch = s.latch := rfl
@[simp] theorem setStn_clk (s : State) (k i : Nat) (f : Station → Station) : (s.setStn k i f).clk = s.clk := rfl
@[simp] theorem setStn_seq (s : State) (k i : Nat) (f : Station → Station) : (s.setStn k i f).seq = s.seq := rfl
@[simp] theorem setStn_cores (s : State) (k i : Nat) (f : Station → Station) : (s.setStn k i f).cores = s.cores := rfl
@[simp] theorem setStn_tasks (s : State) (k i : Nat) (f : Station → Station) : (s.setStn k i f).tasks = s.tasks := rfl
@[simp] theorem setStn_acts (s : State) (k i : Nat) (f : Station → Station) : (s.setStn k i f).acts = s.acts := rfl
@[simp] theorem setStn_mem (s : State) (k i : Nat) (f : Station → Station) : (s.setStn k i f).mem = s.mem := rfl
@[simp] theorem setStn_nor (s : State) (k i : Nat) (f : Station → Station) : (s.setStn k i f).nor = s.nor := rfl
@[simp] theorem setStn_ecc (s : State) (k i : Nat) (f : Station → Station) : (s.setStn k i f).ecc = s.ecc := rfl
@[simp] theorem setStn_image (s : State) (k i : Nat) (f : Station → Station) : (s.setStn k i f).image = s.image := rfl
@[simp] theorem setStn_mapArea (s : State) (k i : Nat) (f : Station → Station) : (s.setStn k i f).mapArea = s.mapArea := rfl
@[simp] theorem setStn_desc (s : State) (k i : Nat) (f : Station → Station) : (s.setStn k i f).desc = s.desc := rfl
@[simp] theorem setStn_lastSent (s : State) (k i : Nat) (f : Station → Station) : (s.setStn k i f).lastSent = s.lastSent := rfl
@[simp] theorem setStn_armed (s : State) (k i : Nat) (f : Station → Station) : (s.setStn k i f).armed = s.armed := rfl
@[simp] theorem setStn_frcGen (s : State) (k i : Nat) (f : Station → Station) : (s.setStn k i f).frcGen = s.frcGen := rfl
@[simp] theorem setStn_groves (s : State) (k i : Nat) (f : Station → Station) : (s.setStn k i f).groves = s.groves := rfl
@[simp] theorem setStn_esd (s : State) (k i : Nat) (f : Station → Station) : (s.setStn k i f).esd = s.esd := rfl
@[simp] theorem setStn_units (s : State) (k i : Nat) (f : Station → Station) : (s.setStn k i f).units = s.units := rfl
@[simp] theorem setStn_tracePos (s : State) (k i : Nat) (f : Station → Station) : (s.setStn k i f).tracePos = s.tracePos := rfl
@[simp] theorem setStn_traceSeq (s : State) (k i : Nat) (f : Station → Station) : (s.setStn k i f).traceSeq = s.traceSeq := rfl
@[simp] theorem setStn_pair (s : State) (k i : Nat) (f : Station → Station) : (s.setStn k i f).pair = s.pair := rfl
@[simp] theorem setStn_chg (s : State) (k i : Nat) (f : Station → Station) : (s.setStn k i f).chg = s.chg := rfl
@[simp] theorem setStn_fw (s : State) (k i : Nat) (f : Station → Station) : (s.setStn k i f).fw = s.fw := rfl
@[simp] theorem setStn_keys (s : State) (k i : Nat) (f : Station → Station) : (s.setStn k i f).keys = s.keys := rfl
@[simp] theorem setStn_rings (s : State) (k i : Nat) (f : Station → Station) : (s.setStn k i f).rings = s.rings := rfl
@[simp] theorem setStn_net (s : State) (k i : Nat) (f : Station → Station) : (s.setStn k i f).net = s.net := rfl
@[simp] theorem setStn_peers (s : State) (k i : Nat) (f : Station → Station) : (s.setStn k i f).peers = s.peers := rfl
@[simp] theorem setStn_can (s : State) (k i : Nat) (f : Station → Station) : (s.setStn k i f).can = s.can := rfl
@[simp] theorem setStn_lio (s : State) (k i : Nat) (f : Station → Station) : (s.setStn k i f).lio = s.lio := rfl
@[simp] theorem setStn_boot (s : State) (k i : Nat) (f : Station → Station) : (s.setStn k i f).boot = s.boot := rfl
@[simp] theorem setStn_pwr (s : State) (k i : Nat) (f : Station → Station) : (s.setStn k i f).pwr = s.pwr := rfl
@[simp] theorem setStn_tap (s : State) (k i : Nat) (f : Station → Station) : (s.setStn k i f).tap = s.tap := rfl
@[simp] theorem setStn_evr (s : State) (k i : Nat) (f : Station → Station) : (s.setStn k i f).evr = s.evr := rfl
@[simp] theorem setStn_pmcStart (s : State) (k i : Nat) (f : Station → Station) : (s.setStn k i f).pmcStart = s.pmcStart := rfl
@[simp] theorem setStn_pending (s : State) (k i : Nat) (f : Station → Station) : (s.setStn k i f).pending = s.pending := rfl
@[simp] theorem setStn_resp (s : State) (k i : Nat) (f : Station → Station) : (s.setStn k i f).resp = s.resp := rfl
@[simp] theorem setStn_out (s : State) (k i : Nat) (f : Station → Station) : (s.setStn k i f).out = s.out := rfl
@[simp] theorem setStn_free (s : State) (k i : Nat) (f : Station → Station) : (s.setStn k i f).free = s.free := rfl

/-! ### setEntry -/

@[simp] theorem setEntry_regs (s : State) (c i : Nat) (e : Entry) : (s.setEntry c i e).regs = s.regs := rfl
@[simp] theorem setEntry_latch (s : State) (c i : Nat) (e : Entry) : (s.setEntry c i e).latch = s.latch := rfl
@[simp] theorem setEntry_clk (s : State) (c i : Nat) (e : Entry) : (s.setEntry c i e).clk = s.clk := rfl
@[simp] theorem setEntry_seq (s : State) (c i : Nat) (e : Entry) : (s.setEntry c i e).seq = s.seq := rfl
@[simp] theorem setEntry_cores (s : State) (c i : Nat) (e : Entry) : (s.setEntry c i e).cores = s.cores := rfl
@[simp] theorem setEntry_tasks (s : State) (c i : Nat) (e : Entry) : (s.setEntry c i e).tasks = s.tasks := rfl
@[simp] theorem setEntry_acts (s : State) (c i : Nat) (e : Entry) : (s.setEntry c i e).acts = s.acts := rfl
@[simp] theorem setEntry_mem (s : State) (c i : Nat) (e : Entry) : (s.setEntry c i e).mem = s.mem := rfl
@[simp] theorem setEntry_nor (s : State) (c i : Nat) (e : Entry) : (s.setEntry c i e).nor = s.nor := rfl
@[simp] theorem setEntry_ecc (s : State) (c i : Nat) (e : Entry) : (s.setEntry c i e).ecc = s.ecc := rfl
@[simp] theorem setEntry_mapArea (s : State) (c i : Nat) (e : Entry) : (s.setEntry c i e).mapArea = s.mapArea := rfl
@[simp] theorem setEntry_desc (s : State) (c i : Nat) (e : Entry) : (s.setEntry c i e).desc = s.desc := rfl
@[simp] theorem setEntry_lastSent (s : State) (c i : Nat) (e : Entry) : (s.setEntry c i e).lastSent = s.lastSent := rfl
@[simp] theorem setEntry_armed (s : State) (c i : Nat) (e : Entry) : (s.setEntry c i e).armed = s.armed := rfl
@[simp] theorem setEntry_frcGen (s : State) (c i : Nat) (e : Entry) : (s.setEntry c i e).frcGen = s.frcGen := rfl
@[simp] theorem setEntry_groves (s : State) (c i : Nat) (e : Entry) : (s.setEntry c i e).groves = s.groves := rfl
@[simp] theorem setEntry_esd (s : State) (c i : Nat) (e : Entry) : (s.setEntry c i e).esd = s.esd := rfl
@[simp] theorem setEntry_units (s : State) (c i : Nat) (e : Entry) : (s.setEntry c i e).units = s.units := rfl
@[simp] theorem setEntry_tracePos (s : State) (c i : Nat) (e : Entry) : (s.setEntry c i e).tracePos = s.tracePos := rfl
@[simp] theorem setEntry_traceSeq (s : State) (c i : Nat) (e : Entry) : (s.setEntry c i e).traceSeq = s.traceSeq := rfl
@[simp] theorem setEntry_pair (s : State) (c i : Nat) (e : Entry) : (s.setEntry c i e).pair = s.pair := rfl
@[simp] theorem setEntry_chg (s : State) (c i : Nat) (e : Entry) : (s.setEntry c i e).chg = s.chg := rfl
@[simp] theorem setEntry_fw (s : State) (c i : Nat) (e : Entry) : (s.setEntry c i e).fw = s.fw := rfl
@[simp] theorem setEntry_keys (s : State) (c i : Nat) (e : Entry) : (s.setEntry c i e).keys = s.keys := rfl
@[simp] theorem setEntry_rings (s : State) (c i : Nat) (e : Entry) : (s.setEntry c i e).rings = s.rings := rfl
@[simp] theorem setEntry_stations (s : State) (c i : Nat) (e : Entry) : (s.setEntry c i e).stations = s.stations := rfl
@[simp] theorem setEntry_net (s : State) (c i : Nat) (e : Entry) : (s.setEntry c i e).net = s.net := rfl
@[simp] theorem setEntry_peers (s : State) (c i : Nat) (e : Entry) : (s.setEntry c i e).peers = s.peers := rfl
@[simp] theorem setEntry_can (s : State) (c i : Nat) (e : Entry) : (s.setEntry c i e).can = s.can := rfl
@[simp] theorem setEntry_lio (s : State) (c i : Nat) (e : Entry) : (s.setEntry c i e).lio = s.lio := rfl
@[simp] theorem setEntry_boot (s : State) (c i : Nat) (e : Entry) : (s.setEntry c i e).boot = s.boot := rfl
@[simp] theorem setEntry_pwr (s : State) (c i : Nat) (e : Entry) : (s.setEntry c i e).pwr = s.pwr := rfl
@[simp] theorem setEntry_tap (s : State) (c i : Nat) (e : Entry) : (s.setEntry c i e).tap = s.tap := rfl
@[simp] theorem setEntry_evr (s : State) (c i : Nat) (e : Entry) : (s.setEntry c i e).evr = s.evr := rfl
@[simp] theorem setEntry_pmcStart (s : State) (c i : Nat) (e : Entry) : (s.setEntry c i e).pmcStart = s.pmcStart := rfl
@[simp] theorem setEntry_pending (s : State) (c i : Nat) (e : Entry) : (s.setEntry c i e).pending = s.pending := rfl
@[simp] theorem setEntry_resp (s : State) (c i : Nat) (e : Entry) : (s.setEntry c i e).resp = s.resp := rfl
@[simp] theorem setEntry_out (s : State) (c i : Nat) (e : Entry) : (s.setEntry c i e).out = s.out := rfl
@[simp] theorem setEntry_free (s : State) (c i : Nat) (e : Entry) : (s.setEntry c i e).free = s.free := rfl

/-! ### vset -/

@[simp] theorem vset_regs (s : State) (n : Nat) (r : Reg) (x : DWord) : (s.vset n r x).regs = s.regs := by unfold State.vset; split <;> rfl
@[simp] theorem vset_latch (s : State) (n : Nat) (r : Reg) (x : DWord) : (s.vset n r x).latch = s.latch := by unfold State.vset; split <;> rfl
@[simp] theorem vset_clk (s : State) (n : Nat) (r : Reg) (x : DWord) : (s.vset n r x).clk = s.clk := by unfold State.vset; split <;> rfl
@[simp] theorem vset_seq (s : State) (n : Nat) (r : Reg) (x : DWord) : (s.vset n r x).seq = s.seq := by unfold State.vset; split <;> rfl
@[simp] theorem vset_tasks (s : State) (n : Nat) (r : Reg) (x : DWord) : (s.vset n r x).tasks = s.tasks := by unfold State.vset; split <;> rfl
@[simp] theorem vset_acts (s : State) (n : Nat) (r : Reg) (x : DWord) : (s.vset n r x).acts = s.acts := by unfold State.vset; split <;> rfl
@[simp] theorem vset_mem (s : State) (n : Nat) (r : Reg) (x : DWord) : (s.vset n r x).mem = s.mem := by unfold State.vset; split <;> rfl
@[simp] theorem vset_nor (s : State) (n : Nat) (r : Reg) (x : DWord) : (s.vset n r x).nor = s.nor := by unfold State.vset; split <;> rfl
@[simp] theorem vset_ecc (s : State) (n : Nat) (r : Reg) (x : DWord) : (s.vset n r x).ecc = s.ecc := by unfold State.vset; split <;> rfl
@[simp] theorem vset_image (s : State) (n : Nat) (r : Reg) (x : DWord) : (s.vset n r x).image = s.image := by unfold State.vset; split <;> rfl
@[simp] theorem vset_mapArea (s : State) (n : Nat) (r : Reg) (x : DWord) : (s.vset n r x).mapArea = s.mapArea := by unfold State.vset; split <;> rfl
@[simp] theorem vset_desc (s : State) (n : Nat) (r : Reg) (x : DWord) : (s.vset n r x).desc = s.desc := by unfold State.vset; split <;> rfl
@[simp] theorem vset_lastSent (s : State) (n : Nat) (r : Reg) (x : DWord) : (s.vset n r x).lastSent = s.lastSent := by unfold State.vset; split <;> rfl
@[simp] theorem vset_armed (s : State) (n : Nat) (r : Reg) (x : DWord) : (s.vset n r x).armed = s.armed := by unfold State.vset; split <;> rfl
@[simp] theorem vset_frcGen (s : State) (n : Nat) (r : Reg) (x : DWord) : (s.vset n r x).frcGen = s.frcGen := by unfold State.vset; split <;> rfl
@[simp] theorem vset_groves (s : State) (n : Nat) (r : Reg) (x : DWord) : (s.vset n r x).groves = s.groves := by unfold State.vset; split <;> rfl
@[simp] theorem vset_esd (s : State) (n : Nat) (r : Reg) (x : DWord) : (s.vset n r x).esd = s.esd := by unfold State.vset; split <;> rfl
@[simp] theorem vset_units (s : State) (n : Nat) (r : Reg) (x : DWord) : (s.vset n r x).units = s.units := by unfold State.vset; split <;> rfl
@[simp] theorem vset_tracePos (s : State) (n : Nat) (r : Reg) (x : DWord) : (s.vset n r x).tracePos = s.tracePos := by unfold State.vset; split <;> rfl
@[simp] theorem vset_traceSeq (s : State) (n : Nat) (r : Reg) (x : DWord) : (s.vset n r x).traceSeq = s.traceSeq := by unfold State.vset; split <;> rfl
@[simp] theorem vset_pair (s : State) (n : Nat) (r : Reg) (x : DWord) : (s.vset n r x).pair = s.pair := by unfold State.vset; split <;> rfl
@[simp] theorem vset_chg (s : State) (n : Nat) (r : Reg) (x : DWord) : (s.vset n r x).chg = s.chg := by unfold State.vset; split <;> rfl
@[simp] theorem vset_fw (s : State) (n : Nat) (r : Reg) (x : DWord) : (s.vset n r x).fw = s.fw := by unfold State.vset; split <;> rfl
@[simp] theorem vset_keys (s : State) (n : Nat) (r : Reg) (x : DWord) : (s.vset n r x).keys = s.keys := by unfold State.vset; split <;> rfl
@[simp] theorem vset_rings (s : State) (n : Nat) (r : Reg) (x : DWord) : (s.vset n r x).rings = s.rings := by unfold State.vset; split <;> rfl
@[simp] theorem vset_stations (s : State) (n : Nat) (r : Reg) (x : DWord) : (s.vset n r x).stations = s.stations := by unfold State.vset; split <;> rfl
@[simp] theorem vset_net (s : State) (n : Nat) (r : Reg) (x : DWord) : (s.vset n r x).net = s.net := by unfold State.vset; split <;> rfl
@[simp] theorem vset_peers (s : State) (n : Nat) (r : Reg) (x : DWord) : (s.vset n r x).peers = s.peers := by unfold State.vset; split <;> rfl
@[simp] theorem vset_can (s : State) (n : Nat) (r : Reg) (x : DWord) : (s.vset n r x).can = s.can := by unfold State.vset; split <;> rfl
@[simp] theorem vset_lio (s : State) (n : Nat) (r : Reg) (x : DWord) : (s.vset n r x).lio = s.lio := by unfold State.vset; split <;> rfl
@[simp] theorem vset_boot (s : State) (n : Nat) (r : Reg) (x : DWord) : (s.vset n r x).boot = s.boot := by unfold State.vset; split <;> rfl
@[simp] theorem vset_pwr (s : State) (n : Nat) (r : Reg) (x : DWord) : (s.vset n r x).pwr = s.pwr := by unfold State.vset; split <;> rfl
@[simp] theorem vset_tap (s : State) (n : Nat) (r : Reg) (x : DWord) : (s.vset n r x).tap = s.tap := by unfold State.vset; split <;> rfl
@[simp] theorem vset_evr (s : State) (n : Nat) (r : Reg) (x : DWord) : (s.vset n r x).evr = s.evr := by unfold State.vset; split <;> rfl
@[simp] theorem vset_pmcStart (s : State) (n : Nat) (r : Reg) (x : DWord) : (s.vset n r x).pmcStart = s.pmcStart := by unfold State.vset; split <;> rfl
@[simp] theorem vset_pending (s : State) (n : Nat) (r : Reg) (x : DWord) : (s.vset n r x).pending = s.pending := by unfold State.vset; split <;> rfl
@[simp] theorem vset_resp (s : State) (n : Nat) (r : Reg) (x : DWord) : (s.vset n r x).resp = s.resp := by unfold State.vset; split <;> rfl
@[simp] theorem vset_out (s : State) (n : Nat) (r : Reg) (x : DWord) : (s.vset n r x).out = s.out := by unfold State.vset; split <;> rfl
@[simp] theorem vset_free (s : State) (n : Nat) (r : Reg) (x : DWord) : (s.vset n r x).free = s.free := by unfold State.vset; split <;> rfl

/-! ### srSet -/

@[simp] theorem srSet_regs (s : State) (n r : Nat) (x : DWord) : (s.srSet n r x).regs = s.regs := rfl
@[simp] theorem srSet_latch (s : State) (n r : Nat) (x : DWord) : (s.srSet n r x).latch = s.latch := rfl
@[simp] theorem srSet_clk (s : State) (n r : Nat) (x : DWord) : (s.srSet n r x).clk = s.clk := rfl
@[simp] theorem srSet_seq (s : State) (n r : Nat) (x : DWord) : (s.srSet n r x).seq = s.seq := rfl
@[simp] theorem srSet_tasks (s : State) (n r : Nat) (x : DWord) : (s.srSet n r x).tasks = s.tasks := rfl
@[simp] theorem srSet_acts (s : State) (n r : Nat) (x : DWord) : (s.srSet n r x).acts = s.acts := rfl
@[simp] theorem srSet_mem (s : State) (n r : Nat) (x : DWord) : (s.srSet n r x).mem = s.mem := rfl
@[simp] theorem srSet_nor (s : State) (n r : Nat) (x : DWord) : (s.srSet n r x).nor = s.nor := rfl
@[simp] theorem srSet_ecc (s : State) (n r : Nat) (x : DWord) : (s.srSet n r x).ecc = s.ecc := rfl
@[simp] theorem srSet_image (s : State) (n r : Nat) (x : DWord) : (s.srSet n r x).image = s.image := rfl
@[simp] theorem srSet_mapArea (s : State) (n r : Nat) (x : DWord) : (s.srSet n r x).mapArea = s.mapArea := rfl
@[simp] theorem srSet_desc (s : State) (n r : Nat) (x : DWord) : (s.srSet n r x).desc = s.desc := rfl
@[simp] theorem srSet_lastSent (s : State) (n r : Nat) (x : DWord) : (s.srSet n r x).lastSent = s.lastSent := rfl
@[simp] theorem srSet_armed (s : State) (n r : Nat) (x : DWord) : (s.srSet n r x).armed = s.armed := rfl
@[simp] theorem srSet_frcGen (s : State) (n r : Nat) (x : DWord) : (s.srSet n r x).frcGen = s.frcGen := rfl
@[simp] theorem srSet_groves (s : State) (n r : Nat) (x : DWord) : (s.srSet n r x).groves = s.groves := rfl
@[simp] theorem srSet_esd (s : State) (n r : Nat) (x : DWord) : (s.srSet n r x).esd = s.esd := rfl
@[simp] theorem srSet_units (s : State) (n r : Nat) (x : DWord) : (s.srSet n r x).units = s.units := rfl
@[simp] theorem srSet_tracePos (s : State) (n r : Nat) (x : DWord) : (s.srSet n r x).tracePos = s.tracePos := rfl
@[simp] theorem srSet_traceSeq (s : State) (n r : Nat) (x : DWord) : (s.srSet n r x).traceSeq = s.traceSeq := rfl
@[simp] theorem srSet_pair (s : State) (n r : Nat) (x : DWord) : (s.srSet n r x).pair = s.pair := rfl
@[simp] theorem srSet_chg (s : State) (n r : Nat) (x : DWord) : (s.srSet n r x).chg = s.chg := rfl
@[simp] theorem srSet_fw (s : State) (n r : Nat) (x : DWord) : (s.srSet n r x).fw = s.fw := rfl
@[simp] theorem srSet_keys (s : State) (n r : Nat) (x : DWord) : (s.srSet n r x).keys = s.keys := rfl
@[simp] theorem srSet_rings (s : State) (n r : Nat) (x : DWord) : (s.srSet n r x).rings = s.rings := rfl
@[simp] theorem srSet_stations (s : State) (n r : Nat) (x : DWord) : (s.srSet n r x).stations = s.stations := rfl
@[simp] theorem srSet_net (s : State) (n r : Nat) (x : DWord) : (s.srSet n r x).net = s.net := rfl
@[simp] theorem srSet_peers (s : State) (n r : Nat) (x : DWord) : (s.srSet n r x).peers = s.peers := rfl
@[simp] theorem srSet_can (s : State) (n r : Nat) (x : DWord) : (s.srSet n r x).can = s.can := rfl
@[simp] theorem srSet_lio (s : State) (n r : Nat) (x : DWord) : (s.srSet n r x).lio = s.lio := rfl
@[simp] theorem srSet_boot (s : State) (n r : Nat) (x : DWord) : (s.srSet n r x).boot = s.boot := rfl
@[simp] theorem srSet_pwr (s : State) (n r : Nat) (x : DWord) : (s.srSet n r x).pwr = s.pwr := rfl
@[simp] theorem srSet_tap (s : State) (n r : Nat) (x : DWord) : (s.srSet n r x).tap = s.tap := rfl
@[simp] theorem srSet_evr (s : State) (n r : Nat) (x : DWord) : (s.srSet n r x).evr = s.evr := rfl
@[simp] theorem srSet_pmcStart (s : State) (n r : Nat) (x : DWord) : (s.srSet n r x).pmcStart = s.pmcStart := rfl
@[simp] theorem srSet_pending (s : State) (n r : Nat) (x : DWord) : (s.srSet n r x).pending = s.pending := rfl
@[simp] theorem srSet_resp (s : State) (n r : Nat) (x : DWord) : (s.srSet n r x).resp = s.resp := rfl
@[simp] theorem srSet_out (s : State) (n r : Nat) (x : DWord) : (s.srSet n r x).out = s.out := rfl
@[simp] theorem srSet_free (s : State) (n r : Nat) (x : DWord) : (s.srSet n r x).free = s.free := rfl

/-! ### setPc -/

@[simp] theorem setPc_regs (s : State) (n : Nat) (x : DWord) : (s.setPc n x).regs = s.regs := rfl
@[simp] theorem setPc_latch (s : State) (n : Nat) (x : DWord) : (s.setPc n x).latch = s.latch := rfl
@[simp] theorem setPc_clk (s : State) (n : Nat) (x : DWord) : (s.setPc n x).clk = s.clk := rfl
@[simp] theorem setPc_seq (s : State) (n : Nat) (x : DWord) : (s.setPc n x).seq = s.seq := rfl
@[simp] theorem setPc_tasks (s : State) (n : Nat) (x : DWord) : (s.setPc n x).tasks = s.tasks := rfl
@[simp] theorem setPc_acts (s : State) (n : Nat) (x : DWord) : (s.setPc n x).acts = s.acts := rfl
@[simp] theorem setPc_mem (s : State) (n : Nat) (x : DWord) : (s.setPc n x).mem = s.mem := rfl
@[simp] theorem setPc_nor (s : State) (n : Nat) (x : DWord) : (s.setPc n x).nor = s.nor := rfl
@[simp] theorem setPc_ecc (s : State) (n : Nat) (x : DWord) : (s.setPc n x).ecc = s.ecc := rfl
@[simp] theorem setPc_image (s : State) (n : Nat) (x : DWord) : (s.setPc n x).image = s.image := rfl
@[simp] theorem setPc_mapArea (s : State) (n : Nat) (x : DWord) : (s.setPc n x).mapArea = s.mapArea := rfl
@[simp] theorem setPc_desc (s : State) (n : Nat) (x : DWord) : (s.setPc n x).desc = s.desc := rfl
@[simp] theorem setPc_lastSent (s : State) (n : Nat) (x : DWord) : (s.setPc n x).lastSent = s.lastSent := rfl
@[simp] theorem setPc_armed (s : State) (n : Nat) (x : DWord) : (s.setPc n x).armed = s.armed := rfl
@[simp] theorem setPc_frcGen (s : State) (n : Nat) (x : DWord) : (s.setPc n x).frcGen = s.frcGen := rfl
@[simp] theorem setPc_groves (s : State) (n : Nat) (x : DWord) : (s.setPc n x).groves = s.groves := rfl
@[simp] theorem setPc_esd (s : State) (n : Nat) (x : DWord) : (s.setPc n x).esd = s.esd := rfl
@[simp] theorem setPc_units (s : State) (n : Nat) (x : DWord) : (s.setPc n x).units = s.units := rfl
@[simp] theorem setPc_tracePos (s : State) (n : Nat) (x : DWord) : (s.setPc n x).tracePos = s.tracePos := rfl
@[simp] theorem setPc_traceSeq (s : State) (n : Nat) (x : DWord) : (s.setPc n x).traceSeq = s.traceSeq := rfl
@[simp] theorem setPc_pair (s : State) (n : Nat) (x : DWord) : (s.setPc n x).pair = s.pair := rfl
@[simp] theorem setPc_chg (s : State) (n : Nat) (x : DWord) : (s.setPc n x).chg = s.chg := rfl
@[simp] theorem setPc_fw (s : State) (n : Nat) (x : DWord) : (s.setPc n x).fw = s.fw := rfl
@[simp] theorem setPc_keys (s : State) (n : Nat) (x : DWord) : (s.setPc n x).keys = s.keys := rfl
@[simp] theorem setPc_rings (s : State) (n : Nat) (x : DWord) : (s.setPc n x).rings = s.rings := rfl
@[simp] theorem setPc_stations (s : State) (n : Nat) (x : DWord) : (s.setPc n x).stations = s.stations := rfl
@[simp] theorem setPc_net (s : State) (n : Nat) (x : DWord) : (s.setPc n x).net = s.net := rfl
@[simp] theorem setPc_peers (s : State) (n : Nat) (x : DWord) : (s.setPc n x).peers = s.peers := rfl
@[simp] theorem setPc_can (s : State) (n : Nat) (x : DWord) : (s.setPc n x).can = s.can := rfl
@[simp] theorem setPc_lio (s : State) (n : Nat) (x : DWord) : (s.setPc n x).lio = s.lio := rfl
@[simp] theorem setPc_boot (s : State) (n : Nat) (x : DWord) : (s.setPc n x).boot = s.boot := rfl
@[simp] theorem setPc_pwr (s : State) (n : Nat) (x : DWord) : (s.setPc n x).pwr = s.pwr := rfl
@[simp] theorem setPc_tap (s : State) (n : Nat) (x : DWord) : (s.setPc n x).tap = s.tap := rfl
@[simp] theorem setPc_evr (s : State) (n : Nat) (x : DWord) : (s.setPc n x).evr = s.evr := rfl
@[simp] theorem setPc_pmcStart (s : State) (n : Nat) (x : DWord) : (s.setPc n x).pmcStart = s.pmcStart := rfl
@[simp] theorem setPc_pending (s : State) (n : Nat) (x : DWord) : (s.setPc n x).pending = s.pending := rfl
@[simp] theorem setPc_resp (s : State) (n : Nat) (x : DWord) : (s.setPc n x).resp = s.resp := rfl
@[simp] theorem setPc_out (s : State) (n : Nat) (x : DWord) : (s.setPc n x).out = s.out := rfl
@[simp] theorem setPc_free (s : State) (n : Nat) (x : DWord) : (s.setPc n x).free = s.free := rfl

/-! ### eccClear -/

@[simp] theorem eccClear_regs (s : State) (a : Nat) : (s.eccClear a).regs = s.regs := rfl
@[simp] theorem eccClear_latch (s : State) (a : Nat) : (s.eccClear a).latch = s.latch := rfl
@[simp] theorem eccClear_clk (s : State) (a : Nat) : (s.eccClear a).clk = s.clk := rfl
@[simp] theorem eccClear_seq (s : State) (a : Nat) : (s.eccClear a).seq = s.seq := rfl
@[simp] theorem eccClear_cores (s : State) (a : Nat) : (s.eccClear a).cores = s.cores := rfl
@[simp] theorem eccClear_tasks (s : State) (a : Nat) : (s.eccClear a).tasks = s.tasks := rfl
@[simp] theorem eccClear_acts (s : State) (a : Nat) : (s.eccClear a).acts = s.acts := rfl
@[simp] theorem eccClear_mem (s : State) (a : Nat) : (s.eccClear a).mem = s.mem := rfl
@[simp] theorem eccClear_nor (s : State) (a : Nat) : (s.eccClear a).nor = s.nor := rfl
@[simp] theorem eccClear_image (s : State) (a : Nat) : (s.eccClear a).image = s.image := rfl
@[simp] theorem eccClear_mapArea (s : State) (a : Nat) : (s.eccClear a).mapArea = s.mapArea := rfl
@[simp] theorem eccClear_desc (s : State) (a : Nat) : (s.eccClear a).desc = s.desc := rfl
@[simp] theorem eccClear_lastSent (s : State) (a : Nat) : (s.eccClear a).lastSent = s.lastSent := rfl
@[simp] theorem eccClear_armed (s : State) (a : Nat) : (s.eccClear a).armed = s.armed := rfl
@[simp] theorem eccClear_frcGen (s : State) (a : Nat) : (s.eccClear a).frcGen = s.frcGen := rfl
@[simp] theorem eccClear_groves (s : State) (a : Nat) : (s.eccClear a).groves = s.groves := rfl
@[simp] theorem eccClear_esd (s : State) (a : Nat) : (s.eccClear a).esd = s.esd := rfl
@[simp] theorem eccClear_units (s : State) (a : Nat) : (s.eccClear a).units = s.units := rfl
@[simp] theorem eccClear_tracePos (s : State) (a : Nat) : (s.eccClear a).tracePos = s.tracePos := rfl
@[simp] theorem eccClear_traceSeq (s : State) (a : Nat) : (s.eccClear a).traceSeq = s.traceSeq := rfl
@[simp] theorem eccClear_pair (s : State) (a : Nat) : (s.eccClear a).pair = s.pair := rfl
@[simp] theorem eccClear_chg (s : State) (a : Nat) : (s.eccClear a).chg = s.chg := rfl
@[simp] theorem eccClear_fw (s : State) (a : Nat) : (s.eccClear a).fw = s.fw := rfl
@[simp] theorem eccClear_keys (s : State) (a : Nat) : (s.eccClear a).keys = s.keys := rfl
@[simp] theorem eccClear_rings (s : State) (a : Nat) : (s.eccClear a).rings = s.rings := rfl
@[simp] theorem eccClear_stations (s : State) (a : Nat) : (s.eccClear a).stations = s.stations := rfl
@[simp] theorem eccClear_net (s : State) (a : Nat) : (s.eccClear a).net = s.net := rfl
@[simp] theorem eccClear_peers (s : State) (a : Nat) : (s.eccClear a).peers = s.peers := rfl
@[simp] theorem eccClear_can (s : State) (a : Nat) : (s.eccClear a).can = s.can := rfl
@[simp] theorem eccClear_lio (s : State) (a : Nat) : (s.eccClear a).lio = s.lio := rfl
@[simp] theorem eccClear_boot (s : State) (a : Nat) : (s.eccClear a).boot = s.boot := rfl
@[simp] theorem eccClear_pwr (s : State) (a : Nat) : (s.eccClear a).pwr = s.pwr := rfl
@[simp] theorem eccClear_tap (s : State) (a : Nat) : (s.eccClear a).tap = s.tap := rfl
@[simp] theorem eccClear_evr (s : State) (a : Nat) : (s.eccClear a).evr = s.evr := rfl
@[simp] theorem eccClear_pmcStart (s : State) (a : Nat) : (s.eccClear a).pmcStart = s.pmcStart := rfl
@[simp] theorem eccClear_pending (s : State) (a : Nat) : (s.eccClear a).pending = s.pending := rfl
@[simp] theorem eccClear_resp (s : State) (a : Nat) : (s.eccClear a).resp = s.resp := rfl
@[simp] theorem eccClear_out (s : State) (a : Nat) : (s.eccClear a).out = s.out := rfl
@[simp] theorem eccClear_free (s : State) (a : Nat) : (s.eccClear a).free = s.free := rfl

end Sys2Proof.Machine
end

