-- ==== Sys2Proof/Laws/Count.lean ====
section
/-! SUPPORT. Counting an event changes only registers of the performance counters (15). -/

namespace Sys2Proof.Machine

open Sys2Proof

/-- pmcAdd touches counters i < 64 of block j < 8 only. -/
theorem pmcAdd_only (s : State) {j i : Nat} (n : Nat) (hj : j < 8) (hi : i < 64) :
    ∃ r, pmcAdd s j i n = { s with regs := r } ∧ ∀ a, isPmc a = false → amGet regReset r a = s.rget a := by
  have key : ∀ a, isPmc a = false → (pmcAdd s j i n).rget a = s.rget a := by
    intro a ha
    have hb : ¬ (0x0300480000 ≤ a ∧ a < 0x0300500000) := by simpa [isPmc] using ha
    simp only [pmcAdd]
    have e1 : a ≠ PMC_VAL_LO j i := by unfold PMC_VAL_LO; omega
    have e2 : a ≠ PMC_VAL_HI j i := by unfold PMC_VAL_HI; omega
    have e3 : a ≠ PMC_OVF_LO j := by unfold PMC_OVF_LO; omega
    have e4 : a ≠ PMC_OVF_HI j := by unfold PMC_OVF_HI; omega
    split
    · simp only [State.wr64, rget_rset_ne _ _ e2, rget_rset_ne _ _ e1]
    · split
      · rw [rget_wr_ne _ _ _ e3]; simp only [State.wr64, rget_rset_ne _ _ e2, rget_rset_ne _ _ e1]
      · rw [rget_wr_ne _ _ _ e4]; simp only [State.wr64, rget_rset_ne _ _ e2, rget_rset_ne _ _ e1]
  refine ⟨(pmcAdd s j i n).regs, ?_, key⟩
  unfold pmcAdd
  simp only
  split
  · rfl
  · split <;> rfl

theorem pmcOfAddr_lt {a j i : Nat} (h : pmcOfAddr a = some (j, i)) : j < 8 ∧ i < 64 := by
  unfold pmcOfAddr at h
  simp only at h
  split at h
  · next hc =>
    simp only [Option.some.injEq, Prod.mk.injEq] at h
    obtain ⟨rfl, rfl⟩ := h
    exact ⟨hc.2.1, by omega⟩
  · cases h

/-- Counting an event changes registers of the performance counters only. -/
theorem count_only (s : State) (ev : PmcEv) (n : Nat) :
    ∃ r, s.count ev n = { s with regs := r } ∧ ∀ a, isPmc a = false → amGet regReset r a = s.rget a := by
  unfold State.count
  split
  · exact ⟨s.regs, rfl, fun a _ => rfl⟩
  · have gen : ∀ (l : List (Nat × Nat)), (∀ ji ∈ l, ji.1 < 8 ∧ ji.2 < 64) → ∀ (t : State),
        (∃ r, t = { s with regs := r } ∧ ∀ a, isPmc a = false → amGet regReset r a = s.rget a) →
        ∃ r, l.foldl (fun t ji => if pmcAdmits s ji.1 ji.2 ev then pmcAdd t ji.1 ji.2 n else t) t = { s with regs := r } ∧
          ∀ a, isPmc a = false → amGet regReset r a = s.rget a := by
      intro l
      induction l with
      | nil => intro _ t ht; exact ht
      | cons x l ih =>
        intro hl t ht
        apply ih (fun ji h => hl ji (List.mem_cons_of_mem _ h))
        obtain ⟨r, rfl, hr⟩ := ht
        beta_reduce
        split
        · obtain ⟨r', e, hr'⟩ := pmcAdd_only { s with regs := r } n (hl x List.mem_cons_self).1 (hl x List.mem_cons_self).2
          exact ⟨r', e, fun a ha => (hr' a ha).trans (hr a ha)⟩
        · exact ⟨r, rfl, hr⟩
    apply gen _ _ _ ⟨s.regs, rfl, fun a _ => rfl⟩
    intro ji h
    obtain ⟨e, -, he⟩ := List.mem_filterMap.mp h
    exact pmcOfAddr_lt he

theorem rget_count (s : State) (ev : PmcEv) (n : Nat) {a : Nat} (h : isPmc a = false) : (s.count ev n).rget a = s.rget a := by
  obtain ⟨r, e, hr⟩ := count_only s ev n
  rw [e]; exact hr a h

theorem rd_count (s : State) (ev : PmcEv) (n : Nat) {a : Nat} (f : Fld) (h : isPmc a = false) : (s.count ev n).rd a f = s.rd a f := by
  simp only [State.rd, rget_count s ev n h]

theorem on_count (s : State) (ev : PmcEv) (n : Nat) {a : Nat} (f : Fld) (h : isPmc a = false) : (s.count ev n).on a f = s.on a f := by
  simp only [State.on, rd_count s ev n f h]

@[simp] theorem count_latch (s : State) (ev : PmcEv) (n : Nat) : (s.count ev n).latch = s.latch := by
  obtain ⟨r, e, -⟩ := count_only s ev n; rw [e]
@[simp] theorem count_clk (s : State) (ev : PmcEv) (n : Nat) : (s.count ev n).clk = s.clk := by
  obtain ⟨r, e, -⟩ := count_only s ev n; rw [e]
@[simp] theorem count_seq (s : State) (ev : PmcEv) (n : Nat) : (s.count ev n).seq = s.seq := by
  obtain ⟨r, e, -⟩ := count_only s ev n; rw [e]
@[simp] theorem count_cores (s : State) (ev : PmcEv) (n : Nat) : (s.count ev n).cores = s.cores := by
  obtain ⟨r, e, -⟩ := count_only s ev n; rw [e]
@[simp] theorem count_tasks (s : State) (ev : PmcEv) (n : Nat) : (s.count ev n).tasks = s.tasks := by
  obtain ⟨r, e, -⟩ := count_only s ev n; rw [e]
@[simp] theorem count_acts (s : State) (ev : PmcEv) (n : Nat) : (s.count ev n).acts = s.acts := by
  obtain ⟨r, e, -⟩ := count_only s ev n; rw [e]
@[simp] theorem count_mem (s : State) (ev : PmcEv) (n : Nat) : (s.count ev n).mem = s.mem := by
  obtain ⟨r, e, -⟩ := count_only s ev n; rw [e]
@[simp] theorem count_nor (s : State) (ev : PmcEv) (n : Nat) : (s.count ev n).nor = s.nor := by
  obtain ⟨r, e, -⟩ := count_only s ev n; rw [e]
@[simp] theorem count_ecc (s : State) (ev : PmcEv) (n : Nat) : (s.count ev n).ecc = s.ecc := by
  obtain ⟨r, e, -⟩ := count_only s ev n; rw [e]
@[simp] theorem count_image (s : State) (ev : PmcEv) (n : Nat) : (s.count ev n).image = s.image := by
  obtain ⟨r, e, -⟩ := count_only s ev n; rw [e]
@[simp] theorem count_mapArea (s : State) (ev : PmcEv) (n : Nat) : (s.count ev n).mapArea = s.mapArea := by
  obtain ⟨r, e, -⟩ := count_only s ev n; rw [e]
@[simp] theorem count_desc (s : State) (ev : PmcEv) (n : Nat) : (s.count ev n).desc = s.desc := by
  obtain ⟨r, e, -⟩ := count_only s ev n; rw [e]
@[simp] theorem count_lastSent (s : State) (ev : PmcEv) (n : Nat) : (s.count ev n).lastSent = s.lastSent := by
  obtain ⟨r, e, -⟩ := count_only s ev n; rw [e]
@[simp] theorem count_armed (s : State) (ev : PmcEv) (n : Nat) : (s.count ev n).armed = s.armed := by
  obtain ⟨r, e, -⟩ := count_only s ev n; rw [e]
@[simp] theorem count_frcGen (s : State) (ev : PmcEv) (n : Nat) : (s.count ev n).frcGen = s.frcGen := by
  obtain ⟨r, e, -⟩ := count_only s ev n; rw [e]
@[simp] theorem count_groves (s : State) (ev : PmcEv) (n : Nat) : (s.count ev n).groves = s.groves := by
  obtain ⟨r, e, -⟩ := count_only s ev n; rw [e]
@[simp] theorem count_esd (s : State) (ev : PmcEv) (n : Nat) : (s.count ev n).esd = s.esd := by
  obtain ⟨r, e, -⟩ := count_only s ev n; rw [e]
@[simp] theorem count_units (s : State) (ev : PmcEv) (n : Nat) : (s.count ev n).units = s.units := by
  obtain ⟨r, e, -⟩ := count_only s ev n; rw [e]
@[simp] theorem count_tracePos (s : State) (ev : PmcEv) (n : Nat) : (s.count ev n).tracePos = s.tracePos := by
  obtain ⟨r, e, -⟩ := count_only s ev n; rw [e]
@[simp] theorem count_traceSeq (s : State) (ev : PmcEv) (n : Nat) : (s.count ev n).traceSeq = s.traceSeq := by
  obtain ⟨r, e, -⟩ := count_only s ev n; rw [e]
@[simp] theorem count_pair (s : State) (ev : PmcEv) (n : Nat) : (s.count ev n).pair = s.pair := by
  obtain ⟨r, e, -⟩ := count_only s ev n; rw [e]
@[simp] theorem count_chg (s : State) (ev : PmcEv) (n : Nat) : (s.count ev n).chg = s.chg := by
  obtain ⟨r, e, -⟩ := count_only s ev n; rw [e]
@[simp] theorem count_fw (s : State) (ev : PmcEv) (n : Nat) : (s.count ev n).fw = s.fw := by
  obtain ⟨r, e, -⟩ := count_only s ev n; rw [e]
@[simp] theorem count_keys (s : State) (ev : PmcEv) (n : Nat) : (s.count ev n).keys = s.keys := by
  obtain ⟨r, e, -⟩ := count_only s ev n; rw [e]
@[simp] theorem count_rings (s : State) (ev : PmcEv) (n : Nat) : (s.count ev n).rings = s.rings := by
  obtain ⟨r, e, -⟩ := count_only s ev n; rw [e]
@[simp] theorem count_stations (s : State) (ev : PmcEv) (n : Nat) : (s.count ev n).stations = s.stations := by
  obtain ⟨r, e, -⟩ := count_only s ev n; rw [e]
@[simp] theorem count_net (s : State) (ev : PmcEv) (n : Nat) : (s.count ev n).net = s.net := by
  obtain ⟨r, e, -⟩ := count_only s ev n; rw [e]
@[simp] theorem count_peers (s : State) (ev : PmcEv) (n : Nat) : (s.count ev n).peers = s.peers := by
  obtain ⟨r, e, -⟩ := count_only s ev n; rw [e]
@[simp] theorem count_can (s : State) (ev : PmcEv) (n : Nat) : (s.count ev n).can = s.can := by
  obtain ⟨r, e, -⟩ := count_only s ev n; rw [e]
@[simp] theorem count_lio (s : State) (ev : PmcEv) (n : Nat) : (s.count ev n).lio = s.lio := by
  obtain ⟨r, e, -⟩ := count_only s ev n; rw [e]
@[simp] theorem count_boot (s : State) (ev : PmcEv) (n : Nat) : (s.count ev n).boot = s.boot := by
  obtain ⟨r, e, -⟩ := count_only s ev n; rw [e]
@[simp] theorem count_pwr (s : State) (ev : PmcEv) (n : Nat) : (s.count ev n).pwr = s.pwr := by
  obtain ⟨r, e, -⟩ := count_only s ev n; rw [e]
@[simp] theorem count_tap (s : State) (ev : PmcEv) (n : Nat) : (s.count ev n).tap = s.tap := by
  obtain ⟨r, e, -⟩ := count_only s ev n; rw [e]
@[simp] theorem count_evr (s : State) (ev : PmcEv) (n : Nat) : (s.count ev n).evr = s.evr := by
  obtain ⟨r, e, -⟩ := count_only s ev n; rw [e]
@[simp] theorem count_pmcStart (s : State) (ev : PmcEv) (n : Nat) : (s.count ev n).pmcStart = s.pmcStart := by
  obtain ⟨r, e, -⟩ := count_only s ev n; rw [e]
@[simp] theorem count_pending (s : State) (ev : PmcEv) (n : Nat) : (s.count ev n).pending = s.pending := by
  obtain ⟨r, e, -⟩ := count_only s ev n; rw [e]
@[simp] theorem count_resp (s : State) (ev : PmcEv) (n : Nat) : (s.count ev n).resp = s.resp := by
  obtain ⟨r, e, -⟩ := count_only s ev n; rw [e]
@[simp] theorem count_out (s : State) (ev : PmcEv) (n : Nat) : (s.count ev n).out = s.out := by
  obtain ⟨r, e, -⟩ := count_only s ev n; rw [e]
@[simp] theorem count_free (s : State) (ev : PmcEv) (n : Nat) : (s.count ev n).free = s.free := by
  obtain ⟨r, e, -⟩ := count_only s ev n; rw [e]

end Sys2Proof.Machine
end

