-- ==== Sys2Proof/Laws/Denma.lean ====
section
/-! SUPPORT. Processors: registers, what counting and charging leave alone, and what becomes of an instruction (04). -/

namespace Sys2Proof.Machine

open Sys2Proof

/-! ### Registers of a processor -/

@[simp] theorem core_setCore_same (s : State) (n : Nat) (c : Core) : (s.setCore n c).core n = c := amGet_amSet_same _ _ _
theorem core_setCore_ne (s : State) {n m : Nat} (c : Core) (h : m ≠ n) : (s.setCore n c).core m = s.core m := amGet_amSet_ne _ _ h

/-- v0 reads zero. -/
theorem vget_zero (s : State) (n : Nat) {r : Reg} (h : r.val = 0) : s.vget n r = 0#64 := by simp [State.vget, h]

theorem vget_vset_same (s : State) (n : Nat) (r : Reg) (x : DWord) : (s.vset n r x).vget n r = if r.val = 0 then 0#64 else x := by
  unfold State.vget State.vset
  split
  · rfl
  · simp

theorem vget_vset_ne (s : State) (n : Nat) {r q : Reg} (x : DWord) (h : q ≠ r) : (s.vset n r x).vget n q = s.vget n q := by
  unfold State.vget State.vset
  have : q.val ≠ r.val := fun e => h (Fin.ext e)
  split
  · rfl
  · split
    · rfl
    · simp [amGet_amSet_ne _ _ this]

theorem core_vset_ne (s : State) {n m : Nat} (r : Reg) (x : DWord) (h : m ≠ n) : (s.vset n r x).core m = s.core m := by
  unfold State.vset
  split
  · rfl
  · exact core_setCore_ne s _ h

@[simp] theorem pc_vset (s : State) (n : Nat) (r : Reg) (x : DWord) : ((s.vset n r x).core n).pc = (s.core n).pc := by
  unfold State.vset
  split
  · rfl
  · simp

@[simp] theorem task_vset (s : State) (n : Nat) (r : Reg) (x : DWord) : ((s.vset n r x).core n).task = (s.core n).task := by
  unfold State.vset
  split
  · rfl
  · simp

@[simp] theorem srGet_vset (s : State) (n : Nat) (r : Reg) (x : DWord) (q : Nat) : (s.vset n r x).srGet n q = s.srGet n q := by
  unfold State.vset State.srGet
  split
  · rfl
  · simp [Core.srGet]

@[simp] theorem srGet_srSet_same (s : State) (n q : Nat) (x : DWord) : (s.srSet n q x).srGet n q = x := by
  simp [State.srGet, State.srSet, Core.srGet, Core.srSet]

theorem srGet_srSet_ne (s : State) (n : Nat) {q r : Nat} (x : DWord) (h : r ≠ q) : (s.srSet n q x).srGet n r = s.srGet n r := by
  simp [State.srGet, State.srSet, Core.srGet, Core.srSet, amGet_amSet_ne _ _ h]

@[simp] theorem vget_srSet (s : State) (n q : Nat) (x : DWord) (r : Reg) : (s.srSet n q x).vget n r = s.vget n r := by
  simp [State.vget, State.srSet, Core.srSet]

@[simp] theorem pc_srSet (s : State) (n q : Nat) (x : DWord) : ((s.srSet n q x).core n).pc = (s.core n).pc := by
  simp [State.srSet, Core.srSet]

@[simp] theorem task_srSet (s : State) (n q : Nat) (x : DWord) : ((s.srSet n q x).core n).task = (s.core n).task := by
  simp [State.srSet, Core.srSet]

theorem core_srSet_ne (s : State) {n m : Nat} (q : Nat) (x : DWord) (h : m ≠ n) : (s.srSet n q x).core m = s.core m :=
  core_setCore_ne s _ h

@[simp] theorem pc_setPc (s : State) (n : Nat) (x : DWord) : ((s.setPc n x).core n).pc = x := by simp [State.setPc]
@[simp] theorem vget_setPc (s : State) (n : Nat) (x : DWord) (r : Reg) : (s.setPc n x).vget n r = s.vget n r := by
  simp [State.setPc, State.vget]
@[simp] theorem srGet_setPc (s : State) (n : Nat) (x : DWord) (q : Nat) : (s.setPc n x).srGet n q = s.srGet n q := by
  simp [State.setPc, State.srGet, Core.srGet]
theorem core_setPc_ne (s : State) {n m : Nat} (x : DWord) (h : m ≠ n) : (s.setPc n x).core m = s.core m := core_setCore_ne s _ h

/-! ### Memory depends on few fields -/

/-- A byte of memory is the same in states of the same memory, image, tick and mode. -/
theorem byte_congr {s t : State} (h1 : t.mem = s.mem) (h2 : t.image = s.image) (h3 : t.mapArea = s.mapArea) (h4 : t.seq = s.seq)
    (h5 : t.rget TSQ_STATUS = s.rget TSQ_STATUS) (a : Nat) : t.byte a = s.byte a := by
  have e : t.freeMode = s.freeMode := by simp only [State.freeMode, State.on, State.rd, h5]
  simp only [State.byte, imageWord, State.entry, ageTick, h1, h2, h3, h4, e]

/-! ### Frames of an instruction -/

theorem CoreFrame.refl (n : Nat) (s : State) : CoreFrame n s s := ⟨rfl, fun _ _ => rfl, fun _ _ => rfl, fun _ => rfl⟩

theorem CoreFrame.trans {n : Nat} {s t u : State} (h : CoreFrame n s t) (k : CoreFrame n t u) : CoreFrame n s u := by
  refine ⟨?_, fun m hm => (k.others m hm).trans (h.others m hm), fun a ha => (k.regs a ha).trans (h.regs a ha),
    fun a => (k.bytes a).trans (h.bytes a)⟩
  rw [k.rest]
  conv_lhs => rw [h.rest]

theorem isPmc_TSQ_STATUS : isPmc TSQ_STATUS = false := by decide

/-- A state that differs in counters, processors and tasks only. -/
theorem CoreFrame.mk' {n : Nat} {s t : State} (h : t = { s with regs := t.regs, cores := t.cores, tasks := t.tasks })
    (ho : ∀ m, m ≠ n → t.core m = s.core m) (hr : ∀ a, isPmc a = false → t.rget a = s.rget a) : CoreFrame n s t :=
  ⟨h, ho, hr, byte_congr (by rw [h]) (by rw [h]) (by rw [h]) (by rw [h]) (hr _ isPmc_TSQ_STATUS)⟩

theorem frame_setCore (n : Nat) (s : State) (c : Core) : CoreFrame n s (s.setCore n c) :=
  .mk' rfl (fun _ hm => core_setCore_ne s c hm) (fun _ _ => rfl)

theorem frame_vset (n : Nat) (s : State) (r : Reg) (x : DWord) : CoreFrame n s (s.vset n r x) := by
  unfold State.vset
  split
  · exact .refl n s
  · exact frame_setCore n s _

theorem frame_srSet (n : Nat) (s : State) (q : Nat) (x : DWord) : CoreFrame n s (s.srSet n q x) := frame_setCore n s _
theorem frame_setPc (n : Nat) (s : State) (x : DWord) : CoreFrame n s (s.setPc n x) := frame_setCore n s _

theorem frame_count (n : Nat) (s : State) (ev : PmcEv) (k : Nat) : CoreFrame n s (s.count ev k) := by
  obtain ⟨r, e, hr⟩ := count_only s ev k
  rw [e]
  exact .mk' rfl (fun _ _ => rfl) hr

theorem frame_setTask (n : Nat) (s : State) (e c : Nat) (t : Task) : CoreFrame n s (s.setTask e c t) :=
  .mk' rfl (fun _ _ => rfl) (fun _ _ => rfl)

theorem frame_countInstr (n : Nat) (s : State) : CoreFrame n s (countInstr s n) := by
  unfold countInstr
  split
  · exact frame_count n s _ _
  · exact .refl n s

theorem frame_addCyc (n : Nat) (s : State) (c k : Nat) : CoreFrame n s (addCyc s n c k) :=
  (frame_setTask n s n c _).trans (frame_count n _ _ _)

theorem frame_charge (n : Nat) (s : State) (k : Nat) : CoreFrame n s (charge s n k) := by
  unfold charge
  split
  · split
    · exact frame_addCyc n s _ k
    · exact .refl n s
  · exact .refl n s

/-- Counting and charging leave the processors alone. -/
@[simp] theorem charge_cores (s : State) (n k : Nat) : (charge s n k).cores = s.cores := by
  unfold charge
  split
  · split <;> simp [addCyc]
  · rfl

@[simp] theorem countInstr_cores (s : State) (n : Nat) : (countInstr s n).cores = s.cores := by
  unfold countInstr
  split <;> simp

theorem core_charge_countInstr (s : State) (n k m : Nat) : (charge (countInstr s n) n k).core m = s.core m := by
  simp [State.core]

theorem vget_charge_countInstr (s : State) (n k m : Nat) (r : Reg) : (charge (countInstr s n) n k).vget m r = s.vget m r := by
  simp [State.vget, core_charge_countInstr]

theorem srGet_charge_countInstr (s : State) (n k m q : Nat) : (charge (countInstr s n) n k).srGet m q = s.srGet m q := by
  simp [State.srGet, core_charge_countInstr]

/-! ### What becomes of an instruction -/

/-- An instruction that goes on at pc after an effect u: processor n's registers are u's, its pc is pc, the rest is u's. -/
theorem settle_go (n : Nat) (u : State) (pc : DWord) (cyc : Nat) : WentTo n pc u (settle n (.go u pc cyc)) where
  regs r := by simp [settle, vget_charge_countInstr]
  sys r := by simp [settle, srGet_charge_countInstr]
  pc := by simp [settle]
  frame := ((frame_countInstr n u).trans (frame_charge n _ cyc)).trans (frame_setPc n _ pc)

/-- An instruction that writes a register and goes on. -/
theorem settle_wb (n : Nat) (u : State) (rd : Reg) (x : DWord) (cyc : Nat) : Wrote n rd x u (settle n (wb u n rd x cyc)) := by
  have h := settle_go n (u.vset n rd x) (nextPc u n) cyc
  exact ⟨(h.regs rd).trans (vget_vset_same u n rd x), fun r hr => (h.regs r).trans (vget_vset_ne u n x hr),
    fun r => (h.sys r).trans (srGet_vset u n rd x r), h.pc, (frame_vset n u rd x).trans h.frame⟩

theorem frame_stick (n : Nat) (s : State) (r bits : Nat) : CoreFrame n s (stick s n r bits) := by
  unfold stick
  split
  · exact .refl n s
  · exact frame_srSet n s _ _

theorem vget_stick (s : State) (n r bits : Nat) (q : Reg) : (stick s n r bits).vget n q = s.vget n q := by
  unfold stick
  split <;> simp

theorem srGet_stick_same (s : State) (n r bits : Nat) : (stick s n r bits).srGet n r = s.srGet n r ||| BitVec.ofNat 64 bits := by
  unfold stick
  split
  · next h => simp [h]
  · simp

theorem srGet_stick_ne (s : State) (n : Nat) {r q : Nat} (bits : Nat) (h : q ≠ r) : (stick s n r bits).srGet n q = s.srGet n q := by
  unfold stick
  split
  · rfl
  · exact srGet_srSet_ne s n _ h

theorem pc_stick (s : State) (n r bits : Nat) : ((stick s n r bits).core n).pc = (s.core n).pc := by
  unfold stick
  split <;> simp

/-- The same with sticky bits set. -/
theorem settle_wb_stick (n : Nat) (u : State) (rd : Reg) (x : DWord) (cyc sr bits : Nat) :
    WroteSticky n rd x sr (BitVec.ofNat 64 bits) u (settle n (wb (stick u n sr bits) n rd x cyc)) := by
  have h := settle_wb n (stick u n sr bits) rd x cyc
  exact ⟨h.value, fun r hr => (h.regs r hr).trans (vget_stick u n sr bits r), (h.sys sr).trans (srGet_stick_same u n sr bits),
    fun r hr => (h.sys r).trans (srGet_stick_ne u n bits hr), by rw [h.pc, pc_stick], (frame_stick n u sr bits).trans h.frame⟩

/-- A command of a processor that issues an instruction of its set. -/
theorem issue_eq {s u : State} {p : Proc} (h : Issues s p u) {g : Grp} (hg : inGroup (coreNo p) g = true) (f : Nat → State → DRes) :
    issue p g f s = settle (coreNo p) (f (coreNo p) u) := by
  obtain ⟨hi, v, hf⟩ := h
  simp [issue, perform, hi, hf, hg]

/-- A command of a processor outside whose set the instruction lies: ILLEGAL. -/
theorem issue_illegal {s u : State} {p : Proc} (h : Issues s p u) {g : Grp} (hg : inGroup (coreNo p) g = false) (f : Nat → State → DRes) :
    issue p g f s = takeTrap u (coreNo p) 0 0 0#64 := by
  obtain ⟨hi, v, hf⟩ := h
  simp [issue, perform, hi, hf, hg]

/-- A processor that issues nothing is left as it is. -/
theorem issue_none {s : State} {p : Proc} (h : canIssue s (coreNo p) = false) (g : Grp) (f : Nat → State → DRes) : issue p g f s = s := by
  simp [issue, h]

/-- INT, SATG, SHI, immediates, loads and stores, branches and system-register instructions belong to every processor (R76). -/
theorem inGroup_all (n : Nat) {g : Grp} (h : g = .int ∨ g = .satg ∨ g = .shi ∨ g = .imm ∨ g = .mem ∨ g = .branch ∨ g = .sysReg) :
    inGroup n g = true := by
  rcases h with h | h | h | h | h | h | h <;> subst h <;> unfold inGroup <;> split <;> (try split) <;> rfl

/-! ### Traps -/

/-- What trapEntry leaves, read back. -/
theorem srGet_trapEntry (s : State) (n cause sub : Nat) (ea epc : DWord) (r : Nat) :
    (trapEntry s n cause sub ea epc).srGet n r =
      if r = 0x010 then BitVec.ofNat 64 (64 + 32 * ((s.srGet n 0x010).toNat / 16 % 2) + 4 * ((s.srGet n 0x010).toNat % 4) + trapLevel n)
      else if r = 0x014 then (if 2 ≤ cause ∧ cause ≤ 10 then ea else 0#64)
      else if r = 0x013 then BitVec.ofNat 64 (cause + sub * 2 ^ 16)
      else if r = 0x012 then epc else s.srGet n r := by
  simp only [trapEntry, State.srGet, core_setCore_same, Core.srSet, Core.srGet, amGet_amSet]

theorem trapLevel_cases (n : Nat) : trapLevel n = 1 ∨ trapLevel n = 3 := by unfold trapLevel; split <;> simp

@[simp] theorem markTrap_cores (s : State) (n cause : Nat) : (markTrap s n cause).cores = s.cores := by
  unfold markTrap
  split
  · split <;> rfl
  · rfl

theorem frame_markTrap (n : Nat) (s : State) (cause : Nat) : CoreFrame n s (markTrap s n cause) := by
  unfold markTrap
  split
  · split
    · exact frame_setTask n s _ _ _
    · exact .refl n s
  · exact .refl n s

/-- Trap entry of a processor that is not inside a trap (R113). -/
theorem takeTrap_entry (u : State) (n cause sub : Nat) (ea : DWord) (h : (u.srGet n 0x010).toNat / 64 % 2 = 0) :
    Trapped n cause sub ea u (takeTrap u n cause sub ea) := by
  obtain ⟨v, hv, hc, hf⟩ : ∃ v : State, takeTrap u n cause sub ea = trapEntry v n cause sub ea (u.core n).pc ∧ v.core n = u.core n ∧
      CoreFrame n u v := by
    have hm : (markTrap u n cause).core n = u.core n := by simp [State.core]
    refine ⟨_, by simp only [takeTrap, if_neg (show ¬ (u.srGet n 0x010).toNat / 64 % 2 = 1 by omega), hm]; rfl, ?_, ?_⟩
    · split <;> simp [State.core]
    · split
      · exact (((frame_markTrap n u cause).trans (frame_count n _ _ _)).trans (frame_countInstr n _)).trans (frame_charge n _ _)
      · exact ((frame_markTrap n u cause).trans (frame_countInstr n _)).trans (frame_charge n _ _)
  rw [hv]
  have hs : ∀ r, v.srGet n r = u.srGet n r := fun r => by simp only [State.srGet, hc]
  have key := srGet_trapEntry v n cause sub ea (u.core n).pc
  have hp : (u.srGet n 0x010).toNat % 4 < 4 := Nat.mod_lt _ (by decide)
  have hi : (u.srGet n 0x010).toNat / 16 % 2 < 2 := Nat.mod_lt _ (by decide)
  have st : ((trapEntry v n cause sub ea (u.core n).pc).srGet n 0x010).toNat
      = 64 + 32 * ((u.srGet n 0x010).toNat / 16 % 2) + 4 * ((u.srGet n 0x010).toNat % 4) + trapLevel n := by
    rw [key, if_pos rfl, hs, BitVec.toNat_ofNat, Nat.mod_eq_of_lt]
    rcases trapLevel_cases n with e | e <;> rw [e] <;> omega
  refine ⟨by rw [key]; simp, by rw [key]; simp, by rw [key]; simp, ?_, ?_, ?_, ?_, ?_, ?_, ?_, ?_⟩
  all_goals try unfold prvOf
  all_goals try rw [st]
  · rcases trapLevel_cases n with e | e <;> rw [e] <;> omega
  · rcases trapLevel_cases n with e | e <;> rw [e] <;> omega
  · rcases trapLevel_cases n with e | e <;> rw [e] <;> omega
  · rcases trapLevel_cases n with e | e <;> rw [e] <;> omega
  · generalize (u.srGet n 0x010).toNat / 16 % 2 = i at hi ⊢
    generalize (u.srGet n 0x010).toNat % 4 = p at hp ⊢
    rcases trapLevel_cases n with e | e <;> rw [e] <;> omega
  · simp [trapEntry, hc, State.srGet, Core.srGet, Core.srSet, amGet_amSet_ne]
  · intro r; simp [trapEntry, State.vget, hc, Core.srSet]
  · exact hf.trans (frame_setCore n v _)

end Sys2Proof.Machine
end

