-- ==== Sys2Proof/Laws/Mem.lean ====
section
/-! SUPPORT. Memory's canonical form: reset has it, and the one operation through which memory is written keeps it. -/

namespace Sys2Proof.Machine

open Sys2Proof

theorem reset_memory_wf : Memory.wf State.reset.mem = true := rfl

/-- Every write of memory is `amSet` with default 0. -/
theorem amSet_memory_wf (m : AMap Byte) (a : Nat) (b : Byte) (h : Memory.wf m = true) : Memory.wf (amSet (fun _ => 0#8) m a b) = true :=
  amWf_amSet a b h

@[simp] theorem mapTouched_mem (s : State) (c : Nat) : (mapTouched s c).mem = s.mem := by
  unfold mapTouched
  split
  · exact wr_mem _ _ _ _
  · rfl

/-- Writing a word of the image moves no byte of memory. -/
theorem setImageWord_mem (s : State) (c i : Nat) (w : DWord) : (setImageWord s c i w).mem = s.mem := by
  unfold setImageWord
  by_cases h : c = 3 ∧ (mapTouched s c).freeMode = false
  · exact (congrArg State.mem (if_pos h)).trans (mapTouched_mem s c)
  · exact (congrArg State.mem (if_neg h)).trans ((setEntry_mem _ _ _ _).trans (mapTouched_mem s c))

/-- A byte write keeps the form, wherever it goes. -/
theorem setByte_memory_wf (s : State) (a : Nat) (b : Byte) (h : Memory.wf s.mem = true) : Memory.wf (s.setByte a b).mem = true := by
  unfold State.setByte
  generalize mapOf a = m
  rcases m with _ | ⟨_ | _, _, _⟩ <;> simp only [setImageWord_mem] <;> first | exact h | exact amSet_memory_wf _ _ _ h

end Sys2Proof.Machine
end

