-- ==== Sys2Proof/Tests/Slice0.lean ====
section
/-! SUPPORT. The modeller's own tests: ill-formed commands, words of chapters 04 and 05, small results that the spec gives, and for every
statement states that meet its hypotheses. -/

namespace Sys2Proof.Tests

open Sys2Proof Sys2Proof.Machine

set_option maxRecDepth 100000

/-! ### Small states -/

/-- The reset state with some fields of registers stored. -/
def mk (l : List (Nat × Fld × Nat)) : State := l.foldl (fun s e => s.wr e.1 e.2.1 e.2.2) State.reset

/-- More fields of registers stored. -/
def also (s : State) (l : List (Nat × Fld × Nat)) : State := l.foldl (fun s e => s.wr e.1 e.2.1 e.2.2) s

/-- A gate with one entry that admits every master and level everywhere. -/
def openGate (s : State) (g : Nat) : State :=
  (((s.wr (GATE_CTRL g) GATE_CTRL_ENFORCE 1).rset (GATE_LIMIT_HI g 0 0) 0xFF#32).rset (GATE_PART g 0 0) 0xFFFF#32).rset
    (GATE_CTL g 0 0) (BitVec.ofNat 32 (setBits (setBits (setBits (setBits 0#32 GATE_CTL_EN 1) GATE_CTL_USER_XWR 7) GATE_CTL_KERNEL_XWR 7) GATE_CTL_MACHINE_XWR 7).toNat)

/-- A state with processor n so. -/
def withCore (s : State) (n : Nat) (f : Core → Core) : State := s.setCore n (f (s.core n))

/-- Canopy core 0 running in the SRAM with v1 to v3 given. -/
def canopy (v1 v2 v3 : DWord) : State :=
  withCore State.reset 0x40 fun c => { c with run := .run, pc := 0x10000000#64, v := [(1, v1), (2, v2), (3, v3)] }

/-- Engine 0 running the task of class 0 from its code memory, with v1 to v3 given. -/
def engine (v1 v2 v3 : DWord) : State :=
  let s := mk [(TSQ_STATUS, TSQ_STATUS_MODE, 0), (PAR_STATUS, PAR_STATUS_ROLE, roleCode .alone), (GRV_EN 0, U_STATE, 2),
    (ENG_STATUS 0, ENG_STATUS_STATE, 1)]
  let s := withCore (openGate (openGate (openGate s 2) 10) 18) 0 fun c =>
    { c with task := some 0, pc := 0x0180000000#64, v := [(1, v1), (2, v2), (3, v3)] }
  { s with seq := { s.seq with deadl := [(0, ⟨1000, false⟩)] } }

/-- What the fetch of processor n leaves. -/
def after (s : State) (n : Nat) : State := (fetch s n).2

/-! ### Ill-formed commands: each check refuses one -/

/-- A header of a lane message. -/
def hdr (pos : Bool) (tickLo : Word) : Hdr := { lane := 0, crcOk := true, pos := pos, epoch := 1#16, tickLo := tickLo }

/-- A ring frame of a type, its HCS and CRC fields right. -/
def frame (typ : Byte) (src pos : Bool) (payload : List Byte) : Frame :=
  let f : Frame := { typ := typ, pos := pos, src := src, r1 := 0#6, prod := 0#8, dst := 0#8, ring := 0#5, r2 := false, slot := 0#10, epoch := 0#16,
                     seq := 0#32, len := BitVec.ofNat 16 payload.length, loop := false, hops := 0#7, rbc := 0#8, payload := payload, crc := 0#32,
                     fin := .t }
  let g := withRbc f
  { g with crc := frameCrc g }

/-- Digests of an input agreement, and of an output. -/
def inDig0 (l : List (BitVec 64)) : InDig := { tick := 0#64, lmask := 0#32, localEntries := l, sections := [] }
def outDig0 (n : Nat) : OutDig :=
  { tick := 0#64, role := 4#4, hold := false, agreeInc := false, noagree := false, handover := false, accept := false, swapProp := false,
    swapConf := false, joinOk := false, stopReq := false, restartReq := false, forceConf := false, applyYes := false, swapTick := 0#64,
    mode := 0#24, modeValid := false, cfgGen := 0#16, frcGen := 0#16, localOut := 0#32, ringDig := List.replicate n 0#32,
    esd := List.replicate 64 0#32 }
def hello0 (n : Nat) : Hello := { fmt := 0#16, role := 4#4, tickLen := 1000#32, tick := 0#64, digest := 0#384, vers := List.replicate n 0#32 }
def canFrame0 (data : List Byte) : CanFrame :=
  { fdf := false, brs := false, esi := false, ide := false, rtr := false, id := 5#29, dlc := 1#4, data := data }

theorem test_wf_btick_m : (Instr.btick 0#10 0#10 1#6).errs = [.btickM, .btickP] := by decide
theorem test_wf_btick_p : (Instr.btick 4#10 4#10 1#6).errs = [.btickP] := by decide
theorem test_wf_btick_o : (Instr.btick 4#10 3#10 0#6).errs = [.btickO] := by decide
theorem test_wf_btick_good : (Instr.btick 4#10 3#10 1#6).wf = true := by decide
theorem test_wf_jf : (Instr.jf 0#12).errs = [.jfO] := by decide
theorem test_wf_position : (Instr.listenOnly 0 0).errs = [.position] := by decide
theorem test_wf_node_position : (Instr.dynSend 0 (.station 0) none).errs = [.position] := by decide
theorem test_wf_station : (Instr.stationLost 0 0).errs = [.stationNo] := by decide
theorem test_wf_access_len : (Instr.access 0x7F .read 0#40 0#13 []).errs = [.accessLen] := by decide
theorem test_wf_access_data : (Instr.access 0x7F .write 0#40 2#13 [1#8]).errs = [.accessData] := by decide
theorem test_wf_payload : (frame 1#8 false false []).errs = [] ∧
    ∀ f : Frame, 65536 ≤ f.payload.length → (Instr.inFrame 0 false f 0).errs = [.payload] := by
  refine ⟨by decide, fun f h => ?_⟩
  simp [Instr.errs, Frame.errs, wfCheck, Nat.not_lt.2 h]
theorem test_wf_local_entries : (Instr.inagreeDig (hdr true 0#32) (inDig0 (List.replicate 33 0#64))).errs = [.localEntries] := by decide
theorem test_wf_outdig : (Instr.outdig (hdr true 0#32) (outDig0 23)).errs = [.outdigLen] := by decide
theorem test_wf_force : (Instr.force (hdr true 0#32) 1#64 [(2, 0#32)]).errs = [.forceOffset] := by decide
theorem test_wf_quota : (Instr.stagePkg (hdr true 0#32) [] [(16, 0)]).errs = [.quota] := by decide
theorem test_wf_can : (Instr.canRxFrame 0 (canFrame0 []) 0#32).errs = [.canData] := by decide
theorem test_wf_hello : (Instr.hello (hdr true 0#32) (hello0 4)).errs = [.versions] := by decide
theorem test_wf_dgram : ∀ d : Dgram, 65536 ≤ d.data.length → (Instr.datagramIn 0 1 d).errs = [.dgram] := by
  intro d h
  simp [Instr.errs, wfCheck, Nat.not_lt.2 h]

/-! ### Words of chapters 04 and 05, and what they stand for -/

theorem test_word_int (p : Proc) : denmaRow p 0x05086603#32 = some (.or p .w64 8 8 12) ∧
    denmaRow p 0x0CA58300#32 = some (.shli p .w64 5 5 32#6) ∧ denmaRow p 0x2D8C0001#32 = some (.xori p 12 12 1#16) ∧
    denmaRow p 0x35850002#32 = some (.sltiu p 12 5 2#16) ∧ denmaRow p 0x20000000#32 = some (.addi p 0 0 0#16) := by
  refine ⟨rfl, rfl, rfl, rfl, rfl⟩
theorem test_word_fp (p : Proc) : denmaRow p 0x148208C0#32 = some (.fmadS p 4 2 1 3) := rfl
theorem test_word_mem (p : Proc) : denmaRow p 0x54200010#32 = some (.lwu p 1 0 16#16) := rfl
theorem test_word_signal (p : Proc) : denmaRow p 0xE50A0000#32 = some (.stsig p 8 10 0#14) := rfl
theorem test_word_block (p : Proc) : denmaRow p 0xE9A80020#32 = some (.edgeRise p 13 8 0 32#10) ∧
    denmaRow p 0xEC0D0405#32 = some (.ctu p 0 13 0 5#8) ∧ denmaRow p 0xF4000000#32 = some (.retfb p) := ⟨rfl, rfl, rfl⟩
theorem test_word_task (p : Proc) : denmaRow p 0xF8000000#32 = some (.yieldTask p) ∧ denmaRow p 0xF8000001#32 = some (.endtask p) := ⟨rfl, rfl⟩
theorem test_word_malformed (p : Proc) : denmaRow p 0x00000000#32 = none ∧ denmaRow p 0x05086643#32 = none ∧
    denmaRow p 0xF8000002#32 = none := ⟨rfl, rfl, rfl⟩

/-! ### Hypotheses that are met: Denma -/

/-- A processor that runs and whose fetch is admitted issues. -/
theorem issues_of (s : State) (p : Proc) (h : canIssue s (coreNo p) = true) (k : (fetch s (coreNo p)).1 = .ok 0) :
    Issues s p (after s (coreNo p)) := ⟨h, 0, Prod.ext k rfl⟩

/-- IntegerResults, ImmediateResults, DivisionAndSaturation and the other statements whose only hypothesis is `Issues`. -/
theorem test_witness_issues : Issues (canopy 5#64 3#64 0#64) (.canopy 0) (after (canopy 5#64 3#64 0#64) 0x40) ∧
    Issues (engine 5#64 3#64 0#64) (.eng 0) (after (engine 5#64 3#64 0#64) 0) ∧ OutsideTrap (after (canopy 0#64 0#64 0#64) 0x40) 0x40 ∧
    OutsideTrap (after (engine 0#64 0#64 0#64) 0) 0 := by
  refine ⟨issues_of _ _ (by decide) (by decide), issues_of _ _ (by decide) (by decide), ?_, ?_⟩ <;> unfold OutsideTrap <;> decide

/-- ShiftConstants: both clauses meet at the width. -/
theorem test_witness_ShiftConstants : (31#6).toNat < wdBits .w32 ∧ wdBits .w32 ≤ (32#6).toNat ∧ (63#6).toNat < wdBits .w64 := by decide

/-- FpRounding: a number, and sums on both sides of the overflow bound. -/
theorem test_witness_FpRounding : (∃ n m e, fpUnpack .f32 0x7F7FFFFF#64 = .fin n m e) ∧ fpUnpack .f32 0x7F7FFFFF#64 = .fin false (2 ^ 24 - 1) 104 ∧
    fpUnpack .f64 1#64 = .fin false 1 (-1074) ∧ ((2 ^ 25 - 1) * 2 ^ 103 : ℚ) ≤ (2 ^ 24 - 1) * 2 ^ 104 + (2 ^ 24 - 1) * 2 ^ 104 := by
  refine ⟨⟨_, _, _, rfl⟩, rfl, rfl, by norm_num⟩

/-- MinMaxRule, ConversionRule, FloatClampRule: operands of each kind. -/
theorem test_witness_float_operands : (fpUnpack .f32 0x7F800001#64).isNan = true ∧ (fpUnpack .f32 0x7F800001#64).isSnan = true ∧
    (fpUnpack .f32 0#64).isNan = false ∧ fpCmp (fpUnpack .f32 0x80000000#64) (fpUnpack .f32 0#64) = 0 ∧ fpSign .f32 0x80000000#64 = true ∧
    fpSign .f32 0#64 = false ∧ fpCmp (fpUnpack .f32 0#64) (fpUnpack .f32 0x3F800000#64) < 0 ∧
    ¬ fpCmp (fpUnpack .f32 0x3F800000#64) (fpUnpack .f32 0#64) < 0 ∧ fpUnpack .f64 0x7FF0000000000000#64 = .inf false ∧
    fpUnpack .f64 0x41E0000000000000#64 = .fin false (2 ^ 52) (-21) ∧ fpUnpack .f64 0xC1E0000000200000#64 = .fin true (2 ^ 52 + 2 ^ 21) (-21) := by
  decide

/-- LoadAndStoreResults, AtomicResults: each clause, from a base register v1. -/
theorem test_witness_LoadAndStoreResults :
    2 ^ 40 ≤ (0x10000000000#64).toNat ∧ (1#64).toNat % 2 ≠ 0 ∧ (0xFFFFFFFFFF#64).toNat < 2 ^ 40 ∧
    (let u := after (canopy 0x10000000#64 0#64 0#64) 0x40
     (coreRead regBus u 0x40 (prvOf u 0x40) (partOf u 0x40) 0x10000000 8).1 = .ok 0 ∧
     (coreRead regBus u 0x40 (prvOf u 0x40) (partOf u 0x40) 0x20000000 4).1 = .denied 1 ∧
     (coreRead regBus u 0x40 (prvOf u 0x40) (partOf u 0x40) 0x0800000000 4).1 = .memErr 2 ∧
     (coreWrite regBus u 0x40 (prvOf u 0x40) (partOf u 0x40) 0x10000000 8 5).1 = .ok 0 ∧
     (coreWrite regBus u 0x40 (prvOf u 0x40) (partOf u 0x40) 0x20000000 4 5).1 = .denied 1 ∧
     (coreWrite regBus u 0x40 (prvOf u 0x40) (partOf u 0x40) 0x0800000000 4 5).1 = .memErr 2 ∧
     ((coreRead regBus u 0x40 (prvOf u 0x40) (partOf u 0x40) 0x20000000 4).2.srGet 0x40 0x010).toNat / 64 % 2 = 0) ∧
    (let u := { after (engine 0#64 0#64 0#64) 0 with ecc := [(0x0100000000, some .uncorrectable)] }
     (coreRead regBus u 0 (prvOf u 0) (partOf u 0) 0x0100000000 4).1 = .fault) := by
  decide

theorem test_witness_AtomicResults :
    (let u := after (canopy 0x10000000#64 0#64 0#64) 0x40
     (gateFirst .read u 0x40 (prvOf u 0x40) (partOf u 0x40) 0x10000000 4).isNone = true ∧
     (gateFirst .write u 0x40 (prvOf u 0x40) (partOf u 0x40) 0x10000000 4).isNone = true ∧
     (amoRead u 0x40 0x10000000 4).1 = .ok 0 ∧ (amoWrite (amoRead u 0x40 0x10000000 4).2 0x40 0x10000000 4 7).1 = .ok 0) ∧
    (let u := { after (canopy 0x10000000#64 0#64 0#64) 0x40 with ecc := [(0x10000000, some .uncorrectable)] }
     (gateFirst .write u 0x40 (prvOf u 0x40) (partOf u 0x40) 0x10000000 4).isNone = true ∧ (amoRead u 0x40 0x10000000 4).1 = .memErr 1) ∧
    (let u := after (engine 0#64 0#64 0#64) 0
     (gateFirst .read u 0 (prvOf u 0) (partOf u 0) 0x10000000 4).map Prod.fst = some 2) ∧
    (let u := after (openGate (engine 0#64 0#64 0#64) 1 |>.wr (GATE_CTL 1 0 0) GATE_CTL_KERNEL_XWR 1) 0
     (gateFirst .read u 0 (prvOf u 0) (partOf u 0) 0x10000000 4).isNone = true ∧
     (gateFirst .write u 0 (prvOf u 0) (partOf u 0) 0x10000000 4).map Prod.fst = some 3) ∧
    0x0010000000 ≤ 0x00103FFFFF ∧ ¬ (0x0100000000 ≤ 0x0108000000 ∧ 0x0108000000 < 0x0108000000) := by
  decide

/-- MemoryReadsAndWrites. -/
theorem test_witness_MemoryReadsAndWrites :
    (let u := after (canopy 0#64 0#64 0#64) 0x40
     admitted u .read ⟨0x40, 3, 0, 2⟩ 0x10000000 8 = true ∧ admitted u .write ⟨0x40, 3, 0, 2⟩ 0x10000000 8 = true ∧
     u.eccAt 0x10000000 = none ∧ mapOf 0x10000000 = some (.sram, 1, true) ∧ (isCanopy 0x40 && isDram 0x10000000) = false) ∧
    (let u := after (engine 0#64 0#64 0#64) 0
     engPhys u 0 0x0100000000 = some 0x0100000000 ∧ admitted u .write ⟨0, 1, 0, 2⟩ 0x0100000000 8 = true ∧
     mapOf 0x0100000000 = some (.sapwood 0, 2, true)) := by
  decide

/-- BranchResults: JMPR's three ranges. -/
theorem test_witness_BranchResults : 2 ^ 40 ≤ (0x10000000000#64 + (0#16).signExtend 64).toNat ∧
    (0xFFFFFFFFFC#64 + (2#16).signExtend 64).toNat % 4 ≠ 0 ∧ (0xFFFFFFFFFC#64 + (0#16).signExtend 64).toNat < 2 ^ 40 := by decide

/-- SystemRegisterAccess: the level of the task is USER, KERNEL or MACHINE. -/
theorem test_witness_SystemRegisterAccess :
    prvOf (after (engine 0#64 0#64 0#64) 0) 0 = 1 ∧ prvOf (after (canopy 0#64 0#64 0#64) 0x40) 0x40 = 3 ∧
    (let s := withCore (engine 0#64 0#64 0#64) 0 fun c => c.srSet 0 0x010 0#64
     canIssue s 0 = true ∧ (fetch s 0).1 = .ok 0 ∧ prvOf (after s 0) 0 = 0) := by
  decide

/-- CallsReturnsAndDoubleTrap: breaks armed, allowed, refused; inside a trap. -/
theorem test_witness_CallsReturnsAndDoubleTrap :
    (let u := after (also (canopy 0#64 0#64 0#64) [(DBG_BRK_C, ⟨0, 0⟩, 1), (PAR_STATUS, PAR_STATUS_ROLE, 9)]) 0x40
     brkArmed u 0x40 = true ∧ haltAllowed u 0x40 = true) ∧
    (let u := after (also (canopy 0#64 0#64 0#64) [(DBG_BRK_C, ⟨0, 0⟩, 1)]) 0x40
     brkArmed u 0x40 = true ∧ haltAllowed u 0x40 = false) ∧ brkArmed (after (canopy 0#64 0#64 0#64) 0x40) 0x40 = false ∧
    (let s := withCore (engine 0#64 0#64 0#64) 0 fun c => c.srSet 0 0x010 0x41#64
     canIssue s 0 = true ∧ (fetch s 0).1 = .ok 0 ∧ (s.srGet 0 0x010).toNat / 64 % 2 = 1 ∧ (s.core 0).task = some 0 ∧
     ∀ d, d < 16 → (s.task 0 d).st ≠ .ready) := by
  decide

/-- CanopyCoreResults: a pending and enabled interrupt, a waiting core. -/
theorem test_witness_CanopyCoreResults :
    (let s := withCore (canopy 0#64 0#64 0#64) 0x40 fun c => { c with tps := 1, sr := [(0x010, 0x13#64), (0x020, 1#64)] }
     irqLowest s 0 = some 0 ∧ ipend s 0 &&& (s.srGet 0x40 0x020).toNat % 16 ≠ 0 ∧ (s.srGet 0x40 0x010).toNat / 16 % 2 = 1 ∧
     (withCore s 0x40 fun c => { c with run := .wait }).core 0x40 ≠ s.core 0x40) ∧
    (let u := after (canopy 0#64 0#64 0#64) 0x40
     ¬ (ipend u 0 &&& (u.srGet 0x40 0x020).toNat % 16 ≠ 0) ∧ prvOf u 0x40 = 3) := by
  decide

/-- FetchAndSetTraps: a denied fetch, a fetch error, an instruction outside the helper's set. -/
theorem test_witness_FetchAndSetTraps :
    (let s := withCore (canopy 0#64 0#64 0#64) 0x40 fun c => { c with pc := 0x20000000#64 }
     (fetch s 0x40).1 = .denied 1) ∧
    (let s := withCore (canopy 0#64 0#64 0#64) 0x40 fun c => { c with pc := 0x0800000000#64 }
     (fetch s 0x40).1 = .memErr 2) ∧
    inGroup 0x48 (rowSem regBus (.fmadS .helper 4 2 1 3)).1 = false ∧ denmaRow .helper 0x148208C0#32 = some (.fmadS .helper 4 2 1 3) := by
  decide

/-! ### Hypotheses that are met: signals, blocks, tasks -/

/-- Engine 0 with signal 5 assigned to descriptor d. -/
def signalEngine (v1 v2 : DWord) (d : Word) : State := { engine v1 v2 0#64 with desc := [(5, d)] }

/-- Type 3, output, owner 0, partition 0; the same as an input; of owner 1; of partition 1; of type 0. -/
theorem test_witness_SignalAccess :
    131071 < (131072#64 + (0#14).zeroExtend 64).toNat ∧ (131071#64 + (0#14).zeroExtend 64).toNat ≤ 131071 ∧
    descType 0x13#32 = 3 ∧ descDir 0x13#32 = true ∧ descOwner 0x13#32 = 0 ∧ descPart 0x13#32 = 0 ∧ descDir 0x03#32 = false ∧
    descOwner 0x113#32 ≠ 0 ∧ descPart 0x1013#32 ≠ 0 ∧ descType 0x10#32 = 0 ∧
    (let u := after (signalEngine 5#64 7#64 0x13#32) 0
     canIssue (signalEngine 5#64 7#64 0x13#32) 0 = true ∧ u.descOf 5 = 0x13#32 ∧ classOf u 0 = 0 ∧ partOf u 0 = 0 ∧
     admitted u .read ⟨0, 1, 0, 2⟩ 0x0200000028 8 = true ∧ admitted u .write ⟨0, 1, 0, 2⟩ 0x0200100028 8 = true) ∧
    (let u := (after (signalEngine 5#64 7#64 0x13#32) 0).wr (GATE_CTRL 18) GATE_CTRL_ENFORCE 0
     gateDecide u .read ⟨0, 1, 0, 2⟩ 0x0200000028 8 = .deny 18 2 0 ∧ gateDecide u .write ⟨0, 1, 0, 2⟩ 0x0200100028 8 = .deny 18 2 0) := by
  decide

/-- Signal 5 forced by entry 0 to a value. -/
def forced : State :=
  ({ mk [(FRC_CTRL, FRC_CTRL_EN, 1), (FRCA_CTL 0, FRCA_CTL_VALID, 1), (FRCA_CTL 0, FRCA_CTL_SIG, 5)] with desc := [(5, 0x13#32)] }).rset (FRCA_VAL 0) 9#32

theorem test_witness_SignalEntries : forceMatch forced 5 = some 0 ∧ forceMatch forced 6 = none ∧ imageBad forced 0 5 = false ∧
    descType (forced.descOf 5) ≠ 0 ∧ descType (forced.descOf 6) = 0 ∧ (deliver forced 0 5).1 = 0x400000009#64 := by decide

/-- Engine 0 with TCTX and INST in its Sapwood, a frame on its call stack and words of state. -/
def blockEngine (fsp : Nat) (v1 : DWord) : State :=
  let s := withCore (engine v1 0#64 0#64) 0 fun c => (c.srSet 0 0x006 0x0100000000#64).srSet 0 0x005 0x0100001000#64
  (((s.setBytes 0x0100000000 (leBytes 8 fsp)).setBytes 0x0100000008 (leBytes 8 0x200)).setBytes (0x0100000000 + fsp - 16)
    (leBytes 8 0x0180000100)).setBytes 0x0100001000 (leBytes 8 5)

theorem test_witness_BlockCalls :
    (let u := after (blockEngine 0x190 0x0100002000#64) 0
     canIssue (blockEngine 0x190 0x0100002000#64) 0 = true ∧ (engRead u 0 1 (partOf u 0) 0x0100000000 8).1 = .ok 0x190 ∧
     (engRead u 0 1 (partOf u 0) 0x0100000008 8).1 = .ok 0x200 ∧ coreMayWrite u 0 1 (partOf u 0) 0x0100000190 8 = true ∧
     (engWrite u 0 1 (partOf u 0) 0x0100000190 8 5).1 = .ok 0 ∧ (engRead u 0 1 (partOf u 0) 0x0100000180 8).1 = .ok 0x0180000100 ∧
     0x0180000100 % 4 = 0 ∧ 0x180 < 0x190 ∧ 0x190 + 16 ≤ 0x200) ∧
    (let u := after (blockEngine 0x180 0x0100002000#64) 0
     (engRead u 0 1 (partOf u 0) 0x0100000000 8).1 = .ok 0x180) ∧
    (let u := after (blockEngine 0x1F1 0x0100002000#64) 0
     (engRead u 0 1 (partOf u 0) 0x0100000000 8).1 = .ok 0x1F1 ∧ 0x200 < 0x1F1 + 16) ∧ (0x0100002020#64).toNat % 64 ≠ 0 := by decide

theorem test_witness_EdgeAndTimerResults :
    (let u := after (blockEngine 0x190 1#64) 0
     (engRead u 0 (prvOf u 0) (partOf u 0) 0x0100001000 1).1 = .ok 5 ∧ (engWrite u 0 (prvOf u 0) (partOf u 0) 0x0100001000 1 4).1 = .ok 0 ∧
     (engRead u 0 (prvOf u 0) (partOf u 0) 0x0100001000 8).1 = .ok 5 ∧ (engWrite u 0 (prvOf u 0) (partOf u 0) 0x0100001000 8 4).1 = .ok 0) := by
  decide

theorem test_witness_TaskInstructions :
    (let u := after (blockEngine 0x190 0#64) 0
     let v := (charge (countInstr u 0) 0 2).setPc 0 (nextPc u 0)
     let k := addCyc (keepTask v 0 0 .yielded) 0 0 80
     (u.core 0).task = some 0 ∧ (∀ d, d < 16 → (u.task 0 d).st ≠ .ready) ∧ budgetUsed v 0 = false ∧
     (ctxWrites k 0 (partOf k 0) (k.srGet 0 0x006).toNat (ctxWords (k.core 0) 0)).1 = .ok 0) := by decide

/-! ### Hypotheses that are met: the block as a whole, registers and gates -/

theorem test_witness_StepOnEmptyQueue : State.reset.pending = [] ∧ State.reset.boot.due = none ∧ State.reset.rget TIM_FADJ = 0#32 ∧
    State.reset.clk.acc < 256000000000 := by decide

theorem test_witness_MemoryFormInvariant :
    (let s := { State.reset with mem := [(0x10000000, 1#8)], nor := [(0, 0#8)], ecc := [(0x0100000000, some .corrected)] }
     amWf (fun _ => 0#8) s.mem = true ∧ amWf (fun _ => 0xFF#8) s.nor = true ∧ amWf (fun _ => none) s.ecc = true) ∧
    ∃ t, step State.reset = .next t := ⟨by decide, _, rfl⟩

theorem test_witness_CanonicalForm : amWf (fun _ => 0#8) (State.reset.setBytes 0x10000000 [1#8, 0#8, 2#8]).mem = true ∧
    (State.reset.setBytes 0x10000000 [1#8, 0#8, 2#8]).mem = [(0x10000000, 1#8), (0x10000002, 2#8)] := by decide

theorem test_witness_FieldWriteRule : (regDef? TIM_CFG).any (fun r => r.fields.any fun f => f.acc == .rwl) = true ∧
    (regDef? TIM_CFG).any (fun r => r.fields.any fun f => f.acc == .w1s) = true ∧
    (regDef? PAR_EVT).any (fun r => r.fields.any fun f => f.acc == .w1c) = true ∧
    (regDef? TIM_STEP_NS).any (fun r => r.fields.any fun f => f.acc == .rw) = true := by decide

theorem test_witness_RegisterCommands : (0x0300120018#40).toNat = TIM_STEP_NS ∧ (0x0300120020#40).toNat = TIM_CFG ∧
    State.reset.on TIM_CFG TIM_CFG_LOCK = false ∧ (0x800001F4#32).getLsbD 31 = true ∧ 1 ≤ (0x80000001#32).toNat % 512 ∧
    (0x800001F4#32).toNat % 512 ≤ 500 ∧ (mk [(TIM_CFG, TIM_CFG_LOCK, 1)]).on TIM_CFG TIM_CFG_LOCK = true ∧
    (BitVec.ofNat 40 (ETH_CNT 3 7)).toNat = ETH_CNT 3 7 ∧ wbit ((mk [(RDY_VEC, ⟨11, 11⟩, 1)]).rget RDY_VEC).toNat 11 = true ∧
    (BitVec.ofNat 40 (PMC_VAL_LO 7 63)).toNat = PMC_VAL_LO 7 63 ∧ masterPrv (canopy 0#64 0#64 0#64) 0x40 ≠ 0 := by decide

/-- A gate that denies (code 2, not 5), one that admits, and an entry before it is enabled, locked, and active in a running module. -/
theorem test_witness_AccessAndGates :
    (let s := canopy 0#64 0#64 0#64
     gateDecide s .read (masterXfer s 0x40 .read 0x10000000) 0x10000000 64 = .allow 1 .sram ∧ isRegs 0x10000000 = false ∧
     gateDecide s .write (masterXfer s 0 .write 0x10000000) 0x10000000 4 = .deny 1 2 0 ∧ s.on (GATE_ERR_INFO 1) GATE_ERR_INFO_VALID = false ∧
     (masterXfer s 0 .write 0x10000000).prv < 4 ∧ (masterXfer s 0 .write 0x10000000).part < 16) ∧
    State.reset.on (GATE_CTL 44 1 31) GATE_CTL_LOCK = false ∧ State.reset.on (GATE_CTL 44 1 31) GATE_CTL_EN = false ∧
    (BitVec.ofNat 40 (GATE_BASE_LO 44 1 31)).toNat = GATE_BASE_LO 44 1 31 ∧
    (mk [(GATE_CTL 0 0 0, GATE_CTL_LOCK, 1)]).on (GATE_CTL 0 0 0) GATE_CTL_LOCK = true ∧
    (let s := mk [(TSQ_STATUS, TSQ_STATUS_RUNNING, 1)]
     0 = s.rd (GATE_STATUS 0) GATE_STATUS_TBANK ∧ s.on TSQ_STATUS TSQ_STATUS_RUNNING = true ∧ s.role ≠ .maintenance) := by decide

/-! ### Hypotheses that are met: time and the tick program -/

theorem test_witness_TimeAndPtp :
    -(State.reset.rd TIM_CFG TIM_CFG_FADJ_MAX * 256000 : Int) ≤ (25600000#32).toInt ∧
    (25600000#32).toInt ≤ (State.reset.rd TIM_CFG TIM_CFG_FADJ_MAX * 256000 : Int) ∧
    (State.reset.rd TIM_CFG TIM_CFG_FADJ_MAX * 256000 : Int) < (25600001#32).toInt ∧
    (-25600001#32).toInt < -(State.reset.rd TIM_CFG TIM_CFG_FADJ_MAX * 256000 : Int) ∧
    (let s := mk [(TSQ_STATUS, TSQ_STATUS_MODE, 0)]; stepRefused s = false ∧ s.freeMode = false) ∧ stepRefused (State.reset.rset TIM_STEP_SEC 0xFFFFFFFF#32) = true ∧
    stepRefused (mk [(TIM_STATUS, TIM_STATUS_STEP_PEND, 1)]) = true ∧ stepRefused (mk [(TIM_SRC, TIM_SRC_SRC, 3)]) = true ∧
    stepRefused State.reset = false ∧ State.reset.freeMode = true ∧
    State.reset.clk.sec < 2 ^ 48 ∧ State.reset.clk.ns < 1000000000 ∧
    (let s := mk [(PTP_CTRL, PTP_CTRL_ENABLE, 1), (PTP_CTRL, PTP_CTRL_PORT_EN, 8)]
     s.on PTP_CTRL PTP_CTRL_ENABLE = true ∧ wbit (s.rd PTP_CTRL PTP_CTRL_PORT_EN) 3 = true ∧ s.rd PTP_CTRL PTP_CTRL_DOMAIN = 0 ∧
     s.rd PTP_CTRL PTP_CTRL_TRANSPORT = 0) := by decide

/-- A module of a role in the middle of a tick at tick-relative time t, its sequencer about to issue a word. -/
def ticking (r : Role) (t : Nat) : State :=
  let s := mk [(TSQ_STATUS, TSQ_STATUS_RUNNING, 1), (TSQ_STATUS, TSQ_STATUS_MODE, 0), (TSQ_CTRL, TSQ_CTRL_MODE_REQ, 0),
    (TSQ_CTRL, TSQ_CTRL_RUN, 1), (PAR_STATUS, PAR_STATUS_ROLE, roleCode r), (TSQ_LEN 0, TSQ_LEN_LEN, 1000)]
  { s with seq := { s.seq with ended := false }, clk := { s.clk with trel := t } }

theorem test_witness_SequencerControl :
    (let s := ticking .alone 100
     s.on TSQ_STATUS TSQ_STATUS_RUNNING = true ∧ s.seq.ended = false ∧ s.seq.stall = none ∧ (1#20).toNat * 100 ≤ s.clk.trel ∧
     s.clk.trel < (2#20).toNat * 100 ∧ s.seq.tick % (4#10).toNat = (0#10).toNat ∧ s.seq.tick % (4#10).toNat ≠ (3#10).toNat ∧
     s.on TSQ_CTRL TSQ_CTRL_RUN = true ∧ s.freeMode = false ∧ barDone s 1 = true ∧ s.pair.inDone = false ∧ s.pair.ownOut = none ∧
     (s.core 0x48).run ≠ .run ∧ (withCore s 0x48 fun c => { c with run := .run }).core 0x48 ≠ s.core 0x48) ∧
    (let s := (ticking .alone 100).setTask 0 0 { Task.idle with st := .ready }
     barDone s 1 = false ∧ (nextWait (s.rset (TSQ_PROG 0 1) 0x04000002#32) 4096 1) = some 2) ∧
    (let s := also (ticking .alone 0) [(PAR_OUTEND 0, PAR_OUTEND_END, 9)]
     s.clk.trel < s.rd (PAR_OUTEND s.bank) PAR_OUTEND_END * 100) ∧
    (let s := { ticking .alone 100 with seq := { (ticking .alone 100).seq with stall := some (.waitt 1) } }
     s.seq.stall = some (.waitt (1#20).toNat) ∧ s.clk.trel ≤ (1#20).toNat * 100) := by decide

theorem test_witness_SequencerUnits :
    (let s := ticking .alone 100
     (s.ring 23).cede = false ∧ s.on (VGX_RMODE 23) VGX_RMODE_CEDED = false ∧ ringPhase s 23 = 0 ∧ s.role.master = true ∧
     computes s = true ∧ s.seq.stopDue = false ∧ (s.core 0).task = none ∧ engUsable s 0 = false ∧ s.freeMode = false ∧
     s.on (GRV_STATUS 0) GRV_STATUS_ISOLATED = false) ∧
    modLoop (also (ticking .alone 100) [(VGX_LINK 23, VGX_LINK_S_LOOP, 0)]) 23 false = false ∧
    (∀ j, (0x800000#24).getLsbD j = decide (j = 23) ∨ 24 ≤ j) ∧ computes (ticking .syncing 100) = false ∧
    (let s := also (ticking .alone 100) [(TSQ_STATUS, TSQ_STATUS_MODE, 1), (VGX_RMODE 0, VGX_RMODE_CEDED, 1)]
     s.freeMode = true ∧ (s.ring 0).inSeg = false ∧ s.on (VGX_RMODE 0) VGX_RMODE_CEDED = true) := by
  refine ⟨by decide, by decide, fun j => ?_, by decide, by decide⟩
  by_cases h : j < 24
  · left
    revert j
    decide
  · right
    omega

theorem test_witness_SequencerExchange :
    (let s := ticking .standby 100
     s.freeMode = false ∧ s.pair.repair = none ∧ computes s = true ∧ s.pair.parIn = none ∧ s.pair.parOut = none ∧ s.pair.handover = false ∧
     s.pair.joinOk = false ∧ s.chgState ≠ 5 ∧ s.role.master = false ∧ s.on PAR_STATUS PAR_STATUS_HOLD = false ∧ s.seq.stopDue = false ∧
     s.on PAR_STATUS PAR_STATUS_LANE_MUTE = false ∧ s.pair.mismatch = false) ∧ computes (ticking .syncing 100) = false ∧
    (let s := ticking .alone 100
     s.role.master = true ∧ s.nowNs + (s.tickEnd - s.clk.trel) < 2 ^ 48 ∧ s.on TSQ_CTRL TSQ_CTRL_MODE_REQ = false ∧ s.armed = none ∧
     s.clk.stepHeld = none) ∧ (ticking .stopped 0).role = .stopped ∧ (ticking .maintenance 0).role = .maintenance ∧
    (let s := also (ticking .standby 0) [(PAR_STATUS, PAR_STATUS_HOLD, 1)]; s.on PAR_STATUS PAR_STATUS_HOLD = true) := by decide

theorem test_witness_ActivationStarts :
    (let s := (ticking .alone 0).rset (TSQ_CLASS_ENG_LO 0 15) 1#32; classEng s 15 0 = true ∧ classEng s 15 1 = false) := by decide

theorem test_witness_TickEvents :
    (let s := { ticking .alone 1000000 with seq := { (ticking .alone 0).seq with ended := true } }
     s.seq.ended = true ∧ s.role.master = true ∧ s.pair.pend = none ∧ s.pair.swap = none ∧ s.pair.reqFrom = none ∧ s.clk.trel ≤ s.tickEnd) ∧
    (ticking .standby 0).role ∉ [Role.booting, .alone, .maintenance] ∧ (ticking .alone 0).chgState = 0 ∧
    (let s := { engine 0#64 0#64 0#64 with seq := { (engine 0#64 0#64 0#64).seq with deadl := [] } }
     (s.core 0).task = some 0 ∧ budgetUsed s 0 = true ∧ (∀ d, d < 16 → (s.task 0 d).st ≠ .ready) ∧ finalTick s 0 = true ∧
     finalTick (also s [(TSQ_CLASS_CFG 0 0, TSQ_CLASS_CFG_PERIOD, 5)]) 0 = false ∧
     (let q := addCyc (keepTask (withCore s 0 fun c => c.srSet 0 0x006 0x0100000000#64) 0 0 .suspended) 0 0 80
      (ctxWrites q 0 (partOf q 0) (q.srGet 0 0x006).toNat (ctxWords (q.core 0) 0)).1 = .ok 0)) ∧ budgetUsed (engine 0#64 0#64 0#64) 0 = false ∧
    (let s := (also (ticking .alone 0) [(TSQ_STATUS, TSQ_STATUS_MODE, 1), (TSQ_CLASS_WD 0 15, TSQ_CLASS_WD_FREE_WD, 1)]).setAct 15 ⟨true, 0, 0, 0⟩
     let t := { s with seq := { s.seq with tick := 1 } }
     t.freeMode = true ∧ (t.act 15).live = true ∧ t.rd (TSQ_CLASS_WD t.bank 15) TSQ_CLASS_WD_FREE_WD ≠ 0 ∧
     (t.act 15).rel + (t.act 15).paused + t.rd (TSQ_CLASS_WD t.bank 15) TSQ_CLASS_WD_FREE_WD ≤ t.seq.tick) := by decide

/-- A short program in bank 1: INAGREE exchanged and synchronised, REL, HOLD, OUTDIG, OGATE, CLEAR, TIME, END. -/
def shortProgram : State :=
  let ws : List Word := [0x0C000000#32, 0x10000000#32, 0x14000000#32, 0x24000000#32, 0x0C000001#32, 0x10000001#32, 0x28000000#32, 0x2C000000#32,
    0x0C000002#32, 0x30000000#32]
  (mk [(TSQ_LEN 1, TSQ_LEN_LEN, 1000)]).regs |> fun r =>
    (ws.zipIdx).foldl (fun s e => s.rset (TSQ_PROG 1 e.2) e.1) { State.reset with regs := r }

theorem test_witness_LoadCheckSound : loadCheck shortProgram 1 = (0, 0) ∧ 9 ∈ tqReach shortProgram 1 4096 0 [0] ∧
    loadCheck (shortProgram.rset (TSQ_PROG 1 0) 0x0C000003#32) 1 = (1, 0) := by decide

/-! ### Hypotheses that are met: map, forces, Groves, debug -/

/-- Signal 5 assigned, and two staging entries. -/
def staged (sig0 sig1 : Nat) (applyAt : Nat) : State :=
  (also { State.reset with desc := [(5, 0x13#32), (6, 0x13#32)] } [(FRCS_CTL 0, FRCS_CTL_VALID, 1), (FRCS_CTL 0, FRCS_CTL_SIG, sig0),
    (FRCS_CTL 4095, FRCS_CTL_VALID, 1), (FRCS_CTL 4095, FRCS_CTL_SIG, sig1)]).wr64 FRC_APPLY_LO FRC_APPLY_HI applyAt

theorem test_witness_MapLoadAndForceCommands :
    State.reset.freeMode = true ∧
    (let s := { mk [(TSQ_STATUS, TSQ_STATUS_MODE, 0)] with mapArea := [(5, 0x100000013#64), (131071, 0x200000003#64)] }
     s.freeMode = false ∧ s.on IMG_STATUS IMG_STATUS_MAP_BUSY = false ∧ amWf (fun _ => 0#64) s.mapArea = true ∧
     ∀ e ∈ s.mapArea, e.1 ≤ 131071) ∧
    (mk [(FRC_STATUS, FRC_STATUS_PEND, 1)]).on FRC_STATUS FRC_STATUS_PEND = true ∧ State.reset.on FRC_STATUS FRC_STATUS_PEND = false ∧
    ¬ ((copySigs (stagingCopy (staged 5 5 8))).map Prod.snd).Nodup ∧ ((copySigs (stagingCopy (staged 5 6 8))).map Prod.snd) = [5, 6] ∧
    (staged 5 6 8).rd64 FRC_APPLY_LO FRC_APPLY_HI = 8 ∧ (staged 5 6 7).rd64 FRC_APPLY_LO FRC_APPLY_HI < (staged 5 6 7).seq.tick + 8 ∧
    descType ((staged 5 7 8).descOf 7) = 0 ∧ descType ((staged 5 6 8).descOf 6) ≠ 0 ∧
    (let s := { State.reset with armed := some ⟨1, [], false, 0⟩ }; s.seq.tick < 1) ∧ State.reset.armed = none := by decide

theorem test_witness_ForceApply :
    (let a : Armed := ⟨0, stagingCopy (staged 5 6 0), false, 0⟩
     let s := { staged 5 6 0 with armed := some a }
     s.armed = some a ∧ s.seq.tick = a.tick ∧ (∀ e ∈ a.copy, e.1 < 0x10000) ∧ (copySigs a.copy).map Prod.snd = [5, 6] ∧
     ∀ i ∈ (copySigs a.copy).map Prod.snd, descType (s.descOf i) ≠ 0) ∧
    (let c := stagingCopy (staged 5 7 0); 7 ∈ (copySigs c).map Prod.snd ∧ descType ((staged 5 7 0).descOf 7) = 0) ∧
    forced.on (FRCA_CTL 0) FRCA_CTL_VALID = true ∧ forced.rd (FRCA_CTL 0) FRCA_CTL_SIG = 5 ∧ descDir (forced.descOf 5) = true ∧
    forced.on (FRCA_CTL 0) FRCA_CTL_SHV = false ∧
    (let s := also forced [(FRCA_CTL 0, FRCA_CTL_SHV, 1), (FRCA_CTL 0, FRCA_CTL_SHM, 1)]
     s.on (FRCA_CTL 0) FRCA_CTL_SHV = true ∧ s.on (FRCA_CTL 0) FRCA_CTL_SHM = true) := by decide

/-- Grove 7 with its unit in state st, its recovery in phase ph, and its record changed. -/
def grove7 (st ph : Nat) (f : Grove → Grove) : State :=
  let s := mk [(GRV_EN 7, U_STATE, st), (GRV_STATUS 7, GRV_STATUS_PHASE, ph)]
  s.setGrove 7 (f (s.grove 7))

theorem test_witness_GroveAndComparatorEvents :
    (let s := { grove7 2 0 id with ecc := [(0x0107000000, some .corrected)] }
     s.isOn (.grove 7) = true ∧ amWf (fun _ => none) s.ecc = true ∧ (∀ e ∈ s.ecc, e.1 % 8 = 0) ∧ inBanks 7 0x0107000000 = true ∧
     s.on (GRV_STATUS 7) GRV_STATUS_ISOLATED = false) ∧ State.reset.isOn (.grove 7) = false ∧
    ({ grove7 2 0 id with ecc := [(0x01077FFFF8, some .uncorrectable)] }.ecc.filter fun e => inBanks 7 e.1) = [(0x01077FFFF8, some .uncorrectable)] ∧
    (let s := grove7 1 0 fun r => { r with start := 1 }
     s.unitState (.grove 7) = 1 ∧ (s.grove 7).start = 1 ∧ (s.unit (GRV_EN 7)).waiting = false) ∧
    (let s := grove7 2 4 id; s.phase 7 = 4 ∧ (s.grove 7).stuck = false ∧ s.chg.teDown = false) ∧ (grove7 2 5 id).phase 7 = 5 ∧
    (let s := grove7 2 6 fun r => { r with conv := 256 }
     s.phase 7 = 6 ∧ 256 ≤ (s.grove 7).conv ∧ (s.grove 7).attempts.length + 1 ≤ s.rd (GRV_CFG 7) GRV_CFG_RECOV_MAX) ∧
    (let s := also (grove7 2 6 fun r => { r with conv := 256 }) [(GRV_CFG 7, GRV_CFG_RECOV_MAX, 0)]
     s.rd (GRV_CFG 7) GRV_CFG_RECOV_MAX < 1) ∧ (grove7 2 6 fun r => { r with conv := 255 }).phase 7 = 6 ∧
    cmpTestable (mk [(PAR_STATUS, PAR_STATUS_ROLE, 9)]) 64 = true ∧ cmpTestable State.reset 64 = false ∧
    (mk [(LSC_CMP 107, LSC_CMP_BUSY, 1)]).on (LSC_CMP 107) LSC_CMP_BUSY = true ∧
    (mk [(CAN_EN 7, U_STATE, 1)]).unitState (.can 7) = 1 ∧ cmpUnits 107 = [.can 7] ∧ State.reset.role = .booting ∧
    cmpLive State.reset 70 = true ∧ cmpLive State.reset 71 = true ∧ cmpLive State.reset 107 = false ∧
    cmpLive (mk [(PWR_EN 10, U_STATE, 2), (CAN_EN 7, U_STATE, 2)]) 107 = true ∧
    cmpLive (mk [(PWR_EN 0, U_STATE, 2), (GRV_EN 0, U_STATE, 2)]) 0 = true := by decide

/-- A module in MAINTENANCE whose debug target is Canopy core 0, halted at an address. -/
def debugged (l : List (Nat × Fld × Nat)) : State :=
  withCore (mk ([(PAR_STATUS, PAR_STATUS_ROLE, 9), (DBG_TARGET, DBG_TARGET_CORE, 0x40)] ++ l)) 0x40 fun c =>
    { c with run := .halt, pc := 0x10000000#64 }

theorem test_witness_DebugPort :
    (let s := debugged []
     haltAllowed s 0x40 = true ∧ (s.core 0x40).replay.length < 8 ∧ halted s 0x40 = true ∧ s.rd DBG_TARGET DBG_TARGET_CORE = 0x40 ∧
     s.on DBG_REG DBG_REG_WRITE = false ∧ s.rd DBG_REG DBG_REG_REG < 32 ∧ s.on DBG_MEM DBG_MEM_WRITE = false ∧
     coreNo (.canopy 0) = 0x40) ∧ ((withCore (debugged []) 0x40 fun c => { c with haltReq := true }).core 0x40).haltReq = true ∧
    haltAllowed State.reset 0x40 = false ∧ halted State.reset 0x40 = false ∧
    (let s := debugged [(DBG_REG, DBG_REG_REG, 0x20), (DBG_REG, DBG_REG_WRITE, 1)]
     s.rd DBG_REG DBG_REG_REG = 0x20 ∧ s.on DBG_REG DBG_REG_WRITE = true) ∧
    (let s := { debugged [] with mem := [(0x10000003, 0x20#8)] }
     let t := s.setCore 0x40 { s.core 0x40 with replay := [.step] }
     denmaRow (.canopy 0) (wordAtPc s 0x40) = some (.addi (.canopy 0) 0 0 0#16) ∧ (fetch t 0x40).1 = .ok 0x20000000) ∧
    (let s := (debugged [(DBG_MEM, DBG_MEM_SIZE, 2)]).rset DBG_ADDR_LO 0x10000000#32
     s.rd64 DBG_ADDR_LO DBG_ADDR_HI % 2 ^ s.rd DBG_MEM DBG_MEM_SIZE = 0 ∧
     (coreRead regBus s 0x40 (prvOf s 0x40) (partOf s 0x40) 0x10000000 4).1 = .ok 0 ∧
     (coreWrite regBus s 0x40 (prvOf s 0x40) (partOf s 0x40) 0x10000000 4 1).1 = .ok 0) ∧
    (let s := (debugged [(DBG_MEM, DBG_MEM_SIZE, 2)]).rset DBG_ADDR_LO 0x10000001#32
     s.rd64 DBG_ADDR_LO DBG_ADDR_HI % 2 ^ s.rd DBG_MEM DBG_MEM_SIZE ≠ 0) ∧
    (let s := withCore (also (engine 0#64 0#64 0#64) [(ENG_STATUS 0, ENG_STATUS_STATE, 3)]) 0 fun c => { c with haltReq := true }
     halted s 0 = true ∧ (s.core 0).haltReq = true ∧ haltAllowed s 0 = false ∧ (s.core 0).task ≠ none ∧
     s.on (GRV_STATUS 0) GRV_STATUS_ISOLATED = false) := by decide

/-! ### Hypotheses that are met: the pair -/

/-- A module of a role, in locked mode, with fields stored; and the same with its pair manager changed. -/
def inRole (r : Role) (l : List (Nat × Fld × Nat)) : State :=
  mk ([(TSQ_STATUS, TSQ_STATUS_MODE, 0), (PAR_STATUS, PAR_STATUS_ROLE, roleCode r)] ++ l)
def paired (r : Role) (l : List (Nat × Fld × Nat)) (f : PairSt → PairSt) : State := { inRole r l with pair := f (inRole r l).pair }

/-- A heartbeat of the partner in role r at an epoch. -/
def beat (r : Role) (epoch : BitVec 16) : HbBody :=
  { role := BitVec.ofNat 4 (roleCode r), pos := true, k := 7#16, epoch := epoch, tickLo := 0#32, gate := true, lpath := true, hpath := true,
    aligned := false }

theorem test_witness_PairPathsAndMessages :
    (beat .active 1#16).pos ≠ State.reset.on PAR_STATUS PAR_STATUS_POS ∧ roleOf (beat .active 1#16).role.toNat = .active ∧
    (let s := inRole .active [(PAR_EPOCH, PAR_EPOCH_EPOCH, 0xFFFF)]
     s.role = .active ∧ (beat .active 0#16).epoch.toNat = (s.rd PAR_EPOCH PAR_EPOCH_EPOCH + 1) % 65536) ∧
    (let s := inRole .active [(PAR_STATUS, PAR_STATUS_PROLE, 3)]
     s.prole = .standby ∧ roleOf (beat .faulted 1#16).role.toNat ∉ [Role.standby, .active, .stopped]) ∧
    roleOf (beat .stopped 1#16).role.toNat = .stopped ∧
    (let s := inRole .standby [(HB_STATUS, HB_STATUS_PATH_L, 1), (HB_STATUS, HB_STATUS_MISS_L, 4), (HB_STATUS, HB_STATUS_PATH_H, 1)]
     s.on HB_STATUS HB_STATUS_PATH_L = true ∧ 4 ≤ s.rd HB_STATUS HB_STATUS_MISS_L ∧ s.on HB_STATUS HB_STATUS_PATH_H = true) ∧
    (let s := inRole .standby [(HB_STATUS, HB_STATUS_PATH_H, 1), (HB_STATUS, HB_STATUS_MISS_H, 4)]
     s.on HB_STATUS HB_STATUS_PATH_H = true ∧ 4 ≤ s.rd HB_STATUS HB_STATUS_MISS_H ∧ s.on HB_STATUS HB_STATUS_PATH_L = false) ∧
    (let s := paired .standby [(HB_CFG, HB_CFG_RETURN_N, 3)] fun p => { p with lane := ⟨false, 3⟩ }
     s.on HB_STATUS HB_STATUS_PATH_L = false ∧ s.rd HB_CFG HB_CFG_RETURN_N ≤ s.pair.lane.good) ∧
    (let s := { paired .active [] fun p => { p with lostAt := some 0 } with clk := { State.reset.clk with mono := 200000 } }
     s.pair.lostAt = some 0 ∧ s.role = .active ∧ s.pair.witness = none ∧ 0 + 200000 ≤ s.clk.mono) ∧
    (let s := paired .syncing [] fun p => { p with witness := some ⟨0, 0, true⟩ }
     s.pair.witness = some ⟨0, 0, true⟩ ∧ 0 ≤ s.clk.mono ∧ s.role = .syncing) ∧
    (let s := mk [(PAR_EN_PL1, U_STATE, 1)]
     s.unitState (.lane 1) = 1 ∧ (s.unit (enAddr (.lane 1))).waiting = false) ∧ State.reset.unitState (.lane 1) ≠ 1 ∧
    { hdr true 0#32 with crcOk := false }.crcOk = false ∧ (hdr false 0#32).pos = State.reset.on PAR_STATUS PAR_STATUS_POS := by decide

/-- A lane that is ON. -/
def laneOn : List (Nat × Fld × Nat) := [(PAR_EN_PL0, U_STATE, 2)]

/-- A TIME message for tick 1 whose input instant lies at a clock of sec seconds. -/
def time0 (sec : BitVec 48) (ns : Word) : TimeMsg := { iiSec := sec, iiNs := ns, tx := 0#32, tickLen := 1000#32, tick := 1#64 }

theorem test_witness_PairJoining :
    (hdr true 0#32).pos ≠ State.reset.on PAR_STATUS PAR_STATUS_POS ∧ (hdr false 0#32).pos = State.reset.on PAR_STATUS PAR_STATUS_POS ∧
    State.reset.role = .booting ∧ (inRole .alone []).role ≠ .booting ∧
    (let s := inRole .standby [(PAR_COPP, PAR_COPP_PHASE, 1)]
     s.rd PAR_COPP PAR_COPP_PHASE = 1 ∧ (roleOf (hello0 5).role.toNat).master = true ∧ helloCompat s (hello0 5) = true) ∧
    helloCompat (inRole .standby [(PAR_COPP, PAR_COPP_PHASE, 1)]) { hello0 5 with fmt := 2#16 } = false ∧
    (let s := inRole .alone laneOn
     s.role.master = true ∧ laneOf s = some 0 ∧ s.chgState ≠ 5 ∧ s.freeMode = false ∧ (roleOf ({ hello0 5 with role := 0#4 }).role.toNat).master = false) ∧
    laneOf (mk laneOn) = some 0 ∧ laneOf State.reset = none ∧
    (let s := { paired .booting [] fun p => { p with go := true } with clk := { State.reset.clk with mono := 10000000000 } }
     s.pair.go = true ∧ s.rd PAR_COPP PAR_COPP_PHASE = 0 ∧ s.pair.quietFrom + s.rd PAR_CFG PAR_CFG_JOIN_WAIT * 1000000 ≤ s.clk.mono) ∧
    (let s := inRole .syncing []
     s.pair.timeSet = false ∧ 0 ≤ masterNow s (time0 5#48 0#32) ∧ masterNow s (time0 5#48 0#32) < 2 ^ 48 * 1000000000) ∧
    (let s := inRole .standby []
     s.role.master = false ∧ 1000 < (masterNow s (time0 5#48 0#32) - s.nowNs).natAbs ∧
     (masterNow s (time0 0#48 0#32) - s.nowNs).natAbs ≤ 1000) ∧
    (let s := { paired .syncing [(PAR_COPP, PAR_COPP_PHASE, 4)] id with clk := { State.reset.clk with mono := 500000000 } }
     s.role = .syncing ∧ s.rd PAR_COPP PAR_COPP_PHASE = 4 ∧ s.pair.coppStart + 500000000 ≤ s.clk.mono ∧ s.rd PAR_COPP PAR_COPP_FAILS + 1 < 3) ∧
    (let s := paired .syncing [(PAR_COPP, PAR_COPP_PHASE, 5), (PAR_COPP, PAR_COPP_FAILS, 2)] fun p => { p with coppTicks := 100000 }
     s.rd PAR_COPP PAR_COPP_PHASE = 5 ∧ s.rd PAR_CFG2 PAR_CFG2_CONV_MAX ≤ s.pair.coppTicks ∧ 3 ≤ s.rd PAR_COPP PAR_COPP_FAILS + 1) ∧
    (inRole .standby []).rd PAR_COPP PAR_COPP_PHASE = 0 := by decide

theorem test_witness_PairCommands :
    (let s := paired .active [(PAR_STATUS, PAR_STATUS_PROLE, 3), (HB_STATUS, HB_STATUS_PATH_L, 1)] fun p => { p with matchRun := 16 }
     s.role = .active ∧ s.prole = .standby ∧ s.on HB_STATUS HB_STATUS_PATH_L = true ∧ coppBusy s = false ∧ s.armed = none ∧ s.chgState ≠ 5 ∧
     16 ≤ s.pair.matchRun ∧ s.pair.swap = none) ∧
    (let s := paired .standby [(PAR_STATUS, PAR_STATUS_PROLE, 4), (HB_STATUS, HB_STATUS_PATH_L, 1), (CHG_STATE, CHG_STATE_STATE, 5)] id
     s.role = .standby ∧ s.prole = .active ∧ s.chgState = 5 ∧ s.seq.tick ≤ s.rd64 CHG_APPLY_LO CHG_APPLY_HI ∧
     s.rd64 CHG_APPLY_LO CHG_APPLY_HI ≤ s.seq.tick + 16 ∧ s.pair.matchRun < 16) ∧
    (let s := paired .active [] fun p => { p with swap := some ⟨8, true, true⟩ }
     s.pair.swap = some ⟨8, true, true⟩ ∧ 8 ≤ s.seq.tick + 8 ∧ s.on PAR_CMDSTAT PAR_CMDSTAT_SWAP_COMMIT = false) ∧
    (inRole .active [(PAR_CMDSTAT, PAR_CMDSTAT_SWAP_COMMIT, 1)]).on PAR_CMDSTAT PAR_CMDSTAT_SWAP_COMMIT = true ∧
    (inRole .isolated []).role ∈ [Role.alone, .active, .solo, .standby, .isolated] ∧ State.reset.role ∉ [Role.alone, .active, .solo, .standby, .isolated] ∧
    (let s := paired .stopped [(PAR_STATUS, PAR_STATUS_PROLE, 7), (HB_STATUS, HB_STATUS_PATH_H, 1)] fun p => { p with before := 1 }
     s.role = .stopped ∧ roleOf s.pair.before ≠ .syncing ∧ anyPath s = true ∧ s.prole = .stopped ∧
     ∀ g, g < 8 → s.on (GRV_STATUS g) GRV_STATUS_RESYNC = false) ∧ roleOf 2 = .syncing ∧ anyPath (inRole .stopped []) = false ∧
    (mk [(GRV_STATUS 7, GRV_STATUS_RESYNC, 1)]).on (GRV_STATUS 7) GRV_STATUS_RESYNC = true ∧
    (inRole .solo []).role ∈ [Role.alone, .solo] := by decide

/-- The partner's OUTDIG, and a state that has sent its own. -/
def dug (f : OutDig → OutDig) : State :=
  paired .active [(PAR_OUTEND 0, PAR_OUTEND_END, 1), (PAR_INEND 0, PAR_INEND_END, 1)] fun p =>
    { p with ownIn := some (inDig0 []), ownOut := some (f (outDig0 24)) }

theorem test_witness_PairExchange :
    (let s := { dug id with clk := { State.reset.clk with trel := 100 } }
     s.rd (PAR_INEND s.bank) PAR_INEND_END * 100 ≤ s.clk.trel ∧ s.pair.ownIn ≠ none ∧ s.pair.inDone = false ∧ s.pair.parIn = none) ∧
    (hdr true 0#32).tickLo = BitVec.ofNat 32 (dug id).seq.tick ∧ computes (dug id) = true ∧ (dug id).freeMode = false ∧
    (inDig0 []).tick.toNat = (dug id).seq.tick ∧ (inDig0 []).sections = (inDig0 []).sections ∧ (inDig0 []).lmask = 0#32 ∧
    (let s := paired .active [] fun p => { p with ownIn := some (inDig0 []), parIn := some (inDig0 []) }
     s.pair.inData = false ∧ s.pair.ownIn ≠ none ∧ s.pair.parIn ≠ none) ∧ ([⟨131071#17, 5#64⟩].map SigRec.sig).Nodup ∧
    (dug id).pair.parOut = none ∧ (dug id).clk.trel < (dug id).rd (PAR_OUTEND (dug id).bank) PAR_OUTEND_END * 100 ∧
    (dug fun d => { d with cfgGen := 1#16 }).pair.ownOut.any (fun a => a.cfgGen != (outDig0 24).cfgGen) = true ∧
    (paired .active [] id).pair.ownOut = none ∧ (inRole .alone []).role = .alone ∧
    (let s := paired .standby [] fun p => { p with repair := some ⟨0, 1, 0, false⟩ }
     s.role = .standby ∧ s.pair.repair = some ⟨0, 1, 0, false⟩ ∧ (∀ g, g < 8 → s.phase g ≠ 5 ∧ s.phase g ≠ 6) ∧
     (0x0107000000#40).toNat % 64 = 0 ∧ 0x0100000000 + 7 * 0x01000000 ≤ (0x0107000000#40).toNat ∧ (List.replicate 64 1#8).length = 64) ∧
    (let s := { inRole .standby [] with armed := some ⟨1, [], false, 0⟩ }
     s.armed = some ⟨1, [], false, 0⟩ ∧ s.seq.tick < 1) ∧ (inRole .syncing [(PAR_COPP, PAR_COPP_PHASE, 5)]).rd PAR_COPP PAR_COPP_PHASE ≠ 0 ∧
    (1#64).toNat ≤ (hdr true 1#32).tickLo.toNat ∧ (1#64) ≠ 0#64 := by decide

/-! ### Hypotheses that are met: packages and online change -/

/-- A well-formed package: header, a directory of its six obligatory sections, zeros. `d` is the first byte of its predecessor's digest. -/
def pkgHead (d : Bool) : List Byte :=
  let dir (ty len : Nat) : List Byte := leBytes 2 ty ++ leBytes 6 0 ++ leBytes 4 224 ++ leBytes 4 len
  leBytes 4 0x50434846 ++ leBytes 4 0x64800001 ++ leBytes 2 1 ++ leBytes 2 6 ++ leBytes 4 0 ++ (if d then 1#8 else 0#8) :: leBytes 47 0 ++ leBytes 8 1048904 ++
    leBytes 56 0 ++ dir 2 0 ++ dir 3 0 ++ dir 4 0 ++ dir 5 268 ++ dir 6 1048576 ++ dir 8 46080
def pkg (d : Bool) (tail : List Byte) : List Byte := pkgHead d ++ tail

theorem le_append (h r : List Byte) (o n : Nat) (k : o + n ≤ h.length) : le (h ++ r) o n = le h o n := by
  unfold le
  rw [List.drop_append_of_le_length (by omega), List.take_append_of_le_length (by simp; omega)]

theorem zeros_append (h r : List Byte) (o n : Nat) (k : o + n ≤ h.length) : zeros (h ++ r) o n = zeros h o n := by
  unfold zeros
  rw [List.drop_append_of_le_length (by omega), List.take_append_of_le_length (by simp; omega)]

theorem pkgHead_length (d : Bool) : (pkgHead d).length = 224 := by cases d <;> decide

theorem pkg_le (d : Bool) (z : List Byte) (o n : Nat) (k : o + n ≤ 224) : le (pkg d z) o n = le (pkgHead d) o n :=
  le_append _ _ o n (by rw [pkgHead_length]; exact k)

theorem pkg_zeros (d : Bool) (z : List Byte) (o n : Nat) (k : o + n ≤ 224) : zeros (pkg d z) o n = zeros (pkgHead d) o n :=
  zeros_append _ _ o n (by rw [pkgHead_length]; exact k)

theorem pkg_length (d : Bool) {z : List Byte} (hz : z.length = 1048680) : (pkg d z).length = 1048904 := by
  rw [pkg, List.length_append, pkgHead_length, hz]

theorem pkg_count (d : Bool) (z : List Byte) : le (pkg d z) 10 2 = 6 := by
  rw [pkg_le d z 10 2 (by omega)]
  cases d <;> decide

theorem pkg_dir (d : Bool) (z : List Byte) : pkgDir (pkg d z) = [(2, 224, 0), (3, 224, 0), (4, 224, 0), (5, 224, 268), (6, 224, 1048576), (8, 224, 46080)] := by
  unfold pkgDir
  rw [pkg_count]
  have f : ∀ i ∈ List.range 6, (le (pkg d z) (128 + 16 * i) 2, le (pkg d z) (128 + 16 * i + 8) 4, le (pkg d z) (128 + 16 * i + 12) 4) =
      (le (pkgHead d) (128 + 16 * i) 2, le (pkgHead d) (128 + 16 * i + 8) 4, le (pkgHead d) (128 + 16 * i + 12) 4) := by
    intro i h
    have := List.mem_range.1 h
    rw [pkg_le d z _ _ (by omega), pkg_le d z _ _ (by omega), pkg_le d z _ _ (by omega)]
  rw [List.map_congr_left f]
  cases d <;> decide

theorem pkg_dir_good (d : Bool) {z : List Byte} (hz : z.length = 1048680) : ∀ i ∈ List.range 6, dirBad (pkg d z) i = false := by
  intro i h
  have hi := List.mem_range.1 h
  have f : ∀ ty ∈ [2, 3, 4, 5, 6, 8], ∀ l : List Byte, secForm ty (if ty = 3 then [] else l) = true := by
    intro ty hty l
    fin_cases hty <;> rfl
  unfold dirBad
  rw [pkg_dir, pkg_length d hz, pkg_count, pkg_zeros d z _ _ (by omega)]
  interval_cases i
  all_goals
    simp only [List.getElem?_cons_zero, List.getElem?_cons_succ]
    first
      | rw [show (List.take 0 (List.drop 224 (pkg d z))) = [] from List.take_zero]; cases d <;> decide
      | have := f 5 (by decide); have := f 6 (by decide); have := f 8 (by decide); simp_all only [Nat.reduceEqDiff, ite_false]; cases d <;> decide

theorem test_package_format (d : Bool) {z : List Byte} (hz : z.length = 1048680) : formatBad (pkg d z) = none := by
  have h0 : le (pkg d z) 0 4 = 0x50434846 := by rw [pkg_le d z 0 4 (by omega)]; cases d <;> decide
  have h1 : le (pkg d z) 4 4 = 0x64800001 := by rw [pkg_le d z 4 4 (by omega)]; cases d <;> decide
  have h2 : le (pkg d z) 8 2 = 1 := by rw [pkg_le d z 8 2 (by omega)]; cases d <;> decide
  have h3 : le (pkg d z) 64 8 = 1048904 := by rw [pkg_le d z 64 8 (by omega)]; cases d <;> decide
  have h4 : le (pkg d z) 12 4 = 0 := by rw [pkg_le d z 12 4 (by omega)]; cases d <;> decide
  have h7 : zeros (pkg d z) 72 56 = true := by rw [pkg_zeros d z 72 56 (by omega)]; cases d <;> decide
  have h5 : (List.range 6).find? (dirBad (pkg d z)) = none := List.find?_eq_none.2 (fun i h => by simp [pkg_dir_good d hz i h])
  have h6 : ([2, 3, 4, 5, 6, 8].all fun ty => (pkgSec (pkg d z) ty).isSome) = true := by
    simp only [pkgSec, Option.isSome_map, pkg_dir]
    decide
  unfold formatBad
  rw [pkg_length d hz, pkg_count, h0, h1, h2, h3, h4, h5, h6, h7]
  simp

/-- A module with a package key at OTP entry 0 whose KEYID is 0. -/
def keyed (r : Role) (chg : Nat) : State :=
  inRole r [(HWD_KEYST 0, HWD_KEYST_VALID, 1), (HWD_KEYST 0, HWD_KEYST_USAGE, 15), (CHG_STATE, CHG_STATE_STATE, chg)]

/-- StagingResults: the first three checks, whatever SHA-384 is, and the fourth where the signature verifies. -/
theorem test_witness_StagingResults_checks (z : List Byte) (hz : z.length = 1048680) (t0 : le (pkg false z) ((pkg false z).length - 104) 4 = 0)
    (t1 : zeros (pkg false z) ((pkg false z).length - 104 + 4) 4 = true) :
    formatBad [] = some 0 ∧ formatBad (pkg false z) = none ∧ pkgSigned (inRole .alone []) (pkg false z) = false ∧
    (pkgDigest (inRole .alone []) = 0#384 ∧ BitVec.ofNat 384 (le (pkg false z) 16 48) = 0#384 ∧
      BitVec.ofNat 384 (le (pkg true z) 16 48) ≠ 0#384) ∧
    ((∀ k d g, Config.ecdsaOk k d g = true) → pkgSigned (keyed .alone 0) (pkg false z) = true) := by
  have e : ∀ d, le (pkg d z) 16 48 = le (pkgHead d) 16 48 := fun d => pkg_le d z 16 48 (by omega)
  refine ⟨by decide, test_package_format _ hz, ?_, ⟨rfl, ?_, ?_⟩, fun h => ?_⟩
  · have f : findKey (inRole .alone []) 0 1 = none := by decide
    simp [pkgSigned, trailerOk, t0, f]
  · rw [e]; rfl
  · rw [e]
    intro h
    exact absurd (congrArg (fun x : BitVec 384 => x.getLsbD 0) h) (by decide)
  · have f : (findKey (keyed .alone 0) 0 1).isSome = true := by decide
    obtain ⟨i, hi⟩ := Option.isSome_iff_exists.1 f
    simp only [pkgSigned, trailerOk, t0, t1, hi, Bool.true_and]
    exact h _ _ _

/-- The zeros that end such a package. -/
theorem test_witness_package_tail :
    ∃ z : List Byte, z.length = 1048680 ∧ le (pkg false z) ((pkg false z).length - 104) 4 = 0 ∧
      zeros (pkg false z) ((pkg false z).length - 104 + 4) 4 = true := by
  refine ⟨List.replicate 1048680 0#8, List.length_replicate, ?_, ?_⟩
  all_goals rw [pkg_length _ List.length_replicate]
  rotate_left
  · unfold zeros pkg
    rw [List.drop_append, pkgHead_length, List.drop_eq_nil_of_le (by rw [pkgHead_length]; omega), List.nil_append, List.drop_replicate,
      List.take_replicate]
    exact List.all_eq_true.2 fun b hb => by simp [List.eq_of_mem_replicate hb]
  unfold le pkg
  rw [List.drop_append, pkgHead_length, List.drop_eq_nil_of_le (by rw [pkgHead_length]; omega), List.nil_append, List.drop_replicate,
    List.take_replicate]
  have m : min 4 (1048680 - (1048904 - 104 - 224)) = 4 := by omega
  rw [m]
  rfl

theorem test_witness_StagingResults_states :
    State.reset.freeMode = true ∧ (inRole .alone []).freeMode = false ∧ (inRole .alone []).chgState = 0 ∧
    (inRole .alone []).role ∈ [Role.alone, .active, .solo] ∧ (inRole .standby []).role ∉ [Role.alone, .active, .solo] ∧
    (let s := inRole .alone [(CHG_STATE, CHG_STATE_STATE, 3)]; s.chgState = 3 ∧ s.chg.teDown = false) ∧
    (let s := { inRole .alone [] with chg := { ChgSt.idle with saving := true } }
     s.chg.saving = true ∧ s.boot.write = none ∧ (if s.chgState = 0 then s.chg.canopy else s.chg.staged).length ≤ 67104768) ∧
    (inRole .alone []).on (GRV_STATUS 7) GRV_STATUS_ISOLATED = false ∧
    (let s := paired .standby [] fun p => { p with taking := true, hello := some (hello0 5) }
     s.pair.taking = true ∧ s.pair.hello = some (hello0 5) ∧ s.role = .standby) ∧
    (0x40000000#32).getLsbD 30 = true ∧ (0#32).getLsbD 30 = false := by decide

theorem test_witness_StagingResults_fail :
    (let t := (inRole .alone [(CHG_STATE, CHG_STATE_STATE, 2)]).rset (TSQ_PROG 1 0) 0x0C000003#32
     t.chgState = 2 ∧ (stagingCheck t t.chg.staged (placeSet t t.chg.staged).2).1 = some (4, 0)) := by decide

/-- A module that checks an empty set on a short program. -/
def checking : State := also shortProgram [(IMG_MAPCHK, IMG_MAPCHK_PASS, 1), (CHG_STATE, CHG_STATE_STATE, 2)]

/-- No register of a gate is stored there. -/
theorem checking_gates (a : Nat) (h1 : 0x300501000 ≤ a) (h2 : a < 0x30052E000) : checking.rget a = 0#32 := by
  have k : ∀ e ∈ checking.regs, e.1 < 0x300501000 ∨ 0x30052E000 ≤ e.1 := by decide +kernel
  unfold State.rget
  rw [amGet_absent _ _ (fun e h => by have := k e h; omega), gates_reset_zero a h1 h2]

theorem gateBad_zero (s : State) (g : ∀ a, 0x300501000 ≤ a → a < 0x30052E000 → s.rget a = 0#32) : gateBad s [] = none := by
  unfold gateBad
  refine List.find?_eq_none.2 fun i h => ?_
  have hi := List.mem_range.1 h
  have e : s.on (GATE_CTL (i / 32) (s.rd (GATE_STATUS (i / 32)) GATE_STATUS_TBANK) (i % 32)) GATE_CTL_LOCK = false := by
    have t : s.rd (GATE_STATUS (i / 32)) GATE_STATUS_TBANK = 0 := by
      unfold State.rd
      rw [g _ (by simp only [GATE_STATUS]; omega) (by simp only [GATE_STATUS]; omega)]
      decide
    rw [t]
    unfold State.on State.rd
    rw [g _ (by simp only [GATE_CTL]; omega) (by simp only [GATE_CTL]; omega)]
    decide
  have n8 : pkgSecD [] 8 = [] := by decide
  have z (x : Nat) : x < 8 → gateReserved x 0 = false := by
    intro h
    interval_cases x <;> decide
  simpa [e, n8, le, leVal] using z

theorem empty_pkgSig (i : Nat) : pkgSig [] i = (0#32, 0) := by
  have n : pkgSecD [] 6 = [] := by decide
  simp [pkgSig, n, le, leVal]

theorem empty_sigMoved : sigMoved [] [] = none := by
  unfold sigMoved
  exact List.find?_eq_none.2 fun i _ => by simp [empty_pkgSig, survives, sigAssigned, descType]

/-- A fold whose every step leaves the value. -/
theorem foldl_same {α β : Type} (g : α → β → α) (t : α) : ∀ l : List β, (∀ k ∈ l, g t k = t) → l.foldl g t = t
  | [], _ => rfl
  | k :: l, h => by rw [List.foldl_cons, h k (by simp), foldl_same g t l (fun x hx => h x (by simp [hx]))]

theorem clear_ring (r : RingSt) : RingSt.idleSched (if r.active then { r with sched0 := none } else { r with sched1 := none }) = none := by
  cases h : r.active <;> simp [RingSt.idleSched]

/-- A ring without a schedule in its idle store. -/
theorem clear_idleSched (j : Nat) : ∀ (l : List Nat) (s : State), j ∈ l ∨ (s.ring j).idleSched = none →
    (((l.foldl (fun t k => t.setRing k fun r => if r.active then { r with sched0 := none } else { r with sched1 := none }) s).ring j).idleSched = none)
  | [], s, h => by simpa using h
  | k :: l, s, h => by
    rw [List.foldl_cons]
    apply clear_idleSched j l
    rcases Classical.em (j = k) with e | e
    · right
      subst e
      simp only [State.ring, State.setRing, amGet_amSet_same]
      exact clear_ring _
    · rcases h with h | h
      · left; simpa [e] using h
      · right
        simp only [State.ring, State.setRing] at h ⊢
        rw [amGet_amSet_ne _ _ e]
        exact h

theorem schedStage_empty (s : State) : (schedStage s []).2 = none := by
  unfold schedStage
  simp only [List.isEmpty_nil, ite_true]
  generalize hs : (List.range 24).foldl (fun t k => t.setRing k fun r => if r.active then { r with sched0 := none } else { r with sched1 := none }) s = t
  have q : ∀ k ∈ List.range 24, (t.ring k).idleSched = none := fun k hk => by rw [← hs]; exact clear_idleSched k _ _ (.inl hk)
  rw [foldl_same _ t _ (fun k hk => by simp [q k hk])]
  rw [foldl_same _ (t, none) _ (fun k hk => by simp [q k hk])]

/-- The last act of placing a set is to stage its schedules. -/
theorem placeSet_sched (s : State) (pk : List Byte) : ∃ t, placeSet s pk = schedStage t (pkgSecD pk 9) := by
  unfold placeSet
  exact ⟨_, rfl⟩

theorem placeSet_empty (s : State) : (placeSet s []).2 = none := by
  obtain ⟨t, h⟩ := placeSet_sched s []
  have e : pkgSecD [] 9 = [] := by decide
  rw [h, e]
  exact schedStage_empty t

/-- An empty set passes its checks in such a module. -/
theorem empty_passes (s : State) (h0 : s.chg = ChgSt.idle) (h1 : loadCheck s (1 - s.bank) = (0, 0))
    (h2 : ((List.range 16).find? fun c => (budgetBad s [] c).1) = none) (h3 : ((List.range 16).find? fun c => (budgetBad s [] c).2) = none)
    (h4 : grovesNamed s (1 - s.bank) = []) (h5 : s.on IMG_MAPCHK IMG_MAPCHK_PASS = true) (h7 : quotaBad s [] = none) (h8 : orphans s [] = [])
    (h9 : s.ecc = []) (g : gateBad s [] = none) : (stagingCheck s s.chg.staged (placeSet s s.chg.staged).2).1 = none := by
  have e : s.chg.staged = [] ∧ s.chg.canopy = [] := by rw [h0]; exact ⟨rfl, rfl⟩
  have h6 := placeSet_empty s
  have h10 : (List.finRange 8).find? (fun _ => false) = none := by decide
  have h11 : pkgLayout [] = [] := by decide
  have h12 : stagedCheck s [] = (0, 0) := by
    unfold stagedCheck
    rw [if_neg (by decide), h1]
  have h13 : recordBad s [] = none := by
    have n3 : initBad (pkgSecD [] 3) = none := by decide
    have nt : pkgTmap [] = [] := by decide
    simp [recordBad, n3, nt]
  have m : sigMoved s.chg.canopy [] = none := by rw [e.2]; exact empty_sigMoved
  rw [e.1, h6]
  unfold stagingCheck
  simp only [h12, h13, h2, h3, h4, h5, h7, h8, h9, h11, g, m, List.any_nil, h10, List.length_nil, List.range_zero, List.find?_nil, List.head?_nil,
    ne_eq, not_true_eq_false, if_false, reduceCtorEq, Option.orElse_none, ite_self]

theorem test_witness_StagingResults_pass :
    checking.chgState = 2 ∧ (stagingCheck checking checking.chg.staged (placeSet checking checking.chg.staged).2).1 = none :=
  ⟨by decide +kernel, empty_passes checking rfl (by decide +kernel) (by decide +kernel) (by decide +kernel) (by decide +kernel)
    (by decide +kernel) (by decide +kernel) (by decide +kernel) rfl (gateBad_zero _ checking_gates)⟩

/-- A package with one TMAP record of 8 bytes. -/
theorem test_witness_StagingResults_tmap :
    (let pk := leBytes 10 0 ++ leBytes 2 1 ++ leBytes 116 0 ++ leBytes 2 4 ++ leBytes 6 0 ++ leBytes 4 144 ++ leBytes 4 16 ++
       (leBytes 4 0 ++ leBytes 4 0x07000000 ++ leBytes 2 8 ++ leBytes 1 0 ++ leBytes 1 0 ++ leBytes 4 0)
     (pkgTmap pk).length = 1 ∧ ((pkgTmap pk).all fun r => r.kind == 0 && r.count == 8) = true) := by decide

theorem test_witness_digests (x : BitVec 384) : x ≠ x + 1#384 := by
  intro h
  exact absurd (congrArg (fun y => y - x) h) (by simp)

theorem test_witness_AnnouncementResults :
    (inRole .standby []).role.master = false ∧ (inRole .alone []).role.master = true ∧ (inRole .alone []).chgState ≠ 4 ∧
    (let s := inRole .active [(PAR_STATUS, PAR_STATUS_PROLE, 3), (CHG_STATE, CHG_STATE_STATE, 4)]
     s.chgState = 4 ∧ inPair s = true ∧ s.chg.result = none) ∧
    (let s := (inRole .alone [(CHG_STATE, CHG_STATE_STATE, 4), (CHG_PROG, CHG_PROG_SAVED, 1)]).wr64 CHG_APPLY_LO CHG_APPLY_HI 16
     s.chgState = 4 ∧ inPair s = false ∧ s.on CHG_PROG CHG_PROG_SAVED = true ∧ s.seq.tick + 16 ≤ s.rd64 CHG_APPLY_LO CHG_APPLY_HI ∧
     s.pair.swap = none ∧ coppBusy s = false ∧ orphanBlocks s = false) ∧
    (let s := (inRole .alone [(CHG_STATE, CHG_STATE_STATE, 4), (CHG_PROG, CHG_PROG_SAVED, 1)]).wr64 CHG_APPLY_LO CHG_APPLY_HI 15
     s.rd64 CHG_APPLY_LO CHG_APPLY_HI < s.seq.tick + 16) ∧
    coppBusy (inRole .alone [(PAR_COPP, PAR_COPP_GROVE, 1)]) = true ∧
    orphanBlocks (also (inRole .alone []) [(FRCA_CTL 0, FRCA_CTL_VALID, 1), (FRCA_CTL 0, FRCA_CTL_SIG, 5)]) = true ∧
    (let s := (inRole .active [(CHG_STATE, CHG_STATE_STATE, 5)]).wr64 CHG_APPLY_LO CHG_APPLY_HI 8
     s.chgState = 5 ∧ s.chg.ack = false ∧ s.rd64 CHG_APPLY_LO CHG_APPLY_HI ≤ s.seq.tick + 8 ∧ s.seq.tick + 8 ≤ s.rd64 CHG_APPLY_LO CHG_APPLY_HI ∧
     (8#64).toNat = s.rd64 CHG_APPLY_LO CHG_APPLY_HI) ∧
    (let s := inRole .alone [(CHG_STATE, CHG_STATE_STATE, 5), (CHG_CFG, CHG_CFG_RETRY, 1)]
     let t := { s with seq := { s.seq with tick := 2 } }
     t.chgState = 5 ∧ t.rd64 CHG_APPLY_LO CHG_APPLY_HI + t.rd CHG_CFG CHG_CFG_RETRY < t.seq.tick ∧ t.chg.lastNo = 0) ∧
    (let s := { inRole .alone [(CHG_STATE, CHG_STATE_STATE, 5)] with chg := { ChgSt.idle with vote := true } }
     applyTick s = true ∧ applyNow s = true) ∧ applyNow (inRole .alone [(CHG_STATE, CHG_STATE_STATE, 5)]) = false ∧
    applyTick (inRole .alone [(CHG_STATE, CHG_STATE_STATE, 5)]) = true ∧ applyTick (inRole .alone []) = false := by decide

/-! ### Hypotheses that are met: rings -/

/-- A frame of the module at position B. -/
def fr (t : Byte) (l : List Byte) (f : Frame → Frame) : Frame :=
  withCrc (withRbc (f { typ := t, pos := true, src := false, r1 := 0, prod := 0, dst := 0, ring := 0, r2 := false, slot := 0, epoch := 0, seq := 0,
                        len := BitVec.ofNat 16 l.length, loop := false, hops := 1, rbc := 0, payload := l, crc := 0, fin := .t }))

/-- A schedule: station 5 with IN slot 3 and OUT slot 4, one signal each. -/
def sch : Sched :=
  ⟨1, 0, 0, 150, 1000000, 1000000, 1000000, 64, 1, [⟨5, ⟨0, 0, 0, 0⟩, 1, 0⟩], [⟨3, false, 5, 5, [7]⟩, ⟨4, true, 5, 5, [8]⟩]⟩

/-- A module alone with both ports of ring 0 in use. -/
def ringed (l : List (Nat × Fld × Nat)) (f : RingSt → RingSt) : State :=
  (inRole .alone ([(VGX_EN_S 0, U_STATE, 2), (VGX_EN_P 0, U_STATE, 2), (VGX_LINK 0, VGX_LINK_S_LOOP, 0), (VGX_LINK 0, VGX_LINK_P_LOOP, 0)] ++ l)).setRing 0
    fun r => f { r with sched0 := some sch }

/-- Station 5 at the first place of ring 0, with an SSR that holds both slots and clean ports. -/
def stn5 : Station :=
  let slot (n o : Nat) := leBytes 2 n ++ leBytes 1 o ++ leBytes 1 0 ++ leBytes 2 5 ++ leBytes 2 0 ++ leBytes 4 1000 ++ leBytes 4 1000
  let x := writeSsr { Station.powerUp with number := 5, schedId := 1, rxA := ⟨false, true, true, false, false, false⟩,
                                           rxB := ⟨false, true, true, false, false, false⟩ } 0
    ([1#8, 0#8, 2#8, 1#8, 1#8, 4#8, 3#8, 0#8] ++ leBytes 2 150 ++ leBytes 16 0 ++ leBytes 2 64 ++ leBytes 4 0 ++ slot 4 1 ++ slot 3 0)
  { x with epochValid := true }
def stationed (f : Station → Station) : State := (ringed [] id).setStn 0 0 fun _ => f stn5

def sync0 (master : Bool) : List Byte := syncBytes ⟨1, 0, 999999000, 0, 1000000, false, 16, 1, master⟩

theorem test_witness_RingFrames_ports :
    receives State.reset 0 .module false = false ∧ receives (stationed id) 0 (.station 0) false = true ∧
    receives (stationed fun x => { x with rxA := { x.rxA with off := true } }) 0 (.station 0) false = false ∧
    (let s := ringed [] id
     receives s 0 .module false = true ∧ modPortState s 0 false = 2 ∧ modLoop s 0 false = false ∧ modLoop s 0 true = false) ∧
    rbErr { fr T_DYN (leBytes 8 0) id with rbc := 0 } = true ∧ rbErr (fr 99#8 [] id) = false ∧ typeErr (fr 99#8 [] id) = true ∧
    (let f := fr T_DYN (leBytes 8 0) id
     headerBad f = false ∧ crcGood f = true ∧ ({ f with fin := .cut } : Frame).fin ≠ .t ∧ headerBad { f with crc := f.crc + 1 } = false ∧
     f.crc + 1 ≠ frameCrc { f with crc := f.crc + 1 } ∧ f.hops ≠ 127#7) := by decide

theorem test_witness_RingFrames_in :
    (let s := openGate (ringed [] fun r => { r with inSeg := true }) 18
     let x : SlotDef := ⟨3, false, 5, 5, [7]⟩
     let start := (inCentre s 0 false sch x + 79) / 80
     let f := fr T_IN (leBytes 5 1) fun f => { f with src := true, pos := false, prod := 5, slot := 3 }
     headerBad f = false ∧ crcGood f = true ∧ ((s.ring 0).sched.bind fun c => (slotOf c f.slot.toNat false).map fun x => (c, x)) = some (sch, x) ∧
     ((s.ring 0).sched.bind fun c => (slotOf c 9 false).map fun x => (c, x)) = none ∧
     f.ring.toNat = 0 ∧ f.prod.toNat = x.owner ∧ f.len.toNat = x.len ∧ f.seq = seqNow s ∧ inWindow (inCentre s 0 false sch x) sch.w start = true ∧
     inWindow (inCentre s 0 false sch x) sch.w (start + 200) = false ∧ s.seq.agree = false ∧ start * 80 + wireU x.len ≤ inEnd s 0 ∧
     (s.ring 0).acc = [] ∧ inputCopy s = some 0 ∧ x.sigs.Nodup ∧ (∀ i ∈ x.sigs, i < 131072) ∧
     gateDecide s .write (mattrXfer s 0x50 3) (0x0200000000 + 8 * 7) 8 = .allow 18 .image) ∧
    (let s := ringed [] fun r => { r with acc := [(3, 0#32)] }
     (3, 0#32) ∈ (s.ring 0).acc) := by decide

theorem test_witness_RingFrames_contest :
    (let s := ringed [(VGX_RMODE 0, VGX_RMODE_START, 1)] id
     let d (e : Nat) := (s.rd PAR_EPOCH PAR_EPOCH_EPOCH + 65536 - e) % 65536
     let f := fr T_TOKEN (tokenBytes 0 0 0 0) id
     let g := fr T_TOKEN (tokenBytes 0 1 0 0) id
     headerBad f = false ∧ crcGood f = true ∧ headerBad g = false ∧ crcGood g = true ∧ f.pos ≠ s.posB ∧ tokenKind f.payload = 0 ∧
     tokenKind g.payload = 1 ∧ ringPhase s 0 = 1 ∧ d 0 = 0 ∧ s.posB = false ∧ ¬ d 1 < 0x8000 ∧ d 1 ≠ 0x8000 ∧ d 0x8000 = 0x8000 ∧ d 0x8001 < 0x8000) ∧
    (let f := fr T_SYNC (sync0 true) id
     headerBad f = false ∧ crcGood f = true ∧ f.pos ≠ (ringed [] id).posB ∧ (syncOf f.payload).master = true) ∧
    (let f := fr T_SYNC (sync0 true) fun f => { f with pos := false }
     headerBad f = false ∧ crcGood f = true ∧ f.pos = (ringed [] id).posB) ∧
    (let s := ringed [(VGX_RMODE 0, VGX_RMODE_START, 3)] id
     let f := fr T_THRU emptyThru fun f => { f with pos := false }
     headerBad f = false ∧ crcGood f = true ∧ f.pos = s.posB ∧ ringPhase s 0 = 3) ∧
    (let s := ringed [] fun r => { r with box := { DynBox.empty with seen := [(5, 1, 0, 0)] } }
     let f := fr T_DYN (dynBytes ⟨5, 1, 1, 0, false, [7#8]⟩) fun f => { f with dst := 0x42 }
     let m := dynOf f.payload
     headerBad f = false ∧ crcGood f = true ∧ looped s 0 .module false = false ∧ dstNames s 0 .module f = true ∧
     (m.src.toNat, m.tid.toNat, m.frag.toNat, 0) ∈ (s.ring 0).box.seen ∧ s.seq.tick < 256 ∧ (ringed [] id |>.ring 0).box.seen = []) := by decide

theorem test_witness_RingFrames_station :
    (let s := stationed id
     let st := s.stn 0 0
     let f := fr T_OUT (leBytes 5 1) fun f => { f with dst := 5, slot := 4, seq := 1 }
     let e : StnEntry := ⟨4, true, 5, 1000, 1000⟩
     headerBad f = false ∧ crcGood f = true ∧ looped s 0 (.station 0) false = false ∧ f.dst.toNat = st.number ∧
     st.outs.find? (fun e => e.num == f.slot.toNat) = some e ∧ inWindow (e.tb * 80) (st.cfg 8 2 150) 1000 = true ∧
     inWindow (e.tb * 80) (st.cfg 8 2 150) 1151 = false ∧ st.epochValid = true ∧ (f.epoch - BitVec.ofNat 16 st.epoch).toInt = 0 ∧
     ((1#16) - BitVec.ofNat 16 st.epoch).toInt = 1 ∧ ((2#16) - BitVec.ofNat 16 st.epoch).toInt = 2 ∧ (st.slot 4).have_ = false) ∧
    (let st := stn5.setSlot 4 { StnSlot.idle with have_ := true, lastSeq := 1 }
     (st.slot 4).have_ = true ∧ ((1#32) - (st.slot 4).lastSeq).toInt ≤ 0) ∧
    (let st := (stationed id).stn 0 0
     let y := syncOf (fr T_SYNC (sync0 true) id).payload
     let tx := y.iiSec * 1000000000 + y.iiNs
     let sent : Int := (tx : Int) - (BitVec.ofNat 32 tx - BitVec.ofNat 32 y.tx).toInt
     st.tick = none ∧ sent + ((y.corr + linkDly st.portA) / 16 : Nat) < tx ∧ ¬ sent + ((16000 + linkDly st.portA) / 16 : Nat) < tx ∧ y.master = true ∧
     st.took = none ∧ st.slave = none ∧ (syncOf (sync0 false)).master = false) ∧
    (let d : Dgram := ⟨1, 5, 0, 0, [1#8, 2#8]⟩
     let f := fr T_THRU (dgramBytes d) id
     headerBad f = false ∧ crcGood f = true ∧ f.src = false ∧ f.hops ≠ 127#7 ∧ f.payload = dgramBytes d ∧ d.addr.toNat = ((stationed id).stn 0 0).number ∧
     ((stationed id).stn 0 0).thruB ≠ some f.seq ∧ (stationed id |>.stn 0 0).listen = false ∧
     ((stationed fun x => { x with thruB := some 0 }).stn 0 0).thruB = some f.seq) := by decide

theorem test_witness_RingServices :
    (let st := (stationed id).stn 0 0
     let d (l : List Byte) : Dgram := ⟨1, 5, 0, 0, l⟩
     (d []).addr.toNat = st.number ∧ st.number ≠ 0xFE ∧ st.listen = false ∧ (9#8).toNat ≠ st.number ∧
     ((⟨1, 2, 0, 0, [63#8]⟩ : Dgram).addr.toNat = (1#7).toNat + 1 ∧ ([63#8].getD 0 0#8).toNat = 63) ∧
     (stnRead 0 0 st 0x28 4).length = 4 ∧ stnRead 0 0 st 0x38 4 = [] ∧ leVal ((leBytes 4 0x28 ++ leBytes 4 0).take 4) = 0x28 ∧
     stnWritable st 0x1800 4 = true ∧ stnWritable st 0x1000 4 = false) ∧
    (let s := stationed fun x => { x with box := { DynBox.empty with inbox := [⟨0x40, 1, 1, 0, false, [0#8]⟩] } }
     (s.stn 0 0).box.inbox = [⟨0x40, 1, 1, 0, false, [0#8]⟩]) ∧
    (let s := ringed [] fun r => { r with box := { DynBox.empty with inbox := [⟨5, 5, 1, 0, false, []⟩, ⟨5, 6, 1, 0, false, []⟩], asked := [1] } }
     (s.ring 0).box.inbox = [⟨5, 5, 1, 0, false, []⟩, ⟨5, 6, 1, 0, false, []⟩] ∧ (1#16).toNat ∈ (s.ring 0).box.asked) ∧
    (let f := fr T_PROBE (probeBytes 0 1 0 0) id
     receives (ringed [] id) 0 .module true = true ∧ headerBad f = false ∧ crcGood f = true ∧ f.payload.getD 0 0#8 = 0#8 ∧
     (probeBytes 1 0 0 0).getD 0 0#8 = 1#8) ∧
    (let m : Dyn := ⟨0x40, 1, 1, 0, false, [0#8]⟩
     let s := ringed [] fun r => { r with box := { DynBox.empty with outbox := [(5#8, m)] } }
     (s.ring 0).sched = some sch ∧ (s.ring 0).box.outbox = [(5#8, m)] ∧ s.on (VGX_RMODE 0) VGX_RMODE_CEDED = false ∧ modLoop s 0 false = false ∧
     8 + m.data.length ≤ sch.dynMax) ∧
    (ringed [(VGX_RMODE 0, VGX_RMODE_CEDED, 1)] id).on (VGX_RMODE 0) VGX_RMODE_CEDED = true ∧ (State.reset.ring 0).sched = none ∧
    (State.reset.stn 0 0).sends = false := by decide

theorem test_witness_RingControl_links :
    LinkFail.sig ≠ .code ∧ LinkRx.ready ≠ .fault ∧
    (let s := ringed [(VGX_LINK 0, VGX_LINK_S_LOOP, 1), (VGX_LINK 0, (modRx false).1, 1), (VGX_LINK 0, (modRx false).2.1, 1)]
       fun r => { r with portS := { PortSt.idle with clean := 255 } }
     modLoop s 0 false = true ∧ modPortState s 0 false = 2 ∧ s.on (VGX_LINK 0) (modRx false).1 = true ∧ s.on (VGX_LINK 0) (modRx false).2.1 = true ∧
     s.on (VGX_LINK 0) (modRx false).2.2.1 = false ∧ s.on (VGX_CFG 0) VGX_CFG_FLOOP_S = false ∧
     s.rd (VGX_CFG 0) VGX_CFG_CLOSE_HOLD ≤ (portOf s 0 .module false).clean) ∧
    modLoop (ringed [] id) 0 false = false ∧ (ringed [] id).on (VGX_LINK 0) (modRx true).2.1 = false ∧
    (let st := ((stationed fun x => { x with rxA := { x.rxA with loop := true }, portA := { x.portA with clean := 16 } }).stn 0 0)
     st.rxA.loop = true ∧ st.rxA.sig = true ∧ st.rxA.sync = true ∧ st.rxA.f = false ∧ st.rxA.off = false ∧ st.hold ≤ st.portA.clean) := by decide

theorem test_witness_RingControl_sends :
    (let s := { ringed [(VGX_RMODE 0, VGX_RMODE_MODE, 0), (VGX_RMODE 0, VGX_RMODE_START, 2)] id with seq := { State.reset.seq with gate := .safe } }
     (s.ring 0).sched = some sch ∧ slotOf sch 4 true = some ⟨4, true, 5, 5, [8]⟩ ∧ slotOf sch 3 true = none ∧ modLoop s 0 false = false ∧
     s.seq.gate = .safe ∧ s.on (VGX_RMODE 0) VGX_RMODE_CEDED = false ∧ ringPhase s 0 = 2) ∧
    ((State.reset.stn 0 0).sends = false ∧ (State.reset.stn 0 0).static = false) ∧
    (let s := stationed fun x => { x with static := true }
     let st := s.stn 0 0
     st.ins.find? (fun e => e.num == (3#10).toNat) = some ⟨3, false, 5, 1000, 1000⟩ ∧ st.sends = true ∧ st.static = true ∧
     looped s 0 (.station 0) true = false ∧ inWindow (1000 * 80) (st.cfg 8 2 150) 1000 = true ∧ inWindow (1000 * 80) (st.cfg 8 2 150) 0 = false) ∧
    (State.reset.ring 0).inSeg = false ∧
    (let s := ringed [] fun r => { r with inSeg := true }
     (s.ring 0).inSeg = true ∧ s.freeMode = false ∧ (s.ring 0).sched = some sch ∧ inSlots sch = [⟨3, false, 5, 5, [7]⟩] ∧ (s.ring 0).acc = []) ∧
    (let s := ringed [(VGX_SCHED 0, VGX_SCHED_SCHED_ID, 1)] fun r => { r with lost := [(5, 300)] }
     (5 : Fin 64).val ≠ 0 ∧ ringRuns s 0 = true ∧ s.rd (VGX_STNCFG 0) VGX_STNCFG_LOST_N ≤ amGet (fun _ => 0) (s.ring 0).lost 5 ∧
     wbit (s.rd64 (VGX_LOST_LO 0) (VGX_LOST_HI 0)) 5 = false ∧ ∃ d ∈ sch.stations, d.num = (5 : Fin 64).val) ∧ ringRuns State.reset 0 = false := by decide

theorem test_witness_RingControl_modes :
    ringThru (ringed [(VGX_RMODE 0, VGX_RMODE_MODE, 0)] id) 0 = false ∧ ringThru (ringed [(VGX_RMODE 0, VGX_RMODE_MODE, 1)] id) 0 = true ∧
    State.reset.seq.gate ≠ .safe := by decide

theorem test_witness_RingControl_stations :
    (let y : SyncTake := ⟨1, 0, 1, false, 16, 0, 1000000⟩
     let st := (stationed fun x => { x with took := some y }).stn 0 0
     st.took = some y ∧ ssrBank st ≠ none) ∧
    ssrBank Station.powerUp = none ∧ Station.powerUp.took = none ∧ Station.powerUp.slave = none ∧
    (let st := (stationed fun x => x.setSlot 4 { StnSlot.idle with fresh := true }).stn 0 0
     st.took = none ∧ st.slave = none ∧ st.outs = [⟨4, true, 5, 1000, 1000⟩] ∧ (st.slot 4).fresh = true ∧ st.listen = false) ∧
    (stn5.slot 4).fresh = false ∧
    (let st := (stationed fun x => x.setSlot 4 { StnSlot.idle with miss := 1 }).stn 0 0
     (∃ e ∈ st.outs, e.num = (4#10).toNat) ∧ st.cfg 3 1 1 ≤ (st.slot 4).miss ∧ (st.slot 4).comms = false ∧ st.cfg 4 1 0 = 1) ∧
    Station.powerUp.cfg 4 1 0 = 0 ∧ ¬ stn5.cfg 3 1 1 ≤ (stn5.slot 4).miss ∧
    (let st := (stationed fun x => { x with miss := 4 }).stn 0 0
     st.cfg 5 1 4 ≤ st.miss ∧ stn5.miss < stn5.cfg 5 1 4) ∧
    (let st := (stationed fun x => { x with listen := true, good := 3 }).stn 0 0
     st.listen = true ∧ st.cfg 6 1 3 ≤ st.good) ∧ stn5.listen = false := by decide

theorem test_witness_RingControl_phases :
    (let at_ (ph : Nat) (f : RingSt → RingSt) := ringed [(VGX_RMODE 0, VGX_RMODE_START, ph)] f
     ringPhase (at_ 0 id) 0 = 0 ∧ ringPhase (at_ 1 id) 0 = 1 ∧
     (let s := at_ 1 fun r => { r with claims := 300 }
      s.rd (VGX_RCTL 0) VGX_RCTL_TOKEN_WAIT ≤ (s.ring 0).claims) ∧ (at_ 1 id |>.ring 0).claims < (at_ 1 id).rd (VGX_RCTL 0) VGX_RCTL_TOKEN_WAIT ∧
     (let s := at_ 5 fun r => { r with phTicks := 16 }
      ringPhase s 0 = 5 ∧ 1 ≤ (s.ring 0).phTicks) ∧ (∀ ph ∈ [2, 3, 4, 6, 7, 8], ringPhase (at_ ph id) 0 = ph) ∧
     (at_ 6 id).rd (VGX_RMODE 0) VGX_RMODE_STN_CNT = 0) := by decide

/-! ### Hypotheses that are met: network, CAN, local channels -/

/-- ETH0 on with its link up; ring 0 of it on, with one descriptor waiting at 0x1000_0000. -/
def wired (l : List (Nat × Fld × Nat)) (f : NetSt → NetSt) : State :=
  let s := mk ([(ETH_EN 0, U_STATE, 2), (ETH_STATUS 0, ETH_STATUS_LINK, 1), (ETH_RING_CFG 0 0, ETH_RING_CFG_SIZE, 4), (ETH_RING_EN 0 0, U_STATE, 2),
    (ETH_RING_TAIL 0 0, ETH_RING_TAIL_TAIL, 1)] ++ l)
  ((openGate (s.rset (ETH_RING_BASE_LO 0 0) 0x10000000#32) 1).setNet 0 f).setBytes 0x10000000 (descBytes 1)
where
  /-- A descriptor: 64 bytes at 0x1000_0100, FLAGS as given. -/
  descBytes (flags : Nat) : List Byte := leBytes 6 0x10000100 ++ leBytes 2 64 ++ leBytes 4 0 ++ leBytes 4 flags ++ leBytes 16 0

def txf (launch : Option Word) : TxFrame := ⟨0, 0, [], [], launch, true, false, 0#32⟩

/-- A received frame: destination, EtherType, zeros, FCS. -/
def rxf (dst ty : List Byte) (n : Nat) : List Byte :=
  let f := dst ++ leBytes 6 0 ++ ty ++ leBytes n 1
  f ++ leBytes 4 (crc32 f).toNat

theorem test_witness_NetworkResults_ports :
    (let s := mk [(ETH_EN 0, U_STATE, 1)]
     s.unitState (.eth 0) = 1 ∧ (s.unit (enAddr (.eth 0))).waiting = false ∧ s.on (ETH_STATUS 0) ETH_STATUS_LINK = false) ∧
    State.reset.unitState (.eth 0) = 0 ∧ (wired [] id).on (ETH_STATUS 0) ETH_STATUS_LINK = true ∧ (wired [] id).isOn (.eth 0) = true ∧
    ringN (wired [] id) 0 0 = 16 ∧ (15#32).toNat % 4096 < 16 ∧ 16 ≤ (16#32).toNat % 4096 ∧
    (let s := mk [(ETH_RING_CFG 0 0, ETH_RING_CFG_SIZE, 4), (ETH_RING_EN 0 0, U_STATE, 1)] |>.rset (ETH_RING_BASE_LO 0 0) 0x10000000#32
     s.unitState (.ring 0 0) = 1 ∧ s.rd (ETH_RING_CFG 0 0) ETH_RING_CFG_SIZE = 4 ∧ mapOf (ringBase s 0 0) ≠ none ∧
     (s.unit (enAddr (.ring 0 0))).waiting = false) ∧
    (mk [(ETH_RING_EN 0 0, U_STATE, 1), (ETH_RING_CFG 0 0, ETH_RING_CFG_SIZE, 3)]).rd (ETH_RING_CFG 0 0) ETH_RING_CFG_SIZE < 4 ∧
    wantsFetch (wired [] id) 0 0 = true ∧ (∀ x ∈ [1, 2, 3, 4, 5, 6, 7], wantsFetch (wired [] id) 0 x = false) ∧ wantsFetch State.reset 0 0 = false ∧
    (let s := wired [] fun p => { p with buf := [txf (some 0#32)] }
     (s.port 0).buf = [txf (some 0#32)] ∧ ((0#32) - s.short).toInt ≤ 0 ∧ 0 < ((1000#32) - s.short).toInt ∧ (txf none).ring ≠ 1 ∧
     s.on (ETH_STATUS 0) ETH_STATUS_PAUSED = false ∧ (s.port 0).medium = none ∧ txPick s 0 = some (txf (some 0#32))) ∧
    txPick (wired [] id) 0 = none ∧ ((wired [] fun p => { p with medium := some (txf none) }).port 0).medium = some (txf none) ∧
    (let s := { wired [(ETH_STATUS 0, ETH_STATUS_PAUSED, 1)] id with clk := { State.reset.clk with mono := 1 } }
     s.on (ETH_STATUS 0) ETH_STATUS_PAUSED = true ∧ (s.port 0).pauseEnd ≤ s.clk.mono ∧ (s.port 0).buf = []) ∧
    (let s := wired [] fun p => { p with pauseEnd := 1 }
     s.clk.mono < (s.port 0).pauseEnd) := by decide

theorem test_witness_NetworkResults_fetch :
    (let s := wired [] id
     let r := dmaRead s (netXfer s 0 2) 0x10000000 32
     let q := dmaRead r.2.2 (netXfer r.2.2 0 2) (leVal (r.1.take 5)) (leVal ((r.1.drop 6).take 2))
     r.1 = wired.descBytes 1 ∧ r.2.1 = none ∧ (r.1.getD 12 0#8).getLsbD 0 = true ∧ (r.1.getD 12 0#8).getLsbD 1 = false ∧
     (r.1.getD 12 0#8).getLsbD 3 = false ∧ q.2.1 = none) ∧
    (let s := (wired [] id).setBytes 0x10000000 (wired.descBytes 0)
     let r := dmaRead s (netXfer s 0 2) 0x10000000 32
     wantsFetch s 0 0 = true ∧ r.2.1 = none ∧ (r.1.getD 12 0#8).getLsbD 0 = false) := by decide

theorem test_witness_NetworkResults_rx :
    (let ok (l : List Byte) : Bool := leVal (l.drop (l.length - 4)) == (crc32 (l.take (l.length - 4))).toNat
     let all := [0xFF#8, 0xFF#8, 0xFF#8, 0xFF#8, 0xFF#8, 0xFF#8]
     let l := rxf all [8#8, 0#8] 46
     let s := wired [(ETH_CFG 0, ETH_CFG_PAUSE_RX, 1)] id
     ¬ l.length < 64 ∧ l.length ≤ s.rd (ETH_CFG 0) ETH_CFG_MAXLEN ∧ ok l = true ∧ ok (leBytes 64 1) = false ∧ ([] : List Byte).length < 64 ∧
     etherType (l.take 60) ≠ 0x8808 ∧ addrPass s 0 (l.take 60) = true ∧ ringOn s 0 (8 + (classify s 0 (l.take 60)).2) = false ∧
     (let x := rxf (leBytes 6 1) [8#8, 0#8] 46
      ok x = true ∧ addrPass (also s [(ETH_CFG 0, ETH_CFG_PROMISC, 0)]) 0 (x.take 60) = false) ∧
     (let x := rxf all [0x88#8, 8#8, 0#8, 1#8] 44
      ok x = true ∧ etherType (x.take 60) = 0x8808 ∧ be (x.take 60) 14 2 = 1 ∧ s.on (ETH_CFG 0) ETH_CFG_PAUSE_RX = true)) := by decide

/-- CAN0 on and error active, buffer 5 asked to send. -/
def canned (l : List (Nat × Fld × Nat)) (f : CanSt → CanSt) : State :=
  (mk ([(CAN_EN 0, U_STATE, 2), (CAN_STATUS 0, CAN_STATUS_ESTATE, 0), (CAN_MB_CTRL 0 5, CAN_MB_CTRL_EN, 1), (CAN_MB_CTRL 0 5, CAN_MB_CTRL_DIR, 1),
    (CAN_MB_CTRL 0 5, CAN_MB_CTRL_TXREQ, 1)] ++ l)).setCan 0 f

theorem test_witness_CanResults_requests :
    (canned [] id).on (CAN_MB_CTRL 0 5) CAN_MB_CTRL_TXREQ = true ∧ State.reset.on (CAN_MB_CTRL 0 5) CAN_MB_CTRL_TXREQ = false ∧
    State.reset.on (CAN_MB_CTRL 0 5) CAN_MB_CTRL_LAUNCH = false ∧
    (let s := (mk [(CAN_MB_CTRL 0 5, CAN_MB_CTRL_LAUNCH, 1), (CAN_MB_CTRL 0 5, CAN_MB_CTRL_LATE_DROP, 1)]).rset (CAN_MB_LAUNCH 0 5) 0xC0000000#32
     s.on (CAN_MB_CTRL 0 5) CAN_MB_CTRL_LAUNCH = true ∧ s.on (CAN_MB_CTRL 0 5) CAN_MB_CTRL_LATE_DROP = true ∧
     launchLate s (s.rget (CAN_MB_LAUNCH 0 5)) (s.rd (CAN_CFG 0) CAN_CFG_LATE_TOL) = true) ∧
    ((canned [] fun c => { c with onBus := some 5 }).canSt 0).onBus = some 5 ∧ ((canned [] id).canSt 0).onBus = none ∧
    ((canned [] fun c => { c with onBus := some 5, abort := true, acks := 15 }).canSt 0).abort = true ∧
    (canned [] id).isOn (.can 0) = true ∧ (canned [] id).rd (CAN_STATUS 0) CAN_STATUS_ESTATE = 0 ∧ (canned [] id).on (CAN_CFG 0) CAN_CFG_LISTEN = false ∧
    (canned [] id).on (CAN_CFG 0) CAN_CFG_LOOPBACK = false ∧ State.reset.isOn (.can 0) = false ∧
    (canned [] id).rd (CAN_STATUS 0) CAN_STATUS_TEC + 8 ≤ 255 ∧ 255 < (canned [(CAN_STATUS 0, CAN_STATUS_TEC, 248)] id).rd (CAN_STATUS 0) CAN_STATUS_TEC + 8 ∧
    CanErr.bit ≠ .arb ∧ CanErr.bit ≠ .ack ∧ (canned [] id).on (CAN_LOG_CFG 0) CAN_LOG_CFG_LOG_EN = false ∧
    (canned [] id).rd (CAN_STATUS 0) CAN_STATUS_REC ≤ 127 ∧ 127 < (canned [(CAN_STATUS 0, CAN_STATUS_REC, 128)] id).rd (CAN_STATUS 0) CAN_STATUS_REC ∧
    (let s := mk [(CAN_EN 0, U_STATE, 1)]
     s.unitState (.can 0) = 1 ∧ (s.unit (enAddr (.can 0))).waiting = false ∧ s.on (CAN_STATUS 0) CAN_STATUS_BOREC = false) ∧
    State.reset.unitState (.can 0) = 0 ∧ (1#32).getLsbD 0 = true ∧ (1#32).getLsbD 1 = false := by decide

theorem test_witness_CanResults_buffers :
    canWinner (canned [] id) 0 = some 5 ∧
    canMatch (canned [(CAN_MB_CTRL 0 2, CAN_MB_CTRL_EN, 1)] id) 0 (canFrame0 []) = some 2 := by decide +kernel

theorem test_witness_CanResults_none : canWinner State.reset 0 = none ∧ canMatch State.reset 0 (canFrame0 []) = none := by decide +kernel

/-- Channel 0 of group 0 in a state and mode, with its record and the registers given. -/
def local0 (st mode : Nat) (l : List (Nat × Fld × Nat)) (f : LioCh → LioCh) (mono : Nat) : State :=
  let s := mk ([(LIO_EN 0, U_STATE, st), (LIO_CFG 0, LIO_CFG_MODE, mode)] ++ l)
  let s := s.setLioCh 0 f
  { s with clk := { s.clk with mono := mono } }

theorem test_witness_LocalChannelResults_inputs :
    (let s := local0 2 0 [] id 0
     lioOn s 0 = true ∧ lioMode s 0 ≠ 3 ∧ (s.lioCh 0).deb = none ∧ s.on (LIO_DIAG 0) LIO_DIAG_LEVEL = false) ∧
    (let s := local0 2 0 [(LIO_DIAG 0, LIO_DIAG_LEVEL, 1), (LIO_CFG 0, LIO_CFG_SOE_EN, 1), (LIO_CFG 0, LIO_CFG_SOE_EDGE, 1)]
       (fun r => { r with deb := some (0, 7#32) }) 100000000
     (s.lioCh 0).deb = some (0, 7#32) ∧ 0 + s.rd (LIO_CFG 0) LIO_CFG_DEB * 1000 ≤ s.clk.mono ∧ (s.lioCh 0).gate = none ∧
     s.on (LIO_DIAG 0) LIO_DIAG_LEVEL = true ∧ (s.lioCh 0).level = false ∧ s.on (LIO_CFG 0) LIO_CFG_SOE_EN = true ∧
     wbit (s.rd (LIO_CFG 0) LIO_CFG_SOE_EDGE) 0 = true ∧ s.lio.soe.length < 1024) ∧
    (let s := local0 2 0 [(LIO_CFG 0, LIO_CFG_DEB, 3)] (fun r => { r with deb := some (0, 7#32) }) 0
     ¬ 0 + s.rd (LIO_CFG 0) LIO_CFG_DEB * 1000 ≤ s.clk.mono ∧ s.on (LIO_CFG 0) LIO_CFG_SOE_EN = false ∧ (s.lioCh 0).level = s.on (LIO_DIAG 0) LIO_DIAG_LEVEL) ∧
    (let s := local0 2 2 [(LIO_GATE 0, LIO_GATE_G, 1)] (fun r => { r with gate := some 0, edges := 3 }) 1500
     (s.lioCh 0).gate = some 0 ∧ 0 + s.rd (LIO_GATE 0) LIO_GATE_G * 1000 ≤ s.clk.mono ∧ s.clk.mono < 0 + 2 * (s.rd (LIO_GATE 0) LIO_GATE_G * 1000)) ∧
    (let s := local0 2 2 [(LIO_GATE 0, LIO_GATE_G, 1)] (fun r => { r with gate := some 0 }) 999
     s.clk.mono < 0 + s.rd (LIO_GATE 0) LIO_GATE_G * 1000) ∧
    (let s := local0 2 3 [] id 0
     lioOn s 0 = true ∧ lioMode s 0 = 3 ∧ lioPar s 0 = false ∧ ({ s.lio with cmd := 1#32 }).cmd.getLsbD 0 = true ∧ s.lio.cmd.getLsbD 0 = false ∧
     s.on (LIO_DIAG 0) LIO_DIAG_DRIVE = false ∧ s.on (LIO_DIAG 0) LIO_DIAG_OPENWIRE = false) ∧
    (let s := local0 2 3 [] id 0
     let t := { s with lio := { s.lio with par := some 0#32 } }.rset LIO_PAR 1#32
     lioPar t 0 = true ∧ t.lio.par = some 0#32 ∧ t.lio.cmd.getLsbD 0 = false ∧ (0#32).getLsbD 0 = false) ∧
    (local0 2 3 [(LIO_DIAG 0, LIO_DIAG_DRIVE, 1), (LIO_DIAG 0, LIO_DIAG_OPENWIRE, 1)] id 0).on (LIO_DIAG 0) LIO_DIAG_DRIVE = true ∧
    (local0 2 0 [(LIO_CFG 0, LIO_CFG_OW_EN, 1)] id 0).on (LIO_CFG 0) LIO_CFG_OW_EN = true := by decide

theorem test_witness_LocalChannelResults_queue (l : List (Nat × Bool × Word)) (h : l.length = 1024) :
    ({ State.reset with lio := { LioSt.idle with soe := l } } : State).lio.soe.length = 1024 ∧ (List.replicate 1024 (0, true, (0 : Word))).length = 1024 :=
  ⟨h, List.length_replicate⟩

theorem test_witness_LocalChannelResults_groups :
    (1499#16).toNat < 1500 ∧ (1799#16).toNat < 1800 ∧ 1800 ≤ (1849#16).toNat ∧ (1849#16).toNat < 1850 ∧ 1900 ≤ (1900#16).toNat ∧
    (let s := (mk [(LIO_GRP_CFG 0, LIO_GRP_CFG_AUTO_REARM, 1)]).setLioGrp 0 fun g => { g with rise := some 0 }
     let t := { s with clk := { s.clk with mono := 100000000 } }
     (s.lioGrp 0).rise = some 0 ∧ s.on (LIO_GRP_STAT 0) LIO_GRP_STAT_REARM_OK = false ∧ s.clk.mono < 0 + 100000000 ∧
     (t.lioGrp 0).rise = some 0 ∧ 0 + 100000000 ≤ t.clk.mono ∧ t.on (LIO_GRP_CFG 0) LIO_GRP_CFG_AUTO_REARM = true) ∧
    (State.reset.lioGrp 0).rise = none ∧ (State.reset.lioGrp 0).ovl = false ∧
    (mk [(LIO_GRP_STAT 0, LIO_GRP_STAT_REARM_OK, 1), (LIO_GRP_STAT 0, LIO_GRP_STAT_LATCH, 1)]).on (LIO_GRP_STAT 0) LIO_GRP_STAT_REARM_OK = true ∧
    (mk [(LIO_GRP_STAT 0, LIO_GRP_STAT_LOW, 1)]).on (LIO_GRP_STAT 0) LIO_GRP_STAT_LOW = true ∧
    State.reset.on (LIO_GRP_STAT 0) LIO_GRP_STAT_LOW = false ∧ 220 < (221#16).toNat ∧ (220#16).toNat ≤ 220 ∧ (199#16).toNat < 200 ∧
    State.reset.lio.soe = [] ∧ ({ LioSt.idle with soe := [(3, true, (7 : Word))] }).soe = [(3, true, 7)] ∧
    (mk [(PWR_EN 10, U_STATE, 2)]).isOn (.domain 10) = true ∧ State.reset.isOn (.domain 10) = false ∧
    (let s := local0 1 0 [] (fun r => { r with hw := some 0 }) 10000000
     s.rd (LIO_EN 0) U_STATE = 1 ∧ (s.unit (LIO_EN 0)).waiting = false ∧ (s.lioCh 0).hw = some 0 ∧ 0 + 10000000 ≤ s.clk.mono) ∧
    State.reset.rd (LIO_EN 0) U_STATE ≠ 1 := by decide

/-! ### Hypotheses that are met: units, boot, recorder, power -/

theorem test_witness_UnitResults :
    (let u := UnitId.eth 0
     (∀ g, u ≠ .grove g) ∧ (∀ e : Fin 12, e.val < 8 → u ≠ .domain e) ∧ (∀ n, u ≠ .can n) ∧ (∀ n r, u ≠ .ring n r) ∧ State.reset.unitState u = 0 ∧
     parentOn State.reset u = false ∧ startLimit State.reset u = some 2000000000 ∧
     (let s := mk [(PWR_EN 10, U_STATE, 2), (RDY_VEC, ⟨11, 11⟩, 1), (RDY_VEC, ⟨10, 10⟩, 1), (RDY_VEC, ⟨12, 12⟩, 1)]
      s.unitState u = 0 ∧ unitReady s u = true ∧ parentOn s u = true ∧ offTimeOver s u = true) ∧
     (let s := mk [(ETH_EN 0, U_STATE, 1)]
      let t := { s with clk := { s.clk with mono := 2000000000 } }
      s.unitState u = 1 ∧ (s.unit (enAddr u)).waiting = false ∧ (s.unit (enAddr u)).started + 2000000000 ≤ t.clk.mono ∧
      ¬ (s.unit (enAddr u)).started + 2000000000 ≤ s.clk.mono) ∧
     (let s := mk [(ETH_EN 0, U_STATE, 3)]
      s.unitState u = 3 ∧ dependantsOff s u = true ∧ s.on (ETH_EN 0) U_PEND = false) ∧
     (let s := mk [(ETH_EN 0, U_STATE, 3), (ETH_EN 0, U_PEND, 1)]
      s.on (ETH_EN 0) U_PEND = true ∧ parentOn s u = false ∧ parentOn (also s [(PWR_EN 10, U_STATE, 2)]) u = true)) ∧
    (let u := UnitId.domain 8
     let s := (mk [(PWR_EN 8, U_STATE, 1)]).setUnit (enAddr u) { State.reset.unit (enAddr u) with waiting := true, stopped := some 0 }
     let t := { s with clk := { s.clk with mono := 1000000 } }
     s.unitState u = 1 ∧ (s.unit (enAddr u)).waiting = true ∧ offTimeOver s u = false ∧ t.unitState u = 1 ∧ offTimeOver t u = true) ∧
    (mk [(GRV_EN 7, U_STATE, 2)]).unitState (.grove 7) = 2 ∧ groveInUse (mk [(GRV_EN 7, U_STATE, 2)]) 7 = false ∧
    (let s := State.reset.setGrove 7 { State.reset.grove 7 with stuck := true }
     s.unitState (.grove 7) = 0 ∧ (s.grove 7).stuck = true) ∧
    (let s := mk [(PWR_EN 7, U_STATE, 2)]
     s.unitState (.grove 7) = 0 ∧ (s.grove 7).stuck = false ∧ s.phase 7 = 0 ∧ s.isOn (.domain 7) = true) ∧
    (mk [(GRV_STATUS 7, GRV_STATUS_PHASE, 3)]).phase 7 = 3 ∧
    (let s := mk [(CAN_EN 0, U_STATE, 3), (CAN_MB_CTRL 0 1, CAN_MB_CTRL_TXREQ, 1), (CAN_MB_CTRL 0 1, CAN_MB_CTRL_DIR, 1)]
     s.unitState (.can 0) = 3 ∧ (s.canSt 0).onBus = none ∧ s.on (CAN_EN 0) U_PEND = false ∧ s.on (CAN_MB_CTRL 0 1) CAN_MB_CTRL_TXREQ = true ∧
     s.on (CAN_MB_CTRL 0 1) CAN_MB_CTRL_DIR = true) ∧
    (let s := mk [(PWR_EN 11, U_STATE, 1)]
     s.unitState (.domain 11) = 1 ∧ (s.unit (enAddr (.domain 11))).waiting = false ∧ 17 ∈ rdyBits (.domain 11)) ∧
    (let s := mk [(PWR_EN 11, U_STATE, 3)]
     s.unitState (.domain 11) = 3 ∧ dependantsOff s (.domain 11) = true ∧ s.on (PWR_EN 11) U_PEND = false) := by decide

theorem test_witness_UnitResults_used :
    groveInUse (mk [(GRV_EN 0, U_STATE, 2), (TSQ_CLASS_CFG 0 0, TSQ_CLASS_CFG_EN, 1), (TSQ_CLASS_ENG_LO 0 0, ⟨0, 0⟩, 1)]) 0 = true := by decide

/-- A module whose update state record has been changed from zeros. -/
def recorded (f : List Byte → List Byte) : State := writeRec State.reset f
/-- A trial of part 0 in slot 1, running since 0 with a period of 60 s. -/
def trying (l : List (Nat × Fld × Nat)) (mono : Nat) : State :=
  let s := writeRec (mk l) fun r => recPatch (recPatch r 4 [1#8, 0#8, 1#8]) 17 [1#8]
  { s with boot := { s.boot with trialAt := some 0, period := 60 }, clk := { s.clk with mono := mono } }

theorem test_witness_BootResults_slots :
    State.reset.pwr.held = 0 ∧ ({ State.reset with pwr := { State.reset.pwr with held := 1 } } : State).pwr.held ≠ 0 ∧
    ({ State.reset with boot := { State.reset.boot with retired := true } } : State).boot.retired = true ∧
    (bitsOf 0x64800001#32 HWD_RESET_KEY = 0x6480 ∧ bitsOf 0x64800001#32 HWD_RESET_RESET = 1) ∧ bitsOf 1#32 HWD_RESET_KEY ≠ 0x6480 ∧
    State.reset.on HB_STATUS HB_STATUS_PATH_H = false ∧ State.reset.boot.due = none ∧
    (let s := mk [(UPD_TGT, UPD_TGT_PART, 1), (UPD_TGT, UPD_TGT_SLOT, 1)]
     slotTaken s 1 1 = false ∧ slotTaken s 1 0 = true ∧ (s.rget UPD_LEN).toNat < 4096 ∧ 4096 ≤ ((s.rset UPD_LEN 4096#32).rget UPD_LEN).toNat ∧
     4096 ≤ slotSize 1 ∧ updBusy s = false ∧ updBusy { s with boot := { s.boot with write := some ⟨0, 4096, 1, 1⟩ } } = true) := by decide

theorem test_witness_BootResults_write :
    (let s := { openGate State.reset 1 with boot := { State.reset.boot with write := some ⟨0x10000000, 4160, 1, 1⟩ } }
     let r := dmaRead s (updXfer s) (0x10000000 + 4096) 64
     let q := dmaRead r.2.2 (updXfer s) 0x10000000 4096
     s.boot.write = some ⟨0x10000000, 4160, 1, 1⟩ ∧ r.2.1 = none ∧ q.2.1 = none ∧ q.1.length = 4096) := by decide +kernel

theorem test_witness_BootResults_trials :
    recOutcome (stateRec State.reset) ≠ 1 ∧ State.reset.rd UPD_TMASK UPD_TMASK_TMASK = 0 ∧
    (mk [(UPD_TMASK, UPD_TMASK_TMASK, 1)]).rd UPD_TMASK UPD_TMASK_TMASK = 1 ∧ slotMark State.reset 0 1 = false ∧
    (let s := norSet State.reset 1 4092 (leBytes 4 markWord)
     slotMark s 0 (1 - recConf (stateRec s) 0) = true) ∧
    (let s := trying [] 0
     recOutcome (stateRec s) = 1 ∧ trialRuns s = true ∧ windowOpen s = true ∧ s.on UPD_CFG UPD_CFG_CONF_MASTER = true ∧ (trying [(PAR_STATUS, PAR_STATUS_ROLE, roleCode .alone)] 0).role.master = true ∧ windowOpen (trying [(PAR_STATUS, PAR_STATUS_ROLE, roleCode .alone)] 0) = true ∧
     recTmask (stateRec s) = 1 ∧ recTrial (stateRec s) 0 = 1) ∧
    windowOpen (trying [] 60000000000) = false ∧ (trialRuns { trying [] 0 with boot := State.reset.boot }) = false ∧ trialRuns State.reset = false ∧
    (let s := trying [(RDY_VEC, RDY_VEC_HWD, 1)] 5000000000
     s.on RDY_VEC RDY_VEC_HWD = true ∧ s.on RDY_VEC RDY_VEC_CANOPY = false ∧ s.boot.bootAt + 5000000000 ≤ s.clk.mono) ∧
    State.reset.on RDY_VEC RDY_VEC_CANOPY = false := by decide

/-- A key record of a kind that names a key and is signed by another: firmware keys 5 at entry 0 and, if said, 6 at entry 2; key 9 of the
certifying usage at entry 1. -/
def keyState (kind target signer : Nat) (two : Bool) : State :=
  let rec_ := leBytes 4 kind ++ leBytes 4 target ++ leBytes 24 0 ++ leBytes 4 signer ++ leBytes 100 0
  let s := (mk ([(HWD_KEYST 0, HWD_KEYST_VALID, 1), (HWD_KEYST 0, HWD_KEYST_USAGE, 1), (HWD_KEYST 1, HWD_KEYST_VALID, 1),
    (HWD_KEYST 1, HWD_KEYST_USAGE, 8), (HWD_KEYST 2, HWD_KEYST_VALID, if two then 1 else 0), (HWD_KEYST 2, HWD_KEYST_USAGE, 1)])).rset (HWD_KEYID 0) 5#32
  let s := (s.rset (HWD_KEYID 2) 6#32).rset (HWD_KEYID 1) 9#32
  ((openGate s 1).rset UPD_SRC_LO 0x10000000#32).setBytes 0x10000000 rec_

theorem test_witness_BootResults_keys (h : ∀ k d g, Config.ecdsaOk k d g = true) :
    (∃ x t, keyRecord (keyState 0x52544652 0 9 false) = (some x, t) ∧ le x 0 4 = 0x52544652 ∧ le x 4 4 = 0) ∧
    (∃ x t, keyRecord (keyState 0x4B564652 5 9 false) = (some x, t) ∧ le x 0 4 = 0x4B564652 ∧ le x 32 4 ≠ le x 4 4 ∧
      (List.range 8).find? (fun i => t.on (HWD_KEYST i) HWD_KEYST_VALID && (t.rget (HWD_KEYID i)).toNat == le x 4 4) = some 0 ∧
      t.on (HWD_KEYST 0) HWD_KEYST_REVOKED = false ∧ wbit (t.rd (HWD_KEYST 0) HWD_KEYST_USAGE) 0 = true ∧
      t.on (HWD_KEYST 2) HWD_KEYST_VALID = false) ∧
    (∃ x t, keyRecord (keyState 0x4B564652 9 9 true) = (some x, t) ∧ le x 32 4 = le x 4 4 ∧ t.on (HWD_KEYST 2) HWD_KEYST_VALID = true ∧
      wbit (t.rd (HWD_KEYST 2) HWD_KEYST_USAGE) 0 = true) := by
  have ok (s : State) (e : ∃ i, findKey (dmaRead s (updXfer s) (s.rd64 UPD_SRC_LO UPD_SRC_HI) 136).2.2
        (le (dmaRead s (updXfer s) (s.rd64 UPD_SRC_LO UPD_SRC_HI) 136).1 32 4) 3 = some i)
      (l : (dmaRead s (updXfer s) (s.rd64 UPD_SRC_LO UPD_SRC_HI) 136).1.length = 136)
      (n : (dmaRead s (updXfer s) (s.rd64 UPD_SRC_LO UPD_SRC_HI) 136).2.1 = none)
      (u : ((dmaRead s (updXfer s) (s.rd64 UPD_SRC_LO UPD_SRC_HI) 136).1.drop 8).take 16 = List.replicate 16 0#8)
      (z : zeros (dmaRead s (updXfer s) (s.rd64 UPD_SRC_LO UPD_SRC_HI) 136).1 36 4 = true ∧
        zeros (dmaRead s (updXfer s) (s.rd64 UPD_SRC_LO UPD_SRC_HI) 136).1 24 8 = true) :
      keyRecord s = (some (dmaRead s (updXfer s) (s.rd64 UPD_SRC_LO UPD_SRC_HI) 136).1,
        (dmaRead s (updXfer s) (s.rd64 UPD_SRC_LO UPD_SRC_HI) 136).2.2) := by
    unfold keyRecord
    generalize dmaRead s (updXfer s) (s.rd64 UPD_SRC_LO UPD_SRC_HI) 136 = d at *
    obtain ⟨x, o, t⟩ := d
    obtain ⟨i, e⟩ := e
    simp only at n u l e z
    subst n
    simp [trailerOk, l, e, h, u, z]
  refine ⟨⟨_, _, ok _ ?_ ?_ ?_ ?_ ?_, ?_⟩, ⟨_, _, ok _ ?_ ?_ ?_ ?_ ?_, ?_⟩, ⟨_, _, ok _ ?_ ?_ ?_ ?_ ?_, ?_⟩⟩
  all_goals first
    | exact Option.isSome_iff_exists.1 (by decide +kernel)
    | decide +kernel

/-- A recorder that has scanned and runs, with the MRAM open to it. -/
def recording (q : List EvRec) (l : List (Nat × Fld × Nat)) : State :=
  let s := openGate (mk ([(EVR_CTRL, EVR_CTRL_RUN, 1), (EVR_STATUS, EVR_STATUS_SCANNED, 1)] ++ l)) 19
  { s with evr := { s.evr with queue := q } }

theorem test_witness_RecorderResults :
    pmcWindowDue { mk [(PMC_WCFG 0, PMC_WCFG_LEN, 1), (PMC_WCFG 0, PMC_WCFG_ALIGN, 0)] with clk := { State.reset.clk with ns := 1 } } 0 = false ∧
    (let s := mk [(PMC_CTL 0 0, PMC_CTL_EN, 1), (PMC_CTL 0 0, PMC_CTL_MODE, 1), (PMC_WCFG 0, PMC_WCFG_LEN, 1), (PMC_WCFG 0, PMC_WCFG_ALIGN, 0)]
     pmcWindowDue s 0 = true ∧ s.on (PMC_BCTL 0) PMC_BCTL_FREEZE = false ∧ s.on (PMC_BCTL 0) PMC_BCTL_FREEZE_ALL = false ∧
     s.on (PMC_CTL 0 0) PMC_CTL_EN = true ∧ s.on (PMC_CTL 0 0) PMC_CTL_MODE = true ∧ (s.regs.map Prod.fst).Nodup) ∧
    (mk [(PMC_BCTL 0, PMC_BCTL_FREEZE_ALL, 1)]).on (PMC_BCTL 0) PMC_BCTL_FREEZE_ALL = true ∧
    State.reset.evr.pf = false ∧ State.reset.evr.queue.length < 64 ∧
    64 ≤ (recording (List.replicate 64 (evrRecord State.reset 0 0 0 0#32 [])) []).evr.queue.length ∧
    ({ State.reset with evr := { State.reset.evr with pf := true } } : State).evr.pf = true ∧ evrRuns State.reset = false ∧
    (let r := evrRecord State.reset 0 0 0 0#32 []
     let s := recording [r] []
     s.evr.queue = [r] ∧ evrRuns s = true ∧ r.source ≠ 0x101) ∧
    (recording [] []).on EVR_STATUS EVR_STATUS_SCANNED = true ∧ State.reset.on EVR_STATUS EVR_STATUS_SCANNED = false := by decide

theorem test_witness_RecorderResults_mram :
    (let s := recording [] []
     (evrWrites s [(evrSlot 0, leBytes 4 7)]).1 = true ∧ (evrStore s).1 = true ∧ (dmaRead s (evrXfer s) (evrSlot 0) 248).2.1 = none ∧
     (dmaRead s (evrXfer s) (evrSlot 0) 248).1.length = 248) ∧
    (evrWrites (mk [(GATE_CTRL 19, GATE_CTRL_ENFORCE, 1)]) [(evrSlot 0, leBytes 4 7)]).1 = false ∧
    (let s := mk [(GATE_CTRL 19, GATE_CTRL_ENFORCE, 1)]
     evrMayScan s = false ∧ ∃ e, (dmaRead s (evrXfer s) (evrSlot 0) 248).2.1 = some e) ∧
    (let s := also (recording [] []) [(EVR_STATUS, EVR_STATUS_SCANNED, 0)]
     evrMayScan s = true ∧ evrNewest s = none ∧ evrNewest ((s.setBytes (evrSlot 3) (leBytes 4 9)).setBytes (evrSlot 3 + 244) (leBytes 4 9)) = some (3, 9)) := by
  refine ⟨by decide +kernel, by decide +kernel, ⟨by decide +kernel, ?_⟩, by decide +kernel⟩
  exact Option.isSome_iff_exists.1 (by decide +kernel)

theorem test_witness_PowerResults :
    (1799#16).toNat < 1800 ∧ 1800 ≤ (1800#16).toNat ∧ State.reset.on PWR_STATUS PWR_STATUS_PFW = false ∧
    (let s := mk [(PWR_STATUS, PWR_STATUS_PFW, 1), (PWR_CFG, PWR_CFG_PF_LEAVE, 8)]
     let t := { s with clk := { s.clk with mono := 8000000 } }
     s.on PWR_STATUS PWR_STATUS_PFW = true ∧ t.pwr.pfwAt + t.rd PWR_CFG PWR_CFG_PF_LEAVE * 1000000 ≤ t.clk.mono ∧
     ¬ s.pwr.pfwAt + s.rd PWR_CFG PWR_CFG_PF_LEAVE * 1000000 ≤ s.clk.mono) ∧
    (let held (n : Nat) : State := { State.reset with pwr := { State.reset.pwr with held := n } }
     (held 1).pwr.held = 1 ∧ (held 2).pwr.held = 2 ∧ (held 0).pwr.held ≠ 1 ∧ (held 0).pwr.held ≠ 2) ∧
    880 ≤ (880#16).toInt ∧ (840#16).toInt ≤ 840 ∧ 840 < (841#16).toInt ∧ (841#16).toInt < 880 ∧ 1000 ≤ (1000#16).toInt ∧ (999#16).toInt < 1000 ∧
    (719#16).toInt < 720 ∧ (0xFFFF#16).toInt < 720 ∧ 720 ≤ (720#16).toInt ∧
    State.reset.on PWR_STATUS PWR_STATUS_PPRES = false ∧ State.reset.on PWR_STATUS PWR_STATUS_TWARN = false ∧
    State.reset.pwr.enable = true ∧ ({ State.reset with pwr := { State.reset.pwr with enable := false } } : State).pwr.enable = false ∧
    ({ State.reset with pwr := { State.reset.pwr with ramp := true } } : State).pwr.ramp = true ∧ State.reset.pwr.ramp = false ∧
    State.reset.on PWR_STATUS PWR_STATUS_EJECT = false ∧ (mk [(PWR_STATUS, PWR_STATUS_EJECT, 1)]).on PWR_STATUS PWR_STATUS_EJECT = true ∧
    (mk [(PWR_CFG, PWR_CFG_EJECT_LEAVE, 1)]).on PWR_CFG PWR_CFG_EJECT_LEAVE = true ∧ State.reset.on PWR_CFG PWR_CFG_EJECT_LEAVE = false ∧
    (0x10000001#40).toNat % 4 ≠ 0 ∧ (0x10000000#40).toNat % 4 = 0 ∧ isRegs (0x10000000#40).toNat = false ∧
    gateDecide State.reset .read (mattrXfer State.reset 0x7F 2) 0x10000000 4 = .deny 1 2 0 ∧
    (let s := openGate State.reset 1
     gateDecide s .read (mattrXfer s 0x7F 2) 0x10000000 4 = .allow 1 .sram ∧ gateDecide s .write (mattrXfer s 0x7F 2) 0x10000000 4 = .allow 1 .sram ∧
     s.eccAt 0x10000000 = none ∧ mapOf 0x10000000 = some (.sram, 1, true)) := by decide

/-- ContextRoundTrip and TimerSequences hold for every value given; these are the bounds of what they range over. -/
theorem test_witness_ContextRoundTrip : (63 : Nat) < 64 ∧ (5#5 : BitVec 5) ≠ 0 := by decide

/-! ### Hypotheses that are met: further clauses -/

/-- SignalEntries: a corrected word, and the image unit shut and open. -/
theorem test_witness_SignalEntries_words :
    (let s := { forced with ecc := [(imageAddr 1 5, some .corrected)] }
     s.eccAt (imageAddr 1 5) = some .corrected ∧ descType (s.descOf 5) ≠ 0 ∧ imageBad s 1 5 = false ∧ s.eccAt (imageAddr 0 5) = none) ∧
    (let s := { forced with seq := { forced.seq with held := true } }
     imageShut (also s [(TSQ_STATUS, TSQ_STATUS_MODE, 0)]) = true ∧ imageShut (also s [(TSQ_STATUS, TSQ_STATUS_MODE, 1)]) = false) ∧
    imageShut forced = false := by decide

/-- EdgeAndTimerResults, BlockCalls: the gate admits both accesses, the read alone, neither; and the address range's end. -/
theorem test_witness_EdgeAndTimer_gates :
    (let u := after (blockEngine 0x190 1#64) 0
     (gateFirst .read u 0 (prvOf u 0) (partOf u 0) 0x0100001000 8).isNone = true ∧
     (gateFirst .write u 0 (prvOf u 0) (partOf u 0) 0x0100001000 8).isNone = true) ∧
    (let u := (after (blockEngine 0x190 1#64) 0).wr (GATE_CTL 2 0 0) GATE_CTL_KERNEL_XWR 1
     (gateFirst .read u 0 (prvOf u 0) (partOf u 0) 0x0100001000 1).isNone = true ∧
     (gateFirst .write u 0 (prvOf u 0) (partOf u 0) 0x0100001000 1).map Prod.fst = some 3) ∧
    (let u := (after (blockEngine 0x190 1#64) 0).wr (GATE_CTL 2 0 0) GATE_CTL_KERNEL_XWR 0
     (gateFirst .read u 0 (prvOf u 0) (partOf u 0) 0x0100001000 1).map Prod.fst = some 3) ∧
    (let u := after (withCore (blockEngine 0x190 1#64) 0 fun c => c.srSet 0 0x005 0xFFFFFFFFC0#64) 0
     2 ^ 40 ≤ (u.srGet 0 0x005).toNat + 8 * (8#8).toNat ∧ (u.srGet 0 0x005).toNat + (63#10).toNat < 2 ^ 40) := by decide

/-- TaskInstructions: a save that takes the count to the budget, in a final tick and before one. -/
theorem test_witness_TaskInstructions_budget :
    (let s := blockEngine 0x190 0#64
     let u := after { s with seq := { s.seq with deadl := [(0, ⟨90, false⟩)] } } 0
     let v := (charge (countInstr u 0) 0 2).setPc 0 (nextPc u 0)
     let k := addCyc (keepTask v 0 0 .yielded) 0 0 80
     let r := ctxWrites k 0 (partOf k 0) (k.srGet 0 0x006).toNat (ctxWords (k.core 0) 0)
     budgetUsed v 0 = false ∧ r.1 = .ok 0 ∧ finalTick r.2 0 = true ∧
     finalTick (also r.2 [(TSQ_CLASS_CFG 0 0, TSQ_CLASS_CFG_PERIOD, 5)]) 0 = false) ∧
    (let s := blockEngine 0x190 0#64
     let u := after { s with seq := { s.seq with deadl := [(0, ⟨2, false⟩)] } } 0
     budgetUsed ((charge (countInstr u 0) 0 2).setPc 0 (nextPc u 0)) 0 = true) := by decide

/-- AccessAndGates: an engine's view of its Grove and of its code, and an address outside it. -/
theorem test_witness_AccessAndGates_views :
    (let s := engine 0#64 0#64 0#64
     isEng 0 = true ∧ engPhys s 0 0x0100000000 = some 0x0100000000 ∧ engPhys s 0 0x0180040000 = none ∧ engPhys s 0 0x0100400000 = none ∧ engPhys s 0 0x0800000000 = some 0x0800000000 ∧
     gateDecide s .read (masterXfer s 0 .read 0x0100000000) 0x0100000000 64 = .allow 2 (.sapwood 0) ∧
     gateDecide s .write (masterXfer s 0 .write 0x0100000000) 0x0100000000 64 = .allow 2 (.sapwood 0) ∧
     ¬ (0x0180000000 ≤ 0x0180040000 ∧ 0x0180040000 < 0x0180000000 + 0x40000)) ∧
    isEng 0x40 = false ∧ dramReady State.reset = false := by decide

/-- SequencerUnits: a port that may send and sends nothing, and a ceded ring. -/
theorem test_witness_SequencerUnits_sync :
    (let s := also (ticking .alone 100) [(VGX_EN_S 23, U_STATE, 2), (VGX_LINK 23, VGX_LINK_S_LOOP, 0), (VGX_LINK 23, VGX_LINK_S_SIG, 1),
      (VGX_LINK 23, VGX_LINK_S_SYNC, 1)]
     mayTransmit s 23 .module false = true ∧ lineNow s 23 .module false = none ∧ ringPhase s 23 = 0 ∧ modLoop s 23 false = false ∧
     (s.ring 23).cede = false ∧ s.on (VGX_RMODE 23) VGX_RMODE_CEDED = false) ∧
    (also (ticking .alone 100) [(VGX_RMODE 23, VGX_RMODE_CEDED, 1)]).on (VGX_RMODE 23) VGX_RMODE_CEDED = true ∧
    (∀ e, e < 64 → engUsable (ticking .syncing 100) e = false) ∧
    (ticking .alone 100).pair.decision = none ∧ (ticking .alone 100).pair.reqFrom = none ∧ laneOf (ticking .alone 100) = none ∧
    laneOf (also (ticking .alone 100) [(PAR_EN_PL1, U_STATE, 2)]) = some 1 := by
  refine ⟨by decide, by decide, ?_, by decide, by decide, by decide, by decide⟩
  decide

/-- GroveAndComparatorEvents: a Grove that the set in staging uses, reloads, the tests of the boot and of a port, lanes, and a start that waits. -/
theorem test_witness_GroveAndComparator_clauses :
    (let s := (also (grove7 1 0 fun r => { r with start := 1 }) [(CHG_STATE, CHG_STATE_STATE, 3), (TSQ_CLASS_CFG 1 15, TSQ_CLASS_CFG_EN, 1)]).rset
       (TSQ_CLASS_ENG_HI 1 15) 0x80000000#32
     s.unitState (.grove 7) = 1 ∧ (s.grove 7).start = 1 ∧ (s.unit (GRV_EN 7)).waiting = false ∧ 3 ≤ s.chgState ∧ s.chgState ≤ 5 ∧
     7 ∈ grovesNamed s (1 - s.bank)) ∧ (grove7 1 0 fun r => { r with start := 1 }).chgState < 3 ∧
    (let s := grove7 2 4 id; s.phase 7 = 4 ∧ (s.grove 7).stuck = false ∧ (s.grove 7).reloaded = false ∧ s.chg.teDown = false) ∧
    ({ State.reset with chg := { State.reset.chg with teDown := true } } : State).chg.teDown = true ∧
    (let s := mk [(LSC_CMP 64, LSC_CMP_BUSY, 1), (LSC_CMP 65, LSC_CMP_PASS, 1), (LSC_CMP 66, LSC_CMP_PASS, 1), (LSC_CMP 67, LSC_CMP_PASS, 1),
        (LSC_CMP 68, LSC_CMP_PASS, 1), (LSC_CMP 69, LSC_CMP_PASS, 1), (LSC_CMP 70, LSC_CMP_PASS, 1)]
     let t := { s with boot := { s.boot with entry := some 64 } }
     t.on (LSC_CMP 64) LSC_CMP_BUSY = true ∧ t.boot.entry = some 64 ∧
     ∀ i, i < 7 → 64 + i ≠ 64 → t.on (LSC_CMP (64 + i)) LSC_CMP_PASS = true ∧ t.on (LSC_CMP (64 + i)) LSC_CMP_BUSY = false) ∧
    State.reset.boot.entry = none ∧ State.reset.on (LSC_CMP 70) LSC_CMP_BUSY = false ∧
    (let s := mk [(LSC_CMP 96, LSC_CMP_BUSY, 1), (ETH_EN 0, U_STATE, 1), (ETH_STATUS 0, ETH_STATUS_LINK, 1)]
     s.on (LSC_CMP 96) LSC_CMP_BUSY = true ∧ s.boot.entry = none ∧ .eth 0 ∈ cmpUnits 96 ∧ s.on (ETH_STATUS 0) ETH_STATUS_LINK = true ∧
     s.unitState (.eth 0) = 1 ∧ (s.unit (enAddr (.eth 0))).waiting = false) ∧
    lanesOf 70 0#242 = 0#16 ∧ lanesOf 70 (1#242 <<< 17) = 2#16 ∧ cmpFlag 70 true true ≠ none ∧ cmpFlag 70 false true = none := by decide

/-- PairPathsAndMessages: CRC results, paths, a decision to be made and one made. -/
theorem test_witness_PairPaths_clauses :
    (let s := paired .standby [] fun p => { p with decision := some false }
     s.pair.decision = some false ∧ s.role = .standby) ∧
    (paired .active [] fun p => { p with decision := some true }).pair.decision = some true ∧
    (let s := { paired .syncing [] fun p => { p with lostAt := some 0 } with clk := { State.reset.clk with mono := 200000 } }
     s.pair.lostAt = some 0 ∧ s.role = .syncing ∧ s.pair.witness = none ∧ s.pair.decision = none ∧ 0 + 200000 ≤ s.clk.mono) ∧
    (let s := paired .active [] fun p => { p with witness := some ⟨0, 0, false⟩ }
     (∃ w, s.pair.witness = some w ∧ w.stop ≤ s.clk.mono)) ∧
    (let s := paired .active [] fun p => { p with witness := some ⟨0, 1, false⟩ }
     ∀ w, s.pair.witness = some w → s.clk.mono < w.stop) ∧
    (let s := inRole .standby [(HB_STATUS, HB_STATUS_PATH_L, 1), (HB_STATUS, HB_STATUS_PATH_H, 1), (HB_STATUS, HB_STATUS_MISS_L, 4)]
     s.on HB_STATUS HB_STATUS_PATH_L = true ∧ s.on HB_STATUS HB_STATUS_PATH_H = true ∧ 4 ≤ s.rd HB_STATUS HB_STATUS_MISS_L) := by
  refine ⟨by decide, by decide, by decide, ⟨_, rfl, by decide⟩, ?_, by decide⟩
  intro s w h
  cases h
  decide

/-- PairJoining: answers, a package to be taken, the clock that follows the partner. -/
theorem test_witness_PairJoining_clauses :
    (let s := inRole .standby [(PAR_COPP, PAR_COPP_PHASE, 1)]
     s.pair.helloDue = false ∧ helloCompat s (hello0 5) = true ∧ (hello0 5).digest = pkgDigest s ∧ { hello0 5 with digest := 1#384 }.digest ≠ pkgDigest s) ∧
    (let s := inRole .standby [(TIM_SRC, TIM_SRC_SRC, 3)]
     s.role.master = false ∧ s.role ≠ .syncing ∧ s.rd TIM_SRC TIM_SRC_SRC = 3 ∧ 1000 < (masterNow s (time0 5#48 0#32) - s.nowNs).natAbs ∧
     0 ≤ masterNow s (time0 0#48 0#32) ∧ masterNow s (time0 0#48 0#32) < 2 ^ 48 * 1000000000 ∧
     (masterNow s (time0 0#48 0#32) - s.nowNs).natAbs ≤ 1000) ∧
    (inRole .standby []).rd TIM_SRC TIM_SRC_SRC ≠ 3 ∧
    (let s := inRole .alone laneOn
     s.rd PAR_COPP PAR_COPP_PHASE ≠ 1 ∧ s.role.master = true ∧ laneOf s = some 0 ∧ s.chgState ≠ 5 ∧ s.freeMode = false) := by decide

/-- PairCommands: Groves in RESYNC or not, a swap to be decided, LEAVE on both paths. -/
theorem test_witness_PairCommands_clauses :
    (let s := paired .active [] fun p => { p with swap := some ⟨8, true, true⟩ }
     (∀ g, g < 8 → s.on (GRV_STATUS g) GRV_STATUS_RESYNC = false) ∧ s.role = .active ∧ 8 ≤ s.seq.tick + 8) ∧
    (paired .active [(GRV_STATUS 7, GRV_STATUS_RESYNC, 1)] fun p => { p with swap := some ⟨8, true, true⟩ }).on (GRV_STATUS 7) GRV_STATUS_RESYNC = true ∧
    (let s := inRole .standby ([(HB_STATUS, HB_STATUS_PATH_H, 1), (HB_STATUS, HB_STATUS_PATH_L, 1)] ++ laneOn)
     s.role = .standby ∧ s.on HB_STATUS HB_STATUS_PATH_H = true ∧ s.on HB_STATUS HB_STATUS_PATH_L = true ∧ laneOf s = some 0) := by decide

/-- PairExchange: an exchange that is still open, a whole message, a line that the gate admits. -/
theorem test_witness_PairExchange_clauses :
    (let s := dug id
     (hdr true 0#32).crcOk = true ∧ (hdr true 0#32).pos ≠ s.on PAR_STATUS PAR_STATUS_POS ∧ s.pair.inDone = false ∧ s.pair.parIn = none ∧
     s.pair.laneQ = [] ∧ s.clk.trel < s.rd (PAR_INEND s.bank) PAR_INEND_END * 100) ∧
    (let s := paired .active [] fun p => { p with ownIn := some (inDig0 []) }
     s.pair.ownIn = some (inDig0 []) ∧ (inDig0 []).lmask = 0#32) ∧
    (let s := openGate (paired .standby [(GRV_EN 7, U_STATE, 2)] fun p => { p with repair := some ⟨0, 1, 0, false⟩ }) 9
     s.pair.repair = some ⟨0, 1, 0, false⟩ ∧ admitted s .write (mattrXfer s 0x47 2) (0x0107000000 + s.rd (GRV_STATUS 7) GRV_STATUS_CBANK * 0x400000) 64 = true) ∧
    (inRole .active []).role.master = true ∧ (0#64).toNat = (inRole .active []).seq.tick ∧
    (inRole .alone []).role ≠ .standby ∧ (∀ g, g < 8 → (inRole .alone []).phase g ≠ 5 ∧ (inRole .alone []).phase g ≠ 6) := by decide

/-- A small package of one section; it names no other. -/
def onePk (ty : Nat) (body : List Byte) : List Byte :=
  leBytes 10 0 ++ leBytes 2 1 ++ leBytes 116 0 ++ leBytes 2 ty ++ leBytes 6 0 ++ leBytes 4 144 ++ leBytes 4 body.length ++ body
/-- A transfer of 8 bytes from Grove 0 to Grove 7, and initial content of Grove 7. -/
def tmapPk : List Byte := onePk 4 (leBytes 4 0 ++ leBytes 4 0x07000000 ++ leBytes 2 8 ++ leBytes 1 0 ++ leBytes 1 0 ++ leBytes 4 0)
def initPk : List Byte := onePk 3 (leBytes 4 0x07000000 ++ leBytes 4 8 ++ leBytes 8 1)
/-- A module with a set in staging and Groves 0 and 7 ON. -/
def staging (st : Nat) (pk : List Byte) (l : List (Nat × Fld × Nat)) : State :=
  { inRole .alone ([(CHG_STATE, CHG_STATE_STATE, st), (GRV_EN 0, U_STATE, 2), (GRV_EN 7, U_STATE, 2)] ++ l) with chg := { ChgSt.idle with staged := pk } }

/-- StagingResults: the transfer engine admitted and denied, in the read of a package, the initial content and the transfer map. -/
theorem test_witness_StagingResults_transfers :
    (teRead (chgAcc (inRole .alone [])) 0x0800000000 0).1 = .ok [] ∧
    ((teRead (chgAcc (inRole .alone [])) 0x0800000000 8).1.toOption = none) ∧
    (let s := openGate (inRole .alone [(RDY_VEC, RDY_VEC_UNITS, 4)]) 20
     teRead (chgAcc s) 0x0800000000 8 |>.1 |>.toOption |> fun x => x = some (leBytes 8 0)) ∧
    (placeBanks (staging 2 initPk []) initPk).2 = false ∧ (placeBanks (openGate (staging 2 initPk []) 9) initPk).2 = true ∧
    (placeBanks (staging 2 [] []) []).2 = true ∧
    (let x := tmPass false (staging 3 tmapPk []); x.2 = false ∧ x.1.chgState = 3) ∧
    (let s := openGate (openGate (staging 3 tmapPk []) 2) 9
     let x := tmPass false s
     x.2 = true ∧ x.1.chgState = 3 ∧ s.chg.teDown = false ∧
     ∃ r, pkgTmap s.chg.staged = [r] ∧ r.kind = 0 ∧ tmServes s r = true ∧ s.ecc = [] ∧
       ∀ p ∈ pieces (bankAddr s false (tmGrove r.src) (tmOff r.src)) r.count, admitted s .read (teXfer s) p.1 p.2 = true ∧
         ∀ y ∈ pieces (bankAddr s true (tmGrove r.dst) (tmOff r.dst) + (p.1 - bankAddr s false (tmGrove r.src) (tmOff r.src))) p.2,
           admitted s .write (teXfer s) y.1 y.2 = true) := by
  refine ⟨by decide, by decide, by decide, by decide +kernel, by decide +kernel, by decide +kernel, by decide +kernel, by decide +kernel, by decide +kernel,
    by decide +kernel, ⟨0, 0x07000000, 8, 0, 1, 1, 0⟩, by decide +kernel⟩

/-- StagingResults: a Grove that is still starting, what a save holds, and a package that a joining module takes. -/
theorem test_witness_StagingResults_more :
    (let s := (staging 2 [] [(GRV_EN 7, U_STATE, 1), (TSQ_CLASS_CFG 1 15, TSQ_CLASS_CFG_EN, 1)]).rset (TSQ_CLASS_ENG_HI 1 15) 0x80000000#32
     s.chgState = 2 ∧ groveStarts s = true) ∧ groveStarts checking = false ∧
    (let s := { inRole .alone [] with chg := { ChgSt.idle with saving := true, joinSave := true } }
     s.chg.saving = true ∧ s.chg.joinSave = true ∧ s.boot.write = none ∧ s.chg.canopy.length ≤ 67104768) ∧
    (let s := { inRole .alone [] with chg := { ChgSt.idle with saving := true } }
     s.chg.saving = true ∧ s.chg.joinSave = false ∧ s.boot.write = none) ∧
    (let s := paired .standby [] fun p => { p with taking := true, hello := some (hello0 5) }
     s.pair.taking = true ∧ s.pair.helloDue = false ∧ s.pair.hello = some (hello0 5) ∧ (inRole .standby []).pair.taking = false ∧
     (inRole .standby []).role = .standby ∧ (inRole .standby []).chgState = 0) := by
  decide +kernel

/-- AnnouncementResults: an exchange window that runs, none, and a decision whose copy is admitted. -/
theorem test_witness_AnnouncementResults_clauses :
    (let s := paired .active (laneOn ++ [(PAR_OUTEND 0, PAR_OUTEND_END, 1)]) fun p => { p with ownOut := some (outDig0 24) }
     inExchange s = true ∧ laneOf s ≠ none) ∧ inExchange (inRole .active laneOn) = false ∧
    (let s := { inRole .alone [(CHG_STATE, CHG_STATE_STATE, 5)] with chg := { ChgSt.idle with vote := true } }
     applyNow s = true ∧ (tmPass true (if pkgRelease s.chg.staged then dropOrphans s else s)).1.chgState = 5) := by decide +kernel

/-- RingFrames: THRU frames at a module, in time and late, a datagram that repeats, a looped port of a station, and the end of a segment. -/
theorem test_witness_RingFrames_thru :
    (let d : Dgram := ⟨2, 5, 5, 1, leBytes 5 1⟩
     let f := fr T_THRU (dgramBytes d) fun f => { f with pos := true }
     let s := ringed [] fun r => { r with inSeg := true }
     headerBad f = false ∧ crcGood f = true ∧ receives s 0 .module false = true ∧ modLoop s 0 false = false ∧ f.pos ≠ s.posB ∧
     (s.ring 0).sched = some sch ∧ dgramsOf 4096 f.payload = [d] ∧ (dgramsOf 4096 f.payload).any dgServed = true ∧ f.ring.toNat = 0 ∧ f.seq = seqNow s ∧
     s.seq.agree = false ∧ nowU s < inEnd s 0 ∧ (s.ring 0).thruAcc = []) ∧
    (let s := ringed [] fun r => { r with inSeg := true, thruAcc := [(5, 0)] }
     ∃ e ∈ (s.ring 0).thruAcc, e.1 = (5#8 : Byte).toNat) ∧
    (let s := { ringed [] id with seq := { (ringed [] id).seq with agree := true } }
     s.seq.agree = true) ∧
    looped (stationed fun x => { x with rxA := { x.rxA with loop := true } }) 0 (.station 0) false = true ∧
    looped (stationed id) 0 (.station 0) true = false ∧ (stationed id |>.stn 0 0).number ≠ 0xFE ∧
    (let s := ringed [] fun r => { r with inSeg := true }
     (wireU 5 + 79) / 80 * 80 + wireU 5 < inEnd s 0 ∧ ¬ inEnd s 0 * 80 + wireU 5 < inEnd s 0) := by
  refine ⟨by decide, ⟨(5, 0), ?_⟩, by decide, by decide, by decide, by decide, by decide⟩
  decide

/-- RingServices: requests and answers whole and in two fragments, asked for or not; probes due or not; a long message; a station with both ports in
loopback. -/
theorem test_witness_RingServices_clauses :
    (let a : Dyn := ⟨0x40, 1, 1, 0, true, [0#8]⟩
     let b : Dyn := ⟨0x40, 1, 1, 1, false, [1#8]⟩
     let s := stationed fun x => { x with box := { DynBox.empty with inbox := [a, b] } }
     (s.stn 0 0).box.inbox = a :: b :: [] ∧ a.svc = 1#8 ∧ a.frag = 0 ∧ a.more = true ∧ b.src = a.src ∧ b.tid = a.tid ∧ b.svc = a.svc ∧ b.frag = 1 ∧
     b.more = false) ∧
    (let a : Dyn := ⟨5, 5, 1, 0, true, [0#8]⟩
     let b : Dyn := ⟨5, 5, 1, 1, false, [1#8]⟩
     let s := ringed [] fun r => { r with box := { DynBox.empty with inbox := [a, b], asked := [1] } }
     (s.ring 0).box.inbox = a :: b :: [] ∧ a.svc = 5#8 ∧ a.tid = 1#16 ∧ (1#16).toNat ∈ (s.ring 0).box.asked ∧ (2#16).toNat ∉ (s.ring 0).box.asked) ∧
    (∀ r ∈ (stn5.box.inbox), r.svc = 1#8 → r.frag ≠ 0) ∧
    probeDue (ringed [] id) 0 .module = true ∧ probeDue (stationed id) 0 (.station 0) = true ∧
    (let s := { ringed [] id with seq := { (ringed [] id).seq with tick := 1 } }
     probeDue s 0 .module = false) ∧ probeDue (stationed fun x => { x with tick := some 1 }) 0 (.station 0) = false ∧
    (let m : Dyn := ⟨0x40, 1, 1, 0, false, List.replicate 57 0#8⟩
     let s := ringed [] fun r => { r with box := { DynBox.empty with outbox := [(5#8, m)] } }
     (s.ring 0).sched = some sch ∧ (s.ring 0).box.outbox = [(5#8, m)] ∧ 8 < sch.dynMax ∧ sch.dynMax < 8 + m.data.length ∧ modLoop s 0 false = false) ∧
    (let m : Dyn := ⟨5, 1, 5, 0, false, []⟩
     let s := stationed fun x => { x with rxA := { x.rxA with loop := true }, rxB := { x.rxB with loop := true },
                                          box := { DynBox.empty with outbox := [(0x40#8, m)] } }
     (s.stn 0 0).sends = true ∧ (s.stn 0 0).box.outbox = [(0x40#8, m)] ∧ 8 + m.data.length ≤ (s.stn 0 0).cfg 26 2 8 ∧
     ∀ p, looped s 0 (.station 0) p = true) := by decide

/-- RingControl: a port whose line is taken, by a frame of either kind, and one whose line is free; the healed launch; held outputs without a bank. -/
theorem test_witness_RingControl_clauses :
    (let up : List (Nat × Fld × Nat) := [(VGX_LINK 0, VGX_LINK_S_SIG, 1), (VGX_LINK 0, VGX_LINK_S_SYNC, 1)]
     let taken (b : Bool) : State := setLine (ringed up id) 0 .module false (some (1000, b))
     mayTransmit (taken true) 0 .module false = true ∧ lineNow (taken true) 0 .module false = some (1000, true) ∧
     lineNow (taken false) 0 .module false = some (1000, false) ∧ lineNow (ringed up id) 0 .module false = none) ∧
    receives State.reset 0 .module true = false ∧ ssrBank Station.powerUp = none ∧ Station.powerUp.lastBank = none ∧
    (let st := { stn5 with schedId := 7, lastBank := ssrBank stn5 }
     ssrBank st = none ∧ st.took = none ∧ st.slave = none ∧ st.heldOuts = [⟨4, true, 5, 1000, 1000⟩]) := by decide +kernel

/-- RingControl: a module that sends no THRU frame of its own yet on a healed ring. -/
theorem test_witness_RingControl_healed :
    (let s := { ringed [(VGX_RMODE 0, VGX_RMODE_MODE, 1), (VGX_RMODE 0, VGX_RMODE_HEALED, 1), (PAR_STATUS, PAR_STATUS_ROLE, roleCode .standby)]
                  (fun r => { r with sIn := 1 }) with seq := { State.reset.seq with gate := .safe } }
     (ringThru s 0 = true ∧ ringPhase s 0 < 2 ∧ (s.ring 0).sched = some sch ∧ s.role.master = false ∧ s.on (VGX_RMODE 0) VGX_RMODE_HEALED = true ∧
      (s.ring 0).thruIn = false ∧ s.on (VGX_RMODE 0) VGX_RMODE_CEDED = false) ∧
     nowU s < (s.ring 0).sIn + leadU sch + dMl s 0 (backplaneOnly s 0)) := by
  intro s
  have a : nowU s = 0 ∧ (s.ring 0).sIn = 1 := by decide
  exact ⟨by decide, by rw [a.1, a.2]; omega⟩

/-- RingControl: a station's message with no port to leave by, and a comms loss that is due. -/
theorem test_witness_RingControl_held :
    (let st := (stationed fun x => { x.setSlot 4 { StnSlot.idle with miss := 1 } with lastBank := ssrBank stn5 }).stn 0 0
     (∃ e ∈ st.heldOuts, e.num = (4#10).toNat) ∧ st.bankCfg st.heldBank 3 1 1 ≤ (st.slot 4).miss ∧ (st.slot 4).comms = false ∧
     st.bankCfg st.heldBank 4 1 0 = 1) ∧ ¬ (∃ e ∈ Station.powerUp.heldOuts, e.num = (4#10).toNat) := by decide

/-- NetworkAndCanResults: tests that run still, PAUSE for the group address and the port's own, a CAN FD frame refused, a controller that stops. -/
theorem test_witness_NetworkAndCan_clauses :
    testsDone (wired [] id) (.eth 0) = true ∧ testsDone (wired [(LSC_CMP 96, LSC_CMP_BUSY, 1)] id) (.eth 0) = false ∧
    (let x := rxf [1#8, 0x80#8, 0xC2#8, 0#8, 0#8, 1#8] [0x88#8, 8#8, 0#8, 1#8] 44
     ¬ x.length < 64 ∧ leVal (x.drop (x.length - 4)) = (crc32 (x.take (x.length - 4))).toNat ∧ etherType (x.take 60) = 0x8808 ∧ be (x.take 60) 14 2 = 1 ∧
     be (x.take 60) 0 6 = 0x0180C2000001) ∧
    (let x := rxf (leBytes 6 0) [0x88#8, 8#8, 0#8, 1#8] 44
     (x.take 60).take 6 = ownMac (wired [] id) 0) ∧
    (let s := canned [(CAN_CFG 0, CAN_CFG_FDE, 0)] id
     { canFrame0 [] with fdf := true }.fdf = true ∧ s.on (CAN_CFG 0) CAN_CFG_FDE = false ∧ s.isOn (.can 0) = true ∧
     s.rd (CAN_STATUS 0) CAN_STATUS_ESTATE ≠ 2 ∧ (canFrame0 []).fdf = false) ∧
    (let s := mk [(CAN_EN 0, U_STATE, 3), (CAN_STATUS 0, CAN_STATUS_ESTATE, 1)]
     s.isOn (.can 0) = false ∧ s.unitState (.can 0) = 3 ∧ s.rd (CAN_STATUS 0) CAN_STATUS_ESTATE = 1) ∧
    (let s := canned [] fun c => { c with onBus := some 5 }
     (s.canSt 0).onBus = some (5 : Fin 128).val ∧ s.on (CAN_CFG 0) CAN_CFG_LOOPBACK = false ∧ s.on (CAN_MB_CTRL 0 5) CAN_MB_CTRL_TXREQ = true ∧
     (s.canSt 0).abort = false) := by decide

/-- LocalChannelResults: no re-arm window ends, and one does; a channel that is starting when its supply goes low. -/
theorem test_witness_LocalChannel_clauses :
    (State.reset.lioGrp 0).rise = none ∧
    (let s := State.reset.setLioGrp 0 fun g => { g with rise := some 0 }
     (s.lioGrp 0).rise = some 0 ∧ s.clk.mono < 0 + 100000000) ∧
    (let s := mk [(LIO_EN 31, U_STATE, 1)]
     s.unitState (.lio 31) = 1 ∧ lioGroup 31 = 1 ∧ s.on (LIO_GRP_STAT 1) LIO_GRP_STAT_LOW = false) := by decide

/-- UnitResults: the instant at which a stop completes, a domain that is cycled, ports that stop, and what still depends on them. -/
theorem test_witness_UnitResults_clauses :
    (let u := UnitId.eth 0
     let s := (mk [(ETH_EN 0, U_STATE, 1)]).setUnit (ETH_EN 0) { State.reset.unit (ETH_EN 0) with stopped := some 0 }
     s.unitState u = 1 ∧ (s.unit (enAddr u)).stopped = some s.clk.mono) ∧ (State.reset.unit (ETH_EN 0)).stopped ≠ some State.reset.clk.mono ∧
    (let u := UnitId.domain 7
     let s := mk [(GRV_STATUS 7, GRV_STATUS_PHASE, 2)]
     u = .domain ⟨(7 : Fin 8).val, by omega⟩ ∧ s.phase 7 = 2 ∧ s.unitState (.grove 7) = 0 ∧ s.unitState u = 0 ∧ offTimeOver s u = true) ∧
    (let s := mk [(ETH_EN 0, U_STATE, 3)]
     s.unitState (.eth 0) = 3 ∧ (s.port 0).medium = none ∧ s.on (ETH_EN 0) U_PEND = false ∧ dependantsOff s (.eth 0) = true) ∧
    dependantsOff (mk [(ETH_EN 0, U_STATE, 3), (ETH_RING_EN 0 0, U_STATE, 3)]) (.eth 0) = false ∧
    ((State.reset.setNet 0 fun p => { p with medium := some (txf none) }).port 0).medium ≠ none ∧
    (let s := mk [(PWR_EN 11, U_STATE, 3), (PWR_EN 11, U_PEND, 1)]
     let u := UnitId.domain 11
     (∀ g, u ≠ .grove g) ∧ (∀ n, u ≠ .can n) ∧ (∀ n, u ≠ .eth n) ∧ (∀ n r, u ≠ .ring n r) ∧ s.unitState u = 3 ∧ dependantsOff s u = true ∧
     s.on (PWR_EN 11) U_PEND = true ∧ parentOn s u = true) := by decide

/-- BootResults: no slot is marked, a module that is retired, an image of the set that boots. -/
theorem test_witness_BootResults_boot :
    (∀ q, q < 5 → ∀ d, d < 2 → slotMark State.reset q d = false) ∧ State.reset.pwr.held = 0 ∧
    (let s := norSet State.reset 1 (slotOff 1 + 4092) (leBytes 4 markWord)
     slotMark s 1 1 = true ∧ slotField s 1 1 72 4 = 0xFFFFFFFF ∧ slotMark s 1 0 = false) ∧
    State.reset.boot.write = none := by decide

/-- PowerResults: powered and dark, with the other feed in range, and the states that hold the module. -/
theorem test_witness_PowerResults_clauses :
    (let s := mk [(PWR_STATUS, feedOk 1, 1)]
     s.pwr.held ≠ 4 ∧ s.pwr.enable = true ∧ s.pwr.ramp = false ∧ s.on PWR_STATUS PWR_STATUS_PFW = false ∧ s.on PWR_STATUS (feedOk 1) = true ∧
     1850 ≤ (1850#16).toNat) ∧
    (let held (n : Nat) : State := { State.reset with pwr := { State.reset.pwr with held := n } }
     (held 4).pwr.held = 4 ∧ (held 2).pwr.held ≠ 1 ∧ (held 2).pwr.held ≠ 4) := by decide

end Sys2Proof.Tests
end

section
/-! The write of a register's fields, bit by bit (00 R5, R9, R10). -/

namespace Sys2Proof.Machine

open Sys2Proof

/-! ### Bits of a word and of its fields -/

theorem wbit_eq_testBit (w i : Nat) : wbit w i = w.testBit i := by
  rw [wbit, Nat.testBit_eq_decide_div_mod_eq, Bool.beq_eq_decide_eq]

theorem testBit_bitsOf (w : Word) (f : Fld) (i : Nat) :
    (bitsOf w f).testBit i = (decide (i < f.hi + 1 - f.lo) && w.getLsbD (f.lo + i)) := by
  rw [bitsOf, Nat.testBit_mod_two_pow, Nat.testBit_div_two_pow, BitVec.testBit_toNat, Nat.add_comm f.lo]

/-- A field's value depends on the bits of the field only. -/
theorem bitsOf_congr {w x : Word} {f : Fld} (h : ∀ i, f.lo ≤ i → i ≤ f.hi → w.getLsbD i = x.getLsbD i) : bitsOf w f = bitsOf x f := by
  refine Nat.eq_of_testBit_eq fun i => ?_
  rw [testBit_bitsOf, testBit_bitsOf]
  by_cases hi : i < f.hi + 1 - f.lo
  · rw [h (f.lo + i) (by omega) (by omega)]
  · simp [hi]

theorem getLsbD_setBits (w : Word) (f : Fld) (v i : Nat) (h : f.lo ≤ f.hi) (h32 : f.hi < 32) :
    (setBits w f v).getLsbD i = if f.lo ≤ i ∧ i ≤ f.hi then v.testBit (i - f.lo) else w.getLsbD i := by
  have hp : (2 : Nat) ^ (f.hi + 1) = 2 ^ f.lo * 2 ^ (f.hi + 1 - f.lo) := by rw [← pow_add]; congr 1; omega
  have split : (setBits w f v).toNat
      = 2 ^ f.lo * (2 ^ (f.hi + 1 - f.lo) * (w.toNat / 2 ^ (f.hi + 1)) + v % 2 ^ (f.hi + 1 - f.lo)) + w.toNat % 2 ^ f.lo := by
    rw [setBits_toNat w f v h h32, hp]; ring
  rw [← BitVec.testBit_toNat, split, Nat.testBit_two_pow_mul_add _ (Nat.mod_lt _ (by positivity)),
    Nat.testBit_two_pow_mul_add _ (Nat.mod_lt _ (by positivity)), Nat.testBit_mod_two_pow, Nat.testBit_mod_two_pow,
    Nat.testBit_div_two_pow, BitVec.testBit_toNat, BitVec.testBit_toNat]
  by_cases h1 : i < f.lo
  · simp [h1, show ¬ f.lo ≤ i by omega]
  · by_cases h2 : i ≤ f.hi
    · simp [h1, h2, show i - f.lo < f.hi + 1 - f.lo by omega, show f.lo ≤ i by omega]
    · simp [h1, h2, show ¬ i - f.lo < f.hi + 1 - f.lo by omega, show i - f.lo - (f.hi + 1 - f.lo) + (f.hi + 1) = i by omega]

/-- The bits of a mask that holds a field's value and nothing else. -/
theorem getLsbD_mask (f : Fld) (v i : Nat) (h : f.lo ≤ f.hi) (h32 : f.hi < 32) :
    (setBits 0#32 f v).getLsbD i = (decide (f.lo ≤ i ∧ i ≤ f.hi) && v.testBit (i - f.lo)) := by
  rw [getLsbD_setBits 0#32 f v i h h32]
  by_cases hi : f.lo ≤ i ∧ i ≤ f.hi <;> simp [hi]

theorem bitsOf_setBits_bitsOf (w v : Word) (f : Fld) (h : f.lo ≤ f.hi) (h32 : f.hi < 32) :
    bitsOf (setBits w f (bitsOf v f)) f = bitsOf v f := by
  rw [bitsOf_setBits_same w f _ h h32, Nat.mod_eq_of_lt (bitsOf_lt v f)]

theorem getLsbD_and_not (w m : Word) (i : Nat) : (w &&& ~~~m).getLsbD i = (w.getLsbD i && !m.getLsbD i) := by
  by_cases h : i < 32
  · rw [BitVec.getLsbD_and, BitVec.getLsbD_not, decide_eq_true h, Bool.true_and]
  · simp [BitVec.getLsbD_of_ge _ i (Nat.le_of_not_lt h)]

/-- A one-bit field reads its bit. -/
theorem bitsOf_bit (w : Word) (i : Nat) : bitsOf w ⟨i, i⟩ = (w.getLsbD i).toNat := by
  rw [← BitVec.testBit_toNat, Nat.toNat_testBit, bitsOf, Nat.add_sub_cancel_left, pow_one]

/-! ### One field of a register -/

/-- Every field lies in the word, and no two fields share a bit. -/
def fieldsApart (fs : List FieldDef) : Bool :=
  fs.all (fun f => decide (f.lo ≤ f.hi ∧ f.hi < 32)) && decide (fs.Pairwise fun f g => f.hi < g.lo ∨ g.hi < f.lo)

theorem fieldsApart_iff (fs : List FieldDef) :
    fieldsApart fs = true ↔ (∀ f ∈ fs, f.lo ≤ f.hi ∧ f.hi < 32) ∧ fs.Pairwise fun f g => f.hi < g.lo ∨ g.hi < f.lo := by
  simp [fieldsApart]

/-- What a write of x leaves in a field that holds old and takes the write (00 R5, R9, R10). -/
def fieldTaken (locked : Bool) (f : FieldDef) (x old : Nat) : Nat :=
  match f.acc with
  | .rw => if rngOk f x then x else old
  | .rwl => if !locked && rngOk f x then x else old
  | .w1c => Nat.ldiff old x
  | .w1s => old ||| x
  | _ => old

theorem bitsOf_fieldWritten (locked : Bool) (v w : Word) (f : FieldDef) (h : f.lo ≤ f.hi) (h32 : f.hi < 32) :
    bitsOf (fieldWritten locked v w f) ⟨f.hi, f.lo⟩ = fieldTaken locked f (bitsOf v ⟨f.hi, f.lo⟩) (bitsOf w ⟨f.hi, f.lo⟩) := by
  have same := bitsOf_setBits_bitsOf w v ⟨f.hi, f.lo⟩ h h32
  have mask := getLsbD_mask ⟨f.hi, f.lo⟩ (bitsOf v ⟨f.hi, f.lo⟩)
  unfold fieldWritten fieldTaken
  cases f.acc with
  | rw => dsimp only; split <;> [exact same; rfl]
  | rwl => dsimp only; split <;> [exact same; rfl]
  | w1c =>
    refine Nat.eq_of_testBit_eq fun i => ?_
    rw [Nat.testBit_ldiff, testBit_bitsOf, testBit_bitsOf, getLsbD_and_not]
    by_cases hi : i < f.hi + 1 - f.lo
    · have hr : f.lo + i ≤ f.hi := by omega
      simp [hi, mask _ h h32, hr]
    · simp [hi]
  | w1s =>
    refine Nat.eq_of_testBit_eq fun i => ?_
    rw [Nat.testBit_or, testBit_bitsOf, testBit_bitsOf]
    by_cases hi : i < f.hi + 1 - f.lo
    · have hr : f.lo + i ≤ f.hi := by omega
      simp [hi, mask _ h h32, hr]
    · simp [hi, testBit_bitsOf]
  | ro => rfl
  | wo => rfl
  | rc => rfl

/-- A bit outside a field keeps its value when the field is written. -/
theorem getLsbD_fieldWritten_outside (locked : Bool) (v w : Word) (f : FieldDef) (h : f.lo ≤ f.hi) (h32 : f.hi < 32) {i : Nat}
    (hi : i < f.lo ∨ f.hi < i) : (fieldWritten locked v w f).getLsbD i = w.getLsbD i := by
  have hn : ¬ (f.lo ≤ i ∧ i ≤ f.hi) := by omega
  have field : ∀ x, (setBits w ⟨f.hi, f.lo⟩ x).getLsbD i = w.getLsbD i := fun x => by
    rw [getLsbD_setBits w _ x i h h32, if_neg hn]
  have mask : ∀ x, (setBits 0#32 ⟨f.hi, f.lo⟩ x).getLsbD i = false := fun x => by
    rw [getLsbD_mask _ x i h h32, decide_eq_false hn, Bool.false_and]
  unfold fieldWritten
  cases f.acc with
  | rw => dsimp only; split <;> [exact field _; rfl]
  | rwl => dsimp only; split <;> [exact field _; rfl]
  | w1c => dsimp only; rw [getLsbD_and_not, mask, Bool.not_false, Bool.and_true]
  | w1s => simp [mask]
  | ro => rfl
  | wo => rfl
  | rc => rfl

/-! ### All fields of a register -/

/-- The word that a write of v leaves in a register of these fields; ok says which fields take the write. -/
def fieldsWritten (locked : Bool) (ok : Fld → Bool) (v : Word) (fs : List FieldDef) (w : Word) : Word :=
  fs.foldl (fun w f => if ok ⟨f.hi, f.lo⟩ then fieldWritten locked v w f else w) w

theorem getLsbD_fieldsWritten_outside (locked : Bool) (ok : Fld → Bool) (v : Word) {i : Nat} (fs : List FieldDef) (w : Word)
    (hf : ∀ f ∈ fs, f.lo ≤ f.hi ∧ f.hi < 32) (hi : ∀ f ∈ fs, i < f.lo ∨ f.hi < i) :
    (fieldsWritten locked ok v fs w).getLsbD i = w.getLsbD i := by
  induction fs generalizing w with
  | nil => rfl
  | cons f fs ih =>
    rw [List.forall_mem_cons] at hf hi
    refine (ih _ hf.2 hi.2).trans ?_
    dsimp only
    split
    · exact getLsbD_fieldWritten_outside locked v w f hf.1.1 hf.1.2 hi.1
    · rfl

/-- The fields before f and those after it leave f's bits alone, so f holds what its own write leaves. -/
theorem bitsOf_fieldsWritten (locked : Bool) (ok : Fld → Bool) (v : Word) (fs : List FieldDef) (w : Word) {f : FieldDef} (hf : f ∈ fs)
    (hw : fieldsApart fs = true) :
    bitsOf (fieldsWritten locked ok v fs w) ⟨f.hi, f.lo⟩ =
      if ok ⟨f.hi, f.lo⟩ then fieldTaken locked f (bitsOf v ⟨f.hi, f.lo⟩) (bitsOf w ⟨f.hi, f.lo⟩) else bitsOf w ⟨f.hi, f.lo⟩ := by
  obtain ⟨pre, post, rfl⟩ := List.append_of_mem hf
  obtain ⟨hin, hap⟩ := (fieldsApart_iff _).1 hw
  obtain ⟨-, hap, hpre⟩ := List.pairwise_append.1 hap
  have outside : ∀ (gs : List FieldDef) (x : Word), gs ⊆ pre ++ f :: post → (∀ g ∈ gs, f.hi < g.lo ∨ g.hi < f.lo) →
      bitsOf (fieldsWritten locked ok v gs x) ⟨f.hi, f.lo⟩ = bitsOf x ⟨f.hi, f.lo⟩ := fun gs x hgs hg =>
    bitsOf_congr fun i h1 h2 => getLsbD_fieldsWritten_outside locked ok v gs x (fun g h => hin g (hgs h))
      fun g h => by have := hg g h; dsimp only at h1 h2; omega
  have before := outside pre w (List.subset_append_left _ _) fun g h => (hpre g h f List.mem_cons_self).symm
  have after := fun x => outside post x (fun g h => by simp [h]) fun _ => List.rel_of_pairwise_cons hap
  have step : fieldsWritten locked ok v (pre ++ f :: post) w = fieldsWritten locked ok v post
      (if ok ⟨f.hi, f.lo⟩ then fieldWritten locked v (fieldsWritten locked ok v pre w) f else fieldsWritten locked ok v pre w) := by
    simp [fieldsWritten, List.foldl_append]
  rw [step, after]
  split
  · rw [bitsOf_fieldWritten locked v _ f (hin f hf).1 (hin f hf).2, before]
  · exact before

/-- The fields of every register of the table lie in its word and share no bit. -/
theorem regTable_fieldsApart : regTable.all (fun r => fieldsApart r.fields) = true := by decide +kernel

theorem regDef?_fieldsApart {a : Nat} {r : RegDef} (h : regDef? a = some r) : fieldsApart r.fields = true :=
  List.all_eq_true.1 regTable_fieldsApart r (regDef?_some h).1

/-! ### A write of a register of the table -/

section StoreFields

variable {a : Nat} {r : RegDef} (h : regDef? a = some r) (locked : Bool) (ok : Fld → Bool) (v : Word) (s : State)
include h

theorem storeFields_eq : storeFields a locked ok v s = s.rset a (fieldsWritten locked ok v r.fields (s.rget a)) := by
  rw [storeFields, h]; rfl

theorem storeFields_onlyRegs : OnlyRegs [a] s (storeFields a locked ok v s) := by
  rw [storeFields_eq h]
  exact ⟨rfl, fun b hb => rget_rset_ne s _ (List.ne_of_not_mem_cons hb)⟩

theorem rd_storeFields {f : FieldDef} (hf : f ∈ r.fields) :
    (storeFields a locked ok v s).rd a ⟨f.hi, f.lo⟩ =
      if ok ⟨f.hi, f.lo⟩ then fieldTaken locked f (bitsOf v ⟨f.hi, f.lo⟩) (s.rd a ⟨f.hi, f.lo⟩) else s.rd a ⟨f.hi, f.lo⟩ := by
  rw [storeFields_eq h, rd_rset_same]
  exact bitsOf_fieldsWritten locked ok v r.fields (s.rget a) hf (regDef?_fieldsApart h)

/-- Bits that belong to no field keep their value. -/
theorem getLsbD_storeFields_outside {i : Nat} (hi : ∀ f ∈ r.fields, i < f.lo ∨ f.hi < i) :
    ((storeFields a locked ok v s).rget a).getLsbD i = (s.rget a).getLsbD i := by
  rw [storeFields_eq h, rget_rset_same]
  exact getLsbD_fieldsWritten_outside locked ok v r.fields _ ((fieldsApart_iff _).1 (regDef?_fieldsApart h)).1 hi

/-- A register whose fields all keep their values keeps its word. -/
theorem rget_storeFields_of_rd
    (hk : ∀ f ∈ r.fields, (storeFields a locked ok v s).rd a ⟨f.hi, f.lo⟩ = s.rd a ⟨f.hi, f.lo⟩) :
    (storeFields a locked ok v s).rget a = s.rget a := by
  refine BitVec.eq_of_getLsbD_eq fun i _ => ?_
  by_cases hi : ∀ f ∈ r.fields, i < f.lo ∨ f.hi < i
  · exact getLsbD_storeFields_outside h locked ok v s hi
  · push Not at hi
    obtain ⟨f, hf, h1, h2⟩ := hi
    have bit := congrArg (Nat.testBit · (i - f.lo)) (hk f hf)
    simpa [State.rd, testBit_bitsOf, show i - f.lo < f.hi + 1 - f.lo by omega, show f.lo + (i - f.lo) = i by omega] using bit

end StoreFields

/-- Settles O31: the fields of a register of the table share no bit, so each field holds what its own access code leaves in it. -/
theorem fieldWriteRule : Obligations.FieldWriteRule := by
  unfold Obligations.FieldWriteRule
  intro a r f locked ok v s h hf
  have value := rd_storeFields h locked ok v s hf
  dsimp only
  refine ⟨storeFields_onlyRegs h locked ok v s, fun no => by simp [value, no], fun yes => ?_, fun i hi => ?_⟩
  · rw [if_pos yes] at value
    rw [value]
    refine ⟨fun e => by simp [fieldTaken, e], fun e => by simp [fieldTaken, e], fun e i => ?_, fun e i => ?_, ?_⟩
    · simp only [fieldTaken, e, wbit_eq_testBit, Nat.testBit_ldiff]
    · simp only [fieldTaken, e, wbit_eq_testBit, Nat.testBit_or]
    · rintro (e | e | e) <;> simp only [fieldTaken, e]
  · rw [wbit_eq_testBit, wbit_eq_testBit, BitVec.testBit_toNat, BitVec.testBit_toNat]
    exact getLsbD_storeFields_outside h locked ok v s hi

end Sys2Proof.Machine
end

section
/-! Register commands: which register stands at an address, and what a read and a write of it leave (00 R4 to R10, 15 R383). -/

namespace Sys2Proof.Machine

open Sys2Proof

/-! ### Copies of a register -/

theorem ix_above {a base st n : Nat} (hs : 0 < st) (h : base + n * st ≤ a) : ix a base st n = none := by
  refine dif_neg fun hit => ?_
  have := (Nat.div_lt_iff_lt_mul hs).1 hit.2.2
  omega

theorem ix2_below {a base : Nat} (st n st' m : Nat) (h : a < base) : ix2 a base st n st' m = none := dif_neg (by omega)

/-- An address between two copies holds none. -/
theorem ix2_between {a base st st' : Nat} (n m : Nat) (h : base ≤ a → (a - base) % st % st' ≠ 0) : ix2 a base st n st' m = none :=
  dif_neg fun hit => h hit.1 hit.2.1

/-- The address of copy j, i holds that copy. -/
theorem ix2_at {base st n st' m : Nat} (j : Fin n) (i : Fin m) (hm : m * st' ≤ st) (hs : 0 < st') :
    ix2 (base + j.val * st + i.val * st') base st n st' m = some (j, i) := by
  have hi : i.val * st' < st := (Nat.mul_lt_mul_of_pos_right i.isLt hs).trans_le hm
  have ho : base + j.val * st + i.val * st' - base = i.val * st' + j.val * st := by omega
  have hd : (i.val * st' + j.val * st) / st = j := by
    rw [Nat.add_mul_div_right _ _ (by omega), Nat.div_eq_of_lt hi, Nat.zero_add]
  have hr : (i.val * st' + j.val * st) % st = i.val * st' := by rw [Nat.add_mul_mod_self_right, Nat.mod_eq_of_lt hi]
  unfold ix2
  rw [dif_pos ⟨by omega, by rw [ho, hr, Nat.mul_mod_left], by rw [ho, hd]; exact j.isLt, by
    rw [ho, hr, Nat.mul_div_cancel _ hs]; exact i.isLt⟩]
  simp only [ho, hd, hr, Nat.mul_div_cancel _ hs]

/-! ### Reads of the network ports, the CAN controllers and the performance counters -/

/-- Whether a register is ready, by the bit of RDY_VEC that its unit has. (The kernel's own unfolding of regReady evaluates the unit's number by
counting down from the address, so the definition is unfolded under a variable.) -/
theorem regReady_eq (s : State) (a : Nat) : regReady s a = (readyBit a).elim true fun i => wbit (s.rget RDY_VEC).toNat i := by
  suffices h : ∀ f, f = regReady → f s a = (readyBit a).elim true fun i => wbit (s.rget RDY_VEC).toNat i from h _ rfl
  intro f hf
  delta regReady at hf
  subst hf
  beta_reduce
  generalize readyBit a = o
  cases o <;> rfl

section Reads

variable {a : Nat} (lo : 0x300380000 ≤ a) (hi : a < 0x300500000)

include lo in
/-- The registers of the lower blocks stand elsewhere. -/
theorem ne_of_lower {b : Nat} (hb : b < 0x300380000) : a ≠ b := by omega

include lo in
theorem ix_lower {base st n : Nat} (hs : 0 < st) (hb : base + n * st ≤ 0x300380000) : ix a base st n = none := ix_above hs (hb.trans lo)

include lo hi in
/-- No register there is a view that a unit computes. -/
theorem regView_none (s : State) : regView a s = none := by
  have gate : ∀ {b : Nat}, 0x300500000 ≤ b → a ≠ b := fun h => by omega
  have sum : ix a (LSC_SUM 0) 4 4 = none := ix_lower lo (by decide) (by decide)
  have status : ix a (ENG_STATUS 0) 0x400 64 = none := ix_lower lo (by decide) (by decide)
  have pc : ix a (ENG_PC_LO 0) 0x400 64 = none := ix_lower lo (by decide) (by decide)
  unfold regView
  rw [if_neg (not_or.2 ⟨ne_of_lower lo (by decide), ne_of_lower lo (by decide)⟩), if_neg (ne_of_lower lo (by decide)),
    if_neg (gate (by decide)), if_neg (gate (by decide)), if_neg (ne_of_lower lo (by decide)), if_neg (ne_of_lower lo (by decide)),
    if_neg (ne_of_lower lo (by decide)), sum, status, pc]
  rfl

include lo in
/-- No register there is one that the PTP stack reports. -/
theorem ptpView_none (s : State) : ptpView a s = none := by
  have delay : ix a (PTP_PDELAY 0) 4 4 = none := ix_lower lo (by decide) (by decide)
  unfold ptpView
  dsimp only
  rw [if_neg (ne_of_lower lo (by decide)), if_neg (ne_of_lower lo (by decide)), delay]
  rfl

include lo hi in
/-- A read of a register that returns its stored word. -/
theorem regRead_stored {m prv : Nat} {s : State} (ready : regReady s a = true) (user : 0x48 ≤ regBlock a → prv ≠ 0)
    (latched : isLatched a = false) : regRead m prv a s = (s.rget a, clearRc a (latchHi m a s)) := by
  have meas : ix a (LIO_MEAS 0) 0x20 32 = none := ix_lower lo (by decide) (by decide)
  have cnt : ix a (LIO_CNT 0) 0x20 32 = none := ix_lower lo (by decide) (by decide)
  unfold regRead
  rw [if_neg (by simp [ready]), if_neg fun u => user u.1 u.2.2.1, if_neg (by simp [latched]), if_neg (ne_of_lower lo (by decide)),
    if_neg (ne_of_lower lo (by decide)), if_neg (ne_of_lower lo (by decide)), if_neg (by simp [ptpView_none lo]), meas, cnt,
    regView_none lo hi]
  rfl

include lo in
/-- Only the counters' own _HI registers are latched there. -/
theorem isLatched_eq : isLatched a =
    ((ix2 a (PMC_VAL_HI 0 0) 0x10000 8 0x20 64).isSome || (ix2 a (PMC_SNAP_HI 0 0) 0x10000 8 0x20 64).isSome) := by
  have tick : ix a (GRV_FAULT_TICK_HI 0) 0x10000 8 = none := ix_lower lo (by decide) (by decide)
  have pc : ix a (ENG_PC_HI 0) 0x400 64 = none := ix_lower lo (by decide) (by decide)
  have single : [TIM_SEC_LO, TIM_SEC_HI, TIM_SHORT, TIM_RTC_SEC_HI, TIM_RTC_FRAC, TSQ_TICK_HI, PAR_SWAP_HI, LIO_SOE_STAMP].contains a
      = false := by
    rw [← Bool.not_eq_true, List.contains_iff_mem]
    intro h
    have : ∀ b ∈ [TIM_SEC_LO, TIM_SEC_HI, TIM_SHORT, TIM_RTC_SEC_HI, TIM_RTC_FRAC, TSQ_TICK_HI, PAR_SWAP_HI, LIO_SOE_STAMP],
      b < 0x300380000 := by decide
    exact ne_of_lower lo (this a h) rfl
  unfold isLatched
  rw [single, tick, pc]
  rfl

include lo in
/-- Only the counters' own _LO registers latch another register there. -/
theorem hiOf_eq (s : State) : hiOf a s =
    ((ix2 a (PMC_VAL_LO 0 0) 0x10000 8 0x20 64).map fun p => (PMC_VAL_HI p.1 p.2, s.rget (PMC_VAL_HI p.1 p.2))).or
      ((ix2 a (PMC_SNAP_LO 0 0) 0x10000 8 0x20 64).map fun p => (PMC_SNAP_HI p.1 p.2, s.rget (PMC_SNAP_HI p.1 p.2))) := by
  have tick : ix a (GRV_FAULT_TICK_LO 0) 0x10000 8 = none := ix_lower lo (by decide) (by decide)
  have pc : ix a (ENG_PC_LO 0) 0x400 64 = none := ix_lower lo (by decide) (by decide)
  unfold hiOf
  rw [if_neg (ne_of_lower lo (by decide)), if_neg (ne_of_lower lo (by decide)), tick, pc]
  generalize ix2 a (PMC_VAL_LO 0 0) 0x10000 8 0x20 64 = o
  cases o <;> rfl

end Reads

/-! ### Counters of a network port (12) -/

section EthCnt

variable (n : Fin 4) (i : Fin 8)

theorem ethCnt_range : 0x300380040 ≤ ETH_CNT n i ∧ ETH_CNT n i < 0x3003C0000 := by unfold ETH_CNT; omega

theorem regBlock_ethCnt : regBlock (ETH_CNT n i) = 0x38 + n.val := by unfold regBlock ETH_CNT; omega

theorem regDef?_ethCnt : ∀ (n : Fin 4) (i : Fin 8),
    regDef? (ETH_CNT n i) = some ⟨0x300380040, [(4, 0x10000), (8, 0x4)], [⟨31, 0, .rc, 0, .any⟩]⟩ := by decide

/-- A port's counters are ready with the network's bit of RDY_VEC (14 R373). -/
theorem regReady_ethCnt (s : State) : regReady s (ETH_CNT n i) = wbit (s.rget RDY_VEC).toNat 11 := by
  have bit : readyBit (ETH_CNT n i) = some 11 := by
    unfold readyBit
    dsimp only
    rw [regBlock_ethCnt, if_neg (by omega), if_neg (by omega), if_neg (by omega), if_neg (by omega), if_neg (by omega),
      if_neg (by omega), if_neg (by omega), if_neg (by omega), if_pos (by omega)]
  rw [regReady_eq, bit, Option.elim_some]

/-- A read of a counter that clears answers its value and leaves 0 (00 R5, R8). -/
theorem regRead_ethCnt (m prv : Nat) {s : State} (ready : wbit (s.rget RDY_VEC).toNat 11 = true) :
    regRead m prv (ETH_CNT n i) s = (s.rget (ETH_CNT n i), s.wr (ETH_CNT n i) ETH_CNT_COUNT 0) := by
  obtain ⟨lo, hi⟩ := ethCnt_range n i
  have lo : 0x300380000 ≤ ETH_CNT n i := by omega
  have below : ∀ (base : Nat), 0x3003C0000 ≤ base → ix2 (ETH_CNT n i) base 0x10000 8 0x20 64 = none := fun base h => ix2_below _ _ _ _ (by omega)
  have latched : isLatched (ETH_CNT n i) = false := by
    rw [isLatched_eq lo, below _ (by decide), below _ (by decide)]; rfl
  have latch : latchHi m (ETH_CNT n i) s = s := by
    unfold latchHi
    rw [hiOf_eq lo, below _ (by decide), below _ (by decide)]; rfl
  have clear : clearRc (ETH_CNT n i) s = s.wr (ETH_CNT n i) ETH_CNT_COUNT 0 := by
    unfold clearRc; rw [regDef?_ethCnt]; rfl
  rw [regRead_stored lo (by omega) (by rw [regReady_ethCnt, ready]) (fun h => by rw [regBlock_ethCnt] at h; omega) latched, latch, clear]

end EthCnt

theorem setBits_word_zero (w : Word) : setBits w ⟨31, 0⟩ 0 = 0#32 := by
  refine BitVec.eq_of_getLsbD_eq fun i hi => ?_
  rw [getLsbD_setBits _ _ _ _ (by decide) (by decide), if_pos (by dsimp only; omega), Nat.zero_testBit, BitVec.getLsbD_zero]

/-! ### Performance counters (15) -/

/-- A row of the register table none of whose fields clears on a read, or whose registers stand outside an address range. -/
def rowKept (lo hi : Nat) (r : RegDef) : Bool :=
  r.fields.all (fun f => f.acc != .rc) || decide (hi ≤ r.base) || (match r.dims with
    | [] => decide (r.base < lo)
    | (n, st) :: _ => decide (0 < st ∧ r.base + n * st ≤ lo))

/-- No register of the counters clears on a read. -/
theorem pmc_rowKept : regTable.all (rowKept 0x300480400 0x300500000) = true := by decide +kernel

theorem clearRc_of_fields {a : Nat} (s : State) (h : ∀ r, regDef? a = some r → ∀ f ∈ r.fields, f.acc ≠ .rc) : clearRc a s = s := by
  unfold clearRc
  cases e : regDef? a with
  | none => rfl
  | some r =>
    have kept : ∀ (fs : List FieldDef), (∀ f ∈ fs, f.acc ≠ .rc) →
        fs.foldl (fun t f => if f.acc = .rc then t.wr a ⟨f.hi, f.lo⟩ 0 else t) s = s := by
      intro fs hfs
      induction fs with
      | nil => rfl
      | cons f fs ih =>
        rw [List.forall_mem_cons] at hfs
        rw [List.foldl_cons, if_neg hfs.1]
        exact ih hfs.2
    exact kept r.fields (h r e)

theorem clearRc_pmc {a : Nat} (lo : 0x300480400 ≤ a) (hi : a < 0x300500000) (s : State) : clearRc a s = s := by
  refine clearRc_of_fields s fun r e => ?_
  obtain ⟨hr, base, hit⟩ := regDef?_some e
  have row := List.all_eq_true.1 pmc_rowKept r hr
  simp only [rowKept, Bool.or_eq_true, decide_eq_true_eq, List.all_eq_true, bne_iff_ne] at row
  rcases row with (row | row) | row
  · exact row
  · omega
  · rcases d : r.dims with _ | ⟨⟨n, st⟩, ds⟩ <;> rw [d] at row hit
    · simp only [dimsHit, beq_iff_eq, decide_eq_true_eq] at row hit
      omega
    · simp only [decide_eq_true_eq] at row
      have := dimsHit_lt n st ds _ row.1 hit
      omega

section PmcVal

variable (j : Fin 8) (i : Fin 64)

theorem pmcVal_range : 0x300480400 ≤ PMC_VAL_LO j i ∧ PMC_VAL_LO j i + 4 = PMC_VAL_HI j i ∧ PMC_VAL_HI j i < 0x300500000 := by
  unfold PMC_VAL_LO PMC_VAL_HI; omega

theorem ix2_pmcValLo : ix2 (PMC_VAL_LO j i) (PMC_VAL_LO 0 0) 0x10000 8 0x20 64 = some (j, i) := ix2_at j i (by decide) (by decide)

theorem ix2_pmcValHi : ix2 (PMC_VAL_HI j i) (PMC_VAL_HI 0 0) 0x10000 8 0x20 64 = some (j, i) := ix2_at j i (by decide) (by decide)

/-- The counters are always ready (14 R373). -/
theorem regReady_pmc {a : Nat} (lo : 0x300480000 ≤ a) (hi : a < 0x300500000) (s : State) : regReady s a = true := by
  have blk : 0x48 ≤ regBlock a ∧ regBlock a ≤ 0x4F := by unfold regBlock; omega
  have noBit : readyBit a = none := by
    unfold readyBit
    dsimp only
    rw [if_neg (by omega), if_neg (by omega), if_neg (by omega), if_neg (by omega), if_neg (by omega), if_neg (by omega),
      if_neg (by omega), if_neg (by omega), if_neg (by omega), if_neg (by omega), if_neg (by omega)]
  rw [regReady_eq, noBit, Option.elim_none]

/-- A read of a counter's _LO register latches its _HI value for the reading master (15 R383). -/
theorem regRead_pmcValLo (m : Master) {prv : Nat} (hp : prv ≠ 0) (s : State) :
    regRead m prv (PMC_VAL_LO j i) s =
      (s.rget (PMC_VAL_LO j i), s.setLatch m (PMC_VAL_HI j i) (s.rget (PMC_VAL_HI j i))) := by
  obtain ⟨lo, next, top⟩ := pmcVal_range j i
  have hi : PMC_VAL_LO j i < 0x300500000 := by omega
  have latched : isLatched (PMC_VAL_LO j i) = false := by
    rw [isLatched_eq (by omega), ix2_between _ _ (by unfold PMC_VAL_LO PMC_VAL_HI; omega),
      ix2_between _ _ (by unfold PMC_VAL_LO PMC_SNAP_HI; omega)]
    rfl
  have self : masterOf m = m := Fin.ext (Nat.mod_eq_of_lt m.isLt)
  have latch : latchHi m (PMC_VAL_LO j i) s = s.setLatch m (PMC_VAL_HI j i) (s.rget (PMC_VAL_HI j i)) := by
    unfold latchHi
    rw [hiOf_eq (by omega), ix2_pmcValLo, self]
    rfl
  rw [regRead_stored (by omega) hi (regReady_pmc (by omega) hi s) (fun _ => hp) latched, latch, clearRc_pmc lo hi]

/-- A read of the _HI register returns what the master has latched. -/
theorem regRead_pmcValHi (m : Master) {prv : Nat} (hp : prv ≠ 0) (s : State) :
    regRead m prv (PMC_VAL_HI j i) s = (s.getLatch m (PMC_VAL_HI j i), s) := by
  obtain ⟨lo, next, hi⟩ := pmcVal_range j i
  have ready : regReady s (PMC_VAL_HI j i) = true := regReady_pmc (by omega) hi s
  have latched : isLatched (PMC_VAL_HI j i) = true := by rw [isLatched_eq (by omega), ix2_pmcValHi]; rfl
  have self : masterOf m = m := Fin.ext (Nat.mod_eq_of_lt m.isLt)
  unfold regRead
  rw [if_neg (by simp [ready]), if_neg fun u => hp u.2.2.1, if_pos latched, self]

end PmcVal

@[simp] theorem getLatch_setLatch_same (s : State) (m : Master) (a : Nat) (w : Word) : (s.setLatch m a w).getLatch m a = w :=
  amGet_amSet_same _ _ _

/-- A value latched for one master and register is no other's. -/
theorem getLatch_setLatch_ne (s : State) {m m' : Master} {a b : Nat} (w : Word) (ha : a < 2 ^ 40) (hb : b < 2 ^ 40)
    (h : (m', b) ≠ (m, a)) : (s.setLatch m a w).getLatch m' b = s.getLatch m' b := by
  refine amGet_amSet_ne _ _ fun key => h ?_
  unfold latchKey at key
  have : m'.val = m.val := by omega
  exact Prod.ext (Fin.ext this) (by dsimp only; omega)

/-! ### Writes of registers without an action (02) -/

theorem regWrite_timStepNs (m prv : Nat) (v : Word) (s : State) :
    regWrite m prv TIM_STEP_NS v s = storeFields TIM_STEP_NS (s.on TIM_CFG TIM_CFG_LOCK) (fun _ => true) v s := rfl

theorem regWrite_timCfg (m prv : Nat) (v : Word) (s : State) :
    regWrite m prv TIM_CFG v s = storeFields TIM_CFG (s.on TIM_CFG TIM_CFG_LOCK) (fun _ => true) v s := rfl

/-- The row of TIM_STEP_NS in the register table. -/
def timStepNsRow : RegDef := ⟨TIM_STEP_NS, [], [⟨29, 0, .rw, 0, .between 0 999999999⟩]⟩

theorem regDef?_timStepNs : regDef? TIM_STEP_NS = some timStepNsRow := rfl

/-- The row of TIM_CFG in the register table. -/
def timCfgRow : RegDef :=
  ⟨TIM_CFG, [], [⟨31, 31, .w1s, 0, .any⟩, ⟨17, 17, .rwl, 1, .any⟩, ⟨16, 16, .rwl, 0, .any⟩, ⟨8, 0, .rwl, 100, .between 1 500⟩]⟩

theorem regDef?_timCfg : regDef? TIM_CFG = some timCfgRow := rfl

/-! ### The commands -/

theorem OnlyRegs.withResp {l : List Nat} {s t : State} (h : OnlyRegs l s t) (r : Resp) :
    OnlyRegs l { s with resp := r } { t with resp := r } := by
  obtain ⟨e, hr⟩ := h
  exact ⟨by rw [e], hr⟩

/-- A register that keeps its word leaves nothing changed. -/
theorem OnlyRegs.nil_of_same {a : Nat} {s t : State} (h : OnlyRegs [a] s t) (ha : t.rget a = s.rget a) : OnlyRegs [] s t := by
  obtain ⟨e, hr⟩ := h
  refine ⟨e, fun b _ => ?_⟩
  by_cases hb : b = a
  · rw [hb, ha]
  · exact hr b (by simpa using hb)

/-- A write of a register, whatever the command calls it, is one register write. -/
theorem does_write {m : Master} {a : Addr} {v : Word} {s : State} {P : State → Prop} (h : P (busWrite m a v s)) :
    Does (.regWrite m a v) s P ∧ Does (.lockWrite m a v) s P ∧ Does (.gateEntryWrite m a v) s P :=
  ⟨⟨_, rfl, h⟩, ⟨_, rfl, h⟩, ⟨_, rfl, h⟩⟩

/-- A read of a register, whatever the command calls it, is one register read. -/
theorem does_read {m : Master} {a : Addr} {s : State} {P : State → Prop} (h : P (busRead m a s)) :
    Does (.rcRead m a) s P ∧ Does (.hiLatchRead m a) s P :=
  ⟨⟨_, rfl, h⟩, ⟨_, rfl, h⟩⟩

theorem busWrite_aligned {m : Master} {a : Addr} {r : Nat} (v : Word) {s : State} (ha : a.toNat = r) (h : r % 4 = 0) :
    busWrite m a v s = { regWrite m (masterPrv s m) r v s with resp := .done } := by
  subst ha
  exact if_pos h

theorem busRead_aligned {m : Master} {a : Addr} {r : Nat} {w : Word} {s t : State} (ha : a.toNat = r) (h : r % 4 = 0)
    (hr : regRead m (masterPrv s m) r s = (w, t)) : busRead m a s = { t with resp := .word w } := by
  subst ha
  unfold busRead
  rw [if_pos h, hr]

theorem busWrite_misaligned {m : Master} {a : Addr} (v : Word) {s : State} (h : a.toNat % 4 ≠ 0) :
    busWrite m a v s = { s with resp := .err 6 a.toNat [] } := if_neg h

theorem busRead_misaligned {m : Master} {a : Addr} {s : State} (h : a.toNat % 4 ≠ 0) :
    busRead m a s = { s with resp := .err 6 a.toNat [] } := if_neg h

end Sys2Proof.Machine
end

section
/-! The register commands assembled (00 R4, R8, R9, R10; 15 R383). -/

namespace Sys2Proof.Machine

open Sys2Proof

/-- A misaligned offset answers an error and has no effect (00 R4). -/
theorem does_misaligned (m : Master) (s : State) {a : Addr} (v : Word) (h : a.toNat % 4 ≠ 0) :
    let E : State → Prop := fun t => t = { s with resp := .err 6 a.toNat [] }
    Does (.regWrite m a v) s E ∧ Does (.lockWrite m a v) s E ∧ Does (.rcRead m a) s E ∧ Does (.hiLatchRead m a) s E ∧
      Does (.gateEntryWrite m a v) s E := by
  intro E
  obtain ⟨write, lock, gate⟩ := does_write (P := E) (busWrite_misaligned (m := m) (s := s) v h)
  obtain ⟨rc, latch⟩ := does_read (P := E) (busRead_misaligned (m := m) (s := s) h)
  exact ⟨write, lock, rc, latch, gate⟩

/-- The clock step takes a value below one second and keeps its own for any other (00 R10). -/
theorem busWrite_timStepNs (m : Master) {a : Addr} (ha : a.toNat = TIM_STEP_NS) (v : Word) (s : State) :
    let t := busWrite m a v s
    OnlyRegs [TIM_STEP_NS] { s with resp := .done } t ∧
      t.rd TIM_STEP_NS TIM_STEP_NS_STEP_NS = if v.toNat % 2 ^ 30 ≤ 999999999 then v.toNat % 2 ^ 30 else s.rd TIM_STEP_NS TIM_STEP_NS_STEP_NS := by
  have value := rd_storeFields regDef?_timStepNs (s.on TIM_CFG TIM_CFG_LOCK) (fun _ => true) v s (f := ⟨29, 0, .rw, 0, .between 0 999999999⟩)
    (by decide)
  have low : bitsOf v ⟨29, 0⟩ = v.toNat % 2 ^ 30 := by simp [bitsOf]
  rw [busWrite_aligned v ha (by decide), regWrite_timStepNs]
  refine ⟨(storeFields_onlyRegs regDef?_timStepNs _ _ v s).withResp .done, value.trans ?_⟩
  simp [fieldTaken, rngOk, low]

section TimCfg

variable (m : Master) {a : Addr} (ha : a.toNat = TIM_CFG) (v : Word) {s : State}
include ha

/-- A write of TIM_CFG stores its fields and does nothing else. -/
theorem busWrite_timCfg :
    busWrite m a v s = { storeFields TIM_CFG (s.on TIM_CFG TIM_CFG_LOCK) (fun _ => true) v s with resp := .done } := by
  rw [busWrite_aligned v ha (by decide), regWrite_timCfg]

/-- With its LOCK bit TIM_CFG takes the other fields (00 R9). -/
theorem busWrite_timCfg_lock (unlocked : s.on TIM_CFG TIM_CFG_LOCK = false) (lock : v.getLsbD 31 = true)
    (lo : 1 ≤ v.toNat % 512) (hi : v.toNat % 512 ≤ 500) :
    let t := busWrite m a v s
    OnlyRegs [TIM_CFG] { s with resp := .done } t ∧ t.on TIM_CFG TIM_CFG_LOCK = true ∧
      t.rd TIM_CFG TIM_CFG_FADJ_MAX = v.toNat % 512 ∧ t.on TIM_CFG TIM_CFG_RTC_FOLLOW = v.getLsbD 17 ∧
      t.on TIM_CFG TIM_CFG_TICK_ALIGN = v.getLsbD 16 := by
  have value {f : FieldDef} (hf : f ∈ timCfgRow.fields) := rd_storeFields regDef?_timCfg false (fun _ => true) v s hf
  have lockField := value (f := ⟨31, 31, .w1s, 0, .any⟩) (by decide)
  have follow := value (f := ⟨17, 17, .rwl, 1, .any⟩) (by decide)
  have align := value (f := ⟨16, 16, .rwl, 0, .any⟩) (by decide)
  have fadj := value (f := ⟨8, 0, .rwl, 100, .between 1 500⟩) (by decide)
  have low : bitsOf v ⟨8, 0⟩ = v.toNat % 512 := by simp [bitsOf]
  rw [busWrite_timCfg m ha v, unlocked]
  refine ⟨(storeFields_onlyRegs regDef?_timCfg _ _ v s).withResp .done, ?_, ?_, ?_, ?_⟩
  · refine (congrArg (· == 1) lockField).trans ?_
    simp only [fieldTaken, State.rd, bitsOf_bit, lock]
    cases (s.rget TIM_CFG).getLsbD 31 <;> rfl
  · refine fadj.trans ?_
    simp [fieldTaken, rngOk, low, lo, hi]
  · refine (congrArg (· == 1) follow).trans ?_
    simp only [fieldTaken, bitsOf_bit]
    cases v.getLsbD 17 <;> rfl
  · refine (congrArg (· == 1) align).trans ?_
    simp only [fieldTaken, bitsOf_bit]
    cases v.getLsbD 16 <;> rfl

/-- Once locked, TIM_CFG takes no write (00 R9). -/
theorem busWrite_timCfg_locked (locked : s.on TIM_CFG TIM_CFG_LOCK = true) :
    OnlyRegs [] { s with resp := .done } (busWrite m a v s) := by
  have kept := rget_storeFields_of_rd regDef?_timCfg true (fun _ => true) v s fun f hf => by
    rw [rd_storeFields regDef?_timCfg true _ v s hf, if_pos rfl]
    simp only [timCfgRow, List.mem_cons, List.not_mem_nil, or_false] at hf
    rcases hf with rfl | rfl | rfl | rfl
    · have one : s.rd TIM_CFG ⟨31, 31⟩ = 1 := by simpa [State.on] using locked
      rw [one, bitsOf_bit]
      cases v.getLsbD 31 <;> rfl
    all_goals rfl
  rw [busWrite_timCfg m ha v, locked]
  exact ((storeFields_onlyRegs regDef?_timCfg _ _ v s).nil_of_same kept).withResp .done

end TimCfg

/-- A read of a counter that clears answers its value and leaves 0 (00 R8). -/
theorem busRead_ethCnt (m : Master) {s : State} (n : Fin 4) (i : Fin 8) {a : Addr} (ha : a.toNat = ETH_CNT n i)
    (ready : wbit (s.rget RDY_VEC).toNat 11 = true) :
    let t := busRead m a s
    OnlyRegs [ETH_CNT n i] { s with resp := .word (s.rget (ETH_CNT n i)) } t ∧ t.rget (ETH_CNT n i) = 0#32 := by
  rw [busRead_aligned ha (by unfold ETH_CNT; omega) (regRead_ethCnt n i m (masterPrv s m) ready)]
  refine ⟨⟨rfl, fun b hb => rget_wr_ne s _ _ (List.ne_of_not_mem_cons hb)⟩, ?_⟩
  exact (rget_rset_same s _ _).trans (setBits_word_zero _)

/-- A read of a counter's _LO register latches its _HI value for the master alone (15 R383). -/
theorem busRead_pmcValLo (m : Master) {s : State} (j : Fin 8) (i : Fin 64) {a : Addr} (ha : a.toNat = PMC_VAL_LO j i)
    (level : masterPrv s m ≠ 0) :
    let t := busRead m a s
    t = { s with latch := t.latch, resp := .word (s.rget (PMC_VAL_LO j i)) } ∧
      (∀ prv, prv ≠ 0 → (regRead m prv (PMC_VAL_HI j i) t).1 = s.rget (PMC_VAL_HI j i)) ∧
      (∀ (m' : Master) (b : Nat), b < 2 ^ 40 → (m', b) ≠ (m, PMC_VAL_HI j i) → t.getLatch m' b = s.getLatch m' b) := by
  obtain ⟨-, -, top⟩ := pmcVal_range j i
  rw [busRead_aligned ha (by unfold PMC_VAL_LO; omega) (regRead_pmcValLo j i m level s)]
  refine ⟨rfl, fun prv hp => ?_, fun m' b hb other => getLatch_setLatch_ne s _ (by omega) hb other⟩
  rw [regRead_pmcValHi j i m hp]
  exact getLatch_setLatch_same s m _ _

/-- Settles O32: each command is one register read or write, and each register named has a row of the table without further action. -/
theorem registerCommands : Obligations.RegisterCommands := by
  unfold Obligations.RegisterCommands
  intro m s
  refine ⟨fun a v h => does_misaligned m s v h, fun a v e => ?_, fun a v e => ⟨fun unlocked lock lo hi => ?_, fun locked => ?_⟩,
    fun n i a ha ready => ?_, fun j i a ha level => ?_⟩
  · exact (does_write (busWrite_timStepNs m (by rw [e]; rfl) v s)).1
  · exact (does_write (busWrite_timCfg_lock m (by rw [e]; rfl) v unlocked lock lo hi)).2.1
  · obtain ⟨write, lock, -⟩ := does_write (P := OnlyRegs [] { s with resp := .done })
      (busWrite_timCfg_locked m (a := a) (by rw [e]; rfl) v locked)
    exact ⟨write, lock⟩
  · exact (does_read (busRead_ethCnt m n i ha ready)).1
  · exact (does_read (busRead_pmcValLo m j i ha level)).2

end Sys2Proof.Machine
end

section
/-! What an admitted access of a processor reads and writes at memory (04 R104, R105; 06 R151, R155; 00 R3). -/

namespace Sys2Proof.Machine

open Sys2Proof

/-! ### The gate -/

/-- The entries of a table admit a transfer to its own target only. -/
theorem tableDecide_allow {s : State} {g t g' : Nat} {tgt tgt' : Target} {k : AccKind} {x : Xfer} {a : Nat} {ns : List Nat}
    (h : tableDecide s g t tgt k x a ns = .allow g' tgt') : tgt' = tgt := by
  induction ns with
  | nil => cases h
  | cons n ns ih =>
    unfold tableDecide at h
    dsimp only at h
    split at h
    · split at h
      · cases h
      · split at h
        · cases h
        · split at h
          · cases h
          · cases h; rfl
    · exact ih h

/-- A gate admits a transfer to the target that the map puts at the address (07 R179, R186). -/
theorem gateDecide_allow {s : State} {k : AccKind} {x : Xfer} {a n g g' : Nat} {tgt tgt' : Target} {b : Bool}
    (hm : mapOf a = some (tgt, g, b)) (h : gateDecide s k x a n = .allow g' tgt') : tgt' = tgt := by
  unfold gateDecide at h
  rw [hm] at h
  dsimp only at h
  split at h
  · cases h
  · split at h
    · cases h
    · split at h
      · cases h
      · split at h
        · split at h <;> cases h
          rfl
        · exact tableDecide_allow h

/-- An admitted transfer reaches its target, and only counters have changed (15 R385). -/
theorem present_admitted {s : State} {k : AccKind} {x : Xfer} {a n g : Nat} {tgt : Target} {b : Bool} (split : Bool)
    (hm : mapOf a = some (tgt, g, b)) (h : admitted s k x a n = true) : ∃ ev, present s k x a n split = (.ok tgt, s.count ev n) := by
  unfold admitted at h
  unfold present
  generalize hd : gateDecide s k x a n = d at h ⊢
  cases d with
  | allow g' t => exact ⟨_, by rw [gateDecide_allow hm hd]⟩
  | deny g' c e => cases h
  | unmapped => cases h

/-! ### What a processor sees of a state -/

/-- t holds the same memory, image, processors and registers as s; counters, ECC errors, digests and Grove records may differ. -/
structure SameContents (s t : State) : Prop where
  mem : t.mem = s.mem
  image : t.image = s.image
  mapArea : t.mapArea = s.mapArea
  seq : t.seq = s.seq
  cores : t.cores = s.cores
  regs : ∀ a, isPmc a = false → t.rget a = s.rget a

namespace SameContents

theorem refl (s : State) : SameContents s s := ⟨rfl, rfl, rfl, rfl, rfl, fun _ _ => rfl⟩

theorem trans {s t u : State} (h : SameContents s t) (k : SameContents t u) : SameContents s u :=
  ⟨k.mem.trans h.mem, k.image.trans h.image, k.mapArea.trans h.mapArea, k.seq.trans h.seq, k.cores.trans h.cores,
    fun a ha => (k.regs a ha).trans (h.regs a ha)⟩

theorem byte {s t : State} (h : SameContents s t) (a : Nat) : t.byte a = s.byte a :=
  byte_congr h.mem h.image h.mapArea h.seq (h.regs _ isPmc_TSQ_STATUS) a

theorem core {s t : State} (h : SameContents s t) (n : Nat) : t.core n = s.core n := by rw [State.core, State.core, h.cores]

theorem count (s : State) (ev : PmcEv) (n : Nat) : SameContents s (s.count ev n) :=
  ⟨count_mem s ev n, count_image s ev n, count_mapArea s ev n, count_seq s ev n, count_cores s ev n, fun _ ha => rget_count s ev n ha⟩

theorem eccClear (s : State) (a : Nat) : SameContents s (s.eccClear a) := ⟨rfl, rfl, rfl, rfl, rfl, fun _ _ => rfl⟩

theorem setGrove (s : State) (g : Nat) (r : Grove) : SameContents s (s.setGrove g r) := ⟨rfl, rfl, rfl, rfl, rfl, fun _ _ => rfl⟩

theorem esdWrite (s : State) (e a data strobes : Nat) : SameContents s (esdWrite s e a data strobes) :=
  ⟨rfl, rfl, rfl, rfl, rfl, fun _ _ => rfl⟩

theorem foldl {α : Type} {f : State → α → State} (hf : ∀ t x, SameContents t (f t x)) (l : List α) (s : State) :
    SameContents s (l.foldl f s) := by
  induction l generalizing s with
  | nil => exact refl s
  | cons x l ih => exact (hf s x).trans (ih (f s x))

theorem eccWritten (s : State) (a n : Nat) : SameContents s (eccWritten s a n) :=
  foldl (fun t _ => by split <;> [exact eccClear t _; exact refl t]) _ s

theorem countSap (s : State) (x : Xfer) (cls : Nat) (wr : Bool) (a n : Nat) : SameContents s (countSap s x cls wr a n) := by
  unfold Machine.countSap
  split
  · exact count s _ n
  · exact refl s

theorem markDirty (s : State) (a : Nat) : SameContents s (markDirty s a) := by
  unfold Machine.markDirty
  split
  · dsimp only
    split
    · generalize ht : (if trackingP s _ = true then _ else s) = t
      have partner : SameContents s t := by rw [← ht]; split <;> [exact setGrove s _ _; exact refl s]
      split
      · exact partner
      · exact partner.trans ((setGrove t _ _).trans (count _ _ _))
    · exact refl s
  · exact refl s

end SameContents

/-! ### Addresses within a 64-bit word -/

theorem blockGate_word {a b : Nat} (h : a / 8 = b / 8) : blockGate a = blockGate b := by
  have block : (a - 0x0300000000) / 0x10000 = (b - 0x0300000000) / 0x10000 := by omega
  unfold blockGate
  rw [block]

theorem sapwoodNo_word {a b : Nat} (h : a / 8 = b / 8) : (a - 0x0100000000) / 0x01000000 = (b - 0x0100000000) / 0x01000000 := by omega

theorem codeNo_word {a b : Nat} (h : a / 8 = b / 8) : (a - 0x0180000000) / 0x00100000 = (b - 0x0180000000) / 0x00100000 := by omega

/-- Every range of the map is a whole number of 64-bit words, so the bytes of a word have one target (07 R179, R180). -/
theorem mapOf_word {a b : Nat} (h : a / 8 = b / 8) : mapOf a = mapOf b := by
  have le : ∀ {c}, c % 8 = 7 → (a ≤ c) = (b ≤ c) := fun hc => propext (by omega)
  have lt : ∀ {c}, c % 8 = 0 → (a < c) = (b < c) := fun hc => propext (by omega)
  have ge : ∀ {c}, c % 8 = 0 → (c ≤ a) = (c ≤ b) := fun hc => propext (by omega)
  have sapwood : (a - 0x0100000000) / 0x01000000 = (b - 0x0100000000) / 0x01000000 := sapwoodNo_word h
  have code : (a - 0x0180000000) / 0x00100000 = (b - 0x0180000000) / 0x00100000 := codeNo_word h
  have inSapwood : a % 0x01000000 < 0x00800000 ↔ b % 0x01000000 < 0x00800000 := by omega
  have inCode : a % 0x00100000 < 0x00080000 ↔ b % 0x00100000 < 0x00080000 := by omega
  simp only [mapOf, blockGate_word h, le, lt, ge, sapwood, code, inSapwood, inCode, Nat.reduceMod]

/-- An aligned access of at most 8 bytes lies in one 64-bit word. -/
theorem access_in_word {a n : Nat} (hn : n ∈ [1, 2, 4, 8]) (ha : a % n = 0) : a % 8 + n ≤ 8 := by
  simp only [List.mem_cons, List.not_mem_nil, or_false] at hn
  rcases hn with rfl | rfl | rfl | rfl <;> omega

/-! ### Reads (06 R155) -/

theorem bytes_congr {s t : State} (h : ∀ b, t.byte b = s.byte b) (a n : Nat) : t.bytes a n = s.bytes a n := by
  induction n generalizing a with
  | zero => rfl
  | succ n ih => rw [State.bytes, State.bytes, h, ih]

section EccFree

variable {s : State} {a n : Nat} (free : s.eccAt a = none) (word : a % 8 + n ≤ 8)
include free word

/-- Of the 64-bit words from a on, an access within one word meets the word at a only. -/
theorem eccAt_met (i : Nat) (e : EccErr) : ¬ (a / 8 * 8 + 8 * i < a + n ∧ s.eccAt (a + 8 * i) = some e) := by
  rintro ⟨lt, met⟩
  have : i = 0 := by omega
  rw [this, Nat.mul_zero, Nat.add_zero, free] at met
  cases met

theorem correctIn_free : correctIn s a n = s :=
  List.foldl_fixed' (fun i => if_neg (eccAt_met free word i _)) _

theorem ueIn_free : ueIn s a n = false := by
  rw [ueIn, List.any_eq_false]
  intro i _ met
  rw [Bool.and_eq_true, decide_eq_true_eq, beq_iff_eq] at met
  exact eccAt_met free word i _ met

theorem targetErr_free {t : Target} (ready : t = .dram → dramReady s = true) : targetErr s t a n = none := by
  unfold targetErr
  rw [if_neg fun h => Bool.true_eq_false.mp ((ready h.1).symm.trans h.2), if_neg (by rw [ueIn_free free word]; exact Bool.false_ne_true)]

end EccFree

theorem SameContents.dramReady {s t : State} (h : SameContents s t) : dramReady t = dramReady s := by
  unfold Machine.dramReady State.rd
  rw [h.regs RDY_VEC (by decide)]

@[simp] theorem countSap_ecc (s : State) (x : Xfer) (cls : Nat) (wr : Bool) (a n : Nat) : (countSap s x cls wr a n).ecc = s.ecc := by
  unfold countSap
  split
  · exact count_ecc s _ n
  · rfl

/-- The memory part of a read without an ECC error: only counters change, and the value is that of the bytes. -/
theorem sysFetch_free {s : State} {x : Xfer} {tgt : Target} {a n : Nat} (free : s.eccAt a = none) (word : a % 8 + n ≤ 8)
    (ready : tgt = .dram → dramReady s = true) :
    ∃ t, SameContents s t ∧ sysFetch s x tgt a n = (.ok (leVal (s.bytes a n)), t) := by
  have same := SameContents.countSap s x 0 false a n
  have free' : (countSap s x 0 false a n).eccAt a = none := by rw [State.eccAt, countSap_ecc]; exact free
  refine ⟨_, same, ?_⟩
  unfold sysFetch
  dsimp only
  rw [correctIn_free free word, targetErr_free free' word fun h => by rw [same.dramReady, ready h]]
  dsimp only
  rw [bytes_congr same.byte]

/-! ### Writes -/

/-- The byte at an address takes a write: it is no byte of the ROM, the image, the registers or the trace buffer. -/
def TakesByte (a : Nat) : Prop := ∃ t g, mapOf a = some (t, g, true) ∧ t ∉ [Target.rom, .image, .regs, .trace]

theorem TakesByte.congr {a b : Nat} (h : TakesByte a) (hab : a / 8 = b / 8) : TakesByte b := by
  obtain ⟨t, g, hm, ht⟩ := h
  exact ⟨t, g, mapOf_word hab ▸ hm, ht⟩

theorem setByte_takes {s : State} {a : Nat} (b : Byte) (h : TakesByte a) :
    s.setByte a b = { s with mem := amSet (fun _ => 0#8) s.mem a b } := by
  obtain ⟨t, g, hm, ht⟩ := h
  unfold State.setByte
  rw [hm]
  cases t with
  | rom | image | regs | trace => simp at ht
  | sram | sapwood _ | code _ | mram | dram => rfl

theorem byte_setByte {s : State} {a : Nat} (b : Byte) (h : TakesByte a) (c : Nat) :
    (s.setByte a b).byte c = if c = a then b else s.byte c := by
  rw [setByte_takes b h]
  split
  · next e =>
    obtain ⟨t, g, hm, ht⟩ := h
    rw [e]
    unfold State.byte
    rw [hm]
    cases t with
    | rom | image | regs | trace => simp at ht
    | sram | sapwood _ | code _ | mram | dram => exact amGet_amSet_same _ _ _
  · next e =>
    unfold State.byte
    split <;> [rfl; rfl; rfl; exact amGet_amSet_ne _ _ e]

theorem setBytes_takes {s : State} {a : Nat} {bs : List Byte} (h : ∀ k, k < bs.length → TakesByte (a + k)) :
    s.setBytes a bs = { s with mem := (s.setBytes a bs).mem } := by
  induction bs generalizing s a with
  | nil => rfl
  | cons b bs ih =>
    have first : TakesByte a := h 0 (Nat.succ_pos _)
    have rest : ∀ k, k < bs.length → TakesByte (a + 1 + k) := fun k hk => by
      rw [Nat.add_assoc, Nat.add_comm 1]; exact h (k + 1) (Nat.succ_lt_succ hk)
    rw [State.setBytes, ih rest, setByte_takes b first]

theorem byte_setBytes {s : State} {a : Nat} {bs : List Byte} (h : ∀ k, k < bs.length → TakesByte (a + k)) (c : Nat) :
    (s.setBytes a bs).byte c = if a ≤ c ∧ c < a + bs.length then bs.getD (c - a) 0#8 else s.byte c := by
  induction bs generalizing s a with
  | nil => simp only [State.setBytes, List.length_nil]; rw [if_neg (by omega)]
  | cons b bs ih =>
    have first : TakesByte a := h 0 (Nat.succ_pos _)
    have rest : ∀ k, k < bs.length → TakesByte (a + 1 + k) := fun k hk => by
      rw [Nat.add_assoc, Nat.add_comm 1]; exact h (k + 1) (Nat.succ_lt_succ hk)
    rw [State.setBytes, ih rest, byte_setByte b first, List.length_cons]
    by_cases e : c = a
    · rw [if_neg (by omega), if_pos e, if_pos (by omega), e, Nat.sub_self]; rfl
    · by_cases e2 : a + 1 ≤ c ∧ c < a + 1 + bs.length
      · rw [if_pos e2, if_pos (by omega), show c - a = (c - (a + 1)) + 1 by omega]; rfl
      · rw [if_neg e2, if_neg e, if_neg (by omega)]

@[simp] theorem length_leBytes (n v : Nat) : (leBytes n v).length = n := by
  induction n generalizing v with
  | zero => rfl
  | succ n ih => rw [leBytes, List.length_cons, ih]

theorem getD_leBytes {n k : Nat} (v : Nat) (h : k < n) : (leBytes n v).getD k 0#8 = BitVec.ofNat 8 (v / 2 ^ (8 * k)) := by
  induction n generalizing v k with
  | zero => omega
  | succ n ih =>
    cases k with
    | zero => simp [leBytes]
    | succ k =>
      rw [leBytes, List.getD_cons_succ, ih _ (Nat.lt_of_succ_lt_succ h), Nat.div_div_eq_div_mul, Nat.mul_succ, pow_add, Nat.mul_comm 256]
      rfl

/-- Between s and r, n bytes of v have been stored from a on, and nothing else that a processor sees has changed. -/
def Stores (s r : State) (a n v : Nat) : Prop :=
  ∃ t, SameContents s t ∧ SameContents (t.setBytes a (leBytes n v)) r

namespace Stores

theorem trans {s r r' : State} {a n v : Nat} (h : Stores s r a n v) (k : SameContents r r') : Stores s r' a n v := by
  obtain ⟨t, before, after⟩ := h
  exact ⟨t, before, after.trans k⟩

variable {s r : State} {a n v : Nat} (h : Stores s r a n v) (takes : ∀ k, k < n → TakesByte (a + k))
include h takes

theorem byte (c : Nat) : r.byte c = if a ≤ c ∧ c < a + n then BitVec.ofNat 8 (v / 2 ^ (8 * (c - a))) else s.byte c := by
  obtain ⟨t, before, after⟩ := h
  rw [after.byte, byte_setBytes (by simpa using takes), length_leBytes]
  split
  · exact getD_leBytes v (by omega)
  · exact before.byte c

theorem core (m : Nat) : r.core m = s.core m := by
  obtain ⟨t, before, after⟩ := h
  rw [after.core, setBytes_takes (by simpa using takes)]
  exact before.core m

theorem rget {b : Nat} (hb : isPmc b = false) : r.rget b = s.rget b := by
  obtain ⟨t, before, after⟩ := h
  rw [after.regs b hb, setBytes_takes (by simpa using takes)]
  exact before.regs b hb

end Stores

/-! ### Accesses of a core -/

theorem isRegs_false {a g : Nat} {t : Target} {b : Bool} (hm : mapOf a = some (t, g, b)) (ht : t ≠ .regs) : isRegs a = false := by
  unfold isRegs
  rw [hm]
  cases t with
  | regs => exact absurd rfl ht
  | _ => rfl

theorem image_range {a g : Nat} {b : Bool} (hm : mapOf a = some (.image, g, b)) : 0x0200000000 ≤ a := by
  by_contra low
  have image : ¬ (0x0200000000 ≤ a ∧ a ≤ 0x02003FFFFF) := by omega
  unfold mapOf at hm
  rw [if_neg image] at hm
  split_ifs at hm <;> simp at hm

/-- An engine's view moves only its own Grove's Sapwood and code, never the image (06 R151). -/
theorem engPhys_image {s : State} {e a h g : Nat} {b : Bool} (he : e < 64) (hp : engPhys s e a = some h)
    (hm : mapOf a = some (.image, g, b)) : h = a := by
  have := image_range hm
  unfold engPhys at hp
  dsimp only at hp
  rw [if_neg (by omega), if_neg (by omega)] at hp
  exact (Option.some.inj hp).symm

section Engine

variable {u : State} {n prv part a h sz g : Nat} {tgt : Target} (phys : engPhys u n a = some h)
  (hm : mapOf a = some (tgt, g, true)) (ready : tgt = .dram → dramReady u = true)
include phys hm ready

/-- An engine's read at memory that its gate admits, without an ECC error (06 R151, R155). The definition is unfolded under a variable, as for
regReady_eq. -/
theorem engRead_admitted (word : h % 8 + sz ≤ 8) (adm : admitted u .read ⟨n, prv, part, 2⟩ a sz = true) (free : u.eccAt h = none) :
    ∃ t, SameContents u t ∧ engRead u n prv part a sz = (.ok (leVal (u.bytes h sz)), t) := by
  obtain ⟨ev, pres⟩ := present_admitted false hm adm
  have counted := SameContents.count u ev sz
  have free' : (u.count ev sz).eccAt h = none := by rw [State.eccAt, count_ecc]; exact free
  generalize ht : countSap (u.count ev sz) ⟨n, prv, part, 2⟩ (classOf u n) false h sz = t
  have same : SameContents u t := ht ▸ counted.trans (.countSap _ _ _ _ _ _)
  have freeT : t.eccAt h = none := by rw [← ht, State.eccAt, countSap_ecc]; exact free'
  refine ⟨t, same, ?_⟩
  suffices key : ∀ f, f = engReadP → f false u n prv part a sz = (.ok (leVal (u.bytes h sz)), t) from key _ rfl
  intro f hf
  delta engReadP at hf
  subst hf
  beta_reduce
  rw [phys]
  dsimp only
  rw [pres]
  dsimp only
  rw [correctIn_free free' word, ht, if_neg fun e => Bool.false_ne_true ((ueIn_free freeT word).symm.trans e.2),
    targetErr_free freeT word fun e => by rw [same.dramReady, ready e]]
  dsimp only
  rw [bytes_congr same.byte]

/-- An engine's write at memory that its gate admits; its digest and the lines it wrote are no content of memory (10 R277). -/
theorem engWrite_admitted (eng : n < 64) (adm : admitted u .write ⟨n, prv, part, 2⟩ a sz = true) (v : Nat) (takes : TakesByte h) :
    ∃ t, Stores u t h sz v ∧ engWrite u n prv part a sz v = (.ok 0, t) := by
  obtain ⟨ev, pres⟩ := present_admitted false hm adm
  have counted := SameContents.count u ev sz
  have noImage : tgt ≠ .image := by
    rintro rfl
    obtain ⟨t, g', hm', ht⟩ := takes
    rw [engPhys_image eng phys hm, hm] at hm'
    cases hm'
    simp at ht
  suffices key : ∀ f, f = engWriteP → ∃ t, Stores u t h sz v ∧ f false u n prv part a sz v = (.ok 0, t) from key _ rfl
  intro f hf
  delta engWriteP at hf
  subst hf
  beta_reduce
  rw [phys]
  dsimp only
  rw [pres]
  dsimp only
  rw [if_neg fun e => Bool.true_eq_false.mp ((ready e.1).symm.trans (counted.dramReady ▸ e.2)), if_neg fun e => noImage e.1]
  generalize ht : markDirty (countSap _ _ _ _ _ _) _ = t
  have stored : Stores u t h sz v :=
    ⟨_, counted, ht ▸ ((SameContents.eccWritten _ _ _).trans (.countSap _ _ _ _ _ _)).trans (.markDirty _ _)⟩
  split
  · split
    · exact ⟨t, stored, rfl⟩
    · exact ⟨_, stored.trans ((SameContents.esdWrite _ _ _ _ _).trans (.setGrove _ _ _)), rfl⟩
  · exact ⟨t, stored, rfl⟩

end Engine

section Access

variable {u : State} {n prv part a h sz g : Nat} {tgt : Target} (hs : sz ∈ [1, 2, 4, 8]) (aligned : h % sz = 0)
  (phys : if isEng n then engPhys u n a = some h else h = a) (uncached : (isCanopy n && isDram a) = false)
  (hm : mapOf a = some (tgt, g, true)) (noReg : tgt ≠ .regs) (ready : tgt = .dram → dramReady u = true)
include phys uncached hm noReg ready

/-- A read that the gate admits, at a word without an ECC error, answers the value of the bytes and changes nothing. -/
theorem coreRead_admitted (word : h % 8 + sz ≤ 8) (bus : Bus) (adm : admitted u .read ⟨n, prv, part, 2⟩ a sz = true) (free : u.eccAt h = none) :
    ∃ t, SameContents u t ∧ coreRead bus u n prv part a sz = (.ok (leVal (u.bytes h sz)), t) := by
  unfold coreRead
  simp only [isRegs_false hm noReg, uncached, Bool.false_eq_true, if_false]
  cases hn : isEng n with
  | true =>
    rw [hn, if_pos rfl] at phys
    rw [if_pos rfl]
    exact engRead_admitted phys hm ready word adm free
  | false =>
    rw [hn, if_neg Bool.false_ne_true] at phys
    subst phys
    obtain ⟨ev, pres⟩ := present_admitted false hm adm
    have counted := SameContents.count u ev sz
    have free' : (u.count ev sz).eccAt h = none := by rw [State.eccAt, count_ecc]; exact free
    obtain ⟨t, same, fetched⟩ := sysFetch_free (x := ⟨n, prv, part, 2⟩) free' word fun e => by rw [counted.dramReady, ready e]
    refine ⟨t, counted.trans same, ?_⟩
    rw [if_neg Bool.false_ne_true, pres]
    dsimp only
    rw [fetched, bytes_congr counted.byte]

/-- A write that the gate admits stores its bytes. -/
theorem coreWrite_admitted (bus : Bus) (v : Nat) (adm : admitted u .write ⟨n, prv, part, 2⟩ a sz = true) (takes : TakesByte h) :
    ∃ t, Stores u t h sz v ∧ coreWrite bus u n prv part a sz v = (.ok 0, t) := by
  unfold coreWrite
  simp only [isRegs_false hm noReg, uncached, Bool.false_eq_true, if_false]
  cases hn : isEng n with
  | true =>
    rw [hn, if_pos rfl] at phys
    rw [if_pos rfl]
    exact engWrite_admitted phys hm ready (of_decide_eq_true hn) adm v takes
  | false =>
    rw [hn, if_neg Bool.false_ne_true] at phys
    subst phys
    obtain ⟨ev, pres⟩ := present_admitted false hm adm
    have counted := SameContents.count u ev sz
    rw [if_neg Bool.false_ne_true, pres]
    dsimp only
    rw [if_neg fun e => Bool.true_eq_false.mp ((ready e.1).symm.trans (counted.dramReady ▸ e.2))]
    exact ⟨_, ⟨_, counted, ((SameContents.eccWritten _ _ _).trans (.countSap _ _ _ _ _ _)).trans (.markDirty _ _)⟩, rfl⟩

end Access

/-- Settles O12: an access moves counters, digests and Grove records besides the bytes, none of which a processor sees. -/
theorem memoryReadsAndWrites : Obligations.MemoryReadsAndWrites := by
  unfold Obligations.MemoryReadsAndWrites
  rintro n prv part a h sz v u hs - aligned phys uncached ⟨tgt, g, hm, noReg, ready⟩
  refine ⟨fun adm free => ?_, fun adm takes => ?_⟩
  · obtain ⟨t, same, e⟩ := coreRead_admitted phys uncached hm noReg ready (access_in_word hs aligned) regBus adm free
    rw [e]
    exact ⟨rfl, same.byte, same.core, same.regs⟩
  · obtain ⟨t, stored, e⟩ := coreWrite_admitted phys uncached hm noReg ready regBus v adm takes
    have word := access_in_word hs aligned
    have all : ∀ k, k < sz → TakesByte (h + k) := fun k hk => TakesByte.congr takes (by omega)
    rw [e]
    refine ⟨rfl, fun k hk => ?_, fun b hb => ?_, stored.core all, fun b hb => stored.rget all hb⟩
    · rw [stored.byte all, if_pos (by omega), Nat.add_sub_cancel_left]
    · rw [stored.byte all, if_neg (by omega)]

end Sys2Proof.Machine
end

section
/-! What folds over the state reach and keep, what raising a flag changes, and what a sequencer cycle changes (03 R47; 15 R393). -/

namespace Sys2Proof.Machine

open Sys2Proof

/-! ### Folds over a list -/

/-- What the step at one element of the list establishes holds after the fold, if every step keeps it; Q is an invariant of the fold. -/
theorem foldl_establishes {σ α : Type} {f : σ → α → σ} {Q P : σ → Prop} {l : List α} {x : α} (hx : x ∈ l) {b : σ} (hb : Q b)
    (keep : ∀ t, Q t → ∀ y ∈ l, Q (f t y)) (make : ∀ t, Q t → P (f t x)) (stay : ∀ t, Q t → P t → ∀ y ∈ l, P (f t y)) :
    P (l.foldl f b) := by
  obtain ⟨l₁, l₂, rfl⟩ := List.append_of_mem hx
  rw [List.foldl_append, List.foldl_cons]
  have before : Q (l₁.foldl f b) := List.foldlRecOn l₁ f hb fun t ht y hy => keep t ht y (by simp [hy])
  exact (List.foldlRecOn (motive := fun t => Q t ∧ P t) l₂ f ⟨keep _ before x (by simp), make _ before⟩
    fun t ht y hy => ⟨keep t ht.1 y (by simp [hy]), stay t ht.1 ht.2 y (by simp [hy])⟩).2

/-- A fold over distinct keys changes what is read at one key as its step at that key does, if no other step touches it; I is an invariant of
the fold. -/
theorem foldl_at {σ β : Type} {f : σ → Nat → σ} {l : List Nat} (nodup : l.Nodup) {k : Nat} (hk : k ∈ l) (get : σ → β) (g : β → β) {I : σ → Prop}
    {s : σ} (hs : I s) (keep : ∀ t, I t → ∀ i ∈ l, I (f t i)) (other : ∀ t, I t → ∀ i ∈ l, i ≠ k → get (f t i) = get t)
    (here : ∀ t, I t → get (f t k) = g (get t)) : get (l.foldl f s) = g (get s) := by
  obtain ⟨l₁, l₂, rfl⟩ := List.append_of_mem hk
  obtain ⟨-, ⟨nodup₂, -⟩, apart⟩ := by simpa [List.nodup_append] using nodup
  rw [List.foldl_append, List.foldl_cons]
  have before : I (l₁.foldl f s) ∧ get (l₁.foldl f s) = get s :=
    List.foldlRecOn (motive := fun t => I t ∧ get t = get s) l₁ f ⟨hs, rfl⟩ fun t ht i hi =>
      ⟨keep t ht.1 i (by simp [hi]), (other t ht.1 i (by simp [hi]) (apart i hi).1).trans ht.2⟩
  refine (List.foldlRecOn (motive := fun t => I t ∧ get t = g (get s)) l₂ f ⟨keep _ before.1 k (by simp), ?_⟩ fun t ht i hi =>
      ⟨keep t ht.1 i (by simp [hi]), (other t ht.1 i (by simp [hi]) (ne_of_mem_of_not_mem hi nodup₂)).trans ht.2⟩).2
  rw [here _ before.1, before.2]

/-! ### Raising a flag (15 R393, R395, R398) -/

theorem OnlyRegsEvr.refl (s : State) : OnlyRegsEvr [] s s := ⟨rfl, fun _ _ _ _ => rfl⟩

/-- A record put into the recorder's queue moves the recorder and its two registers. -/
theorem enqueue_onlyRegsEvr (s : State) (r : EvRec) : OnlyRegsEvr [] s (s.enqueue r) := by
  unfold State.enqueue
  split
  · exact ⟨rfl, fun _ _ _ _ => rfl⟩
  · split
    · exact ⟨rfl, fun a _ h _ => rget_wr_ne _ _ _ h⟩
    · exact ⟨rfl, fun a _ h h' => (rget_wr_ne _ _ _ h).trans (rget_wr_ne _ _ _ h')⟩

theorem eventReg_onlyRegsEvr (s : State) (source a : Nat) (f : Fld) : OnlyRegsEvr [] s (s.eventReg source a f) := enqueue_onlyRegsEvr s _

/-- Beside its flag, raising moves the recorder only. -/
theorem raise_onlyRegsEvr (s : State) (source a : Nat) (f : Fld) : OnlyRegsEvr [] (s.wr a f 1) (s.raise source a f) := by
  unfold State.raise
  dsimp only
  split
  · exact eventReg_onlyRegsEvr _ source a f
  · exact .refl _

theorem raise_rest (s : State) (source a : Nat) (f : Fld) :
    s.raise source a f = { s with regs := (s.raise source a f).regs, evr := (s.raise source a f).evr } := (raise_onlyRegsEvr s source a f).1

theorem rget_raise (s : State) (source : Nat) {a b : Nat} (f : Fld) (h : b ≠ EVR_STATUS) (h' : b ≠ EVR_LOST) :
    (s.raise source a f).rget b = (s.wr a f 1).rget b := (raise_onlyRegsEvr s source a f).2 b List.not_mem_nil h h'

theorem rget_raise_ne (s : State) (source : Nat) {a b : Nat} (f : Fld) (h : b ≠ EVR_STATUS) (h' : b ≠ EVR_LOST) (ha : b ≠ a) :
    (s.raise source a f).rget b = s.rget b := (rget_raise s source f h h').trans (rget_wr_ne s f 1 ha)

theorem rd_raise (s : State) (source : Nat) {a b : Nat} (f g : Fld) (h : b ≠ EVR_STATUS) (h' : b ≠ EVR_LOST) :
    (s.raise source a f).rd b g = (s.wr a f 1).rd b g := by rw [State.rd, State.rd, rget_raise s source f h h']

@[simp] theorem raise_clk (s : State) (source a : Nat) (f : Fld) : (s.raise source a f).clk = s.clk := by rw [raise_rest]
@[simp] theorem raise_seq (s : State) (source a : Nat) (f : Fld) : (s.raise source a f).seq = s.seq := by rw [raise_rest]
@[simp] theorem raise_tasks (s : State) (source a : Nat) (f : Fld) : (s.raise source a f).tasks = s.tasks  := by
  rw [raise_rest]
@[simp] theorem raise_acts (s : State) (source a : Nat) (f : Fld) : (s.raise source a f).acts = s.acts  := by
  rw [raise_rest]
@[simp] theorem raise_rings (s : State) (source a : Nat) (f : Fld) : (s.raise source a f).rings = s.rings  := by
  rw [raise_rest]
@[simp] theorem raise_out (s : State) (source a : Nat) (f : Fld) : (s.raise source a f).out = s.out := by rw [raise_rest]
@[simp] theorem raise_units (s : State) (source a : Nat) (f : Fld) : (s.raise source a f).units = s.units  := by
  rw [raise_rest]
@[simp] theorem eventReg_tasks (s : State) (source a : Nat) (f : Fld) : (s.eventReg source a f).tasks = s.tasks := by
  rw [(eventReg_onlyRegsEvr s source a f).1]

/-! ### Time passes (02 R27, R28, R35; 15 R385, R397) -/

/-- Between s and t only time has passed: the clock, the operating seconds, the RTC's validity and the performance counters may have moved. -/
structure TimeOnly (s t : State) : Prop where
  rest : t = { s with clk := t.clk, regs := t.regs, evr := { s.evr with opNs := t.evr.opNs } }
  regs : ∀ a, isPmc a = false → a ∉ [EVR_OPSEC, TIM_STATUS] → t.rget a = s.rget a

namespace TimeOnly

theorem refl (s : State) : TimeOnly s s := ⟨rfl, fun _ _ _ => rfl⟩

theorem trans {s t u : State} (h : TimeOnly s t) (k : TimeOnly t u) : TimeOnly s u := by
  refine ⟨?_, fun a p n => (k.regs a p n).trans (h.regs a p n)⟩
  rw [k.rest]
  conv_lhs => rw [h.rest]

theorem setClk (s : State) (c : Clock) : TimeOnly s { s with clk := c } := ⟨rfl, fun _ _ _ => rfl⟩

theorem wr (s : State) {a : Nat} (f : Fld) (v : Nat) (h : a ∈ [EVR_OPSEC, TIM_STATUS]) : TimeOnly s (s.wr a f v) :=
  ⟨rfl, fun _ _ hb => rget_wr_ne s f v (ne_of_mem_of_not_mem h hb).symm⟩

theorem count (s : State) (ev : PmcEv) (n : Nat) : TimeOnly s (s.count ev n) := by
  obtain ⟨r, e, hr⟩ := count_only s ev n
  rw [e]
  exact ⟨rfl, fun a ha _ => hr a ha⟩

theorem foldl {α : Type} {f : State → α → State} (l : List α) (s : State) (hf : ∀ t x, TimeOnly t (f t x)) : TimeOnly s (l.foldl f s) :=
  List.foldlRecOn l f (refl s) fun t ht x _ => ht.trans (hf t x)

theorem ite {p : Prop} [Decidable p] {s t u : State} (h : TimeOnly s t) (k : TimeOnly s u) : TimeOnly s (if p then t else u) := by
  split <;> assumption

theorem pmcTime (s : State) (m k : Nat) : TimeOnly s (pmcTime s m k) :=
  ite ((count s _ k).trans <| foldl _ _ fun t _ => ite
    (((count t _ _).trans (ite (refl _) (count _ _ _))).trans <| foldl _ _ fun u _ => ite (count u _ _) (refl u)) (refl t)) (refl s)

theorem opRun (s : State) (k : Nat) : TimeOnly s (opRun s k) :=
  have seconds : TimeOnly s { s with evr := { s.evr with opNs := (s.evr.opNs + k) % 1000000000 } } := ⟨rfl, fun _ _ _ => rfl⟩
  ite seconds (seconds.trans (wr _ _ _ (by simp)))

theorem rtcWrite (s : State) (sec frac : Nat) : TimeOnly s (rtcWrite s sec frac) := (setClk s _).trans (wr _ _ _ (by simp))

theorem advance (k : Nat) (s : State) : TimeOnly s (advance k s) :=
  ite (refl s) (((setClk s _).trans (ite ((rtcWrite _ _ _).trans (setClk _ _)) (refl _))).trans ((pmcTime _ _ _).trans (opRun _ _)))

end TimeOnly

@[simp] theorem pmcTime_clk (s : State) (m k : Nat) : (pmcTime s m k).clk = s.clk := by
  unfold pmcTime
  split
  · refine (List.foldlRecOn (motive := fun t : State => t.clk = s.clk) _ _ (count_clk s _ k) fun t ht e _ => ?_)
    dsimp only
    split
    · refine (List.foldlRecOn (motive := fun u : State => u.clk = s.clk) _ _ ?_ fun u hu c _ => ?_)
      · split <;> simp [ht]
      · split <;> simp [hu]
    · exact ht
  · rfl

@[simp] theorem opRun_clk (s : State) (k : Nat) : (opRun s k).clk = s.clk := by
  unfold opRun
  dsimp only
  split <;> rfl

@[simp] theorem advance_trel (k : Nat) (s : State) : (advance k s).clk.trel = s.clk.trel + k := by
  unfold advance
  split
  · next h => rw [h, Nat.add_zero]
  · simp only [opRun_clk, pmcTime_clk]
    split <;> rfl

@[simp] theorem advance_half (k : Nat) (s : State) : (advance k s).clk.half = s.clk.half := by
  unfold advance
  split
  · rfl
  · simp only [opRun_clk, pmcTime_clk]
    split <;> rfl

/-! ### A word of the tick program issues (03 R47, R52) -/

theorem rd_pcStep (s : State) (n : Nat) : (pcStep s n).rd TSQ_PC TSQ_PC_PC = (s.rd TSQ_PC TSQ_PC_PC + n) % 4096 :=
  rd_wr_same s TSQ_PC TSQ_PC_PC _ (by decide) (by decide)

theorem stalled_pcStep (s : State) (n : Nat) : (pcStep s n).rd TSQ_PC TSQ_PC_STALLED = s.rd TSQ_PC TSQ_PC_STALLED :=
  rd_wr_fld s TSQ_PC TSQ_PC_PC TSQ_PC_STALLED _ (by decide) (by decide) (by decide) (by decide)

theorem seqCycle_time (s : State) : 2 * (seqCycle s).clk.trel + (seqCycle s).clk.half = 2 * s.clk.trel + s.clk.half + 5 := by
  simp only [seqCycle, advance_trel, advance_half]
  omega

theorem TimeOnly.seqCycle (s : State) : TimeOnly s (seqCycle s) := (setClk s _).trans (advance _ _)

/-- The sequencer goes on by k words in one cycle. -/
theorem cycled_seqCycle (k : Nat) (u : State) : Cycled k u (seqCycle (pcStep u k)) := by
  have time := TimeOnly.seqCycle (pcStep u k)
  have pc : (seqCycle (pcStep u k)).rget TSQ_PC = (pcStep u k).rget TSQ_PC := time.regs TSQ_PC (by decide) (by decide)
  refine ⟨?_, ?_, seqCycle_time _, time.rest, fun a ha hn => ?_⟩
  · rw [State.rd, pc]; exact rd_pcStep u k
  · rw [State.rd, pc]; exact stalled_pcStep u k
  · simp only [List.mem_cons, List.not_mem_nil, or_false, not_or] at hn
    exact (time.regs a ha (by simp [hn])).trans (rget_wr_ne u _ _ hn.1)

/-- A sequencer that issues words and does not stall. -/
theorem seqIssue_unstalled {s : State} (running : s.on TSQ_STATUS TSQ_STATUS_RUNNING = true) (going : s.seq.ended = false)
    (unstalled : s.seq.stall = none) (f : State → State) (n : State → Nat) : seqIssue f n s = seqCycle (pcStep (f s) (n s)) := by
  have ready : seqReady s = true := by simp [seqReady, running, going]
  have free : stallRelease s = s := by rw [stallRelease, unstalled]
  rw [seqIssue, if_pos ready, free]

theorem cycled_seqOne {s : State} (running : s.on TSQ_STATUS TSQ_STATUS_RUNNING = true) (going : s.seq.ended = false)
    (unstalled : s.seq.stall = none) (f : State → State) : Cycled 1 (f s) (seqOne f s) := by
  rw [seqOne, seqIssue_unstalled running going unstalled]
  exact cycled_seqCycle 1 (f s)

end Sys2Proof.Machine
end

section
/-! Tick program words that act on rings, tasks and tick points (03 R52, R54 to R56, R63, R69, R70; 09 R234, R245). -/

namespace Sys2Proof.Machine

open Sys2Proof

/-! ### RING: the segment's count of time (03 R52) -/

theorem ring_setRing (s : State) (k : Nat) (f : RingSt → RingSt) (j : Nat) :
    (s.setRing k f).ring j = if j = k then f (s.ring k) else s.ring j := amGet_amSet s.rings k j _

section RingMask

variable {mask : BitVec 24} {f : State → Nat → State} {g : RingSt → RingSt} {s : State}
  (acts : ∀ t k, t.clk = s.clk → f t k = t.setRing k g)
include acts

theorem ringMask_rest : ringMask mask f s = { s with rings := (ringMask mask f s).rings } := by
  refine List.foldlRecOn (motive := fun t : State => t = { s with rings := t.rings }) _ _ rfl fun t ht k _ => ?_
  split
  · rw [acts t k (by rw [ht])]
    conv_lhs => rw [ht]
    rfl
  · exact ht

theorem ring_ringMask (k : Nat) : (ringMask mask f s).ring k = if mask.getLsbD k then g (s.ring k) else s.ring k := by
  have other : ∀ t : State, t.clk = s.clk → ∀ i, i ≠ k → State.ring (if mask.getLsbD i then f t i else t) k = t.ring k := fun t ht i hi => by
    split
    · rw [acts t i ht, ring_setRing, if_neg (Ne.symm hi)]
    · rfl
  have keep : ∀ t : State, t.clk = s.clk → ∀ i, State.clk (if mask.getLsbD i then f t i else t) = s.clk := fun t ht i => by
    split
    · rw [acts t i ht, setRing_clk, ht]
    · exact ht
  by_cases h : k < 24
  · refine foldl_at List.nodup_range (List.mem_range.2 h) (fun t => t.ring k) (fun r => if mask.getLsbD k then g r else r)
      (I := fun t => t.clk = s.clk) rfl (fun t ht i _ => keep t ht i) (fun t ht i _ => other t ht i) fun t ht => ?_
    split
    · rw [acts t k ht, ring_setRing, if_pos rfl]
    · rfl
  · rw [BitVec.getLsbD_of_ge mask k (Nat.le_of_not_lt h), if_neg Bool.false_ne_true]
    refine (List.foldlRecOn (motive := fun t : State => t.clk = s.clk ∧ t.ring k = s.ring k) _ _ ⟨rfl, rfl⟩ fun t ht i hi => ?_).2
    exact ⟨keep t ht.1 i, (other t ht.1 i fun e => h (e ▸ List.mem_range.1 hi)).trans ht.2⟩

end RingMask

/-! ### RING in free mode: a buffer is taken, and the channels' samples go into it (03 R70; 13 R343) -/

/-- A key of a sparse map reads its default or is listed with its value. -/
theorem amGet_default_or_mem {V : Type} (d : Nat → V) (m : AMap V) (k : Nat) : amGet d m k = d k ∨ (k, amGet d m k) ∈ m := by
  induction m with
  | nil => exact .inl rfl
  | cons e m ih =>
    obtain ⟨j, v⟩ := e
    by_cases h : j = k
    · subst h; simp [amGet]
    · simpa [amGet, h, Ne.symm h] using ih

/-- The buffer of a live activation is bound. -/
theorem live_bound {s : State} {a : Nat} (live : (s.act a).live = true) :
    (s.acts.any fun e => e.2.live && e.2.buf == (s.act a).buf) = true := by
  rcases amGet_default_or_mem (fun _ => Act.idle) s.acts a with idle | listed
  · rw [State.act, idle] at live
    cases live
  · refine List.any_eq_true.2 ⟨_, listed, ?_⟩
    simpa [State.act] using live

/-- The segment fills a buffer that is neither the newest nor bound, or INBUF_FULL is set (03 R70). -/
theorem startFill_filling (s : State) :
    (∀ c, (startFill s).seq.filling = some c → c ∈ [0, 2, 3] ∧ c ≠ s.seq.newest ∧ ∀ a, (s.act a).live = true → (s.act a).buf ≠ c) ∧
    ((startFill s).seq.filling = none → (startFill s).on TSQ_STATUS TSQ_STATUS_INBUF_FULL = true) := by
  unfold startFill
  dsimp only
  split
  · next c found =>
    refine ⟨fun d hd => ?_, fun unfilled => by cases unfilled⟩
    obtain rfl : c = d := Option.some.inj hd
    have free := List.find?_some found
    rw [Bool.and_eq_true, bne_iff_ne, Bool.not_eq_true'] at free
    refine ⟨List.mem_of_find?_eq_some found, free.1, fun a live e => ?_⟩
    have := live_bound live
    rw [e, free.2] at this
    cases this
  · refine ⟨fun c hc => ?_, fun _ => ?_⟩
    · rw [raise_seq] at hc; cases hc
    · rw [State.on, rd_raise _ _ _ _ (by decide) (by decide), rd_wr_same _ _ _ _ (by decide) (by decide)]
      decide

theorem startFill_rest (s : State) : (startFill s).rings = s.rings ∧ (startFill s).clk = s.clk := by
  unfold startFill
  dsimp only
  split <;> simp

/-- Between s and t only input entries have been written, and samples taken for them dropped. -/
structure InputsWritten (s t : State) : Prop where
  rest : t = { s with regs := t.regs, image := t.image, ecc := t.ecc, lio := t.lio }
  regs : ∀ a, a ≠ IMG_MAPCHK → t.rget a = s.rget a

theorem InputsWritten.trans {s t u : State} (h : InputsWritten s t) (k : InputsWritten t u) : InputsWritten s u := by
  refine ⟨?_, fun a ha => (k.regs a ha).trans (h.regs a ha)⟩
  rw [k.rest]
  conv_lhs => rw [h.rest]

theorem inputsWritten_writeEntry (s : State) (c i : Nat) (e : Entry) : InputsWritten s (writeEntry s c i e) :=
  ⟨rfl, fun _ _ => rfl⟩

theorem inputsWritten_wr (s : State) {a : Nat} (f : Fld) (v : Nat) (h : a = IMG_MAPCHK) : InputsWritten s (s.wr a f v) :=
  ⟨rfl, fun _ hb => rget_wr_ne s f v (h ▸ hb)⟩

theorem inputsWritten_mapTouched (s : State) (c : Nat) : InputsWritten s (mapTouched s c) := by
  unfold mapTouched
  split
  · exact inputsWritten_wr s _ _ rfl
  · exact ⟨rfl, fun _ _ => rfl⟩

theorem inputsWritten_writeInput (s : State) (i : Nat) (v : Word) (st : Byte) : InputsWritten s (writeInput s i v st) := by
  unfold writeInput
  split
  · exact (inputsWritten_mapTouched s _).trans (inputsWritten_writeEntry _ _ _ _)
  · exact ⟨rfl, fun _ _ => rfl⟩

theorem inputsWritten_lioFill (s : State) : InputsWritten s (lioFill s) :=
  have entries : InputsWritten s (s.lio.held.foldl (fun t e => writeInput t e.1 e.2.1 e.2.2) s) :=
    List.foldlRecOn (motive := fun t => InputsWritten s t) _ _ ⟨rfl, fun _ _ => rfl⟩ fun t ht _ _ => ht.trans (inputsWritten_writeInput t _ _ _)
  entries.trans ⟨rfl, fun _ _ => rfl⟩

/-! ### RING sync: the sync frame (08 R204, R215; 09 R245, R248) -/

/-- A mask that names one ring. -/
theorem ringMask_one {mask : BitVec 24} {k : Fin 24} (one : ∀ j, mask.getLsbD j = decide (j = k.val)) (f : State → Nat → State) (s : State) :
    ringMask mask f s = f s k := by
  refine (foldl_at List.nodup_range (List.mem_range.2 k.isLt) id (fun t => if mask.getLsbD k then f t k else t) (I := fun _ => True) trivial
    (fun _ _ _ _ => trivial) (fun t _ j _ hj => ?_) fun _ _ => rfl).trans ?_
  · rw [one, decide_eq_false hj, if_neg Bool.false_ne_true]
  · rw [one, decide_eq_true rfl, if_pos rfl, id_eq]

theorem syncFrame_payload (s : State) (k : Nat) : (syncFrame s k).payload.length = 32 := by
  simp [syncFrame, ownFrame, withCrc, syncBytes]

/-- A sync frame as it leaves a port passes the checks of its receiver (08 R206, R207). -/
theorem syncFrame_good (s : State) (k : Nat) : headerBad (withRbc (syncFrame s k)) = false ∧ crcGood (withRbc (syncFrame s k)) = true := by
  constructor
  · have size := syncFrame_payload s k
    have len : (syncFrame s k).len = 32#16 := by
      have : (syncFrame s k).len = BitVec.ofNat 16 (syncFrame s k).payload.length := rfl
      rw [this, size]
    have header : rbErr (withRbc (syncFrame s k)) = false := by
      have complement : (withRbc (syncFrame s k)).rbc = ~~~(byte14 (withRbc (syncFrame s k))) := rfl
      rw [rbErr, complement, bne_self_eq_false]
    have type : typeErr (withRbc (syncFrame s k)) = false := by
      have range : lenRange (withRbc (syncFrame s k)).typ = some (32, 32) := rfl
      have payload : (withRbc (syncFrame s k)).payload.length = 32 := size
      have l : (withRbc (syncFrame s k)).len = 32#16 := len
      unfold typeErr
      rw [range]
      dsimp only
      rw [payload, l]
      rfl
    rw [headerBad, header, type]
    rfl
  · have crc : (withRbc (syncFrame s k)).crc = frameCrc (withRbc (syncFrame s k)) := rfl
    have fin : (withRbc (syncFrame s k)).fin = .t := rfl
    rw [crcGood, crc, fin]
    simp

/-- On a port that is not in loopback, may transmit and sends nothing, a frame leaves at once. -/
theorem ringSend_out {s : State} {k : Nat} {f : Frame} (open_ : modLoop s k false = false) (may : mayTransmit s k .module false = true)
    (quiet : lineNow s k .module false = none) : (ringSend s k f).out = s.out ++ [.frame k .module false (withRbc f)] := by
  have sends : portSends s k .module false (withRbc f) = [.frame k .module false (withRbc f)] := by
    simp [portSends, may, quiet]
  unfold ringSend ringOutOf
  rw [if_pos open_]
  unfold putFrame
  rw [sends]
  simp [setLine, pmcPort]

theorem setPort_out (s : State) (k : Nat) (p : Bool) (f : PortSt → PortSt) : (setPort s k .module p f).out = s.out := rfl

theorem out_ite {p : Prop} [Decidable p] {t u : State} {l : List Out} (h : t.out = l) (k : u.out = l) : (if p then t else u).out = l := by
  split <;> assumption

theorem modCloseOne_out (k : Nat) (s : State) (p : Bool) : (modCloseOne k s p).out = s.out := by
  unfold modCloseOne
  dsimp only
  refine out_ite (out_ite ?_ ?_) rfl
  · rw [setRing_out, wr_out, raise_out, wr_out, setPort_out, wr_out]
  · rw [raise_out, wr_out, setPort_out, wr_out]

theorem modClose_out (k : Nat) (s : State) : (modClose k s).out = s.out := (modCloseOne_out k _ true).trans (modCloseOne_out k s false)

theorem countPhase_out (s : State) (k : Nat) : (countPhase s k).out = s.out := by
  unfold countPhase
  dsimp only
  split <;> rfl

section Sync

variable {s : State} {k : Fin 24} (b : Bool)

theorem flag_master_rmode (g : Fld) (h : g.lo ≤ g.hi) (hd : 5 < g.lo ∨ g.hi < 5) :
    (s.flag (VGX_RMODE k) VGX_RMODE_MASTER b).rd (VGX_RMODE k) g = s.rd (VGX_RMODE k) g :=
  rd_wr_fld s _ VGX_RMODE_MASTER g _ (by decide) (by decide) hd h

theorem flag_master_other {a : Nat} (h : a ≠ VGX_RMODE k) : (s.flag (VGX_RMODE k) VGX_RMODE_MASTER b).rget a = s.rget a :=
  rget_wr_ne s _ _ h

theorem rmode_ne (k : Nat) : VGX_LINK k ≠ VGX_RMODE k ∧ VGX_EN_S k ≠ VGX_RMODE k ∧ VGX_CFG k ≠ VGX_RMODE k ∧ PAR_STATUS ≠ VGX_RMODE k := by
  unfold VGX_LINK VGX_RMODE VGX_EN_S VGX_CFG PAR_STATUS
  omega

/-- The port of a ring does not depend on the MASTER flag shown for the ring. -/
theorem mayTransmit_flag_master : mayTransmit (s.flag (VGX_RMODE k) VGX_RMODE_MASTER b) k .module false = mayTransmit s k .module false := by
  obtain ⟨link, en, cfg, -⟩ := rmode_ne k
  have ring : (s.flag (VGX_RMODE k) VGX_RMODE_MASTER b).ring k = s.ring k := by rw [State.ring, flag_rings, State.ring]
  unfold mayTransmit sendsFault modPortState modRx portOf State.on State.rd
  simp only [Bool.false_eq_true, if_false, flag_master_other b link, flag_master_other b en, flag_master_other b cfg, ring]

end Sync

end Sys2Proof.Machine
end

section
/-! Tick points, HOLD and the sync frame of the tick program (03 R54, R55, R63 to R66; 09 R245). -/

namespace Sys2Proof.Machine

open Sys2Proof

section Sync

variable {s : State} {k : Fin 24}

theorem rd_flag_other (b : Bool) {a : Nat} (g : Fld) (h : a ≠ VGX_RMODE k) :
    (s.flag (VGX_RMODE k) VGX_RMODE_MASTER b).rd a g = s.rd a g := by rw [State.rd, flag_master_other b h, State.rd]

theorem posB_flag (b : Bool) : (s.flag (VGX_RMODE k) VGX_RMODE_MASTER b).posB = s.posB := by
  rw [State.posB, State.on, rd_flag_other b _ (rmode_ne k).2.2.2, State.posB, State.on]

theorem syncRole_flag (b : Bool) : syncRole (s.flag (VGX_RMODE k) VGX_RMODE_MASTER b) = syncRole s := by
  rw [syncRole, State.role, rd_flag_other b _ (rmode_ne k).2.2.2, syncRole, State.role]

theorem modLoop_flag (b p : Bool) : modLoop (s.flag (VGX_RMODE k) VGX_RMODE_MASTER b) k p = modLoop s k p := by
  rw [modLoop, State.on, rd_flag_other b _ (rmode_ne k).1, modLoop, State.on]

theorem ringMaySend_flag (b : Bool) : ringMaySend (s.flag (VGX_RMODE k) VGX_RMODE_MASTER b) k = ringMaySend s k := by
  rw [ringMaySend, State.on, flag_master_rmode b _ (by decide) (by decide), ringMaySend, State.on]

theorem ringPhase_flag (b : Bool) : ringPhase (s.flag (VGX_RMODE k) VGX_RMODE_MASTER b) k = ringPhase s k := by
  rw [ringPhase, flag_master_rmode b _ (by decide) (by decide), ringPhase]

theorem lineNow_flag (s : State) (a : Nat) (f : Fld) (b : Bool) (k : Nat) (n : RNode) (p : Bool) : lineNow (s.flag a f b) k n p = lineNow s k n p := rfl

/-- A module whose role sends sync frames sends one on a ring that runs (09 R245). -/
theorem ringSync_sends (cede : (s.ring k).cede = false) (ceded : s.on (VGX_RMODE k) VGX_RMODE_CEDED = false) (phase : ringPhase s k = 0)
    (role : syncRole s = true) :
    ∃ b, ringSync s k = modClose k (countPhase (ringSend (s.flag (VGX_RMODE k) VGX_RMODE_MASTER b) k
      (syncFrame (s.flag (VGX_RMODE k) VGX_RMODE_MASTER b) k)) k) := by
  have claim : (ringPhase s k == 1 && claims s k) = false := by rw [phase]; rfl
  have may : ringMaySend s k = true := by rw [ringMaySend, ceded]; rfl
  unfold ringSync
  dsimp only
  rw [claim, cede]
  generalize hb : (syncRole s && ringMaySend s k && masterFlag s && !false) = b
  refine ⟨b, ?_⟩
  have switch : announceSwitch (s.flag (VGX_RMODE k) VGX_RMODE_MASTER b) k = s.flag (VGX_RMODE k) VGX_RMODE_MASTER b := by
    rw [announceSwitch, if_neg (by rw [ringPhase_flag, phase]; decide)]
  rw [if_neg Bool.false_ne_true, if_neg (by rw [ringMaySend_flag, may]; decide), if_neg Bool.false_ne_true,
    if_pos (by rw [syncRole_flag, role]), switch]

theorem ringSync_out (cede : (s.ring k).cede = false) (ceded : s.on (VGX_RMODE k) VGX_RMODE_CEDED = false) (phase : ringPhase s k = 0)
    (role : syncRole s = true) (open_ : modLoop s k false = false) (may : mayTransmit s k .module false = true)
    (quiet : lineNow s k .module false = none) :
    ∃ b, (ringSync s k).out = s.out ++ [.frame k .module false (withRbc (syncFrame (s.flag (VGX_RMODE k) VGX_RMODE_MASTER b) k))] := by
  obtain ⟨b, e⟩ := ringSync_sends cede ceded phase role
  refine ⟨b, ?_⟩
  rw [e, modClose_out, countPhase_out, ringSend_out (by rw [modLoop_flag, open_]) (by rw [mayTransmit_flag_master, may])
    (by rw [lineNow_flag, quiet]), flag_out]

/-- A module that has ceded the ring shows no MASTER and sends nothing (09 R248). -/
theorem ringSync_ceded (cede : (s.ring k).cede = false) (ceded : s.on (VGX_RMODE k) VGX_RMODE_CEDED = true) :
    ringSync s k = s.flag (VGX_RMODE k) VGX_RMODE_MASTER false := by
  have may : ringMaySend s k = false := by rw [ringMaySend, ceded]; rfl
  unfold ringSync
  dsimp only
  rw [cede, may, Bool.and_false, Bool.false_and, Bool.false_and, if_neg Bool.false_ne_true, if_pos (by rw [ringMaySend_flag, may])]

end Sync

/-! ### TP: a tick point (01 R17; 03 R54, R55) -/

/-- Whether the enable registers of an engine or a Canopy core name tick point n. -/
def tpEnabled (s : State) (n lo hi : Nat) : Bool := if n < 32 then wbit (s.rget lo).toNat n else wbit (s.rget hi).toNat (n - 32)

/-- The tick point at the Canopy cores. -/
def tpCanopy (s : State) (n : Nat) : State :=
  (List.range 4).foldl (fun t c => if tpEnabled t n (TSQ_CTPEN_LO c) (TSQ_CTPEN_HI c) then
    t.setCore (0x40 + c) { t.core (0x40 + c) with tps := (t.core (0x40 + c)).tps ||| 2 ^ n } else t) s

/-- Every task in YIELD on engine e becomes ready. -/
def resumeYielded (s : State) (e : Nat) : State :=
  (List.range 16).foldl (fun t c => if (t.task e c).st = .yielded then t.setTask e c { t.task e c with st := .ready } else t) s

/-- The tick point at the engines. -/
def tpEngines (s : State) (n : Nat) : State :=
  (List.range 64).foldl (fun t e => if tpEnabled t n (ENG_TPEN_LO e) (ENG_TPEN_HI e) && computes t then schedule (resumeYielded t e) e else t) s

theorem tickPoint_eq (s : State) (n : Nat) : tickPoint s n = tpEngines (tpCanopy s n) n := rfl

theorem core_setCore (s : State) (k : Nat) (c : Core) (j : Nat) : (s.setCore k c).core j = if j = k then c else s.core j :=
  amGet_amSet s.cores k j c

theorem tpCanopy_rest (s : State) (n : Nat) : tpCanopy s n = { s with cores := (tpCanopy s n).cores } := by
  refine List.foldlRecOn (motive := fun t : State => t = { s with cores := t.cores }) _ _ rfl fun t ht c _ => ?_
  split
  · conv_lhs => rw [ht]
    rfl
  · exact ht

theorem tpEnabled_congr {s t : State} (h : t.regs = s.regs) (n lo hi : Nat) : tpEnabled t n lo hi = tpEnabled s n lo hi := by
  rw [tpEnabled, State.rget, State.rget, h, tpEnabled, State.rget, State.rget]

theorem core_tpCanopy (s : State) (n : Nat) {c : Nat} (hc : c < 4) : (tpCanopy s n).core (0x40 + c) =
    if tpEnabled s n (TSQ_CTPEN_LO c) (TSQ_CTPEN_HI c) then { s.core (0x40 + c) with tps := (s.core (0x40 + c)).tps ||| 2 ^ n }
    else s.core (0x40 + c) := by
  refine foldl_at List.nodup_range (List.mem_range.2 hc) (fun t : State => t.core (0x40 + c))
    (fun x => if tpEnabled s n (TSQ_CTPEN_LO c) (TSQ_CTPEN_HI c) then { x with tps := x.tps ||| 2 ^ n } else x)
    (I := fun t => t.regs = s.regs) rfl (fun t ht i _ => ?_) (fun t _ i _ hi => ?_) fun t ht => ?_
  · split <;> exact ht
  · split
    · rw [core_setCore, if_neg (by omega)]
    · rfl
  · rw [tpEnabled_congr ht]
    split
    · rw [core_setCore_same]
    · rfl

theorem core_tpCanopy_eng (s : State) (n : Nat) {e : Nat} (he : e < 64) : (tpCanopy s n).core e = s.core e := by
  refine List.foldlRecOn (motive := fun t : State => t.core e = s.core e) _ _ rfl fun t ht c _ => ?_
  split
  · rw [core_setCore, if_neg (by omega), ht]
  · exact ht

theorem task_setTask (s : State) (e c : Nat) (t : Task) {d x : Nat} (hc : c < 16) (hx : x < 16) :
    (s.setTask e c t).task d x = if d = e ∧ x = c then t else s.task d x := by
  refine (amGet_amSet s.tasks _ _ t).trans ?_
  by_cases h : d = e ∧ x = c
  · rw [if_pos h, h.1, h.2, if_pos rfl]
  · rw [if_neg h, if_neg (by omega), State.task]

/-- t differs from s in its tasks only. -/
def OnlyTasks (s t : State) : Prop := t = { s with tasks := t.tasks }

theorem OnlyTasks.trans {s t u : State} (h : OnlyTasks s t) (k : OnlyTasks t u) : OnlyTasks s u := by
  unfold OnlyTasks at *
  rw [k]
  conv_lhs => rw [h]

theorem OnlyTasks.regs {s t : State} (h : OnlyTasks s t) : t.regs = s.regs := by rw [h]

theorem OnlyTasks.core {s t : State} (h : OnlyTasks s t) (n : Nat) : t.core n = s.core n := by
  have cores : t.cores = s.cores := by rw [h]
  rw [State.core, cores, State.core]

theorem onlyTasks_resumeYielded (s : State) (e : Nat) : OnlyTasks s (resumeYielded s e) := by
  refine List.foldlRecOn (motive := fun t => OnlyTasks s t) _ _ rfl fun t ht c _ => ?_
  split
  · exact ht.trans rfl
  · exact ht

/-- A task after a tick point that its engine enables. -/
def resumed (t : Task) : Task := if t.st = .yielded then { t with st := .ready } else t

theorem task_resumeYielded_same (s : State) (e : Nat) {c : Nat} (hc : c < 16) : (resumeYielded s e).task e c = resumed (s.task e c) := by
  refine foldl_at List.nodup_range (List.mem_range.2 hc) (fun t : State => t.task e c) resumed (I := fun _ => True) trivial
    (fun _ _ _ _ => trivial) (fun t _ i hi ne => ?_) fun t _ => ?_
  · split
    · rw [task_setTask _ _ _ _ (List.mem_range.1 hi) hc, if_neg (by omega)]
    · rfl
  · unfold resumed
    split
    · rw [task_setTask _ _ _ _ hc hc, if_pos ⟨rfl, rfl⟩]
    · rfl

theorem task_resumeYielded_ne (s : State) {e d : Nat} (h : d ≠ e) {c : Nat} (hc : c < 16) : (resumeYielded s e).task d c = s.task d c := by
  refine List.foldlRecOn (motive := fun t : State => t.task d c = s.task d c) _ _ rfl fun t ht i hi => ?_
  split
  · rw [task_setTask _ _ _ _ (List.mem_range.1 hi) hc, if_neg (by omega), ht]
  · exact ht

/-- An engine that cannot run, or whose task goes on, takes no other task. -/
theorem schedule_busy {s : State} {e : Nat} (h : engUsable s e = false ∨ (s.core e).task ≠ none) : schedule s e = s := by
  have free : ∀ c, (engUsable s e && (s.core e).task == none && (s.task e c).st == .ready) = false := fun c => by
    rcases h with h | h <;> simp [h]
  have idle : engIdle s e = s := if_neg fun ⟨usable, free⟩ => by
    rcases h with h | h
    · rw [h] at usable; cases usable
    · exact h free
  rw [schedule, List.foldl_fixed' (fun c => if_neg (by rw [free c]; exact Bool.false_ne_true)), idle]

theorem computes_congr {s t : State} (h : t.regs = s.regs) : computes t = computes s := by
  unfold computes roleComputes State.role State.rd State.rget
  rw [h]

theorem engUsable_congr {s t : State} (h : t.regs = s.regs) (e : Nat) : engUsable t e = engUsable s e := by
  unfold engUsable State.on State.rd State.rget
  rw [h]

section TickPoint

variable {s : State} {n : Nat}
  (busy : ∀ e, e < 64 → tpEnabled s n (ENG_TPEN_LO e) (ENG_TPEN_HI e) = true → engUsable s e = false ∨ (s.core e).task ≠ none)
include busy

/-- While every engine that enables the tick point goes on with its task, the step of the tick point at an engine resumes its tasks in YIELD. -/
theorem tpEngines_step {t : State} (ht : OnlyTasks s t) {e : Nat} (he : e ∈ List.range 64) :
    (if tpEnabled t n (ENG_TPEN_LO e) (ENG_TPEN_HI e) && computes t then schedule (resumeYielded t e) e else t) =
      if tpEnabled s n (ENG_TPEN_LO e) (ENG_TPEN_HI e) && computes s then resumeYielded t e else t := by
  rw [tpEnabled_congr ht.regs, computes_congr ht.regs]
  refine ite_congr rfl (fun on => schedule_busy ?_) fun _ => rfl
  have done := ht.trans (onlyTasks_resumeYielded t e)
  rw [engUsable_congr done.regs, done.core]
  exact busy e (List.mem_range.1 he) (Bool.and_eq_true_iff.1 on).1

theorem onlyTasks_tpEngines_step {t : State} (ht : OnlyTasks s t) {e : Nat} (he : e ∈ List.range 64) :
    OnlyTasks s (if tpEnabled t n (ENG_TPEN_LO e) (ENG_TPEN_HI e) && computes t then schedule (resumeYielded t e) e else t) := by
  rw [tpEngines_step busy ht he]
  split
  · exact ht.trans (onlyTasks_resumeYielded t e)
  · exact ht

theorem onlyTasks_tpEngines : OnlyTasks s (tpEngines s n) :=
  List.foldlRecOn (motive := fun t => OnlyTasks s t) _ _ rfl fun _ ht _ he => onlyTasks_tpEngines_step busy ht he

theorem task_tpEngines {e c : Nat} (he : e < 64) (hc : c < 16) : (tpEngines s n).task e c =
    if tpEnabled s n (ENG_TPEN_LO e) (ENG_TPEN_HI e) && computes s then resumed (s.task e c) else s.task e c := by
  refine foldl_at List.nodup_range (List.mem_range.2 he) (fun t : State => t.task e c)
    (fun x => if tpEnabled s n (ENG_TPEN_LO e) (ENG_TPEN_HI e) && computes s then resumed x else x) (I := fun t => OnlyTasks s t) rfl
    (fun t ht i hi => onlyTasks_tpEngines_step busy ht hi) (fun t ht i hi ne => ?_) fun t ht => ?_
  · rw [tpEngines_step busy ht hi]
    split
    · rw [task_resumeYielded_ne t (Ne.symm ne) hc]
    · rfl
  · rw [tpEngines_step busy ht (List.mem_range.2 he)]
    split
    · rw [task_resumeYielded_same t e hc]
    · rfl

end TickPoint

end Sys2Proof.Machine
end

section
/-! HOLD: no task outside an isolated Grove is left ready or running (03 R63 to R66; 06 R168). -/

namespace Sys2Proof.Machine

open Sys2Proof

/-! ### Tasks that neither run nor wait to run -/

/-- The task of class c on engine e neither runs nor is ready. -/
def Rests (s : State) (e c : Nat) : Prop := (s.task e c).st ≠ .running ∧ (s.task e c).st ≠ .ready

/-- Between s and t no task has become ready or running. -/
def NoneStarts (s t : State) : Prop := ∀ e c, Rests s e c → Rests t e c

namespace NoneStarts

theorem refl (s : State) : NoneStarts s s := fun _ _ => id

theorem trans {s t u : State} (h : NoneStarts s t) (k : NoneStarts t u) : NoneStarts s u := fun e c r => k e c (h e c r)

theorem of_tasks {s t : State} (h : t.tasks = s.tasks) : NoneStarts s t := fun e c r => by
  unfold Rests State.task
  rw [h]
  exact r

theorem foldl {α : Type} {f : State → α → State} (l : List α) (s : State) (hf : ∀ t x, NoneStarts t (f t x)) : NoneStarts s (l.foldl f s) :=
  List.foldlRecOn l f (refl s) fun t ht x _ => ht.trans (hf t x)

theorem ite {p : Prop} [Decidable p] {s t u : State} (h : NoneStarts s t) (k : NoneStarts s u) : NoneStarts s (if p then t else u) := by
  split <;> assumption

theorem setTask (s : State) (e c : Nat) {x : Task} (h : x.st ≠ .running ∧ x.st ≠ .ready) : NoneStarts s (s.setTask e c x) := fun d y r => by
  unfold Rests State.task State.setTask
  rw [amGet_amSet]
  split
  · exact h
  · exact r

theorem engIdle (s : State) (e : Nat) : NoneStarts s (engIdle s e) := ite (of_tasks (wr_tasks _ _ _ _)) (refl s)

theorem abandon (s : State) (e c : Nat) {x : Task} (h : x.st = .abandoned) : NoneStarts s (s.setTask e c x) := setTask s e c (by simp [h])

theorem keepAbandoned (s : State) (e c : Nat) : NoneStarts s (keepTask s e c .abandoned) := abandon s e c rfl

theorem setCore (s : State) (k : Nat) (c : Core) : NoneStarts s (s.setCore k c) := of_tasks (setCore_tasks s k c)

theorem setAct (s : State) (c : Nat) (a : Act) : NoneStarts s (s.setAct c a) := of_tasks (setAct_tasks s c a)

theorem wr (s : State) (a : Nat) (f : Fld) (v : Nat) : NoneStarts s (s.wr a f v) := of_tasks (wr_tasks s a f v)

theorem raise (s : State) (source a : Nat) (f : Fld) : NoneStarts s (s.raise source a f) := of_tasks (raise_tasks s source a f)

theorem eventReg (s : State) (source a : Nat) (f : Fld) : NoneStarts s (s.eventReg source a f) := of_tasks (eventReg_tasks s source a f)

end NoneStarts

/-! ### One task at HOLD -/

theorem task_setTask_same (s : State) (e c : Nat) (t : Task) : (s.setTask e c t).task e c = t := amGet_amSet_same _ _ _

/-- A running task at HOLD: abandoned and marked late, and its engine is free. -/
def holdRunning (s : State) (e c : Nat) : State :=
  let t := keepTask s e c .abandoned
  let t := t.setTask e c { t.task e c with overrun := true }
  engIdle (t.setCore e { t.core e with task := none }) e

theorem holdTask_eq (s : State) (e c : Nat) : holdTask s e c =
    if s.on (GRV_STATUS (e / 8)) GRV_STATUS_ISOLATED then s
    else match (s.task e c).st with
      | .running => (holdRunning s e c).raise 1 TSQ_STATUS TSQ_STATUS_LATE_TASK
      | .ready => (s.setTask e c { s.task e c with st := .abandoned, overrun := true }).raise 1 TSQ_STATUS TSQ_STATUS_LATE_TASK
      | .yielded => if finalTick s c then s.setTask e c { s.task e c with st := .abandoned, overrun := true } else s
      | _ => s := rfl

theorem holdRunning_state (s : State) (e c : Nat) : NoneStarts s (holdRunning s e c) ∧ Rests (holdRunning s e c) e c := by
  have kept : ((keepTask s e c .abandoned).task e c).st = .abandoned := by rw [keepTask, task_setTask_same]
  have late := NoneStarts.abandon (keepTask s e c .abandoned) e c (x := { (keepTask s e c .abandoned).task e c with overrun := true }) kept
  have rests : Rests ((keepTask s e c .abandoned).setTask e c { (keepTask s e c .abandoned).task e c with overrun := true }) e c := by
    simp [Rests, task_setTask_same, kept]
  have free := fun t : State => (NoneStarts.setCore t e { t.core e with task := none }).trans (.engIdle _ e)
  exact ⟨((NoneStarts.keepAbandoned s e c).trans late).trans (free _), free _ e c rests⟩

/-- At HOLD no task becomes ready or running, and the task it looks at, outside an isolated Grove, is left neither. -/
theorem holdTask_state (s : State) (e c : Nat) :
    NoneStarts s (holdTask s e c) ∧ (s.on (GRV_STATUS (e / 8)) GRV_STATUS_ISOLATED = false → Rests (holdTask s e c) e c) := by
  rw [holdTask_eq]
  split
  · next isolated => exact ⟨.refl s, fun free => by rw [free] at isolated; cases isolated⟩
  · split
    · obtain ⟨starts, rests⟩ := holdRunning_state s e c
      exact ⟨starts.trans (.raise _ _ _ _), fun _ => NoneStarts.raise _ _ _ _ e c rests⟩
    · exact ⟨(NoneStarts.abandon s e c rfl).trans (.raise _ _ _ _),
        fun _ => NoneStarts.raise _ _ _ _ e c (by simp [Rests, task_setTask_same])⟩
    · next yielded =>
      have rests : Rests s e c := by simp [Rests, yielded]
      have starts : NoneStarts s (if finalTick s c then s.setTask e c { s.task e c with st := .abandoned, overrun := true } else s) :=
        .ite (.abandon s e c rfl) (.refl s)
      exact ⟨starts, fun _ => starts e c rests⟩
    · next running ready _ => exact ⟨.refl s, fun _ => ⟨running, ready⟩⟩

/-- HOLD looks at one task without touching a register but the engine's status, TSQ_STATUS and the recorder's. -/
theorem rget_holdTask (s : State) (e c : Nat) {a : Nat} (h : a ∉ [ENG_STATUS e, TSQ_STATUS, EVR_STATUS, EVR_LOST]) :
    (holdTask s e c).rget a = s.rget a := by
  simp only [List.mem_cons, List.not_mem_nil, or_false, not_or] at h
  obtain ⟨eng, tsq, status, lost⟩ := h
  have idle : ∀ t : State, (engIdle t e).rget a = t.rget a := fun t => by
    unfold engIdle
    split
    · exact rget_wr_ne _ _ _ eng
    · rfl
  have raise : ∀ t : State, (t.raise 1 TSQ_STATUS TSQ_STATUS_LATE_TASK).rget a = t.rget a := fun t => rget_raise_ne t _ _ status lost tsq
  rw [holdTask_eq]
  split
  · rfl
  · split
    · rw [raise, holdRunning, idle]
      rfl
    · rw [raise]
      rfl
    · split <;> rfl
    · rfl

theorem rget_grvStatus_holdTask (s : State) (e c : Nat) {g : Nat} (hg : g < 8) : (holdTask s e c).rget (GRV_STATUS g) = s.rget (GRV_STATUS g) := by
  refine rget_holdTask s e c ?_
  simp only [List.mem_cons, List.not_mem_nil, or_false, not_or, ENG_STATUS, GRV_STATUS, TSQ_STATUS, EVR_STATUS, EVR_LOST]
  omega

/-! ### Every task at HOLD -/

/-- The late tasks of every class on every engine. -/
def holdLate (s : State) : State := (List.range 16).foldl (fun t c => (List.range 64).foldl (fun t e => holdTask t e c) t) s

/-- The registers of a Grove that the loop over the late tasks leaves alone say whether it is isolated. -/
theorem rget_grvStatus_holdEngines (s : State) {g : Nat} (c : Nat) (hg : g < 8) :
    ((List.range 64).foldl (fun t e => holdTask t e c) s).rget (GRV_STATUS g) = s.rget (GRV_STATUS g) :=
  List.foldlRecOn (motive := fun t : State => t.rget (GRV_STATUS g) = s.rget (GRV_STATUS g)) _ _ rfl fun t ht e _ =>
    (rget_grvStatus_holdTask t e c hg).trans ht

theorem noneStarts_holdEngines (s : State) (c : Nat) : NoneStarts s ((List.range 64).foldl (fun t e => holdTask t e c) s) :=
  .foldl _ s fun t e => (holdTask_state t e c).1

theorem rests_holdLate {s : State} {e c : Nat} (he : e < 64) (hc : c < 16) (free : s.on (GRV_STATUS (e / 8)) GRV_STATUS_ISOLATED = false) :
    Rests (holdLate s) e c := by
  have grove : e / 8 < 8 := by omega
  have apart : ∀ t : State, t.rget (GRV_STATUS (e / 8)) = s.rget (GRV_STATUS (e / 8)) → t.on (GRV_STATUS (e / 8)) GRV_STATUS_ISOLATED = false :=
    fun t ht => by rw [State.on, State.rd, ht]; exact free
  refine foldl_establishes (Q := fun t => t.rget (GRV_STATUS (e / 8)) = s.rget (GRV_STATUS (e / 8))) (List.mem_range.2 hc) rfl
    (fun t ht y _ => (rget_grvStatus_holdEngines t y grove).trans ht) (fun t ht => ?_)
    fun t _ rests y _ => noneStarts_holdEngines t y e c rests
  exact foldl_establishes (Q := fun u => u.rget (GRV_STATUS (e / 8)) = s.rget (GRV_STATUS (e / 8))) (List.mem_range.2 he) ht
    (fun u hu y _ => (rget_grvStatus_holdTask u y c grove).trans hu)
    (fun u hu => (holdTask_state u e c).2 (apart u hu)) fun u _ rests y _ => (holdTask_state u y c).1 e c rests

namespace NoneStarts

theorem setSeq (s : State) (f : Seq → Seq) : NoneStarts s (s.setSeq f) := of_tasks rfl

theorem lioHold (s : State) : NoneStarts s (lioHold s) := of_tasks rfl

theorem actSettle (s : State) (c : Nat) : NoneStarts s (actSettle s c) := ite (refl s) (setAct _ _ _)

theorem abandonAll (s : State) : NoneStarts s (abandonAll s) := by
  refine (foldl _ s fun t e => ?_).trans (foldl _ _ fun t c => setAct t c _)
  refine (trans ?_ (foldl _ _ fun u c => ite (refl u) (abandon u e c rfl))).trans ((setCore _ _ _).trans (engIdle _ e))
  split
  · exact keepAbandoned t e _
  · exact refl t

theorem stopEngines (s : State) : NoneStarts s (stopEngines s) := (abandonAll s).trans (foldl _ _ fun t _ => ite (wr t _ _ _) (refl t))

theorem stopClasses (s : State) (cs : List Nat) : NoneStarts s (stopClasses s cs) :=
  ((foldl _ s fun t _ => (raise t _ _ _).trans (eventReg _ _ _ _)).trans (stopEngines _)).trans
    (setSeq _ fun q => { q with stopDue := true })

theorem abandonClass (s : State) (c : Nat) : NoneStarts s (abandonClass s c) := by
  refine (foldl _ s fun t e => ?_).trans (setAct _ c _)
  exact (ite (((keepAbandoned t e c).trans (setCore _ _ _)).trans (engIdle _ e)) (refl t)).trans (ite (refl _) (abandon _ e c rfl))

theorem restoreOutputs (s : State) (c : Nat) : NoneStarts s (restoreOutputs s c) := foldl _ s fun t _ => of_tasks (setEntry_tasks t _ _ _)

theorem skipClass (s : State) (c : Nat) : NoneStarts s (skipClass s c) :=
  ((((restoreOutputs s c).trans (abandonClass _ c)).trans (raise _ _ _ _)).trans
    (of_tasks (bump_tasks _ _ _ _))).trans ((of_tasks (count_tasks _ _ _)).trans (eventReg _ _ _ _))

theorem hwmHold (s : State) : NoneStarts s (hwmHold s) :=
  foldl _ s fun t _ => foldl _ t fun u _ => ite (of_tasks (rset_tasks u _ _)) (of_tasks rfl)

theorem applyPrediction (s : State) : NoneStarts s (applyPrediction s) := ite (of_tasks (rset_tasks s _ _)) (refl s)

end NoneStarts

theorem noneStarts_holdLate_holdTasks (s : State) : NoneStarts (holdLate s) (holdTasks s) := by
  have overruns : ∀ (t : State) (cs stops : List Nat), NoneStarts t (if stops ≠ [] then stopClasses t stops else cs.foldl skipClass t) :=
    fun t cs stops => .ite (.stopClasses t stops) (.foldl cs t .skipClass)
  exact (overruns (holdLate s) _ _).trans (.foldl _ _ .actSettle)

/-- After HOLD in locked mode no task outside an isolated Grove is ready or running. -/
theorem rests_holdNow {s : State} {e c : Nat} (he : e < 64) (hc : c < 16) (free : s.on (GRV_STATUS (e / 8)) GRV_STATUS_ISOLATED = false) :
    Rests (holdNow s) e c :=
  have after : NoneStarts (holdLate s) (holdNow s) :=
    (((noneStarts_holdLate_holdTasks s).trans (.hwmHold _)).trans (.applyPrediction _)).trans
      ((NoneStarts.lioHold _).trans (.setSeq _ _))
  after e c (rests_holdLate he hc free)

end Sys2Proof.Machine
end

section
/-! Tick program words that act on rings, tasks and tick points, assembled (03 R52, R54 to R56, R63, R69, R70; 09 R234, R245; 01 R17). -/

namespace Sys2Proof.Machine

open Sys2Proof

/-- What RING sel 0 leaves in the record of a ring named: its input segment begins now, with nothing accepted yet. -/
def segmentBegun (now : Nat) (r : RingSt) : RingSt := { r with sIn := now, inSeg := true, acc := [], thruAcc := [] }

theorem ringIn_eq {s t : State} (k : Nat) (h : t.clk = s.clk) : ringIn t k = t.setRing k (segmentBegun (nowU s)) := by
  have now : nowU t = nowU s := by rw [nowU, h, nowU]
  rw [ringIn, now]
  rfl

theorem ringDyn_eq {s t : State} (k : Nat) (h : t.clk = s.clk) : ringDyn t k = t.setRing k fun r => { r with sDyn := nowU s } := by
  have now : nowU t = nowU s := by rw [nowU, h, nowU]
  rw [ringDyn, now]

theorem ringOut_eq {s t : State} (k : Nat) (h : t.clk = s.clk) : ringOut t k = t.setRing k fun r => { r with sOut := nowU s } := by
  have now : nowU t = nowU s := by rw [nowU, h, nowU]
  rw [ringOut, now]

theorem ringInSegment_later {s : State} (mask : BitVec 24) (h : s.freeMode = false ∨ ∃ j, j < 24 ∧ (s.ring j).inSeg = true) :
    ringInSegment mask s = ringMask mask ringIn s := by
  have later : (s.freeMode && (List.range 24).all fun j => !(s.ring j).inSeg) = false := by
    rcases h with locked | ⟨j, hj, inSeg⟩
    · rw [locked, Bool.false_and]
    · rw [Bool.and_eq_false_iff]
      exact .inr (List.all_eq_false.2 ⟨j, List.mem_range.2 hj, by simp [inSeg]⟩)
  unfold ringInSegment
  dsimp only
  rw [later, if_neg Bool.false_ne_true]

theorem ringInSegment_first {s : State} (mask : BitVec 24) (free : s.freeMode = true) (first : ∀ j, j < 24 → (s.ring j).inSeg = false) :
    ringInSegment mask s = ringMask mask ringIn (lioFill (startFill s)) := by
  have now : (s.freeMode && (List.range 24).all fun j => !(s.ring j).inSeg) = true := by
    rw [free, Bool.true_and, List.all_eq_true]
    exact fun j hj => by rw [first j (List.mem_range.1 hj), Bool.not_false]
  unfold ringInSegment
  dsimp only
  rw [now, if_pos rfl]

section Words

variable {s : State} (mask : BitVec 24)

/-- In free mode the first input segment to start takes a buffer or shows that there is none (03 R70). -/
theorem ringInSegment_free (free : s.freeMode = true) (first : ∀ j, j < 24 → (s.ring j).inSeg = false) :
    (∀ k, (ringInSegment mask s).ring k = if mask.getLsbD k then segmentBegun (nowU s) (s.ring k) else s.ring k) ∧
    (∀ c, (ringInSegment mask s).seq.filling = some c →
      c ∈ [0, 2, 3] ∧ c ≠ s.seq.newest ∧ ∀ a, (s.act a).live = true → (s.act a).buf ≠ c) ∧
    ((ringInSegment mask s).seq.filling = none → (ringInSegment mask s).on TSQ_STATUS TSQ_STATUS_INBUF_FULL = true) := by
  rw [ringInSegment_first mask free first]
  obtain ⟨rings, clk⟩ := startFill_rest s
  obtain ⟨taken, full⟩ := startFill_filling s
  have filled := inputsWritten_lioFill (startFill s)
  have clk' : (lioFill (startFill s)).clk = s.clk := by rw [filled.rest, clk]
  have rings' : (lioFill (startFill s)).rings = s.rings := by rw [filled.rest, rings]
  have begins : ∀ t k, t.clk = (lioFill (startFill s)).clk → ringIn t k = t.setRing k (segmentBegun (nowU s)) := fun t k ht =>
    ringIn_eq k (ht.trans clk')
  have rest := ringMask_rest (mask := mask) begins
  have seq : (ringMask mask ringIn (lioFill (startFill s))).seq = (startFill s).seq := by rw [rest, filled.rest]
  have regs : (ringMask mask ringIn (lioFill (startFill s))).regs = (lioFill (startFill s)).regs := by rw [rest]
  refine ⟨fun k => ?_, ?_, ?_⟩
  · rw [ring_ringMask begins, State.ring, rings', State.ring]
  · rw [seq]
    exact taken
  · rw [seq, State.on, State.rd, State.rget, regs, ← State.rget, filled.regs _ (by decide)]
    exact full

/-- The RING words other than a sync frame: the record of each ring named takes the instant, and nothing else changes. -/
theorem cycled_ringMask {f : State → Nat → State} {g : RingSt → RingSt} (acts : ∀ t k, t.clk = s.clk → f t k = t.setRing k g) {t : State}
    (issued : Cycled 1 (ringMask mask f s) t) :
    ∃ u, Cycled 1 u t ∧ u = { s with rings := u.rings } ∧ ∀ k, u.ring k = if mask.getLsbD k then g (s.ring k) else s.ring k :=
  ⟨_, issued, ringMask_rest acts, ring_ringMask acts⟩

end Words

theorem rest_of_onlyTasks {s t u : State} (h : t = { s with cores := t.cores }) (k : OnlyTasks t u) :
    u = { s with cores := u.cores, tasks := u.tasks } := by
  have cores : u.cores = t.cores := by rw [k]
  rw [cores]
  refine Eq.trans k ?_
  conv_lhs => rw [h]

/-- TP resumes the tasks in YIELD on the engines that enable it and signals the Canopy cores that do. -/
theorem tickPoint_result {s : State} {n : Nat}
    (busy : ∀ e, e < 64 → tpEnabled s n (ENG_TPEN_LO e) (ENG_TPEN_HI e) = true → engUsable s e = false ∨ (s.core e).task ≠ none) :
    tickPoint s n = { s with cores := (tickPoint s n).cores, tasks := (tickPoint s n).tasks } ∧
    (∀ e c, e < 64 → c < 16 → (tickPoint s n).task e c =
      if tpEnabled s n (ENG_TPEN_LO e) (ENG_TPEN_HI e) && computes s then resumed (s.task e c) else s.task e c) ∧
    (∀ e, e < 64 → (tickPoint s n).core e = s.core e) ∧
    ∀ c, c < 4 → (tickPoint s n).core (0x40 + c) = if tpEnabled s n (TSQ_CTPEN_LO c) (TSQ_CTPEN_HI c) then
      { s.core (0x40 + c) with tps := (s.core (0x40 + c)).tps ||| 2 ^ n } else s.core (0x40 + c) := by
  have rest := tpCanopy_rest s n
  have regs : (tpCanopy s n).regs = s.regs := by rw [rest]
  have tasks : (tpCanopy s n).tasks = s.tasks := by rw [rest]
  have busy' : ∀ e, e < 64 → tpEnabled (tpCanopy s n) n (ENG_TPEN_LO e) (ENG_TPEN_HI e) = true →
      engUsable (tpCanopy s n) e = false ∨ ((tpCanopy s n).core e).task ≠ none := fun e he => by
    rw [tpEnabled_congr regs, engUsable_congr regs, core_tpCanopy_eng s n he]
    exact busy e he
  have only := onlyTasks_tpEngines busy'
  rw [tickPoint_eq]
  refine ⟨rest_of_onlyTasks rest only, fun e c he hc => ?_, fun e he => ?_, fun c hc => ?_⟩
  · rw [task_tpEngines busy' he hc, tpEnabled_congr regs, computes_congr regs, State.task, tasks, State.task]
  · rw [only.core, core_tpCanopy_eng s n he]
  · rw [only.core, core_tpCanopy s n hc]

theorem resumed_yielded {t : Task} (h : t.st = .yielded) : (resumed t).st = .ready := by rw [resumed, if_pos h]

theorem resumed_other {t : Task} (h : t.st ≠ .yielded) : resumed t = t := if_neg h

theorem onlyRegs_wr (s : State) (a : Nat) (f : Fld) (v : Nat) : OnlyRegs [a] s (s.wr a f v) :=
  ⟨rfl, fun _ hb => rget_wr_ne s f v (List.ne_of_not_mem_cons hb)⟩

/-- REL opens the execution window before it releases, and releases nothing in a module that does not compute (01 R17; 03 R56). -/
theorem relNow_open {s : State} (mask : Nat) (due : s.seq.stopDue = false) :
    relNow mask s = relMask { s with seq := { s.seq with held := false } } mask := by
  rw [relNow, due, if_neg Bool.false_ne_true]
  rfl

theorem relMask_idle {s : State} (mask : Nat) (off : computes s = false) : relMask s mask = s := by
  rw [relMask, off, if_neg Bool.false_ne_true]

theorem inLocked_free {s : State} (f : State → State) (free : s.freeMode = true) : inLocked f s = s := by rw [inLocked, free, if_pos rfl]

theorem inLocked_locked {s : State} (f : State → State) (locked : s.freeMode = false) : inLocked f s = f s := by
  rw [inLocked, locked, if_neg Bool.false_ne_true]

/-- A word whose effect on the state is known. -/
theorem does_word {c : Instr} {s u : State} {f : State → State} {P : State → Prop} (meaning : exec c s = .next (seqOne f s))
    (issued : Cycled 1 (f s) (seqOne f s)) (effect : f s = u) (h : ∀ t, Cycled 1 u t → P t) : Does c s P :=
  ⟨_, meaning, h _ (effect ▸ issued)⟩

theorem withRbc_payload (f : Frame) : (withRbc f).payload = f.payload := rfl

theorem sent_payload (s : State) (k : Nat) : (withRbc (syncFrame s k)).payload.length = 32 := by
  rw [withRbc_payload, syncFrame_payload]

/-- Settles O36: each word issues in one cycle after its effect on the rings, the tasks or the cores. -/
theorem sequencerUnits : Obligations.SequencerUnits := by
  unfold Obligations.SequencerUnits
  intro mask cls n s running going unstalled
  have issued := cycled_seqOne running going unstalled
  dsimp only
  refine ⟨fun later => ?laterSegment, fun free first => ?firstSegment, ?dynamic, ?outSegment,
    fun k one cede ceded phase open_ may quiet role => ?sync, fun k one cede ceded => ?ceded,
    fun on due => ?release, fun off due => ?idleRelease, fun due => ?stopDue, fun busy => ?tickPoint, fun free => ?freeHold, fun locked => ?lockedHold⟩
  case laterSegment =>
    exact does_word rfl (issued _) (ringInSegment_later mask later) fun _ => cycled_ringMask mask fun _ k => ringIn_eq k
  case firstSegment =>
    obtain ⟨rings, taken, full⟩ := ringInSegment_free mask free first
    exact does_word rfl (issued _) rfl fun _ h => ⟨_, h, rings, taken, full⟩
  case dynamic =>
    exact does_word rfl (issued _) rfl fun _ => cycled_ringMask mask fun _ k => ringDyn_eq k
  case outSegment =>
    exact does_word rfl (issued _) rfl fun _ => cycled_ringMask mask fun _ k => ringOut_eq k
  case sync =>
    have syncs : syncRole s = true := by rcases role with h | h | h <;> simp [syncRole, h]
    obtain ⟨b, out⟩ := ringSync_out cede ceded phase syncs open_ may quiet
    obtain ⟨good, crc⟩ := syncFrame_good (s.flag (VGX_RMODE k) VGX_RMODE_MASTER b) k
    exact does_word rfl (issued _) (ringMask_one one ringSync s) fun _ h =>
      ⟨_, _, h, out, rfl, rfl, rfl, posB_flag b, sent_payload _ k, good, crc⟩
  case ceded =>
    refine does_word rfl (issued _) ((ringMask_one one ringSync s).trans (ringSync_ceded cede ceded)) fun _ h =>
      ⟨_, h, onlyRegs_wr s _ _ _, ?_⟩
    rw [State.flag, State.on, rd_wr_same _ _ _ _ (by decide) (by decide)]
    rfl
  case release => exact does_word rfl (issued _) (relNow_open _ due) fun _ => id
  case idleRelease => exact does_word rfl (issued _) ((relNow_open _ due).trans (relMask_idle _ ((computes_congr rfl).trans off))) fun _ => id
  case stopDue => exact does_word rfl (issued _) (if_pos due) fun _ => id
  case tickPoint =>
    obtain ⟨rest, tasks, engines, canopy⟩ := tickPoint_result (n := n) busy
    refine does_word rfl (issued fun s => tickPoint s n) rfl fun _ h => ⟨_, h, rest,
      fun e c he hc => ⟨fun on comp yielded => ?_, fun off => ?_⟩, engines,
      fun c hc => ⟨fun on => (canopy c hc).trans (if_pos on), fun off => (canopy c hc).trans (if_neg off)⟩⟩
    · refine (congrArg Task.st ((tasks e c he hc).trans (if_pos ?_))).trans (resumed_yielded yielded)
      rw [comp, Bool.and_true]
      exact on
    · refine (tasks e c he hc).trans ?_
      split
      · next on =>
        obtain ⟨enabled, comp⟩ := Bool.and_eq_true_iff.1 on
        rcases off with off | off | off
        · exact absurd enabled off
        · rw [comp] at off; cases off
        · exact resumed_other off
      · rfl
  case freeHold => exact does_word rfl (issued _) (inLocked_free holdNow free) fun _ => id
  case lockedHold =>
    exact does_word rfl (issued _) (inLocked_locked holdNow locked) fun _ h => ⟨_, h, rfl, fun _ _ he hc free => rests_holdNow he hc free⟩

end Sys2Proof.Machine
end

section
/-! The enable words of the units (01 R19): where they stand, and what leaves them as they are. -/

namespace Sys2Proof.Machine

open Sys2Proof

/-! ### Where the enable words stand -/

/-- An address at which the enable word of a unit may stand. -/
def IsEnable (a : Nat) : Prop :=
  (0x300100000 ≤ a ∧ a < 0x300100030) ∨
  (0x300080000 ≤ a ∧ a < 0x300100000 ∧ a % 0x10000 = 0) ∨
  (0x300200000 ≤ a ∧ a < 0x300380000 ∧ a % 0x10000 < 8) ∨
  a = 0x300140080 ∨ a = 0x300140084 ∨
  (0x300380000 ≤ a ∧ a < 0x3003C0000 ∧ (a % 0x10000 = 0 ∨ (0x100 ≤ a % 0x10000 ∧ a % 0x10000 < 0x300 ∧ a % 0x20 = 0))) ∨
  (0x300400000 ≤ a ∧ a < 0x300480000 ∧ a % 0x10000 = 0) ∨
  (0x3001A0400 ≤ a ∧ a < 0x3001A0800 ∧ a % 0x20 = 0)

theorem isEnable_enAddr (u : UnitId) : IsEnable (enAddr u) := by
  unfold IsEnable
  cases u with
  | lane l => dsimp only [enAddr]; unfold PAR_EN_PL0 PAR_EN_PL1; split <;> omega
  | domain d => dsimp only [enAddr]; unfold PWR_EN; omega
  | grove g => dsimp only [enAddr]; unfold GRV_EN; omega
  | portS k => dsimp only [enAddr]; unfold VGX_EN_S; omega
  | portP k => dsimp only [enAddr]; unfold VGX_EN_P; omega
  | eth n => dsimp only [enAddr]; unfold ETH_EN; omega
  | ring n r => dsimp only [enAddr]; unfold ETH_RING_EN; omega
  | can n => dsimp only [enAddr]; unfold CAN_EN; omega
  | lio c => dsimp only [enAddr]; unfold LIO_EN; omega

theorem not_isEnable_rdyVec : ¬ IsEnable RDY_VEC := by unfold IsEnable RDY_VEC; omega
theorem not_isEnable_rdyEvt : ¬ IsEnable RDY_EVT := by unfold IsEnable RDY_EVT; omega
theorem not_isEnable_parStatus : ¬ IsEnable PAR_STATUS := by unfold IsEnable PAR_STATUS; omega
theorem not_isEnable_evrStatus : ¬ IsEnable EVR_STATUS := by unfold IsEnable EVR_STATUS; omega
theorem not_isEnable_evrLost : ¬ IsEnable EVR_LOST := by unfold IsEnable EVR_LOST; omega
theorem not_isEnable_groupStat {i : Nat} (h : i < 2) : ¬ IsEnable (LIO_GRP_STAT i) := by unfold IsEnable LIO_GRP_STAT; omega
theorem not_isEnable_diag (c : Fin 32) : ¬ IsEnable (LIO_DIAG c) := by unfold IsEnable LIO_DIAG; omega
theorem not_isEnable_engStatus {e : Nat} (h : e < 64) : ¬ IsEnable (ENG_STATUS e) := by unfold IsEnable ENG_STATUS; omega
theorem not_isEnable_groveStatus (g : Fin 8) : ¬ IsEnable (GRV_STATUS g) := by unfold IsEnable GRV_STATUS; omega
theorem not_isEnable_faultEngTick (g : Fin 8) : ¬ IsEnable (GRV_FAULT_TICK_LO g) ∧ ¬ IsEnable (GRV_FAULT_TICK_HI g) := by
  unfold IsEnable GRV_FAULT_TICK_LO GRV_FAULT_TICK_HI; omega
theorem not_isEnable_comparator {j : Nat} (h : j < 108) : ¬ IsEnable (LSC_CMP j) := by unfold IsEnable LSC_CMP; omega
theorem not_isEnable_link (k : Fin 24) : ¬ IsEnable (VGX_LINK k) := by unfold IsEnable VGX_LINK; omega
theorem not_isEnable_ringStatus (k : Fin 24) : ¬ IsEnable (VGX_STATUS k) := by unfold IsEnable VGX_STATUS; omega
theorem not_isEnable_ringMode (k : Fin 24) : ¬ IsEnable (VGX_RMODE k) := by unfold IsEnable VGX_RMODE; omega
theorem not_isEnable_portCount (k : Fin 24) {p i : Nat} (hp : p < 2) (hi : i < 16) : ¬ IsEnable (VGX_CNT k p i) := by
  unfold IsEnable VGX_CNT; omega
theorem not_isEnable_ethStatus (n : Fin 4) : ¬ IsEnable (ETH_STATUS n) := by unfold IsEnable ETH_STATUS; omega
theorem not_isEnable_ethEvt (n : Fin 4) : ¬ IsEnable (ETH_EVT n) := by unfold IsEnable ETH_EVT; omega
theorem not_isEnable_canStatus (n : Fin 8) : ¬ IsEnable (CAN_STATUS n) := by unfold IsEnable CAN_STATUS; omega
theorem not_isEnable_canBevt (n : Fin 8) {i : Nat} (hi : i < 4) : ¬ IsEnable (CAN_BEVT n i) := by unfold IsEnable CAN_BEVT; omega
theorem not_isEnable_canControl (n : Fin 8) {b : Nat} (hb : b < 128) : ¬ IsEnable (CAN_MB_CTRL n b) := by unfold IsEnable CAN_MB_CTRL; omega

/-! ### What leaves the enable words as they are -/

/-- s and t have the same enable words. -/
def SameEnables (s t : State) : Prop := ∀ a, IsEnable a → t.rget a = s.rget a

namespace SameEnables

variable {s t u : State}

theorem refl (s : State) : SameEnables s s := fun _ _ => rfl

theorem trans (h : SameEnables s t) (k : SameEnables t u) : SameEnables s u := fun a ha => (k a ha).trans (h a ha)

theorem of_regs (h : t.regs = s.regs) : SameEnables s t := fun a _ => by rw [State.rget, h, State.rget]

theorem rset (s : State) {a : Nat} (w : Word) (h : ¬ IsEnable a) : SameEnables s (s.rset a w) :=
  fun _ hb => rget_rset_ne s w fun e => h (e ▸ hb)

theorem wr (s : State) {a : Nat} (f : Fld) (v : Nat) (h : ¬ IsEnable a) : SameEnables s (s.wr a f v) := rset s _ h

theorem flag (s : State) {a : Nat} (f : Fld) (b : Bool) (h : ¬ IsEnable a) : SameEnables s (s.flag a f b) := rset s _ h

theorem bump (s : State) {a : Nat} (f : Fld) (n : Nat) (h : ¬ IsEnable a) : SameEnables s (s.bump a f n) := rset s _ h

theorem wr64 (s : State) {lo hi : Nat} (v : Nat) (h : ¬ IsEnable lo) (h' : ¬ IsEnable hi) : SameEnables s (s.wr64 lo hi v) :=
  (rset s _ h).trans (rset _ _ h')

theorem raise (s : State) (source : Nat) {a : Nat} (f : Fld) (h : ¬ IsEnable a) : SameEnables s (s.raise source a f) :=
  fun _ hb => rget_raise_ne s source f (fun e => not_isEnable_evrStatus (e ▸ hb)) (fun e => not_isEnable_evrLost (e ▸ hb))
    fun e => h (e ▸ hb)

theorem ite {p : Prop} [Decidable p] (h : SameEnables s t) (k : SameEnables s u) : SameEnables s (if p then t else u) := by
  split <;> assumption

theorem foldl {α : Type} {f : State → α → State} (l : List α) (s : State) (hf : ∀ t, ∀ x ∈ l, SameEnables t (f t x)) :
    SameEnables s (l.foldl f s) :=
  List.foldlRecOn l f (refl s) fun t ht x hx => ht.trans (hf t x hx)

theorem rd (h : SameEnables s t) (u : UnitId) (f : Fld) : t.rd (enAddr u) f = s.rd (enAddr u) f := by
  rw [State.rd, h _ (isEnable_enAddr u), State.rd]

theorem on (h : SameEnables s t) (u : UnitId) (f : Fld) : t.on (enAddr u) f = s.on (enAddr u) f := by
  rw [State.on, h.rd, State.on]

theorem unitState (h : SameEnables s t) (u : UnitId) : t.unitState u = s.unitState u := h.rd u U_STATE

end SameEnables

/-! ### What a unit does as it stops (06 R159, 08 R230, 13 R359, 14 R373, 16 R405) -/

theorem sameEnables_dropLine (s : State) (k : Nat) (n : RNode) (p : Bool) : SameEnables s (dropLine s k n p) := by
  unfold dropLine
  exact .ite (.of_regs rfl) (.refl s)

theorem sameEnables_setModRx (s : State) (k : Fin 24) (p sig sync f kk : Bool) : SameEnables s (setModRx s k p sig sync f kk) := by
  have link := not_isEnable_link k
  have bits (a b c d : Fld) : SameEnables s ((((s.flag (VGX_LINK k) a sig).flag (VGX_LINK k) b sync).flag (VGX_LINK k) c f).flag (VGX_LINK k) d kk) :=
    (((SameEnables.flag _ _ _ link).trans (.flag _ _ _ link)).trans (.flag _ _ _ link)).trans (.flag _ _ _ link)
  unfold setModRx
  exact .ite ((bits _ _ _ _).trans (.raise _ _ _ (not_isEnable_ringStatus k))) (bits _ _ _ _)

theorem sameEnables_enterLoop (s : State) (k : Fin 24) (p : Bool) : SameEnables s (enterLoop s k p) := by
  unfold enterLoop
  dsimp only
  refine SameEnables.trans (.of_regs (setRing_regs ..)) (.ite (.refl _) ?_)
  refine (sameEnables_dropLine _ k .module p).trans ?_
  refine (((SameEnables.wr _ _ _ (not_isEnable_link k)).trans (.bump _ _ _ (not_isEnable_portCount k (by split <;> omega) (by omega)))).trans
    (.raise _ _ _ (not_isEnable_ringStatus k))).trans (.ite ?_ (.refl _))
  exact (SameEnables.wr _ _ _ (not_isEnable_ringMode k)).trans (.of_regs (setRing_regs ..))

theorem sameEnables_portDark (s : State) (k : Fin 24) (p : Bool) : SameEnables s (portDark s k p) := by
  unfold portDark
  exact ((sameEnables_setModRx s k p _ _ _ _).trans (sameEnables_enterLoop _ k p)).trans (.of_regs (setRing_regs ..))

theorem sameEnables_onStop (s : State) (u : UnitId) : SameEnables s (onStop s u) := by
  unfold onStop
  dsimp only
  refine SameEnables.trans (.foldl (rdyBits u) s fun t i _ => .wr t ⟨i, i⟩ 0 not_isEnable_rdyVec) ?_
  cases u with
  | domain d =>
    exact .ite ((SameEnables.wr _ _ _ (not_isEnable_groupStat (by omega))).trans (.wr _ _ _ (not_isEnable_groupStat (by omega)))) (.refl _)
  | grove g => exact .foldl _ _ fun t i hi => .wr t _ _ (not_isEnable_engStatus (by have := List.mem_range.1 hi; omega))
  | portS k => exact sameEnables_portDark _ k false
  | portP k => exact sameEnables_portDark _ k true
  | lio c => exact .wr _ _ _ (not_isEnable_diag c)
  | lane l => exact .refl _
  | eth n => exact .refl _
  | ring n r => exact .refl _
  | can n => exact .refl _

end Sys2Proof.Machine
end

section
/-! The enable word and the record of a unit as it starts and stops (01 R19 to R26, R420), and the units that stop with it (R25). -/

namespace Sys2Proof.Machine

open Sys2Proof

section
variable {s t : State} {u v : UnitId}

/-! ### Fields of an enable word -/

theorem unitState_lt (s : State) (u : UnitId) : s.unitState u < 4 := bitsOf_lt _ U_STATE

theorem unitState_wr_state (s : State) (u : UnitId) (v : Nat) : (s.wr (enAddr u) U_STATE v).unitState u = v % 4 :=
  rd_wr_same s _ U_STATE v (by decide) (by decide)

/-- Writing another field of a unit's enable word leaves its STATE. -/
theorem unitState_wr_field (s : State) (u : UnitId) {f : Fld} (v : Nat) (h : U_STATE.hi < f.lo ∧ f.lo ≤ f.hi ∧ f.hi < 32) :
    (s.wr (enAddr u) f v).unitState u = s.unitState u :=
  rd_wr_fld s _ f U_STATE v h.2.1 h.2.2 (.inr h.1) (by decide)

theorem on_wr_same (s : State) (a : Nat) {f : Fld} {v : Nat} (h : f.lo = f.hi ∧ f.hi < 32 := by decide) :
    (s.wr a f v).on a f = (v % 2 == 1) := by
  rw [State.on, rd_wr_same s a f v h.1.le h.2, h.1, Nat.add_sub_cancel_left, pow_one]

theorem on_wr_fld (s : State) (a : Nat) {f g : Fld} (v : Nat)
    (h : (f.lo ≤ f.hi ∧ f.hi < 32) ∧ (f.hi < g.lo ∨ g.hi < f.lo) ∧ g.lo ≤ g.hi := by decide) : (s.wr a f v).on a g = s.on a g := by
  rw [State.on, rd_wr_fld s a f g v h.1.1 h.1.2 h.2.1 h.2.2, State.on]

theorem on_wr_reg (s : State) {a b : Nat} (f g : Fld) (v : Nat) (h : b ≠ a) : (s.wr a f v).on b g = s.on b g := by
  rw [State.on, rd_wr_reg s f g v h, State.on]

/-- The fields of an enable word depend on that register only. -/
theorem unitState_of_rget (h : t.rget (enAddr u) = s.rget (enAddr u)) : t.unitState u = s.unitState u := by
  rw [State.unitState, State.rd, h, State.unitState, State.rd]

theorem on_of_rget {a : Nat} {f : Fld} (h : t.rget a = s.rget a) : t.on a f = s.on a f := by rw [State.on, State.rd, h, State.on, State.rd]

/-! ### Registers written -/

theorem OnlyRegs.trans {l l' : List Nat} {s t u : State} (h : OnlyRegs l s t) (k : OnlyRegs l' t u) : OnlyRegs (l ++ l') s u := by
  obtain ⟨rest, regs⟩ := h
  obtain ⟨rest', regs'⟩ := k
  refine ⟨?_, fun a ha => ?_⟩
  · rw [rest']
    conv_lhs => rw [rest]
  · rw [List.mem_append, not_or] at ha
    exact (regs' a ha.2).trans (regs a ha.1)

theorem OnlyRegs.mono {l l' : List Nat} {s t : State} (h : OnlyRegs l s t) (sub : l ⊆ l') : OnlyRegs l' s t :=
  ⟨h.1, fun a ha => h.2 a fun m => ha (sub m)⟩

/-- A second write to the same register. -/
theorem OnlyRegs.wr {a : Nat} {s t : State} (h : OnlyRegs [a] s t) (f : Fld) (v : Nat) : OnlyRegs [a] s (t.wr a f v) :=
  (h.trans (onlyRegs_wr t a f v)).mono (by simp)

/-! ### A unit enters STARTING (R22, R420) -/

theorem startTests_range {j : Nat} (h : j ∈ startTests s u) : 72 ≤ j ∧ j < 108 := by
  cases u with
  | portS k => simp only [startTests] at h; split at h <;> simp at h; omega
  | portP k => simp only [startTests] at h; split at h <;> simp at h; omega
  | eth n => simp only [startTests, List.mem_singleton] at h; omega
  | can n => simp only [startTests, List.mem_singleton] at h; omega
  | _ => exact absurd h List.not_mem_nil

theorem enAddr_ne_comparator (u : UnitId) {j : Nat} (h : j < 108) : enAddr u ≠ LSC_CMP j :=
  fun e => not_isEnable_comparator h (e ▸ isEnable_enAddr u)

/-- One value in one field of every register of a list. -/
def writeEach (l : List Nat) (f : Fld) (v : Nat) (s : State) : State := l.foldl (fun t a => t.wr a f v) s

theorem writeEach_onlyRegs (l : List Nat) (f : Fld) (v : Nat) (s : State) : OnlyRegs l s (writeEach l f v s) := by
  induction l generalizing s with
  | nil => exact ⟨rfl, fun _ _ => rfl⟩
  | cons a l ih => exact (onlyRegs_wr s a f v).trans (ih _)

theorem writeEach_on {l : List Nat} {a : Nat} (h : a ∈ l) {f : Fld} (hf : f.lo = f.hi ∧ f.hi < 32) (s : State) :
    (writeEach l f 1 s).on a f = true := by
  refine foldl_establishes (Q := fun _ => True) (P := fun t : State => t.on a f = true) h trivial (fun _ _ _ _ => trivial)
    (fun t _ => on_wr_same t a hf) fun t _ set b _ => ?_
  by_cases e : a = b
  · exact e ▸ on_wr_same t a hf
  · exact (on_wr_reg t f f 1 e).trans set

/-- The comparator tests of a unit's start, as writes. -/
def testsStarted (s : State) (u : UnitId) (t : State) : State := writeEach ((startTests s u).map LSC_CMP) LSC_CMP_BUSY 1 t

theorem foldl_cmpTestStart (s : State) (u : UnitId) (t : State) : (startTests s u).foldl cmpTestStart t = testsStarted s u t := by
  rw [testsStarted, writeEach, List.foldl_map]
  rfl

/-- The record of a unit that enters STARTING. -/
def startRec (s : State) (u : UnitId) : UnitRec := { s.unit (enAddr u) with waiting := !offTimeOver s u, started := s.clk.mono }

/-- A unit's enable word and record as it enters STARTING. -/
def startBegun (s : State) (u : UnitId) : State :=
  let t := s.wr (enAddr u) U_STATE 1
  t.setUnit (enAddr u) { t.unit (enAddr u) with waiting := !offTimeOver s u, started := s.clk.mono }

theorem unit_setUnit (s : State) (a : Nat) (r : UnitRec) : (s.setUnit a r).unit a = r := amGet_amSet_same _ _ _

/-- The start of a unit that is no Grove: its enable word and record, its comparator tests, and a channel's settling. -/
theorem enterStarting_parts (h : ∀ g, u ≠ .grove g) :
    enterStarting s u = { testsStarted s u (startBegun s u) with lio := (enterStarting s u).lio } := by
  rw [← foldl_cmpTestStart]
  unfold enterStarting startBegun
  generalize enAddr u = a
  generalize offTimeOver s u = elapsed
  generalize tests : startTests s u = l
  cases u with
  | grove g => exact absurd rfl (h g)
  | lio c => subst tests; rfl
  | _ => dsimp only

theorem enterStarting_parts_grove {g : Fin 8} (h : u = .grove g) :
    enterStarting s u = { startBegun s u with groves := (enterStarting s u).groves } := by
  unfold enterStarting startBegun
  generalize enAddr u = a
  generalize offTimeOver s u = elapsed
  subst h
  dsimp only
  split <;> rfl

theorem rget_of_regs (h : t.regs = s.regs) (b : Nat) : t.rget b = s.rget b := by rw [State.rget, h, State.rget]

theorem startBegun_regs (s : State) (u : UnitId) : (startBegun s u).regs = (s.wr (enAddr u) U_STATE 1).regs := setUnit_regs ..

/-- What enters STARTING writes its enable word and the comparators it tests. -/
theorem rget_enterStarting {b : Nat} (h : b ∉ (startTests s u).map LSC_CMP) :
    (enterStarting s u).rget b = (s.wr (enAddr u) U_STATE 1).rget b := by
  rw [← rget_of_regs (startBegun_regs s u)]
  by_cases grove : ∃ g, u = .grove g
  · obtain ⟨g, isGrove⟩ := grove
    exact rget_of_regs (by rw [enterStarting_parts_grove isGrove]) b
  · rw [rget_of_regs (t := enterStarting s u) (s := testsStarted s u (startBegun s u)) (by rw [enterStarting_parts fun g e => grove ⟨g, e⟩])]
    exact (writeEach_onlyRegs _ _ _ _).2 b h

theorem unit_of_units {a : Nat} (h : t.units = s.units) : t.unit a = s.unit a := by rw [State.unit, h, State.unit]

theorem unit_enterStarting (s : State) (u : UnitId) : (enterStarting s u).unit (enAddr u) = startRec s u := by
  have begun : (startBegun s u).unit (enAddr u) = startRec s u := unit_setUnit _ _ _
  rw [← begun]
  refine unit_of_units ?_
  by_cases grove : ∃ g, u = .grove g
  · obtain ⟨g, isGrove⟩ := grove
    rw [enterStarting_parts_grove isGrove]
  · rw [enterStarting_parts fun g e => grove ⟨g, e⟩, testsStarted, (writeEach_onlyRegs _ _ _ _).1]

/-- The enable words as a unit enters STARTING. -/
theorem enterStarting_enables (s : State) (u : UnitId) : SameEnables (s.wr (enAddr u) U_STATE 1) (enterStarting s u) := by
  refine fun b hb => rget_enterStarting fun mem => ?_
  obtain ⟨j, hj, rfl⟩ := List.mem_map.1 mem
  exact not_isEnable_comparator (startTests_range hj).2 hb

theorem unitState_enterStarting (s : State) (u : UnitId) : (enterStarting s u).unitState u = 1 := by
  rw [(enterStarting_enables s u).unitState, unitState_wr_state]

theorem on_enterStarting (s : State) (u : UnitId) {f : Fld} (h : U_STATE.hi < f.lo ∧ f.lo ≤ f.hi) :
    (enterStarting s u).on (enAddr u) f = s.on (enAddr u) f := by
  rw [(enterStarting_enables s u).on, on_wr_fld s _ _ ⟨by decide, .inl h.1, h.2⟩]

theorem rest_of_start {s b w t : State} (hb : b = { s with regs := b.regs, units := b.units }) (hw : w = { b with regs := w.regs })
    (ht : t = { w with lio := t.lio }) : t = { s with units := t.units, lio := t.lio, regs := t.regs } := by
  rw [ht, hw, hb]

theorem enterStarting_onlyRegs (h : ∀ g, u ≠ .grove g) :
    OnlyRegs (enAddr u :: (startTests s u).map LSC_CMP) { s with units := (enterStarting s u).units, lio := (enterStarting s u).lio }
      (enterStarting s u) := by
  refine ⟨?_, fun b hb => ?_⟩
  · exact rest_of_start (s := s) (b := startBegun s u) rfl (writeEach_onlyRegs _ _ _ _).1 (enterStarting_parts h)
  · rw [List.mem_cons, not_or] at hb
    rw [rget_enterStarting hb.2, rget_wr_ne s _ _ hb.1]
    rfl

theorem enterStarting_busy {j : Nat} (h : ∀ g, u ≠ .grove g) (hj : j ∈ startTests s u) :
    (enterStarting s u).on (LSC_CMP j) LSC_CMP_BUSY = true := by
  rw [enterStarting_parts h]
  exact writeEach_on (List.mem_map_of_mem hj) (by decide) (startBegun s u)

/-! ### A unit enters STOPPING (R22) -/

/-- The enable words as a unit enters STOPPING. -/
theorem enterStopping_enables (s : State) (u : UnitId) : SameEnables (s.wr (enAddr u) U_STATE 3) (enterStopping s u) := sameEnables_onStop _ u

theorem unitState_enterStopping (s : State) (u : UnitId) : (enterStopping s u).unitState u = 3 := by
  rw [(enterStopping_enables s u).unitState, unitState_wr_state]

theorem on_enterStopping (s : State) (u : UnitId) {f : Fld} (h : U_STATE.hi < f.lo ∧ f.lo ≤ f.hi) :
    (enterStopping s u).on (enAddr u) f = s.on (enAddr u) f := by
  rw [(enterStopping_enables s u).on, on_wr_fld s _ _ ⟨by decide, .inl h.1, h.2⟩]

/-! ### The units that depend on it stop (R25) -/

/-- From s to t units were stopped: each unit keeps its STATE or is STOPPING, and no EN bit was set. -/
def UnitsStop (s t : State) : Prop :=
  ∀ u, (t.unitState u = s.unitState u ∨ t.unitState u = 3) ∧ (s.on (enAddr u) U_EN = false → t.on (enAddr u) U_EN = false)

/-- A unit that is OFF or STOPPING. -/
def Down (u : UnitId) (s : State) : Prop := s.unitState u = 0 ∨ s.unitState u = 3

namespace UnitsStop

theorem refl (s : State) : UnitsStop s s := fun _ => ⟨.inl rfl, id⟩

theorem trans {s t u : State} (h : UnitsStop s t) (k : UnitsStop t u) : UnitsStop s u := fun v =>
  ⟨(k v).1.elim (fun e => e ▸ (h v).1) .inr, fun off => (k v).2 ((h v).2 off)⟩

theorem of_same (h : SameEnables s t) : UnitsStop s t := fun u => ⟨.inl (h.unitState u), fun off => (h.on u _).trans off⟩

theorem stays_down (h : UnitsStop s t) (down : Down u s) : Down u t :=
  (h u).1.elim (fun e => by rw [Down, e]; exact down) .inr

theorem stays_stopping (h : UnitsStop s t) (stopping : s.unitState u = 3) : t.unitState u = 3 := (h u).1.elim (fun e => e.trans stopping) id

theorem foldl {α : Type} {f : State → α → State} (l : List α) (s : State) (hf : ∀ t x, UnitsStop t (f t x)) : UnitsStop s (l.foldl f s) :=
  List.foldlRecOn l f (refl s) fun t ht x _ => ht.trans (hf t x)

/-- A write to a field other than STATE that sets no EN bit. -/
theorem wr_field (s : State) (u : UnitId) {f : Fld} {v : Nat} (h : U_STATE.hi < f.lo ∧ f.lo ≤ f.hi ∧ f.hi < 32)
    (en : (s.wr (enAddr u) f v).on (enAddr u) U_EN = true → s.on (enAddr u) U_EN = true) : UnitsStop s (s.wr (enAddr u) f v) := fun w => by
  by_cases e : enAddr w = enAddr u
  · rw [State.unitState, State.unitState, e]
    exact ⟨.inl (unitState_wr_field s u v h), fun off => Bool.eq_false_iff.2 fun on => Bool.eq_false_iff.1 off (en on)⟩
  · exact ⟨.inl (unitState_of_rget (rget_wr_ne s f v e)), fun off => (on_wr_reg s f U_EN v e).trans off⟩

theorem wr_stopping (s : State) (u : UnitId) : UnitsStop s (s.wr (enAddr u) U_STATE 3) := fun w => by
  by_cases e : enAddr w = enAddr u
  · rw [State.unitState, State.unitState, e]
    exact ⟨.inr (unitState_wr_state s u 3), fun off => (on_wr_fld s _ _).trans off⟩
  · exact ⟨.inl (unitState_of_rget (rget_wr_ne s _ _ e)), fun off => (on_wr_reg s _ U_EN _ e).trans off⟩

theorem enterStopping (s : State) (u : UnitId) : UnitsStop s (enterStopping s u) :=
  (wr_stopping s u).trans (of_same (enterStopping_enables s u))

end UnitsStop

/-- What the module writes into the enable word of a unit that it stops (R25, R26). -/
def hwStopWord (s : State) (u : UnitId) : State := ((s.wr (enAddr u) U_EN 0).wr (enAddr u) U_PEND 0).wr (enAddr u) U_HWSTOP 1

theorem hwStopWord_stops (s : State) (u : UnitId) : UnitsStop s (hwStopWord s u) :=
  ((UnitsStop.wr_field s u (by decide) (by rw [on_wr_same]; exact fun h => nomatch h)).trans
    (.wr_field _ u (by decide) (by rw [on_wr_fld]; exact id))).trans (.wr_field _ u (by decide) (by rw [on_wr_fld]; exact id))

theorem hwStopOne_stops (s : State) (u : UnitId) : UnitsStop s (hwStopOne s u) := by
  unfold hwStopOne
  split
  · exact .refl s
  · dsimp only
    split
    · exact hwStopWord_stops s u
    · exact (hwStopWord_stops s u).trans (.enterStopping _ u)

theorem hwStopOne_down (s : State) (u : UnitId) : Down u (hwStopOne s u) := by
  unfold hwStopOne
  split
  · next off => exact .inl off
  · dsimp only
    split
    · next stopping => exact .inr ((hwStopWord_stops s u).stays_stopping stopping)
    · exact .inr (unitState_enterStopping _ u)

/-- One dependant of a unit stops, and what depends on it. -/
def stopBranch (s : State) (v : UnitId) : State := (dependants v).foldl hwStopOne (hwStopOne s v)

theorem stopBranch_stops (s : State) (v : UnitId) : UnitsStop s (stopBranch s v) :=
  (hwStopOne_stops s v).trans (.foldl _ _ hwStopOne_stops)

theorem stopBranch_down (s : State) (v : UnitId) : Down v (stopBranch s v) ∧ ∀ w ∈ dependants v, Down w (stopBranch s v) :=
  ⟨(UnitsStop.foldl (dependants v) _ hwStopOne_stops).stays_down (hwStopOne_down s v), fun w hw =>
    foldl_establishes (Q := fun _ => True) hw trivial (fun _ _ _ _ => trivial) (fun t _ => hwStopOne_down t w)
      fun t _ down x _ => (hwStopOne_stops t x).stays_down down⟩

theorem stopDependants_stops (s : State) (u : UnitId) : UnitsStop s (stopDependants s u) := .foldl _ _ stopBranch_stops

theorem stopDependants_down (s : State) {u v : UnitId} (hv : v ∈ dependants u) :
    Down v (stopDependants s u) ∧ ∀ w ∈ dependants v, Down w (stopDependants s u) :=
  foldl_establishes (f := stopBranch) (Q := fun _ => True) (P := fun t => Down v t ∧ ∀ w ∈ dependants v, Down w t) hv trivial
    (fun _ _ _ _ => trivial) (fun t _ => stopBranch_down t v)
    fun t _ down x _ => ⟨(stopBranch_stops t x).stays_down down.1, fun w hw => (stopBranch_stops t x).stays_down (down.2 w hw)⟩

end

end Sys2Proof.Machine
end

section
/-! EN writes (01 R21, R23): a unit that is refused, starts, stops, or is held in STOPPING. -/

namespace Sys2Proof.Machine

open Sys2Proof

section
variable {s t : State} {u : UnitId}

/-! ### The cases of an EN write -/

/-- A unit whose chapter adds nothing to an EN write: no Grove, and not the domain of one. -/
def Plain (u : UnitId) : Prop := (∀ g, u ≠ .grove g) ∧ ∀ e : Fin 12, e.val < 8 → u ≠ .domain e

theorem enWrite_unready (off : s.unitState u = 0) (h : unitReady s u = false) : enWrite s u true = s.wr (enAddr u) U_FAIL 1 :=
  if_pos ⟨rfl, off, h⟩

/-- An EN write to a unit that its ready bit does not refuse. -/
theorem enWrite_plain {en : Bool} (plain : Plain u) (h : en = false ∨ s.unitState u ≠ 0 ∨ unitReady s u = true) :
    enWrite s u en = enWriteBase s u en := by
  have ready : ¬ (en ∧ s.unitState u = 0 ∧ unitReady s u = false) := by
    rintro ⟨on, off, unready⟩
    rcases h with h | h | h
    · rw [h] at on; cases on
    · exact h off
    · rw [h] at unready; cases unready
  unfold enWrite
  rw [if_neg ready]
  cases u with
  | grove g => exact absurd rfl (plain.1 g)
  | domain d =>
    have above : ¬ d.val < 8 := fun lt => plain.2 d lt rfl
    exact dif_neg above
  | _ => rfl

theorem enWriteBase_orphan (off : s.unitState u = 0) (parent : parentOn s u = false) :
    enWriteBase s u true = s.wr (enAddr u) U_FAIL 1 := by
  simp only [enWriteBase, off, parent, if_true, Bool.false_eq_true, if_false]

theorem enWriteBase_start (off : s.unitState u = 0) (parent : parentOn s u = true) :
    enWriteBase s u true = enterStarting (s.wr (enAddr u) U_EN 1) u := by
  simp only [enWriteBase, off, parent, if_true]

theorem enWriteBase_off (off : s.unitState u = 0) : enWriteBase s u false = s := by
  simp only [enWriteBase, off, Bool.false_eq_true, if_false]

theorem enWriteBase_again (up : s.unitState u = 1 ∨ s.unitState u = 2) : enWriteBase s u true = s := by
  rcases up with h | h <;> simp only [enWriteBase, h, if_true]

theorem enWriteBase_stop (up : s.unitState u = 1 ∨ s.unitState u = 2)
    (ran : s.unitState u = 2 ∨ (s.unit (enAddr u)).stopped ≠ some s.clk.mono) :
    enWriteBase s u false = stopDependants (enterStopping (s.wr (enAddr u) U_EN 0) u) u := by
  rcases up with h | h
  · have now : (s.unit (enAddr u)).stopped ≠ some s.clk.mono := ran.resolve_left (by omega)
    simp only [enWriteBase, h, Bool.false_eq_true, if_false, if_neg now]
  · simp only [enWriteBase, h, Bool.false_eq_true, if_false]

theorem enWriteBase_pend (starting : s.unitState u = 1) (now : (s.unit (enAddr u)).stopped = some s.clk.mono) :
    enWriteBase s u false = pendCleared s u := by
  simp only [enWriteBase, starting, Bool.false_eq_true, if_false, if_pos now]

theorem enWriteBase_stopping {en : Bool} (stopping : s.unitState u = 3) :
    enWriteBase s u en = (s.wr (enAddr u) U_EN en.toNat).wr (enAddr u) U_PEND en.toNat := by
  simp only [enWriteBase, stopping]
  cases en <;> rfl

/-! ### What each case leaves -/

/-- A refused start sets FAIL (R21). -/
theorem refused_result (off : s.unitState u = 0) :
    (s.wr (enAddr u) U_FAIL 1).on (enAddr u) U_FAIL = true ∧ OnlyRegs [enAddr u] s (s.wr (enAddr u) U_FAIL 1) ∧
    (s.wr (enAddr u) U_FAIL 1).unitState u = 0 ∧ (s.wr (enAddr u) U_FAIL 1).on (enAddr u) U_EN = s.on (enAddr u) U_EN :=
  ⟨on_wr_same s _, onlyRegs_wr s _ _ _, (unitState_wr_field s u 1 (by decide)).trans off, on_wr_fld s _ _⟩

theorem enAddr_ports (k : Fin 24) : enAddr (.portS k) ≠ enAddr (.portP k) := by
  dsimp only [enAddr]
  unfold VGX_EN_P VGX_EN_S
  omega

/-- The comparator tests of a start follow from the enable words of the other units. -/
theorem startTests_congr (h : ∀ v, enAddr v ≠ enAddr u → t.unitState v = s.unitState v) : startTests t u = startTests s u := by
  cases u with
  | portS k => simp only [startTests, h (.portP k) (enAddr_ports k).symm]
  | portP k => simp only [startTests, h (.portS k) (enAddr_ports k)]
  | _ => rfl

theorem startTests_wr (s : State) (u : UnitId) (f : Fld) (v : Nat) : startTests (s.wr (enAddr u) f v) u = startTests s u :=
  startTests_congr fun _ other => unitState_of_rget (rget_wr_ne s f v other)

/-- A unit starts: STARTING with EN, and its comparator tests run (R21, R420; 06 R165). -/
theorem start_onlyRegs (h : ∀ g, u ≠ .grove g) (ht : t = enterStarting (s.wr (enAddr u) U_EN 1) u) :
    OnlyRegs (enAddr u :: (startTests s u).map LSC_CMP) { s with units := t.units, lio := t.lio } t := by
  have started := enterStarting_onlyRegs (s := s.wr (enAddr u) U_EN 1) h
  rw [startTests_wr, ← ht] at started
  exact ((onlyRegs_wr { s with units := t.units, lio := t.lio } (enAddr u) U_EN 1).trans started).mono (by simp)

theorem start_on (s : State) (u : UnitId) : (enterStarting (s.wr (enAddr u) U_EN 1) u).on (enAddr u) U_EN = true :=
  (on_enterStarting _ u (by decide)).trans (on_wr_same s _)

theorem waiting_iff (s : State) (u : UnitId) : (startRec s u).waiting = true ↔ offTimeOver s u = false := by
  rw [startRec, Bool.not_eq_true']

theorem offTimeOver_wr (s : State) (u : UnitId) (a : Nat) (f : Fld) (v : Nat) : offTimeOver (s.wr a f v) u = offTimeOver s u := rfl

/-- A unit stops with everything that depends on it (R25). -/
theorem stop_result (s : State) (u : UnitId) {t : State} (h : t = stopDependants (enterStopping (s.wr (enAddr u) U_EN 0) u) u) :
    t.unitState u = 3 ∧ t.on (enAddr u) U_EN = false ∧ ∀ v ∈ dependants u, Down v t ∧ ∀ w ∈ dependants v, Down w t := by
  have stops := stopDependants_stops (enterStopping (s.wr (enAddr u) U_EN 0) u) u
  subst h
  exact ⟨stops.stays_stopping (unitState_enterStopping _ u), (stops u).2 ((on_enterStopping _ u (by decide)).trans (on_wr_same s _)),
    fun v hv => stopDependants_down _ hv⟩

theorem pendCleared_plain (h : ∀ g, u ≠ .grove g) :
    pendCleared s u = ((s.wr (enAddr u) U_EN 0).wr (enAddr u) U_STATE 0).setUnit (enAddr u) { s.unit (enAddr u) with waiting := false } := by
  unfold pendCleared
  generalize enAddr u = a
  cases u with
  | grove g => exact absurd rfl (h g)
  | _ => rfl

/-- A start through PEND in the cycle of the stop's end is undone (R23). -/
theorem pendCleared_result (h : ∀ g, u ≠ .grove g) (ht : t = pendCleared s u) :
    t.unitState u = 0 ∧ t.on (enAddr u) U_EN = false ∧ OnlyRegs [enAddr u] { s with units := t.units } t := by
  rw [pendCleared_plain h] at ht
  have word : t.rget (enAddr u) = ((s.wr (enAddr u) U_EN 0).wr (enAddr u) U_STATE 0).rget (enAddr u) := rget_of_regs (ht ▸ rfl) _
  refine ⟨(unitState_of_rget word).trans (unitState_wr_state _ u 0), (on_of_rget word).trans ((on_wr_fld _ _ _).trans (on_wr_same s _)), ?_⟩
  have only := (onlyRegs_wr { s with units := t.units } (enAddr u) U_EN 0).wr U_STATE 0
  have e : t = ((({ s with units := t.units } : State).wr (enAddr u) U_EN 0).wr (enAddr u) U_STATE 0) := by
    conv_rhs => rw [ht]
    exact ht
  rw [← e] at only
  exact only

/-- An EN write during STOPPING is held in PEND (R23). -/
theorem held_result {en : Bool} (stopping : s.unitState u = 3) (ht : t = (s.wr (enAddr u) U_EN en.toNat).wr (enAddr u) U_PEND en.toNat) :
    t.unitState u = 3 ∧ t.on (enAddr u) U_EN = en ∧ t.on (enAddr u) U_PEND = en ∧ OnlyRegs [enAddr u] s t := by
  have bit : (en.toNat % 2 == 1) = en := by cases en <;> rfl
  subst ht
  exact ⟨((unitState_wr_field _ u _ (by decide)).trans (unitState_wr_field s u _ (by decide))).trans stopping,
    ((on_wr_fld _ _ _).trans (on_wr_same s _)).trans bit, (on_wr_same _ _).trans bit, (onlyRegs_wr s _ _ _).wr _ _⟩

end

/-! ### EN writes to a plain unit, together (R21, R23, R25) -/

theorem does_enWrite (m : Master) (u : UnitId) (en : Bool) (s : State) {P : State → Prop} (h : P (enWrite s u en)) : Does (.enWrite m u en) s P :=
  ⟨_, rfl, h⟩

theorem enWrite_refused {s : State} {u : UnitId} (plain : Plain u) (off : s.unitState u = 0) (h : unitReady s u = false ∨ parentOn s u = false) :
    enWrite s u true = s.wr (enAddr u) U_FAIL 1 := by
  by_cases ready : unitReady s u = true
  · have orphan : parentOn s u = false := h.resolve_left (by rw [ready]; decide)
    rw [enWrite_plain plain (.inr (.inr ready)), enWriteBase_orphan off orphan]
  · exact enWrite_unready off (Bool.eq_false_iff.2 ready)

end Sys2Proof.Machine
end

section
/-! EN writes to a Grove and to the domain of a recovering Grove (06 R159, R170 to R172). -/

namespace Sys2Proof.Machine

open Sys2Proof

section
variable {s t : State} {g : Fin 8}

/-! ### The cases of an EN write to a Grove -/

theorem unitReady_grove (s : State) (g : Fin 8) : unitReady s (.grove g) = true := rfl

theorem unitReady_domain (s : State) (d : Fin 12) : unitReady s (.domain d) = true := rfl

/-- No ready bit stands before an EN write to a unit that needs none (14 R373). -/
theorem ready_refuses_not {u : UnitId} {en : Bool} (h : unitReady s u = true) : ¬ (en ∧ s.unitState u = 0 ∧ unitReady s u = false) :=
  fun refused => by rw [h] at refused; exact absurd refused.2.2 (by decide)

theorem enWrite_grove (s : State) (g : Fin 8) (en : Bool) : enWrite s (.grove g) en = enGrove s g en :=
  if_neg (ready_refuses_not (unitReady_grove s g))

theorem enGrove_inUse (up : s.unitState (.grove g) = 1 ∨ s.unitState (.grove g) = 2) (used : groveInUse s g = true) :
    enGrove s g false = stopCommand s g := by
  unfold enGrove
  dsimp only
  rw [if_neg Bool.false_ne_true, if_pos ⟨up, used⟩]

theorem enGrove_unused (unused : groveInUse s g = false) : enGrove s g false = enWriteBase s (.grove g) false := by
  unfold enGrove
  dsimp only
  rw [if_neg Bool.false_ne_true, if_neg (by rw [unused]; exact fun h => absurd h.2 (by decide))]

theorem enGrove_stuck (off : s.unitState (.grove g) = 0) (stuck : (s.grove g).stuck = true) :
    enGrove s g true = s.wr (GRV_EN g) U_FAIL 1 := by
  unfold enGrove
  dsimp only
  rw [if_pos rfl, if_pos ⟨off, stuck⟩]

theorem enGrove_idle (free : (s.grove g).stuck = false) (phase : s.phase g = 0) : enGrove s g true = enWriteBase s (.grove g) true := by
  unfold enGrove
  dsimp only
  rw [if_pos rfl, if_neg (by rw [free]; exact fun h => absurd h.2 (by decide)), if_neg (by rw [phase]; exact fun h => absurd h.2.1 (by decide)),
    if_neg (by rw [phase]; exact fun h => absurd h.2 (by decide))]

/-- EN writes to the domain of a Grove in steps 2 and 3 of its recovery are refused (16 R405). -/
theorem enWrite_recovering {d : Fin 8} (recovering : s.phase d = 2 ∨ s.phase d = 3) (en : Bool) :
    enWrite s (.domain ⟨d.val, by omega⟩) en = s.wr (PWR_EN d) U_FAIL 1 := by
  have refused : enDomain s ⟨d.val, by omega⟩ en = s.wr (PWR_EN d) U_FAIL 1 := by
    unfold enDomain
    rw [dif_pos d.isLt]
    exact if_pos recovering
  exact (if_neg (ready_refuses_not (unitReady_domain s _))).trans refused

/-! ### A Grove stops (06 R159) -/

theorem onStop_grove (s : State) (g : Fin 8) :
    onStop s (.grove g) = (List.range 8).foldl (fun t i => t.wr (ENG_STATUS (8 * g + i)) ENG_STATUS_STATE 4) (s.wr RDY_VEC ⟨20 + g, 20 + g⟩ 0) := rfl

/-- A stopping Grove writes its ready bit and the states of its engines only. -/
theorem rget_onStop_grove {a : Nat} (ready : a ≠ RDY_VEC) (engine : ∀ i, i < 8 → a ≠ ENG_STATUS (8 * g + i)) :
    (onStop s (.grove g)).rget a = s.rget a := by
  rw [onStop_grove]
  exact List.foldlRecOn (motive := fun t : State => t.rget a = s.rget a) _ _ (rget_wr_ne s _ _ ready)
    fun t ht i hi => (rget_wr_ne t _ _ (engine i (List.mem_range.1 hi))).trans ht

/-- The engines of a stopping Grove are stopped. -/
theorem onStop_grove_engines (s : State) (g : Fin 8) {i : Nat} (hi : i < 8) :
    (onStop s (.grove g)).rd (ENG_STATUS (8 * g + i)) ENG_STATUS_STATE = 4 := by
  have stopped (t : State) (a : Nat) : (t.wr a ENG_STATUS_STATE 4).rd a ENG_STATUS_STATE = 4 := rd_wr_same t a _ _ (by decide) (by decide)
  rw [onStop_grove]
  refine foldl_establishes (Q := fun _ => True) (P := fun t : State => t.rd (ENG_STATUS (8 * g + i)) ENG_STATUS_STATE = 4)
    (List.mem_range.2 hi) trivial (fun _ _ _ _ => trivial) (fun t _ => stopped t _) fun t _ set j _ => ?_
  by_cases e : ENG_STATUS (8 * g + i) = ENG_STATUS (8 * g + j)
  · rw [e]; exact stopped t _
  · exact (rd_wr_reg t _ _ _ e).trans set

theorem stopDependants_leaf {u : UnitId} (h : dependants u = []) : stopDependants s u = s := by
  rw [stopDependants, h, List.foldl_nil]

/-- A Grove that is not in use stops: its engines stop with it. -/
theorem grove_stop_result (ht : t = stopDependants (enterStopping (s.wr (enAddr (.grove g)) U_EN 0) (.grove g)) (.grove g)) :
    t.unitState (.grove g) = 3 ∧ t.on (enAddr (.grove g)) U_EN = false ∧ ∀ i, i < 8 → t.rd (ENG_STATUS (8 * g.val + i)) ENG_STATUS_STATE = 4 := by
  obtain ⟨stopping, off, -⟩ := stop_result s (.grove g) ht
  refine ⟨stopping, off, fun i hi => ?_⟩
  rw [ht, stopDependants_leaf rfl, enterStopping]
  exact onStop_grove_engines _ g hi

/-! ### A Grove in use is stopped as a fault (06 R159, R167) -/

/-- The marks of a Grove fault in GRV_STATUS: isolated, in RESYNC, stopped by command. -/
def FaultMarked (g : Fin 8) (s : State) : Prop :=
  s.on (GRV_STATUS g) GRV_STATUS_STOPCMD = true ∧ s.on (GRV_STATUS g) GRV_STATUS_ISOLATED = true ∧ s.on (GRV_STATUS g) GRV_STATUS_RESYNC = true

theorem FaultMarked.of_rget (h : FaultMarked g s) (same : t.rget (GRV_STATUS g) = s.rget (GRV_STATUS g)) : FaultMarked g t := by
  obtain ⟨stopped, isolated, resync⟩ := h
  exact ⟨(on_of_rget same).trans stopped, (on_of_rget same).trans isolated, (on_of_rget same).trans resync⟩

theorem groveStatus_ne (g : Fin 8) : GRV_STATUS g ≠ EVR_STATUS ∧ GRV_STATUS g ≠ EVR_LOST ∧ GRV_STATUS g ≠ PAR_STATUS ∧ GRV_STATUS g ≠ RDY_VEC := by
  unfold GRV_STATUS EVR_STATUS EVR_LOST PAR_STATUS RDY_VEC
  omega

/-- The marks that isolation writes, before the cause is raised. -/
def isolationMarks (s : State) (a : Nat) : State :=
  ((s.wr a GRV_STATUS_ISOLATED 1).wr a GRV_STATUS_RESYNC 1).wr a GRV_STATUS_PHASE 1

theorem marked (s : State) (source a : Nat) (h : a ≠ EVR_STATUS) (h' : a ≠ EVR_LOST) :
    ((isolationMarks s a).raise source a GRV_STATUS_STOPCMD).on a GRV_STATUS_STOPCMD = true ∧
    ((isolationMarks s a).raise source a GRV_STATUS_STOPCMD).on a GRV_STATUS_ISOLATED = true ∧
    ((isolationMarks s a).raise source a GRV_STATUS_STOPCMD).on a GRV_STATUS_RESYNC = true := by
  have raised := rget_raise (isolationMarks s a) source (a := a) GRV_STATUS_STOPCMD h h'
  refine ⟨?_, ?_, ?_⟩
  · rw [on_of_rget raised, on_wr_same]; rfl
  · rw [on_of_rget raised, isolationMarks, on_wr_fld, on_wr_fld, on_wr_fld, on_wr_same]; rfl
  · rw [on_of_rget raised, isolationMarks, on_wr_fld, on_wr_fld, on_wr_same]; rfl

/-- Isolation marks the Grove. -/
theorem isolate_marks (s : State) (g : Fin 8) (eng : Nat) : FaultMarked g (isolate s g eng GRV_STATUS_STOPCMD) := by
  obtain ⟨evr, lost, par, -⟩ := groveStatus_ne g
  unfold isolate
  extract_lets s₁ s₂ s₃ s₄
  refine FaultMarked.of_rget (s := s₄) (marked s₂ _ _ evr lost) ?_
  unfold updateHold
  exact (rget_wr_ne _ _ _ par).trans (rget_of_regs (setGrove_regs ..) _)

theorem stopCommand_result (s : State) (g : Fin 8) :
    (stopCommand s g).unitState (.grove g) = 3 ∧ (stopCommand s g).on (enAddr (.grove g)) U_EN = false ∧ FaultMarked g (stopCommand s g) := by
  obtain ⟨-, -, -, ready⟩ := groveStatus_ne g
  unfold stopCommand
  dsimp only
  refine ⟨unitState_enterStopping _ _, (on_enterStopping _ _ (by decide)).trans (on_wr_same _ _), (isolate_marks s g 0).of_rget ?_⟩
  have enable : GRV_STATUS g ≠ enAddr (.grove g) := fun e => not_isEnable_groveStatus g (e ▸ isEnable_enAddr _)
  have engine (i : Nat) (hi : i < 8) : GRV_STATUS g ≠ ENG_STATUS (8 * g + i) := by unfold GRV_STATUS ENG_STATUS; omega
  rw [enterStopping, rget_onStop_grove ready engine, rget_wr_ne _ _ _ enable]
  exact (rget_wr_ne _ _ _ enable).trans (rget_of_regs (setGrove_regs ..) _)

end

end Sys2Proof.Machine
end

section
/-! The events of starts and stops (01 R22, R24, R25, R420; 12 R319, R331; 14 R373; 16 R404). -/

namespace Sys2Proof.Machine

open Sys2Proof

section
variable {s t : State} {u : UnitId}

/-! ### The off-time (R420) -/

/-- A start that waits for the off-time begins. -/
def Due (s : State) (u : UnitId) : Prop := s.unitState u = 1 ∧ (s.unit (enAddr u)).waiting = true ∧ offTimeOver s u = true

/-- Step 2 of the recovery of Grove e switches its domain u on again. -/
def SwitchedAgain (s : State) (u : UnitId) (e : Fin 8) : Prop :=
  u = .domain ⟨e.val, by omega⟩ ∧ s.phase e = 2 ∧ s.unitState (.grove e) = 0 ∧ s.unitState u = 0 ∧ offTimeOver s u = true

theorem beginStart_due (due : Due s u) :
    beginStart s u = s.setUnit (enAddr u) { s.unit (enAddr u) with waiting := false, started := s.clk.mono } := if_pos due

theorem beginStart_idle (h : ¬ Due s u) : beginStart s u = s := if_neg h

theorem minOffOver_plain (h : ∀ e, ¬ SwitchedAgain s u e) : minOffOver s u = beginStart s u := by
  cases u with
  | domain d =>
    by_cases low : d.val < 8
    · have keeps : domainAgain s ⟨d.val, low⟩ = s := if_neg fun again => h ⟨d.val, low⟩ ⟨rfl, again⟩
      refine (dif_pos low).trans ?_
      rw [keeps]
    · exact dif_neg low
  | _ => rfl

theorem minOffOver_again {e : Fin 8} (again : SwitchedAgain s u e) : minOffOver s u = beginStart (enterStarting (s.wr (enAddr u) U_EN 1) u) u := by
  obtain ⟨rfl, rest⟩ := again
  refine (dif_pos e.isLt).trans ?_
  have on : domainAgain s e = enterStarting (s.wr (enAddr (.domain ⟨e.val, by omega⟩)) U_EN 1) (.domain ⟨e.val, by omega⟩) := if_pos rest
  rw [on]

theorem offTime_due (due : Due s u) (ht : t = beginStart s u) :
    t = { s with units := t.units } ∧ (t.unit (enAddr u)).waiting = false ∧ (t.unit (enAddr u)).started = s.clk.mono := by
  rw [beginStart_due due] at ht
  have unit : t.unit (enAddr u) = { s.unit (enAddr u) with waiting := false, started := s.clk.mono } := by rw [ht, unit_setUnit]
  refine ⟨?_, by rw [unit], by rw [unit]⟩
  rw [ht]
  rfl

theorem offTime_again {e : Fin 8} (again : SwitchedAgain s u e) (ht : t = minOffOver s u) :
    t.unitState u = 1 ∧ t.on (enAddr u) U_EN = true ∧ OnlyRegs [enAddr u] { s with units := t.units } t := by
  rw [minOffOver_again again] at ht
  obtain ⟨isDomain, -, -, -, elapsed⟩ := again
  have started : ¬ Due (enterStarting (s.wr (enAddr u) U_EN 1) u) u := by
    rintro ⟨-, waits, -⟩
    rw [unit_enterStarting, waiting_iff, offTimeOver_wr, elapsed] at waits
    cases waits
  rw [beginStart_idle started] at ht
  have noTests : startTests s u = [] := by rw [isDomain]; rfl
  have only := start_onlyRegs (fun g e => by rw [isDomain] at e; cases e) ht
  rw [noTests] at only
  have lio : t.lio = s.lio := by
    rw [ht, isDomain]
    rfl
  rw [lio] at only
  exact ⟨ht ▸ unitState_enterStarting _ u, ht ▸ start_on s u, only⟩

/-! ### A start that times out (R24) -/

theorem startTimeout_late {l : Nat} (limit : startLimit s u = some l)
    (late : s.unitState u = 1 ∧ (s.unit (enAddr u)).waiting = false ∧ (s.unit (enAddr u)).started + l ≤ s.clk.mono) :
    startTimeout s u = startFailed s u := by
  unfold startTimeout
  rw [limit]
  exact if_pos late

theorem startTimeout_early {l : Nat} (limit : startLimit s u = some l)
    (early : ¬ (s.unitState u = 1 ∧ (s.unit (enAddr u)).waiting = false ∧ (s.unit (enAddr u)).started + l ≤ s.clk.mono)) :
    startTimeout s u = s := by
  unfold startTimeout
  rw [limit]
  exact if_neg early

theorem startFailed_ungroved (h : ∀ g, u ≠ .grove g) (starting : s.unitState u = 1) :
    startFailed s u = enterStopping ((s.wr (enAddr u) U_FAIL 1).wr (enAddr u) U_EN 0) u := by
  have fails : startFails s u = enterStopping ((s.wr (enAddr u) U_FAIL 1).wr (enAddr u) U_EN 0) u := if_pos starting
  rw [← fails]
  cases u with
  | grove g => exact absurd rfl (h g)
  | _ => rfl

theorem failed_result (s : State) (u : UnitId) (ht : t = enterStopping ((s.wr (enAddr u) U_FAIL 1).wr (enAddr u) U_EN 0) u) :
    t.unitState u = 3 ∧ t.on (enAddr u) U_FAIL = true ∧ t.on (enAddr u) U_EN = false := by
  subst ht
  refine ⟨unitState_enterStopping _ u, ?_, ?_⟩
  · rw [on_enterStopping _ u (by decide), on_wr_fld, on_wr_same]; rfl
  · rw [on_enterStopping _ u (by decide), on_wr_same]; rfl

/-! ### A stop completes (R22, R25) -/

/-- The record of a unit whose stop is complete. -/
def stopRecorded (s : State) (u : UnitId) : State :=
  s.setUnit (enAddr u) { s.unit (enAddr u) with stopped := some s.clk.mono, waiting := false }

theorem stopDone_early (h : ¬ (s.unitState u = 3 ∧ dependantsOff s u = true)) : stopDone s u = s := if_neg h

theorem stopDone_off (stopping : s.unitState u = 3) (empty : dependantsOff s u = true) (pend : s.on (enAddr u) U_PEND = false) :
    stopDone s u = (stopRecorded s u).wr (enAddr u) U_STATE 0 := by
  unfold stopDone
  rw [if_pos ⟨stopping, empty⟩, pend]
  rfl

theorem stopDone_restart (stopping : s.unitState u = 3) (empty : dependantsOff s u = true) (pend : s.on (enAddr u) U_PEND = true)
    (parent : parentOn s u = true) : stopDone s u = enterStarting ((stopRecorded s u).wr (enAddr u) U_PEND 0) u := by
  unfold stopDone
  rw [if_pos ⟨stopping, empty⟩, if_pos pend, if_pos parent]
  rfl

theorem stopDone_orphan (stopping : s.unitState u = 3) (empty : dependantsOff s u = true) (pend : s.on (enAddr u) U_PEND = true)
    (parent : parentOn s u = false) :
    stopDone s u = ((((stopRecorded s u).wr (enAddr u) U_PEND 0).wr (enAddr u) U_EN 0).wr (enAddr u) U_FAIL 1).wr (enAddr u) U_STATE 0 := by
  unfold stopDone
  rw [if_pos ⟨stopping, empty⟩, if_pos pend, parent]
  rfl

theorem stopped_result (s : State) (u : UnitId) (ht : t = (stopRecorded s u).wr (enAddr u) U_STATE 0) :
    t.unitState u = 0 ∧ (t.unit (enAddr u)).stopped = some s.clk.mono ∧ OnlyRegs [enAddr u] { s with units := t.units } t := by
  have units : t.units = (stopRecorded s u).units := by rw [ht, wr_units]
  refine ⟨ht ▸ unitState_wr_state _ u 0, ?_, ?_⟩
  · rw [unit_of_units units, stopRecorded, unit_setUnit]
  · have only := onlyRegs_wr { s with units := (stopRecorded s u).units } (enAddr u) U_STATE 0
    rw [← units] at only
    have e : t = ({ s with units := t.units } : State).wr (enAddr u) U_STATE 0 := by
      rw [units]
      exact ht
    rw [← e] at only
    exact only

theorem restarted_result (s : State) (u : UnitId) :
    (enterStarting ((stopRecorded s u).wr (enAddr u) U_PEND 0) u).unitState u = 1 ∧
    (enterStarting ((stopRecorded s u).wr (enAddr u) U_PEND 0) u).on (enAddr u) U_PEND = false :=
  ⟨unitState_enterStarting _ u, (on_enterStarting _ u (by decide)).trans (on_wr_same _ _)⟩

theorem orphaned_result (s : State) (u : UnitId)
    (ht : t = ((((stopRecorded s u).wr (enAddr u) U_PEND 0).wr (enAddr u) U_EN 0).wr (enAddr u) U_FAIL 1).wr (enAddr u) U_STATE 0) :
    t.unitState u = 0 ∧ t.on (enAddr u) U_PEND = false ∧ t.on (enAddr u) U_EN = false ∧ t.on (enAddr u) U_FAIL = true := by
  subst ht
  refine ⟨unitState_wr_state _ u 0, ?_, ?_, ?_⟩
  · rw [on_wr_fld, on_wr_fld, on_wr_fld, on_wr_same]; rfl
  · rw [on_wr_fld, on_wr_fld, on_wr_same]; rfl
  · rw [on_wr_fld, on_wr_same]; rfl

/-- A unit whose stop leaves nothing else behind. -/
theorem stopComplete_simple (h : (∀ g, u ≠ .grove g) ∧ (∀ n, u ≠ .can n) ∧ (∀ n, u ≠ .eth n) ∧ ∀ n r, u ≠ .ring n r) :
    stopComplete s u = stopDone s u := by
  obtain ⟨grove, can, eth, ring⟩ := h
  cases u with
  | grove g => exact absurd rfl (grove g)
  | can n => exact absurd rfl (can n)
  | eth n => exact absurd rfl (eth n)
  | ring n r => exact absurd rfl (ring n r)
  | _ => rfl

theorem dependantsOff_same (h : SameEnables s t) (u : UnitId) : dependantsOff t u = dependantsOff s u := by
  simp only [dependantsOff, h.unitState]

/-! ### The link of an ETH port goes down (12 R319) -/

theorem linkDown_enables (n : Fin 4) (s : State) : SameEnables s (linkDown n s) := by
  have status := not_isEnable_ethStatus n
  unfold linkDown
  exact .ite ((((SameEnables.wr _ _ _ status).trans (.wr _ _ _ status)).trans (.wr _ _ _ status)).trans (.raise _ _ _ (not_isEnable_ethEvt n)))
    (.refl s)

theorem ethStatus_ne (n : Fin 4) :
    ETH_STATUS n ≠ EVR_STATUS ∧ ETH_STATUS n ≠ EVR_LOST ∧ ETH_STATUS n ≠ ETH_EVT n ∧ ETH_STATUS n ≠ enAddr (.eth n) := by
  dsimp only [enAddr]
  unfold ETH_STATUS EVR_STATUS EVR_LOST ETH_EVT ETH_EN
  omega

theorem linkDown_link (n : Fin 4) (s : State) : (linkDown n s).on (ETH_STATUS n) ETH_STATUS_LINK = false := by
  obtain ⟨evr, lost, evt, -⟩ := ethStatus_ne n
  unfold linkDown
  split
  · rw [ethEvt, on_of_rget (rget_raise_ne _ _ _ evr lost evt), on_wr_fld, on_wr_fld, on_wr_same]
    rfl
  · next down => exact Bool.eq_false_iff.2 down

theorem stopComplete_eth {n : Fin 4} (stopping : s.unitState (.eth n) = 3) (quiet : (s.port n).medium = none) :
    stopComplete s (.eth n) = stopDone (linkDown n s) (.eth n) :=
  if_pos ⟨stopping, by rw [quiet]; rfl⟩

theorem stopComplete_eth_early {n : Fin 4} (h : s.unitState (.eth n) ≠ 3 ∨ (s.port n).medium ≠ none) : stopComplete s (.eth n) = s :=
  if_neg fun now => h.elim (· now.1) (· (Option.isNone_iff_eq_none.1 now.2))

theorem eth_stop_result {n : Fin 4} (stopping : s.unitState (.eth n) = 3) (pend : s.on (ETH_EN n) U_PEND = false)
    (ht : t = stopDone (linkDown n s) (.eth n)) :
    t.on (ETH_STATUS n) ETH_STATUS_LINK = false ∧ (dependantsOff s (.eth n) = true → t.unitState (.eth n) = 0) ∧
    (dependantsOff s (.eth n) = false → t.unitState (.eth n) = 3) := by
  obtain ⟨-, -, -, other⟩ := ethStatus_ne n
  have same := linkDown_enables n s
  have stopping' : (linkDown n s).unitState (.eth n) = 3 := (same.unitState _).trans stopping
  rw [← dependantsOff_same same]
  by_cases empty : dependantsOff (linkDown n s) (.eth n) = true
  · rw [stopDone_off stopping' empty ((same.on (.eth n) _).trans pend)] at ht
    refine ⟨?_, fun _ => ht ▸ unitState_wr_state _ _ 0, fun h => absurd (empty.symm.trans h) (by decide)⟩
    rw [ht, on_wr_reg _ _ _ _ other]
    exact (on_of_rget (rget_of_regs (setUnit_regs ..) _)).trans (linkDown_link n s)
  · rw [stopDone_early fun h => empty h.2] at ht
    exact ⟨ht ▸ linkDown_link n s, fun h => absurd h empty, fun _ => ht ▸ stopping'⟩

end

end Sys2Proof.Machine
end

section
/-! The end of a CAN controller's stop (12 R331), and a domain whose rails are in regulation (14 R373; 16 R404). -/

namespace Sys2Proof.Machine

open Sys2Proof

section
variable {s t : State}

/-! ### A CAN controller stops (12 R331, R337) -/

/-- The request of one buffer of a controller that stops is aborted. -/
def canAbort (n : Nat) (t : State) (b : Nat) : State :=
  if t.on (CAN_MB_CTRL n b) CAN_MB_CTRL_TXREQ && t.on (CAN_MB_CTRL n b) CAN_MB_CTRL_DIR then txEnd t n b CAN_MB_CTRL_ABORTED else t

theorem canStopped_eq (n : Nat) (s : State) : canStopped n s = (List.range 128).foldl (canAbort n) (s.wr (CAN_STATUS n) CAN_STATUS_ESTATE 2) := rfl

/-- The control word of a buffer after its request was aborted. -/
def abortedWord (w : Word) : Word :=
  if bitsOf w CAN_MB_CTRL_TXREQ == 1 && bitsOf w CAN_MB_CTRL_DIR == 1 then setBits (setBits w CAN_MB_CTRL_TXREQ 0) CAN_MB_CTRL_ABORTED 1 else w

theorem abortedWord_bits {w : Word} (req : (bitsOf w CAN_MB_CTRL_TXREQ == 1) = true) (dir : (bitsOf w CAN_MB_CTRL_DIR == 1) = true) :
    bitsOf (abortedWord w) CAN_MB_CTRL_TXREQ = 0 ∧ bitsOf (abortedWord w) CAN_MB_CTRL_ABORTED = 1 := by
  rw [abortedWord, req, dir, Bool.and_self, if_pos rfl]
  constructor
  · rw [bitsOf_setBits_ne _ _ _ _ (by decide) (by decide) (by decide) (by decide), bitsOf_setBits_same _ _ _ (by decide) (by decide)]
    rfl
  · rw [bitsOf_setBits_same _ _ _ (by decide) (by decide)]
    rfl

/-- An aborted request writes its control word, its event bit and the recorder. -/
theorem rget_txEnd (s : State) (n b : Nat) (f : Fld) {a : Nat} (event : a ≠ CAN_BEVT n (b / 32)) (evr : a ≠ EVR_STATUS) (lost : a ≠ EVR_LOST) :
    (txEnd s n b f).rget a = ((s.wr (CAN_MB_CTRL n b) CAN_MB_CTRL_TXREQ 0).wr (CAN_MB_CTRL n b) f 1).rget a := by
  rw [txEnd, canBevt, rget_raise_ne _ _ _ evr lost event]

theorem canAbort_enables (n : Fin 8) (t : State) {b : Nat} (hb : b < 128) : SameEnables t (canAbort n t b) := by
  have control := not_isEnable_canControl n hb
  unfold canAbort
  exact .ite (((SameEnables.wr _ _ _ control).trans (.wr _ _ _ control)).trans (.raise _ _ _ (not_isEnable_canBevt n (by omega)))) (.refl t)

theorem canStopped_enables (n : Fin 8) (s : State) : SameEnables s (canStopped n s) := by
  rw [canStopped_eq]
  exact (SameEnables.wr _ _ _ (not_isEnable_canStatus n)).trans (.foldl _ _ fun t b hb => canAbort_enables n t (List.mem_range.1 hb))

/-- A register that is no control word of the buffer and none of the events of a stop. -/
theorem rget_canAbort_ne (n : Nat) (t : State) {a b : Nat} (control : a ≠ CAN_MB_CTRL n b) (event : a ≠ CAN_BEVT n (b / 32)) (evr : a ≠ EVR_STATUS)
    (lost : a ≠ EVR_LOST) : (canAbort n t b).rget a = t.rget a := by
  unfold canAbort
  split
  · rw [rget_txEnd t n b _ event evr lost, rget_wr_ne _ _ _ control, rget_wr_ne _ _ _ control]
  · rfl

theorem rget_canAbort (n : Nat) (t : State) {b : Nat} (event : CAN_MB_CTRL n b ≠ CAN_BEVT n (b / 32)) (evr : CAN_MB_CTRL n b ≠ EVR_STATUS)
    (lost : CAN_MB_CTRL n b ≠ EVR_LOST) : (canAbort n t b).rget (CAN_MB_CTRL n b) = abortedWord (t.rget (CAN_MB_CTRL n b)) := by
  unfold canAbort
  generalize e : CAN_MB_CTRL n b = a
  rw [abortedWord, apply_ite (fun u : State => u.rget a), rget_txEnd t n b _ (e ▸ event) (e ▸ evr) (e ▸ lost), e]
  simp only [State.wr, rget_rset_same]
  rfl

theorem canStatus_ne (n : Fin 8) (b : Nat) :
    CAN_STATUS n ≠ CAN_MB_CTRL n b ∧ CAN_STATUS n ≠ CAN_BEVT n (b / 32) ∧ CAN_STATUS n ≠ EVR_STATUS ∧ CAN_STATUS n ≠ EVR_LOST := by
  unfold CAN_STATUS CAN_MB_CTRL CAN_BEVT EVR_STATUS EVR_LOST
  omega

theorem canControl_ne (n : Fin 8) (b : Nat) {c : Nat} (hc : c < 128) :
    CAN_MB_CTRL n b ≠ CAN_BEVT n (c / 32) ∧ CAN_MB_CTRL n b ≠ EVR_STATUS ∧ CAN_MB_CTRL n b ≠ EVR_LOST ∧ CAN_MB_CTRL n b ≠ CAN_STATUS n ∧
    (c ≠ b → CAN_MB_CTRL n b ≠ CAN_MB_CTRL n c) := by
  unfold CAN_STATUS CAN_MB_CTRL CAN_BEVT EVR_STATUS EVR_LOST
  omega

/-- A stopped controller is in the bus-off state. -/
theorem canStopped_busOff (n : Fin 8) (s : State) : (canStopped n s).rd (CAN_STATUS n) CAN_STATUS_ESTATE = 2 := by
  have kept : (canStopped n s).rget (CAN_STATUS n) = (s.wr (CAN_STATUS n) CAN_STATUS_ESTATE 2).rget (CAN_STATUS n) := by
    rw [canStopped_eq]
    refine List.foldlRecOn (motive := fun t : State => t.rget (CAN_STATUS n) = _) _ _ rfl fun t ht b _ => ?_
    obtain ⟨control, event, evr, lost⟩ := canStatus_ne n b
    exact (rget_canAbort_ne n t control event evr lost).trans ht
  rw [State.rd, kept]
  exact rd_wr_same s _ _ 2 (by decide) (by decide)

/-- The control word of each buffer of a stopped controller. -/
theorem rget_canStopped (n : Fin 8) (s : State) {b : Nat} (hb : b < 128) :
    (canStopped n s).rget (CAN_MB_CTRL n b) = abortedWord (s.rget (CAN_MB_CTRL n b)) := by
  obtain ⟨event, evr, lost, status, -⟩ := canControl_ne n b hb
  rw [canStopped_eq, ← rget_wr_ne s CAN_STATUS_ESTATE 2 status]
  refine foldl_at List.nodup_range (List.mem_range.2 hb) (fun t : State => t.rget (CAN_MB_CTRL n b)) abortedWord (I := fun _ => True) trivial
    (fun _ _ _ _ => trivial) (fun t _ c hc other => ?_) fun t _ => rget_canAbort n t event evr lost
  obtain ⟨event', -, -, -, apart⟩ := canControl_ne n b (List.mem_range.1 hc)
  exact rget_canAbort_ne n t (apart other) event' evr lost

theorem stopComplete_can {n : Fin 8} (stopping : s.unitState (.can n) = 3) (quiet : (s.canSt n).onBus = none) :
    stopComplete s (.can n) = stopDone (canStopped n s) (.can n) :=
  if_pos ⟨stopping, by rw [quiet]; rfl⟩

theorem can_stop_result {n : Fin 8} (stopping : s.unitState (.can n) = 3) (pend : s.on (CAN_EN n) U_PEND = false)
    (ht : t = stopDone (canStopped n s) (.can n)) :
    t.unitState (.can n) = 0 ∧ t.rd (CAN_STATUS n) CAN_STATUS_ESTATE = 2 ∧
    ∀ b, b < 128 → s.on (CAN_MB_CTRL n b) CAN_MB_CTRL_TXREQ = true → s.on (CAN_MB_CTRL n b) CAN_MB_CTRL_DIR = true →
      t.on (CAN_MB_CTRL n b) CAN_MB_CTRL_TXREQ = false ∧ t.on (CAN_MB_CTRL n b) CAN_MB_CTRL_ABORTED = true := by
  have same := canStopped_enables n s
  rw [stopDone_off ((same.unitState _).trans stopping) rfl ((same.on (.can n) _).trans pend)] at ht
  have kept {a : Nat} (h : ¬ IsEnable a) : t.rget a = (canStopped n s).rget a := by
    rw [ht, rget_wr_ne _ _ _ fun e => h (by rw [e]; exact isEnable_enAddr _)]
    exact rget_of_regs (setUnit_regs ..) a
  refine ⟨ht ▸ unitState_wr_state _ _ 0, ?_, fun b hb req dir => ?_⟩
  · rw [State.rd, kept (not_isEnable_canStatus n)]
    exact canStopped_busOff n s
  · obtain ⟨ended, aborted⟩ := abortedWord_bits req dir
    have word := (kept (not_isEnable_canControl n hb)).trans (rget_canStopped n s hb)
    rw [State.on, State.rd, State.on, State.rd, word, ended, aborted]
    decide

/-! ### A domain is in regulation (14 R373; 16 R404) -/

theorem on_bit (s : State) (a i : Nat) : s.on a ⟨i, i⟩ = wbit (s.rget a).toNat i := by
  rw [State.on, State.rd, bitsOf, Nat.add_sub_cancel_left, pow_one, wbit]

theorem domain_started (d : Fin 12) (starting : s.unitState (.domain d) = 1) (begun : (s.unit (enAddr (.domain d))).waiting = false) :
    (startDone s (.domain d)).unitState (.domain d) = 2 := by
  have e : startDone s (.domain d) = s.wr (enAddr (.domain d)) U_STATE 2 := if_pos ⟨starting, begun, rfl⟩
  rw [e, unitState_wr_state]

/-- The domain of a Grove leaves its enable word as recovery goes on. -/
theorem recoverPowered_domain (s : State) (g : Fin 8) (d : Fin 12) : (recoverPowered s g).unitState (.domain d) = s.unitState (.domain d) := by
  have grove : enAddr (.domain d) ≠ enAddr (.grove g) := by dsimp only [enAddr]; unfold PWR_EN GRV_EN; omega
  have status : enAddr (.domain d) ≠ GRV_STATUS g := fun e => not_isEnable_groveStatus g (e ▸ isEnable_enAddr _)
  unfold recoverPowered recoverStart
  split
  · split
    · refine unitState_of_rget ((rget_enterStarting List.not_mem_nil).trans ?_)
      exact ((rget_wr_ne _ _ _ grove).trans (rget_wr_ne _ _ _ grove)).trans (rget_wr_ne _ _ _ status)
    · rfl
  · rfl

theorem rdyBits_domain_lt : ∀ d : Fin 12, ∀ i ∈ rdyBits (.domain d), i < 32 := by decide

/-- A ready bit and its event. -/
def ReadyShown (i : Nat) (s : State) : Prop := s.on RDY_VEC ⟨i, i⟩ = true ∧ s.on RDY_EVT ⟨i, i⟩ = true

theorem rdy_ne : RDY_VEC ≠ RDY_EVT ∧ RDY_VEC ≠ EVR_STATUS ∧ RDY_VEC ≠ EVR_LOST ∧ RDY_EVT ≠ EVR_STATUS ∧ RDY_EVT ≠ EVR_LOST := by decide

theorem setReady_vec (s : State) (i : Nat) : (setReady s i).rget RDY_VEC = (s.wr RDY_VEC ⟨i, i⟩ 1).rget RDY_VEC := by
  obtain ⟨apart, evr, lost, -, -⟩ := rdy_ne
  rw [setReady, rget_raise_ne _ _ _ evr lost apart]

theorem setReady_evt (s : State) (i : Nat) : (setReady s i).rget RDY_EVT = (s.wr RDY_EVT ⟨i, i⟩ 1).rget RDY_EVT := by
  obtain ⟨apart, -, -, evr, lost⟩ := rdy_ne
  rw [setReady, rget_raise _ _ _ evr lost]
  simp only [State.wr, rget_rset_same, rget_rset_ne _ _ apart.symm]

theorem setReady_shows (s : State) {i : Nat} (hi : i < 32) : ReadyShown i (setReady s i) :=
  ⟨(on_of_rget (setReady_vec s i)).trans (on_wr_same s _ ⟨rfl, hi⟩), (on_of_rget (setReady_evt s i)).trans (on_wr_same s _ ⟨rfl, hi⟩)⟩

theorem setReady_keeps {i j : Nat} (hj : j < 32) (h : ReadyShown i s) : ReadyShown i (setReady s j) := by
  by_cases e : j = i
  · exact e ▸ setReady_shows s hj
  · have apart : ((j ≤ j ∧ j < 32) ∧ (j < i ∨ i < j) ∧ i ≤ i) := ⟨⟨le_rfl, hj⟩, Nat.lt_or_gt_of_ne e, le_rfl⟩
    exact ⟨((on_of_rget (setReady_vec s j)).trans (on_wr_fld s _ _ apart)).trans h.1,
      ((on_of_rget (setReady_evt s j)).trans (on_wr_fld s _ _ apart)).trans h.2⟩

theorem setReady_enables (s : State) (i : Nat) : SameEnables s (setReady s i) :=
  (SameEnables.wr _ _ _ not_isEnable_rdyVec).trans (.raise _ _ _ not_isEnable_rdyEvt)

/-- The ready bits that a domain sets as it reaches regulation. -/
def domainReady (d : Fin 12) : List Nat := (rdyBits (.domain d)).filter fun i => decide (i ≠ 13) && decide (i ≠ 14)

theorem domainReady_shown (s : State) {d : Fin 12} {i : Nat} (h : i ∈ domainReady d) : ReadyShown i ((domainReady d).foldl setReady s) :=
  have below {j : Nat} (hj : j ∈ domainReady d) : j < 32 := rdyBits_domain_lt d j (List.mem_of_mem_filter hj)
  foldl_establishes (Q := fun _ => True) h trivial (fun _ _ _ _ => trivial) (fun t _ => setReady_shows t (below h))
    fun _ _ shown _ hj => setReady_keeps (below hj) shown

theorem domainOn_idle {d : Fin 12} (h : s.unitState (.domain d) ≠ 1 ∨ (s.unit (enAddr (.domain d))).waiting = true) : domainOn s d = s :=
  if_neg fun now => h.elim (· now.1) fun waits => absurd (waits.symm.trans now.2) (by decide)

theorem domainOn_grove {d : Fin 12} (starting : s.unitState (.domain d) = 1) (begun : (s.unit (enAddr (.domain d))).waiting = false)
    (low : d.val < 8) : domainOn s d = recoverPowered (startDone s (.domain d)) ⟨d.val, low⟩ :=
  (if_pos ⟨starting, begun⟩).trans (dif_pos low)

theorem domainOn_other {d : Fin 12} (starting : s.unitState (.domain d) = 1) (begun : (s.unit (enAddr (.domain d))).waiting = false)
    (high : ¬ d.val < 8) : domainOn s d = (domainReady d).foldl setReady (startDone s (.domain d)) :=
  (if_pos ⟨starting, begun⟩).trans (dif_neg high)

theorem domainOn_result {d : Fin 12} (starting : s.unitState (.domain d) = 1) (begun : (s.unit (enAddr (.domain d))).waiting = false)
    (ht : t = domainOn s d) :
    t.isOn (.domain d) = true ∧ (8 ≤ d.val → ∀ i ∈ rdyBits (.domain d), i ≠ 13 → i ≠ 14 →
      wbit (t.rget RDY_VEC).toNat i = true ∧ wbit (t.rget RDY_EVT).toNat i = true) := by
  have on := domain_started d starting begun
  by_cases low : d.val < 8
  · rw [domainOn_grove starting begun low] at ht
    refine ⟨?_, fun high => absurd low (by omega)⟩
    rw [State.isOn, ht, recoverPowered_domain, on]
    rfl
  · rw [domainOn_other starting begun low] at ht
    refine ⟨?_, fun _ i hi ne13 ne14 => ?_⟩
    · have same : SameEnables (startDone s (.domain d)) ((domainReady d).foldl setReady (startDone s (.domain d))) :=
        .foldl _ _ fun t i _ => setReady_enables t i
      rw [State.isOn, ht, same.unitState, on]
      rfl
    · rw [← on_bit, ← on_bit, ht]
      exact domainReady_shown _ (List.mem_filter.2 ⟨hi, by rw [decide_eq_true ne13, decide_eq_true ne14]; rfl⟩)

end

end Sys2Proof.Machine
end

section
/-! The unit enable model as a whole (01 R19 to R26, R420). -/

namespace Sys2Proof.Machine

open Sys2Proof

section
variable {m : Master} {u : UnitId} {s : State}

/-- A command whose meaning is known. -/
theorem does_eq {c : Instr} {r t : State} {P : State → Prop} (meaning : exec c s = .next r) (e : r = t) (h : P t) : Does c s P :=
  ⟨t, e ▸ meaning, h⟩

/-! ### EN writes to a plain unit -/

theorem does_refused (plain : Plain u) (off : s.unitState u = 0) (h : unitReady s u = false ∨ parentOn s u = false) :
    Does (.enWrite m u true) s fun t => t.on (enAddr u) U_FAIL = true ∧ OnlyRegs [enAddr u] s t ∧ t.unitState u = 0 ∧
      t.on (enAddr u) U_EN = s.on (enAddr u) U_EN :=
  does_eq rfl (enWrite_refused plain off h) (refused_result off)

theorem does_start (plain : Plain u) (off : s.unitState u = 0) (ready : unitReady s u = true) (parent : parentOn s u = true) :
    Does (.enWrite m u true) s fun t => t.unitState u = 1 ∧ t.on (enAddr u) U_EN = true ∧
      OnlyRegs (enAddr u :: (startTests s u).map LSC_CMP) { s with units := t.units, lio := t.lio } t ∧
      (t.unit (enAddr u)).started = s.clk.mono ∧ ((t.unit (enAddr u)).waiting = true ↔ offTimeOver s u = false) ∧
      ∀ j ∈ startTests s u, t.on (LSC_CMP j) LSC_CMP_BUSY = true := by
  have e := (enWrite_plain plain (.inr (.inr ready))).trans (enWriteBase_start off parent)
  refine does_eq rfl e ⟨unitState_enterStarting _ u, start_on s u, start_onlyRegs plain.1 rfl, ?_, ?_, fun j hj => ?_⟩
  · rw [unit_enterStarting]
    rfl
  · rw [unit_enterStarting, waiting_iff, offTimeOver_wr]
  · exact enterStarting_busy plain.1 (by rw [startTests_wr]; exact hj)

theorem does_again (plain : Plain u) (up : s.unitState u = 1 ∨ s.unitState u = 2) : Does (.enWrite m u true) s fun t => t = s :=
  does_eq rfl ((enWrite_plain plain (.inr (.inl (by omega)))).trans (enWriteBase_again up)) rfl

theorem does_stop (plain : Plain u) (up : s.unitState u = 1 ∨ s.unitState u = 2)
    (ran : s.unitState u = 2 ∨ (s.unit (enAddr u)).stopped ≠ some s.clk.mono) :
    Does (.enWrite m u false) s fun t => t.unitState u = 3 ∧ t.on (enAddr u) U_EN = false ∧
      ∀ v ∈ dependants u, Down v t ∧ ∀ w ∈ dependants v, Down w t :=
  does_eq rfl ((enWrite_plain plain (.inl rfl)).trans (enWriteBase_stop up ran)) (stop_result s u rfl)

theorem does_undone (plain : Plain u) (starting : s.unitState u = 1) (now : (s.unit (enAddr u)).stopped = some s.clk.mono) :
    Does (.enWrite m u false) s fun t => t.unitState u = 0 ∧ t.on (enAddr u) U_EN = false ∧ OnlyRegs [enAddr u] { s with units := t.units } t :=
  does_eq rfl ((enWrite_plain plain (.inl rfl)).trans (enWriteBase_pend starting now)) (pendCleared_result plain.1 rfl)

theorem does_held {en : Bool} (plain : Plain u) (stopping : s.unitState u = 3) :
    Does (.enWrite m u en) s fun t => t.unitState u = 3 ∧ t.on (enAddr u) U_EN = en ∧ t.on (enAddr u) U_PEND = en ∧ OnlyRegs [enAddr u] s t :=
  does_eq rfl ((enWrite_plain plain (.inr (.inl (by omega)))).trans (enWriteBase_stopping stopping)) (held_result stopping rfl)

/-! ### EN writes to a Grove -/

theorem does_stopCommand {g : Fin 8} (up : s.unitState (.grove g) = 1 ∨ s.unitState (.grove g) = 2) (used : groveInUse s g = true) :
    Does (.enWrite m (.grove g) false) s fun t => t.unitState (.grove g) = 3 ∧ t.on (GRV_EN g) U_EN = false ∧ FaultMarked g t :=
  does_eq rfl ((enWrite_grove s g false).trans (enGrove_inUse up used)) (stopCommand_result s g)

theorem does_groveStop {g : Fin 8} (on : s.unitState (.grove g) = 2) (unused : groveInUse s g = false) :
    Does (.enWrite m (.grove g) false) s fun t => t.unitState (.grove g) = 3 ∧ t.on (GRV_EN g) U_EN = false ∧
      ∀ i, i < 8 → t.rd (ENG_STATUS (8 * g.val + i)) ENG_STATUS_STATE = 4 :=
  have e := ((enWrite_grove s g false).trans (enGrove_unused unused)).trans (enWriteBase_stop (.inr on) (.inl on))
  does_eq rfl e (grove_stop_result rfl)

theorem does_groveStart {g : Fin 8} (off : s.unitState (.grove g) = 0) (free : (s.grove g).stuck = false) (phase : s.phase g = 0)
    (domain : parentOn s (.grove g) = true) :
    Does (.enWrite m (.grove g) true) s fun t => t.unitState (.grove g) = 1 ∧ t.on (GRV_EN g) U_EN = true :=
  have e := ((enWrite_grove s g true).trans (enGrove_idle free phase)).trans (enWriteBase_start off domain)
  does_eq rfl e ⟨unitState_enterStarting _ _, start_on s _⟩

/-- A refused EN write sets FAIL and nothing else. -/
theorem does_fails {en : Bool} {a : Nat} (e : enWrite s u en = s.wr a U_FAIL 1) :
    Does (.enWrite m u en) s fun t => t.on a U_FAIL = true ∧ OnlyRegs [a] s t :=
  does_eq rfl e ⟨on_wr_same (f := U_FAIL) s a, onlyRegs_wr s a _ _⟩

end

/-! ### The statement -/

/-- Settles O57: the cases of an EN write by the unit's state, and the events of starts and stops. -/
theorem unitResults : Obligations.UnitResults := by
  unfold Obligations.UnitResults
  intro m u en g d dd n s
  dsimp only
  refine ⟨fun plain => ⟨does_refused plain, does_start plain, fun off => ?offStays, fun up => ⟨does_again plain up, does_stop plain up⟩,
      does_undone plain, does_held plain⟩,
    ⟨does_stopCommand, does_groveStop, fun off stuck => ?stuckRefused, does_groveStart, fun recovering en => ?recoveringRefused⟩,
    ⟨fun due _ => ?dueBegins, fun idle again => ?notDue, fun e again => ?switchedAgain⟩,
    fun l limit => ⟨fun late plain => ?lateFails, fun early => ?inTime⟩,
    ⟨fun simple early => ?notDone, fun simple done pend => ?stopped, fun simple done pend parent => ?restarted,
      fun simple done pend parent => ?orphaned⟩,
    fun e stopping quiet pend => ?ethStopped, fun e early => ?ethBusy, fun stopping quiet pend => ?canStopped,
    fun starting begun => ?inRegulation, fun idle => ?notStarting, fun stopping empty pend => ?discharged, fun early => ?notDischarged⟩
  case offStays => exact does_eq rfl ((enWrite_plain plain (.inl rfl)).trans (enWriteBase_off off)) rfl
  case stuckRefused => exact does_fails ((enWrite_grove s g true).trans (enGrove_stuck off stuck))
  case recoveringRefused => exact does_fails (enWrite_recovering recovering en)
  case dueBegins =>
    have other (e : Fin 8) : ¬ SwitchedAgain s u e := by
      rintro ⟨-, -, -, off, -⟩
      exact absurd (off.symm.trans due.1) (by decide)
    exact does_eq rfl (minOffOver_plain other) (offTime_due due rfl)
  case notDue => exact does_eq rfl ((minOffOver_plain again).trans (beginStart_idle idle)) rfl
  case switchedAgain => exact ⟨_, rfl, offTime_again again rfl⟩
  case lateFails =>
    have e := (startTimeout_late limit late).trans (startFailed_ungroved plain.1 late.1)
    exact does_eq rfl e (failed_result s u rfl)
  case inTime => exact does_eq rfl (startTimeout_early limit early) rfl
  case notDone => exact does_eq rfl ((stopComplete_simple simple).trans (stopDone_early early)) rfl
  case stopped =>
    have e := (stopComplete_simple simple).trans (stopDone_off done.1 done.2 pend)
    exact does_eq rfl e (stopped_result s u rfl)
  case restarted =>
    have e := (stopComplete_simple simple).trans (stopDone_restart done.1 done.2 pend parent)
    exact does_eq rfl e (restarted_result s u)
  case orphaned =>
    have e := (stopComplete_simple simple).trans (stopDone_orphan done.1 done.2 pend parent)
    exact does_eq rfl e (orphaned_result s u rfl)
  case ethStopped => exact does_eq rfl (stopComplete_eth stopping quiet) (eth_stop_result stopping pend rfl)
  case ethBusy => exact does_eq rfl (stopComplete_eth_early early) rfl
  case canStopped => exact does_eq rfl (stopComplete_can stopping quiet) (can_stop_result stopping pend rfl)
  case inRegulation => exact ⟨_, rfl, domainOn_result starting begun rfl⟩
  case notStarting => exact does_eq rfl (domainOn_idle idle) rfl
  case discharged => exact does_eq rfl (stopDone_off stopping empty pend) (stopped_result s _ rfl)
  case notDischarged =>
    refine does_eq rfl (stopDone_early fun now => ?_) rfl
    exact early.elim (· now.1) fun full => absurd (full.symm.trans now.2) (by decide)

end Sys2Proof.Machine
end

section
/-! What counting moves beside the counters (15 R383 to R389), and the local clock as it advances and steps (02 R27, R28, R31, R35). -/

namespace Sys2Proof.Machine

open Sys2Proof

/-! ### Performance counters and windows (15) -/

/-- Between s and t only registers of the performance counters and the starts of their windows have changed. -/
structure PmcOnly (s t : State) : Prop where
  rest : t = { s with regs := t.regs, pmcStart := t.pmcStart }
  regs : ∀ a, isPmc a = false → t.rget a = s.rget a

namespace PmcOnly

variable {s t u : State}

theorem refl (s : State) : PmcOnly s s := ⟨rfl, fun _ _ => rfl⟩

theorem trans (h : PmcOnly s t) (k : PmcOnly t u) : PmcOnly s u := by
  refine ⟨?_, fun a p => (k.regs a p).trans (h.regs a p)⟩
  rw [k.rest]
  conv_lhs => rw [h.rest]

theorem ite {p : Prop} [Decidable p] (h : PmcOnly s t) (k : PmcOnly s u) : PmcOnly s (if p then t else u) := by
  split <;> assumption

theorem foldl {α : Type} {f : State → α → State} (l : List α) (s : State) (hf : ∀ t, ∀ x ∈ l, PmcOnly t (f t x)) : PmcOnly s (l.foldl f s) :=
  List.foldlRecOn l f (refl s) fun t ht x hx => ht.trans (hf t x hx)

theorem count (s : State) (ev : PmcEv) (n : Nat) : PmcOnly s (s.count ev n) := by
  obtain ⟨r, e, hr⟩ := count_only s ev n
  rw [e]
  exact ⟨rfl, hr⟩

theorem rset (s : State) {a : Nat} (w : Word) (h : isPmc a = true) : PmcOnly s (s.rset a w) :=
  ⟨rfl, fun _ hb => rget_rset_ne s w fun e => Bool.eq_false_iff.1 hb (e ▸ h)⟩

theorem wr (s : State) {a : Nat} (f : Fld) (v : Nat) (h : isPmc a = true) : PmcOnly s (s.wr a f v) := rset s _ h

theorem flag (s : State) {a : Nat} (f : Fld) (b : Bool) (h : isPmc a = true) : PmcOnly s (s.flag a f b) := rset s _ h

theorem wr64 (s : State) {lo hi : Nat} (v : Nat) (h : isPmc lo = true) (h' : isPmc hi = true) : PmcOnly s (s.wr64 lo hi v) :=
  (rset s _ h).trans (rset _ _ h')

theorem rd (h : PmcOnly s t) {a : Nat} (f : Fld) (p : isPmc a = false) : t.rd a f = s.rd a f := by
  rw [State.rd, h.regs a p, State.rd]

theorem on (h : PmcOnly s t) {a : Nat} (f : Fld) (p : isPmc a = false) : t.on a f = s.on a f := by
  rw [State.on, h.rd f p, State.on]

theorem clk (h : PmcOnly s t) : t.clk = s.clk := by rw [h.rest]

end PmcOnly

theorem isPmc_iff (a : Nat) : isPmc a = true ↔ 0x0300480000 ≤ a ∧ a < 0x0300500000 := by simp [isPmc]

theorem isPmc_counter {j i : Nat} (hj : j < 8) (hi : i < 64) :
    isPmc (PMC_SNAP_LO j i) = true ∧ isPmc (PMC_SNAP_HI j i) = true ∧ isPmc (PMC_VAL_LO j i) = true ∧ isPmc (PMC_VAL_HI j i) = true := by
  simp only [isPmc_iff]
  unfold PMC_SNAP_LO PMC_SNAP_HI PMC_VAL_LO PMC_VAL_HI
  omega

theorem isPmc_windowStatus {j : Nat} (hj : j < 8) : isPmc (PMC_WSTAT j) = true := by
  rw [isPmc_iff]
  unfold PMC_WSTAT
  omega

namespace PmcOnly

/-- The end of a window moves its block's counters only (15 R388, R389). -/
theorem pmcEndWindow (s : State) {j : Nat} (hj : j < 8) : PmcOnly s (pmcEndWindow s j) := by
  have status := isPmc_windowStatus hj
  have snapshot : ∀ t : State, ∀ ji ∈ s.regs.filterMap fun e => pmcOfAddr e.1, PmcOnly t
      (if ji.1 = j ∧ t.on (PMC_CTL j ji.2) PMC_CTL_EN ∧ t.on (PMC_CTL j ji.2) PMC_CTL_MODE then
        (t.wr64 (PMC_SNAP_LO j ji.2) (PMC_SNAP_HI j ji.2) (t.rd64 (PMC_VAL_LO j ji.2) (PMC_VAL_HI j ji.2))).wr64
          (PMC_VAL_LO j ji.2) (PMC_VAL_HI j ji.2) 0 else t) := fun t ji hji => by
    obtain ⟨e, -, he⟩ := List.mem_filterMap.1 hji
    obtain ⟨snapLo, snapHi, valLo, valHi⟩ := isPmc_counter hj (pmcOfAddr_lt he).2
    exact .ite ((wr64 t _ snapLo snapHi).trans (wr64 _ _ valLo valHi)) (.refl t)
  unfold Machine.pmcEndWindow
  dsimp only
  have windowed (t : State) (now : Nat) : PmcOnly t { t with pmcStart := amSet (fun _ => 0) t.pmcStart j now } := ⟨rfl, fun _ _ => rfl⟩
  exact (((PmcOnly.ite (refl s) (foldl _ s snapshot)).trans (wr _ _ _ status)).trans (flag _ _ _ status)).trans (windowed _ _)

theorem pmcStep (s : State) : PmcOnly s (pmcStep s) :=
  foldl _ _ fun t _ hj => .ite (.refl t) (pmcEndWindow t (List.mem_range.1 hj))

theorem pmcTime (s : State) (m k : Nat) : PmcOnly s (pmcTime s m k) :=
  ite ((count s _ k).trans <| foldl _ _ fun t _ _ => ite
    (((count t _ _).trans (ite (refl _) (count _ _ _))).trans <| foldl _ _ fun u _ _ => ite (count u _ _) (refl u)) (refl t)) (refl s)

theorem pmcPort (s : State) (port : Nat) (tx : Bool) (n : Nat) : PmcOnly s (pmcPort s port tx n) := (count s _ n).trans (count _ _ 1)

end PmcOnly

/-! ### The clock advances (02 R27, R28, R35) -/

theorem rget_opRun_ne (s : State) (k : Nat) {a : Nat} (h : a ≠ EVR_OPSEC) : (opRun s k).rget a = s.rget a := by
  unfold opRun
  dsimp only
  split
  · rfl
  · exact rget_wr_ne _ _ _ h

@[simp] theorem advance_mono (k : Nat) (s : State) : (advance k s).clk.mono = s.clk.mono + k := by
  unfold advance
  split
  · next h => rw [h, Nat.add_zero]
  · simp only [opRun_clk, pmcTime_clk]
    split <;> rfl

section
variable {k : Nat} (moves : k ≠ 0) (s : State)
include moves

theorem advance_ns : (advance k s).clk.ns = (s.clk.ns + k) % 1000000000 := by
  unfold advance
  rw [if_neg moves]
  simp only [opRun_clk, pmcTime_clk]
  split <;> rfl

theorem advance_sec : (advance k s).clk.sec = (s.clk.sec + (s.clk.ns + k) / 1000000000) % 2 ^ 48 := by
  unfold advance
  rw [if_neg moves]
  simp only [opRun_clk, pmcTime_clk]
  split <;> rfl

end

/-- At a seconds carry to nanosecond 0 a synchronised clock that the RTC follows writes its seconds into it (02 R35). -/
theorem advance_follow {k : Nat} {s : State} (carry : s.clk.ns + k = 1000000000) (moves : k ≠ 0) (sync : s.on TIM_SRC TIM_SRC_SYNC = true)
    (follow : s.on TIM_CFG TIM_CFG_RTC_FOLLOW = true) :
    (advance k s).clk.rtcSec = (advance k s).clk.sec ∧ (advance k s).clk.rtcFrac = 0 ∧
      (advance k s).on TIM_STATUS TIM_STATUS_RTC_VALID = true := by
  unfold advance
  rw [if_neg moves, carry]
  dsimp only
  rw [if_pos ⟨by decide, sync, follow⟩]
  refine ⟨?_, ?_, ?_⟩
  · rw [opRun_clk, pmcTime_clk]
    simp [rtcWrite, rtcRun]
  · rw [opRun_clk, pmcTime_clk]
    simp [rtcWrite, rtcRun]
  · rw [on_of_rget (rget_opRun_ne _ k (by decide)), (PmcOnly.pmcTime _ _ k).on _ (by decide)]
    exact on_wr_same _ _ (by decide)

/-! ### A timebase cycle with no command waiting (02 R28) -/

theorem drainReplay_rest (s : State) : drainReplay s = { s with cores := (drainReplay s).cores } :=
  List.foldlRecOn (motive := fun t : State => t = { s with cores := t.cores }) s.cores _ rfl fun t ht e _ => by
    conv_lhs => rw [ht]
    rfl

theorem timebaseCycle_uncorrected {s : State} (nominal : s.rget TIM_FADJ = 0#32) (acc : s.clk.acc < 256000000000) :
    timebaseCycle s = advance 1 s := by
  have next : ((s.clk.acc : Int) + 256000000000 + 0).toNat = s.clk.acc + 256000000000 := by omega
  unfold timebaseCycle
  rw [nominal]
  simp only [BitVec.toInt_zero, next]
  rw [show (s.clk.acc + 256000000000) / 256000000000 = 1 by omega, show (s.clk.acc + 256000000000) % 256000000000 = s.clk.acc by omega]

theorem resetDue_none {s : State} (h : s.boot.due = none) : resetDue s = s := by
  unfold resetDue
  rw [h]

/-- Settles O25: the clock advances by one nanosecond, and nothing else of a step on an empty queue touches the clock or the queue. -/
theorem stepOnEmptyQueue : Obligations.StepOnEmptyQueue := by
  unfold Obligations.StepOnEmptyQueue
  intro s empty noReset nominal acc
  have cycle := timebaseCycle_uncorrected nominal acc
  have time := (TimeOnly.advance 1 s).rest
  have drained := drainReplay_rest (advance 1 s)
  have due : (drainReplay (advance 1 s)).boot.due = none := by
    rw [drained, time]
    exact noReset
  refine ⟨drainReplay (advance 1 s), ?_, ?_, ?_⟩
  · rw [step, empty, idle, cycle, resetDue_none due]
  · rw [drained, time]
    exact empty
  · rw [drained]
    exact advance_mono 1 s

end Sys2Proof.Machine
end

section
/-! Commands of the local clock and the RTC, and PTP messages (02 R29 to R41). -/

namespace Sys2Proof.Machine

open Sys2Proof

/-! ### What raising a flag leaves in its register (15 R393) -/

theorem OnlyRegsEvr.trans {l l' : List Nat} {s t u : State} (h : OnlyRegsEvr l s t) (k : OnlyRegsEvr l' t u) : OnlyRegsEvr (l ++ l') s u := by
  obtain ⟨rest, regs⟩ := h
  obtain ⟨rest', regs'⟩ := k
  refine ⟨?_, fun a ha e e' => ?_⟩
  · rw [rest']
    conv_lhs => rw [rest]
  · rw [List.mem_append, not_or] at ha
    exact (regs' a ha.2 e e').trans (regs a ha.1 e e')

theorem OnlyRegsEvr.mono {l l' : List Nat} {s t : State} (h : OnlyRegsEvr l s t) (sub : l ⊆ l') : OnlyRegsEvr l' s t :=
  ⟨h.1, fun a ha => h.2 a fun m => ha (sub m)⟩

theorem OnlyRegs.evr {l : List Nat} {s t : State} (h : OnlyRegs l s t) : OnlyRegsEvr l s t := by
  obtain ⟨rest, regs⟩ := h
  refine ⟨?_, fun a ha _ _ => regs a ha⟩
  conv_lhs => rw [rest]
  rw [rest]

theorem onlyRegsEvr_raise (s : State) (source a : Nat) (f : Fld) : OnlyRegsEvr [a] s (s.raise source a f) :=
  ((onlyRegs_wr s a f 1).evr.trans (raise_onlyRegsEvr s source a f)).mono (by simp)

/-- A raised flag reads 1, unless it stands in the recorder's own registers. -/
theorem on_raise_same (s : State) (source a : Nat) {f : Fld} (evr : a ≠ EVR_STATUS ∧ a ≠ EVR_LOST) (h : f.lo = f.hi ∧ f.hi < 32) :
    (s.raise source a f).on a f = true :=
  (on_of_rget (rget_raise s source f evr.1 evr.2)).trans (on_wr_same s a h)

/-! ### Reading the clock (02 R29) -/

section Snapshot

variable (m : Master) (lo hi short : Word) (r : Resp) (s : State)

/-- The values latched for a master at a read of the clock, whatever they are, and the answer. -/
def clockRead : State := { ((s.setLatch m TIM_SEC_LO lo).setLatch m TIM_SEC_HI hi).setLatch m TIM_SHORT short with resp := r }

theorem exec_timNsRead : exec (.timNsRead m) s =
    .next (clockRead m (BitVec.ofNat 32 s.clk.sec) (BitVec.ofNat 32 (s.clk.sec / 2 ^ 32)) s.short (.word (BitVec.ofNat 32 s.clk.ns)) s) := rfl

theorem clockRead_rest : clockRead m lo hi short r s = { s with latch := (clockRead m lo hi short r s).latch, resp := r } := rfl

theorem getLatch_clockRead (n : Master) (a : Nat) : (clockRead m lo hi short r s).getLatch n a =
    (((s.setLatch m TIM_SEC_LO lo).setLatch m TIM_SEC_HI hi).setLatch m TIM_SHORT short).getLatch n a := rfl

theorem clockRead_latch :
    (clockRead m lo hi short r s).getLatch m TIM_SEC_LO = lo ∧ (clockRead m lo hi short r s).getLatch m TIM_SEC_HI = hi ∧
    (clockRead m lo hi short r s).getLatch m TIM_SHORT = short ∧
    ∀ (n : Master) (a : Nat), a < 2 ^ 40 → n ≠ m ∨ a ∉ [TIM_SEC_LO, TIM_SEC_HI, TIM_SHORT] →
      (clockRead m lo hi short r s).getLatch n a = s.getLatch n a := by
  have other {u : State} {n : Master} {a b : Nat} {w : Word} (hb : b < 2 ^ 40) (ha : a < 2 ^ 40) (apart : n ≠ m ∨ a ≠ b) :
      (u.setLatch m b w).getLatch n a = u.getLatch n a :=
    getLatch_setLatch_ne u w hb ha fun e => by
      obtain ⟨same, same'⟩ := Prod.mk.inj e
      exact apart.elim (· same) (· same')
  have low : TIM_SEC_LO < 2 ^ 40 ∧ TIM_SEC_HI < 2 ^ 40 ∧ TIM_SHORT < 2 ^ 40 := by decide
  obtain ⟨lowLo, lowHi, lowShort⟩ := low
  simp only [getLatch_clockRead]
  refine ⟨?_, ?_, getLatch_setLatch_same _ m _ _, fun n a ha apart => ?_⟩
  · rw [other lowShort lowLo (.inr (by decide)), other lowHi lowLo (.inr (by decide)), getLatch_setLatch_same]
  · rw [other lowShort lowHi (.inr (by decide)), getLatch_setLatch_same]
  · simp only [List.mem_cons, List.not_mem_nil, or_false, not_or] at apart
    rw [other lowShort ha (apart.imp_right (·.2.2)), other lowHi ha (apart.imp_right (·.2.1)), other lowLo ha (apart.imp_right (·.1))]

end Snapshot

/-! ### Adjustments (02 R30, R31) -/

theorem fadjWrite_in {v : Word} {s : State} (lo : -((s.rd TIM_CFG TIM_CFG_FADJ_MAX : Int) * 256000) ≤ v.toInt)
    (hi : v.toInt ≤ (s.rd TIM_CFG TIM_CFG_FADJ_MAX : Int) * 256000) : fadjWrite v s = s.rset TIM_FADJ v := if_pos ⟨lo, hi⟩

theorem fadjWrite_out {v : Word} {s : State}
    (out : v.toInt < -((s.rd TIM_CFG TIM_CFG_FADJ_MAX : Int) * 256000) ∨ (s.rd TIM_CFG TIM_CFG_FADJ_MAX : Int) * 256000 < v.toInt) :
    fadjWrite v s = adjRej s := if_neg fun h => by omega

theorem fadjWrite_result (s : State) (v : Word) : OnlyRegs [TIM_FADJ] s (s.rset TIM_FADJ v) ∧ (s.rset TIM_FADJ v).rget TIM_FADJ = v :=
  ⟨⟨rfl, fun _ ha => rget_rset_ne s v (List.ne_of_not_mem_cons ha)⟩, rget_rset_same s _ _⟩

/-- A refusal sets ADJ_REJ and nothing else. -/
theorem adjRej_result (s : State) : OnlyRegsEvr [TIM_STATUS] s (adjRej s) ∧ (adjRej s).on TIM_STATUS TIM_STATUS_ADJ_REJ = true :=
  ⟨onlyRegsEvr_raise s _ _ _, on_raise_same s _ _ (by decide) (by decide)⟩

theorem stepRefused_iff (s : State) : stepRefused s = true ↔
    (s.nowNs : Int) + stepAmount s < 0 ∨ 2 ^ 48 * 1000000000 ≤ (s.nowNs : Int) + stepAmount s ∨
      s.on TIM_STATUS TIM_STATUS_STEP_PEND = true ∨ s.rd TIM_SRC TIM_SRC_SRC = 3 := by
  simp only [stepRefused, Bool.or_eq_true, decide_eq_true_eq, beq_iff_eq, or_assoc]

/-- The clock and TIM_STATUS after a step, before the windows that it ends. -/
def stepped (s : State) (d : Int) : State :=
  let v := ((s.nowNs : Int) + d).toNat
  let s := { s with clk := { s.clk with sec := v / 1000000000 % 2 ^ 48, ns := v % 1000000000, stepHeld := none } }
  (s.wr TIM_STATUS TIM_STATUS_STEP_SEQ (s.rd TIM_STATUS TIM_STATUS_STEP_SEQ + 1)).wr TIM_STATUS TIM_STATUS_STEP_PEND 0

theorem applyStep_eq (s : State) (d : Int) : applyStep s d = pmcStep (stepped s d) := rfl

/-- A step that stays in the clock's range moves the clock and counts; tick-relative time stands (02 R31, R32). -/
theorem applyStep_result {s t : State} {d : Int} (ht : t = applyStep s d) (lo : 0 ≤ (s.nowNs : Int) + d)
    (hi : (s.nowNs : Int) + d < 2 ^ 48 * 1000000000) :
    (t.nowNs : Int) = s.nowNs + d ∧
    t = { s with clk := { s.clk with sec := t.clk.sec, ns := t.clk.ns, stepHeld := none }, regs := t.regs, pmcStart := t.pmcStart } ∧
    t.rd TIM_STATUS TIM_STATUS_STEP_SEQ = (s.rd TIM_STATUS TIM_STATUS_STEP_SEQ + 1) % 256 ∧
    ∀ a, isPmc a = false → a ≠ TIM_STATUS → t.rget a = s.rget a := by
  have windows : PmcOnly (stepped s d) t := by rw [ht, applyStep_eq]; exact .pmcStep _
  refine ⟨?_, ?_, ?_, fun a ha hne => ?_⟩
  · rw [State.nowNs, windows.clk]
    simp only [stepped, wr_clk]
    omega
  · rw [windows.clk]
    exact windows.rest
  · rw [windows.rd _ (by decide)]
    exact (rd_wr_fld _ _ _ _ _ (by decide) (by decide) (by decide) (by decide)).trans (rd_wr_same _ _ _ _ (by decide) (by decide))
  · exact (windows.regs a ha).trans ((rget_wr_ne _ _ _ hne).trans (rget_wr_ne _ _ _ hne))

theorem timStep_refused {s : State} (h : stepRefused s = true) : timStep s = adjRej s := if_pos h

theorem timStep_free {s : State} (h : stepRefused s = false) (free : s.freeMode = true) : timStep s = applyStep s (stepAmount s) := by
  unfold timStep
  rw [if_neg (Bool.eq_false_iff.1 h), if_pos free]

theorem timStep_locked {s : State} (h : stepRefused s = false) (locked : s.freeMode = false) :
    timStep s = ({ s with clk := { s.clk with stepHeld := some (stepAmount s) } } : State).wr TIM_STATUS TIM_STATUS_STEP_PEND 1 := by
  unfold timStep
  rw [if_neg (Bool.eq_false_iff.1 h), if_neg (Bool.eq_false_iff.1 locked)]

/-! ### The seconds carry and the RTC (02 R27, R35) -/

theorem secondsCarry_result {s t : State} (ht : t = advance (1000000000 - s.clk.ns) s) (below : s.clk.ns < 1000000000) :
    t.clk.ns = 0 ∧ t.clk.sec = (s.clk.sec + 1) % 2 ^ 48 ∧
    t.clk.mono = s.clk.mono + (1000000000 - s.clk.ns) ∧ t.clk.trel = s.clk.trel + (1000000000 - s.clk.ns) ∧
    (s.on TIM_SRC TIM_SRC_SYNC = true → s.on TIM_CFG TIM_CFG_RTC_FOLLOW = true → t.clk.rtcSec = t.clk.sec ∧ t.clk.rtcFrac = 0 ∧
      t.on TIM_STATUS TIM_STATUS_RTC_VALID = true) ∧
    t = { s with clk := t.clk, regs := t.regs, evr := { s.evr with opNs := t.evr.opNs } } ∧
    ∀ a, isPmc a = false → a ∉ [EVR_OPSEC, TIM_STATUS] → t.rget a = s.rget a := by
  have carry : s.clk.ns + (1000000000 - s.clk.ns) = 1000000000 := by omega
  have moves : 1000000000 - s.clk.ns ≠ 0 := by omega
  have time := TimeOnly.advance (1000000000 - s.clk.ns) s
  subst ht
  refine ⟨?_, ?_, advance_mono _ s, advance_trel _ s, advance_follow carry moves, time.rest, time.regs⟩
  · rw [advance_ns moves, carry]
  · rw [advance_sec moves, carry]

theorem rtcStore_result {s : State} (range : s.clk.sec < 2 ^ 48) :
    (rtcStore s).on TIM_STATUS TIM_STATUS_RTC_VALID = true ∧ OnlyRegs [TIM_STATUS]
      { s with clk := { s.clk with rtcSec := s.clk.sec, rtcFrac := s.clk.ns * 32768 / 1000000000, rtcAcc := 0 } } (rtcStore s) := by
  refine ⟨on_wr_same _ _ (by decide), ?_⟩
  unfold rtcStore rtcWrite
  rw [Nat.mod_eq_of_lt range]
  exact onlyRegs_wr _ _ _ _

/-- Clearing bit 0 of a register leaves every other bit. -/
theorem wbit_wr_zero (s : State) (a i : Nat) (v : Nat) (h : i ≠ 0) : wbit ((s.wr a ⟨0, 0⟩ v).rget a).toNat i = wbit (s.rget a).toNat i := by
  have outside : ¬ (0 ≤ i ∧ i ≤ 0) := by omega
  rw [wbit_eq_testBit, wbit_eq_testBit, BitVec.testBit_toNat, BitVec.testBit_toNat, State.wr, rget_rset_same,
    getLsbD_setBits _ _ _ _ (by decide) (by decide), if_neg outside]

/-! ### PTP messages (02 R37, R39 to R41) -/

section Ptp

variable (port : Fin 4) (kind : BitVec 4) (domain : Byte) (udp : Bool) (need : Option PtpNeed) (s : State)

/-- The module and the port take PTP messages. -/
abbrev PtpEnabled : Prop := s.on PTP_CTRL PTP_CTRL_ENABLE = true ∧ wbit (s.rd PTP_CTRL PTP_CTRL_PORT_EN) port = true

/-- A message of the configured domain and transport. -/
abbrev PtpOurs : Prop := s.rd PTP_CTRL PTP_CTRL_DOMAIN = domain.toNat ∧ s.rd PTP_CTRL PTP_CTRL_TRANSPORT = if udp then 1 else 0

theorem exec_ptp : exec (.ptpMessageReceived port kind domain udp need) s = execPtpMessageReceived port kind domain udp need s := rfl

variable {port need s}

theorem ptp_unsupported (enabled : PtpEnabled port s) (unsupported : need ≠ none) :
    Does (.ptpMessageReceived port kind domain udp need) s (fun t => OnlyRegs [PTP_STATUS] s t ∧
      t.rd PTP_STATUS PTP_STATUS_UNSUPP_CNT = min 255 (s.rd PTP_STATUS PTP_STATUS_UNSUPP_CNT + 1)) := by
  obtain ⟨on, bit⟩ := enabled
  refine ⟨s.bump PTP_STATUS PTP_STATUS_UNSUPP_CNT 1, ?_, onlyRegs_wr s _ _ _, ?_⟩
  · rw [exec_ptp, execPtpMessageReceived, on, bit, Bool.and_self, if_pos rfl, if_pos (Option.isSome_iff_ne_none.2 unsupported)]
  · rw [State.bump, rd_wr_same _ _ _ _ (by decide) (by decide)]
    exact Nat.mod_eq_of_lt (Nat.lt_succ_of_le (Nat.min_le_left _ _))

theorem ptp_taken (enabled : PtpEnabled port s) (ours : PtpOurs domain udp s) :
    Does (.ptpMessageReceived port kind domain udp none) s (fun t => t =
      { s with out := s.out ++ [.ptp port kind.toNat (s.short - BitVec.ofNat 32 (s.rd (PTP_LAT port) PTP_LAT_INGRESS))] }) := by
  obtain ⟨on, bit⟩ := enabled
  refine ⟨_, ?_, rfl⟩
  rw [exec_ptp, execPtpMessageReceived, on, bit, Bool.and_self, if_pos rfl, if_neg (by decide), if_pos ours]
  rfl

theorem ptp_ignored (h : ¬ PtpEnabled port s ∨ (need = none ∧ ¬ PtpOurs domain udp s)) :
    Does (.ptpMessageReceived port kind domain udp need) s (fun t => t = s) := by
  refine ⟨s, ?_, rfl⟩
  rw [exec_ptp, execPtpMessageReceived]
  split
  · next enabled =>
    have enabled : PtpEnabled port s := Bool.and_eq_true_iff.1 enabled
    obtain ⟨rfl, other⟩ := h.resolve_left (· enabled)
    rw [if_neg (by decide), if_neg other]
  · rfl

end Ptp

/-! ### The statement -/

section Commands

variable (m : Master) (v : Word) (s : State)

theorem exec_timFadjWrite : exec (.timFadjWrite m v) s = .next (fadjWrite v s) := rfl
theorem exec_timStep : exec (.timStep m) s = .next (timStep s) := rfl
theorem exec_rtcStore : exec (.rtcStore m) s = .next (rtcStore s) := rfl
theorem exec_secondsCarry : exec .secondsCarry s = .next (advance (1000000000 - s.clk.ns) s) := rfl
theorem exec_d0RetentionLoss : exec .d0RetentionLoss s = .next (s.wr TIM_STATUS TIM_STATUS_RTC_VALID 0) := rfl

end Commands

/-- Settles O34: the cases of each clock command, and of a PTP message by port, need and domain. -/
theorem timeAndPtp : Obligations.TimeAndPtp := by
  unfold Obligations.TimeAndPtp
  refine ⟨fun m v s => ?clock, fun port kind domain udp need s => ?ptp⟩
  case clock =>
    dsimp only
    have admitted {p : Prop} (h : stepRefused s = true ↔ p) (taken : ¬ p) : stepRefused s = false :=
      Bool.eq_false_iff.2 fun refused => taken (h.1 refused)
    have refusal := stepRefused_iff s
    refine ⟨⟨_, exec_timNsRead m s, clockRead_rest .., clockRead_latch ..⟩,
      fun lo hi => does_eq (exec_timFadjWrite m v s) (fadjWrite_in lo hi) (fadjWrite_result s v),
      fun out => does_eq (exec_timFadjWrite m v s) (fadjWrite_out out) (adjRej_result s),
      fun refused => does_eq rfl (timStep_refused (refusal.2 refused)) (adjRej_result s),
      fun taken free => ?stepped, fun taken locked => ?held,
      fun range => ⟨_, exec_rtcStore m s, rtcStore_result range⟩, fun below => ⟨_, exec_secondsCarry s, secondsCarry_result rfl below⟩,
      ⟨_, exec_d0RetentionLoss s, onlyRegs_wr s _ _ _, on_wr_same _ _ (by decide), fun i => wbit_wr_zero s _ i _⟩⟩
    case stepped =>
      have inRange := taken
      simp only [not_or, not_lt, not_le] at inRange
      exact does_eq (exec_timStep m s) (timStep_free (admitted refusal taken) free) (applyStep_result rfl inRange.1 inRange.2.1)
    case held => exact does_eq (exec_timStep m s) (timStep_locked (admitted refusal taken) locked) ⟨on_wr_same _ _ (by decide), onlyRegs_wr _ _ _ _⟩
  case ptp =>
    exact ⟨ptp_unsupported kind domain udp, fun enabled e ours => e ▸ ptp_taken kind domain udp enabled ours, ptp_ignored kind domain udp⟩

end Sys2Proof.Machine
end

section
/-! Registers of the network ports and the CAN controllers (12): what a change to the rest of the module leaves in them. -/

namespace Sys2Proof.Machine

open Sys2Proof

/-- A register of a network port or of a CAN controller. -/
abbrev IsBus (a : Nat) : Prop := 0x300380000 ≤ a ∧ a < 0x300480000

/-- From s to t the registers of network ports and CAN controllers stay as they are, but for those of a list. -/
def BusBut (l : List Nat) (s t : State) : Prop := ∀ a, IsBus a → a ∉ l → t.rget a = s.rget a

namespace BusBut

variable {l l' : List Nat} {s t u : State}

theorem refl (s : State) : BusBut [] s s := fun _ _ _ => rfl

theorem trans (h : BusBut l s t) (k : BusBut l' t u) : BusBut (l ++ l') s u := fun a bus out => by
  rw [List.mem_append, not_or] at out
  exact (k a bus out.2).trans (h a bus out.1)

theorem mono (h : BusBut l s t) (sub : l ⊆ l') : BusBut l' s t := fun a bus out => h a bus fun m => out (sub m)

theorem of_regs (h : t.regs = s.regs) : BusBut [] s t := fun a _ _ => rget_of_regs h a

theorem of_only (h : OnlyRegs l s t) : BusBut l s t := fun a _ => h.2 a

theorem of_onlyEvr (h : OnlyRegsEvr l s t) : BusBut l s t := fun a bus out =>
  h.2 a out (by unfold EVR_STATUS; omega) (by unfold EVR_LOST; omega)

theorem of_pmc (h : PmcOnly s t) : BusBut [] s t := fun a bus _ => h.regs a (Bool.eq_false_iff.2 fun p => by rw [isPmc_iff] at p; omega)

theorem wr (s : State) (a : Nat) (f : Fld) (v : Nat) : BusBut [a] s (s.wr a f v) := of_only (onlyRegs_wr s a f v)

theorem rset (s : State) (a : Nat) (w : Word) : BusBut [a] s (s.rset a w) := fun _ _ out => rget_rset_ne s w (List.ne_of_not_mem_cons out)

theorem raise (s : State) (source a : Nat) (f : Fld) : BusBut [a] s (s.raise source a f) := of_onlyEvr (onlyRegsEvr_raise s source a f)

/-- A write to a register of another unit. -/
theorem wr_other (s : State) {a : Nat} (f : Fld) (v : Nat) (h : ¬ IsBus a) : BusBut [] s (s.wr a f v) := fun _ bus _ =>
  rget_wr_ne s f v fun e => h (e ▸ bus)

theorem raise_other (s : State) (source : Nat) {a : Nat} (f : Fld) (h : ¬ IsBus a) : BusBut [] s (s.raise source a f) := fun b bus _ =>
  raise s source a f b bus fun m => h (List.mem_singleton.1 m ▸ bus)

theorem ite {p : Prop} [Decidable p] (h : BusBut l s t) (k : BusBut l s u) : BusBut l s (if p then t else u) := by
  split <;> assumption

theorem foldl {α : Type} {f : State → α → State} (xs : List α) (s : State) (hf : ∀ t, ∀ x ∈ xs, BusBut [] t (f t x)) :
    BusBut [] s (xs.foldl f s) :=
  List.foldlRecOn xs f (refl s) fun t ht x hx => ht.trans (hf t x hx)

theorem rd (h : BusBut l s t) {a : Nat} (f : Fld) (here : IsBus a ∧ a ∉ l) : t.rd a f = s.rd a f := by
  rw [State.rd, h a here.1 here.2, State.rd]

theorem on (h : BusBut l s t) {a : Nat} (f : Fld) (here : IsBus a ∧ a ∉ l) : t.on a f = s.on a f := by
  rw [State.on, h.rd f here, State.on]

end BusBut

theorem isBus_enAddr_can (n : Fin 8) : IsBus (enAddr (.can n)) := by dsimp only [enAddr]; unfold CAN_EN IsBus; omega

/-! ### Fields of a word that was written -/

@[simp] theorem rget_wr_same (s : State) (a : Nat) (f : Fld) (v : Nat) : (s.wr a f v).rget a = setBits (s.rget a) f v := rget_rset_same s _ _

/-- A counter that counts once, up to its greatest value. -/
theorem rd_bump (s : State) (a : Nat) (f : Fld) (n : Nat) (h : f.lo ≤ f.hi ∧ f.hi < 32) :
    (s.bump a f n).rd a f = min (2 ^ (f.hi + 1 - f.lo) - 1) (s.rd a f + n) := by
  rw [State.bump, rd_wr_same s a f _ h.1 h.2]
  exact Nat.mod_eq_of_lt (lt_of_le_of_lt (Nat.min_le_left _ _) (Nat.sub_lt (by positivity) Nat.one_pos))

theorem rget_bump_ne (s : State) {a b : Nat} (f : Fld) (n : Nat) (h : b ≠ a) : (s.bump a f n).rget b = s.rget b := rget_wr_ne s _ _ h

theorem onlyRegs_bump (s : State) (a : Nat) (f : Fld) (n : Nat) : OnlyRegs [a] s (s.bump a f n) := onlyRegs_wr s a f _

theorem onlyRegs_rset (s : State) (a : Nat) (w : Word) : OnlyRegs [a] s (s.rset a w) :=
  ⟨rfl, fun _ hb => rget_rset_ne s w (List.ne_of_not_mem_cons hb)⟩

/-- Raising a flag leaves the other fields of its register. -/
theorem rd_raise_fld (s : State) (source : Nat) {a : Nat} {f g : Fld} (bus : IsBus a)
    (h : (f.lo ≤ f.hi ∧ f.hi < 32) ∧ (f.hi < g.lo ∨ g.hi < f.lo) ∧ g.lo ≤ g.hi) :
    (s.raise source a f).rd a g = s.rd a g := by
  rw [rd_raise s source f g (by unfold EVR_STATUS; omega) (by unfold EVR_LOST; omega), rd_wr_fld s a f g 1 h.1.1 h.1.2 h.2.1 h.2.2]

theorem on_raise_bus (s : State) (source : Nat) {a : Nat} {f : Fld} (bus : IsBus a) (h : f.lo = f.hi ∧ f.hi < 32) :
    (s.raise source a f).on a f = true :=
  on_raise_same s source a (by unfold EVR_STATUS EVR_LOST; omega) h

/-- Raising a flag clears none. -/
theorem on_raise_stays {s : State} (source a : Nat) {b : Nat} {f g : Fld} (set : s.on b g = true) (bus : IsBus b)
    (hf : f.lo = f.hi ∧ f.hi < 32) (hg : g.lo = g.hi) : (s.raise source a f).on b g = true := by
  by_cases same : b = a
  · subst same
    by_cases flag : f = g
    · exact flag ▸ on_raise_bus s source bus hf
    · have apart : f.lo ≠ g.lo := fun e => flag (by cases f; cases g; simp_all)
      rw [State.on, rd_raise_fld s source bus ⟨⟨hf.1.le, hf.2⟩, by omega, hg.le⟩]
      exact set
  · rw [(BusBut.raise s source a f).on g ⟨bus, fun m => same (List.mem_singleton.1 m)⟩]
    exact set

/-! ### What raising a flag and counting leave of the rest -/

@[simp] theorem raise_net (s : State) (source a : Nat) (f : Fld) : (s.raise source a f).net = s.net := by rw [raise_rest]
@[simp] theorem raise_can (s : State) (source a : Nat) (f : Fld) : (s.raise source a f).can = s.can := by rw [raise_rest]
@[simp] theorem raise_mem (s : State) (source a : Nat) (f : Fld) : (s.raise source a f).mem = s.mem := by rw [raise_rest]

@[simp] theorem pmcPort_net (s : State) (port : Nat) (tx : Bool) (n : Nat) : (pmcPort s port tx n).net = s.net := by
  rw [(PmcOnly.pmcPort s port tx n).rest]
@[simp] theorem pmcPort_can (s : State) (port : Nat) (tx : Bool) (n : Nat) : (pmcPort s port tx n).can = s.can := by
  rw [(PmcOnly.pmcPort s port tx n).rest]
@[simp] theorem pmcPort_mem (s : State) (port : Nat) (tx : Bool) (n : Nat) : (pmcPort s port tx n).mem = s.mem := by
  rw [(PmcOnly.pmcPort s port tx n).rest]
@[simp] theorem pmcPort_out (s : State) (port : Nat) (tx : Bool) (n : Nat) : (pmcPort s port tx n).out = s.out := by
  rw [(PmcOnly.pmcPort s port tx n).rest]

theorem BusBut.pmcPort (s : State) (port : Nat) (tx : Bool) (n : Nat) : BusBut [] s (pmcPort s port tx n) := .of_pmc (.pmcPort s port tx n)

/-! ### A port's and a controller's record -/

theorem port_setNet (s : State) (n : Nat) (f : NetSt → NetSt) : (s.setNet n f).port n = f (s.port n) := amGet_amSet_same _ _ _

theorem canSt_setCan (s : State) (n : Nat) (f : CanSt → CanSt) : (s.setCan n f).canSt n = f (s.canSt n) := amGet_amSet_same _ _ _

theorem port_of_net {s t : State} (h : t.net = s.net) (n : Nat) : t.port n = s.port n := by rw [State.port, h, State.port]

theorem canSt_of_can {s t : State} (h : t.can = s.can) (n : Nat) : t.canSt n = s.canSt n := by rw [State.canSt, h, State.canSt]

theorem BusBut.setNet (s : State) (n : Nat) (f : NetSt → NetSt) : BusBut [] s (s.setNet n f) := .of_regs (setNet_regs ..)

theorem BusBut.setCan (s : State) (n : Nat) (f : CanSt → CanSt) : BusBut [] s (s.setCan n f) := .of_regs (setCan_regs ..)

theorem BusBut.send (s : State) (o : Out) : BusBut [] s (s.send o) := .of_regs (send_regs ..)

/-! ### The module stops a unit on which none depends (01 R25) -/

theorem hwStop_leaf {u : UnitId} (leaf : dependants u = []) (quiet : ∀ t, onStop t u = t) (s : State) :
    OnlyRegs [enAddr u] s (hwStop s u) ∧ Down u (hwStop s u) := by
  have one : hwStop s u = hwStopOne s u := by rw [hwStop, stopDependants, leaf, List.foldl_nil]
  have word : OnlyRegs [enAddr u] s (hwStopWord s u) := ((onlyRegs_wr s _ U_EN 0).wr U_PEND 0).wr U_HWSTOP 1
  rw [one]
  refine ⟨?_, hwStopOne_down s u⟩
  unfold hwStopOne
  split
  · exact ⟨rfl, fun _ _ => rfl⟩
  · dsimp only
    split
    · exact word
    · rw [enterStopping, quiet]
      exact word.wr U_STATE 3

theorem not_isOn_of_down {u : UnitId} {s : State} (h : Down u s) : s.isOn u = false := by
  rw [State.isOn]
  rcases h with h | h <;> rw [h] <;> rfl

end Sys2Proof.Machine
end

section
/-! Requests of a CAN controller's buffers, and the buffer that is selected (12 R329, R336, R337). -/

namespace Sys2Proof.Machine

open Sys2Proof

/-! ### The error state from the counters (R329) -/

theorem canState_only (s : State) (n : Nat) : OnlyRegsEvr [CAN_STATUS n, CAN_EVT n] s (canState s n) := by
  have same : OnlyRegsEvr [CAN_STATUS n, CAN_EVT n] s s := (OnlyRegsEvr.refl s).mono (by simp)
  have state (v : Nat) : OnlyRegsEvr [CAN_STATUS n] s (s.wr (CAN_STATUS n) CAN_STATUS_ESTATE v) := (onlyRegs_wr s _ _ v).evr
  unfold canState
  dsimp only
  split
  · exact same
  · split
    · split
      · exact same
      · exact (state 1).trans (onlyRegsEvr_raise _ _ _ _)
    · exact (state 0).mono (by simp)

/-- The other fields of CAN_STATUS stay. -/
theorem rd_canState (s : State) (n : Fin 8) {f : Fld} (h : CAN_STATUS_ESTATE.hi < f.lo ∧ f.lo ≤ f.hi) :
    (canState s n).rd (CAN_STATUS n) f = s.rd (CAN_STATUS n) f := by
  have state (v : Nat) : (s.wr (CAN_STATUS n) CAN_STATUS_ESTATE v).rd (CAN_STATUS n) f = s.rd (CAN_STATUS n) f :=
    rd_wr_fld s _ _ f v (by decide) (by decide) (.inl h.1) h.2
  unfold canState
  dsimp only
  split
  · rfl
  · split
    · split
      · rfl
      · exact ((BusBut.raise _ _ _ _).rd f (by grind)).trans (state 1)
    · exact state 0

theorem on_canState_stays {s : State} (n : Fin 8) {f : Fld} (set : s.on (CAN_EVT n) f = true) (h : f.lo = f.hi) :
    (canState s n).on (CAN_EVT n) f = true := by
  have state (v : Nat) : (s.wr (CAN_STATUS n) CAN_STATUS_ESTATE v).on (CAN_EVT n) f = true := ((BusBut.wr s _ _ v).on f (by grind)).trans set
  unfold canState
  dsimp only
  split
  · exact set
  · split
    · split
      · exact set
      · exact on_raise_stays _ _ (state 1) (by grind) (by decide) h
    · exact state 0

@[simp] theorem canState_can (s : State) (n : Nat) : (canState s n).can = s.can := by rw [(canState_only s n).1]
@[simp] theorem canState_out (s : State) (n : Nat) : (canState s n).out = s.out := by rw [(canState_only s n).1]

/-! ### The end of a request (R337) -/

/-- The request of buffer b has ended as the flag f says, and its event is shown. -/
abbrev Ended (n : Fin 8) (b : Fin 128) (f : Fld) (t : State) : Prop :=
  t.on (CAN_MB_CTRL n b) CAN_MB_CTRL_TXREQ = false ∧ t.on (CAN_MB_CTRL n b) f = true ∧
    wbit (t.rget (CAN_BEVT n (b.val / 32))).toNat (b.val % 32) = true

theorem txEnd_only (s : State) (n b : Nat) (f : Fld) : OnlyRegsEvr [CAN_MB_CTRL n b, CAN_BEVT n (b / 32)] s (txEnd s n b f) :=
  (((onlyRegs_wr s _ CAN_MB_CTRL_TXREQ 0).wr f 1).evr.trans (onlyRegsEvr_raise _ _ _ _)).mono (by simp)

theorem txEnd_ended (s : State) (n : Fin 8) (b : Fin 128) {f : Fld}
    (h : f.lo = f.hi ∧ f.hi < 32 ∧ f.hi < CAN_MB_CTRL_TXREQ.lo) : Ended n b f (txEnd s n b f) := by
  have control : (txEnd s n b f).rget (CAN_MB_CTRL n b) = _ :=
    rget_txEnd s n b f (by grind) (by unfold EVR_STATUS; grind) (by unfold EVR_LOST; grind)
  refine ⟨?_, ?_, ?_⟩
  · rw [on_of_rget control, on_wr_fld _ _ _ ⟨⟨h.1.le, h.2.1⟩, .inl h.2.2, by decide⟩, on_wr_same _ _ (by decide)]
    rfl
  · rw [on_of_rget control, on_wr_same _ _ ⟨h.1, h.2.1⟩]
    rfl
  · rw [← on_bit]
    exact on_raise_bus _ _ (by grind) ⟨rfl, by dsimp only; omega⟩

/-- What leaves a buffer's control word and event leaves its ended request. -/
theorem Ended.stays {n : Fin 8} {b : Fin 128} {f : Fld} {l : List Nat} {s t : State} (h : Ended n b f s) (k : BusBut l s t)
    (control : CAN_MB_CTRL n b ∉ l) (event : CAN_BEVT n (b.val / 32) ∉ l) : Ended n b f t := by
  obtain ⟨req, flag, shown⟩ := h
  have control' := k _ (by grind) control
  exact ⟨(on_of_rget control').trans req, (on_of_rget control').trans flag, by rw [k _ (by grind) event]; exact shown⟩

@[simp] theorem txEnd_can (s : State) (n b : Nat) (f : Fld) : (txEnd s n b f).can = s.can := by rw [(txEnd_only s n b f).1]
@[simp] theorem txEnd_out (s : State) (n b : Nat) (f : Fld) : (txEnd s n b f).out = s.out := by rw [(txEnd_only s n b f).1]

theorem OnlyRegs.setCan {l : List Nat} {s t : State} (h : OnlyRegs l s t) (n : Nat) (f : CanSt → CanSt) :
    OnlyRegs l { s with can := (t.setCan n f).can } (t.setCan n f) := by
  obtain ⟨rest, regs⟩ := h
  have both (c : AMap CanSt) : ({ t with can := c } : State) = { s with can := c, regs := t.regs } := by rw [rest]
  exact ⟨both _, regs⟩

/-! ### Requests and aborts (R336, R337) -/

section Request

variable (n : Fin 8) (b : Fin 128) {s : State}

/-- A buffer's launch time has passed by more than the tolerance. -/
abbrev BufferLate (s : State) : Prop :=
  launchLate s (s.rget (CAN_MB_LAUNCH n b)) (s.rd (CAN_CFG n) CAN_CFG_LATE_TOL) = true

/-- A new request of buffer b: its counters start anew. -/
def requested (s : State) : State :=
  ((s.wr (CAN_MB_CTRL n b) CAN_MB_CTRL_TXREQ 1).rset (CAN_MB_CNT n b) 0#32).setCan n fun c =>
    { c with raised := c.raised.filter (· != b.val), lateReq := c.lateReq.filter (· != b.val) }

theorem requested_req (s : State) : (requested n b s).on (CAN_MB_CTRL n b) CAN_MB_CTRL_TXREQ = true :=
  ((BusBut.setCan _ _ _).on _ (by grind)).trans (((BusBut.rset _ _ _).on _ (by grind)).trans (on_wr_same _ _ (by decide)))

theorem requested_result (s : State) {t : State} (ht : t = requested n b s) :
    t.on (CAN_MB_CTRL n b) CAN_MB_CTRL_TXREQ = true ∧ t.rget (CAN_MB_CNT n b) = 0#32 ∧
    OnlyRegs [CAN_MB_CTRL n b, CAN_MB_CNT n b] { s with can := t.can } t := by
  have only := ((onlyRegs_wr s (CAN_MB_CTRL n b) CAN_MB_CTRL_TXREQ 1).trans (onlyRegs_rset _ (CAN_MB_CNT n b) 0#32)).setCan
  subst ht
  exact ⟨requested_req n b s, (rget_of_regs (setCan_regs ..) _).trans (rget_rset_same _ _ _), only _ _⟩

theorem canTxreq_standing (req : s.on (CAN_MB_CTRL n b) CAN_MB_CTRL_TXREQ = true) : canTxreq n b s = s := if_pos req

variable (free : s.on (CAN_MB_CTRL n b) CAN_MB_CTRL_TXREQ = false)
include free

theorem canTxreq_timely (h : s.on (CAN_MB_CTRL n b) CAN_MB_CTRL_LAUNCH = false ∨ ¬ BufferLate n b s) : canTxreq n b s = requested n b s :=
  (if_neg (Bool.eq_false_iff.1 free)).trans (if_neg fun late => h.elim (fun off => Bool.eq_false_iff.1 off late.1) (· late.2))

variable (launch : s.on (CAN_MB_CTRL n b) CAN_MB_CTRL_LAUNCH = true) (late : BufferLate n b s)
include launch late

theorem canTxreq_dropped (drop : s.on (CAN_MB_CTRL n b) CAN_MB_CTRL_LATE_DROP = true) :
    canTxreq n b s = txEnd (requested n b s) n b CAN_MB_CTRL_LATE :=
  (if_neg (Bool.eq_false_iff.1 free)).trans ((if_pos ⟨launch, late⟩).trans (if_pos drop))

theorem canTxreq_late (keep : s.on (CAN_MB_CTRL n b) CAN_MB_CTRL_LATE_DROP = false) :
    canTxreq n b s = ((requested n b s).wr (CAN_MB_CTRL n b) CAN_MB_CTRL_LATE 1).setCan n fun c => { c with lateReq := insertLine b c.lateReq } :=
  (if_neg (Bool.eq_false_iff.1 free)).trans ((if_pos ⟨launch, late⟩).trans (if_neg (Bool.eq_false_iff.1 keep)))

omit free launch late in
theorem late_result (t : State) (f : CanSt → CanSt) (req : t.on (CAN_MB_CTRL n b) CAN_MB_CTRL_TXREQ = true) :
    ((t.wr (CAN_MB_CTRL n b) CAN_MB_CTRL_LATE 1).setCan n f).on (CAN_MB_CTRL n b) CAN_MB_CTRL_TXREQ = true ∧
    ((t.wr (CAN_MB_CTRL n b) CAN_MB_CTRL_LATE 1).setCan n f).on (CAN_MB_CTRL n b) CAN_MB_CTRL_LATE = true :=
  ⟨((BusBut.setCan _ _ _).on _ (by grind)).trans ((on_wr_fld _ _ _ (by decide)).trans req),
    ((BusBut.setCan _ _ _).on _ (by grind)).trans (on_wr_same _ _ (by decide))⟩

end Request

section Abort

variable (n : Fin 8) (b : Fin 128) {s : State}

theorem canTxabort_idle (free : s.on (CAN_MB_CTRL n b) CAN_MB_CTRL_TXREQ = false) : canTxabort n b s = s := if_pos free

variable (req : s.on (CAN_MB_CTRL n b) CAN_MB_CTRL_TXREQ = true)
include req

theorem canTxabort_sending (sending : (s.canSt n).onBus = some b.val) : canTxabort n b s = s.setCan n fun c => { c with abort := true } := by
  unfold canTxabort
  rw [if_neg (by rw [req]; decide), sending]
  exact if_pos rfl

theorem canTxabort_waiting (waiting : (s.canSt n).onBus ≠ some b.val) : canTxabort n b s = txEnd s n b CAN_MB_CTRL_ABORTED := by
  unfold canTxabort
  rw [if_neg (by rw [req]; decide)]
  cases onBus : (s.canSt n).onBus with
  | none => rfl
  | some c => exact if_neg fun same => waiting (by rw [onBus, same])

end Abort

/-! ### The selected buffer (R336) -/

/-- Whether buffer b goes before buffer c: by its arbitration field, and by its number on a tie. -/
abbrev Before (s : State) (n b c : Nat) : Prop := arbKey s n b < arbKey s n c ∨ (arbKey s n b = arbKey s n c ∧ b ≤ c)

/-- The winner among the buffers seen and one more. -/
def betterOf (s : State) (n : Nat) (w : Option Nat) (b : Nat) : Option Nat :=
  if canElig s n b then
    match w with
    | none => some b
    | some v => if arbKey s n b < arbKey s n v then some b else w
  else w

theorem canWinner_eq (s : State) (n : Nat) : canWinner s n = (List.range 128).foldl (betterOf s n) none := rfl

/-- The winner of the buffers below k is eligible, and none of them goes before it; without a winner none of them is eligible. -/
theorem winner_below (s : State) (n k : Nat) :
    ((List.range k).foldl (betterOf s n) none = none → ∀ c, c < k → canElig s n c = false) ∧
    ∀ v, (List.range k).foldl (betterOf s n) none = some v →
      v < k ∧ canElig s n v = true ∧ ∀ c, c < k → canElig s n c = true → Before s n v c := by
  induction k with
  | zero => exact ⟨fun _ c hc => absurd hc (Nat.not_lt_zero c), fun v e => nomatch e⟩
  | succ k ih =>
    rw [List.range_succ, List.foldl_append, List.foldl_cons, List.foldl_nil]
    generalize (List.range k).foldl (betterOf s n) none = w at ih ⊢
    obtain ⟨none_below, least⟩ := ih
    unfold betterOf
    split
    · next elig =>
      cases w with
      | none =>
        refine ⟨nofun, fun v e => ?_⟩
        obtain rfl : k = v := Option.some.inj e
        refine ⟨Nat.lt_succ_self k, elig, fun c hc other => ?_⟩
        rcases Nat.lt_succ_iff_lt_or_eq.1 hc with below | rfl
        · rw [none_below rfl c below] at other
          cases other
        · exact .inr ⟨rfl, le_rfl⟩
      | some v =>
        obtain ⟨below, eligible, before⟩ := least v rfl
        dsimp only
        split
        · next better =>
          refine ⟨nofun, fun v' e => ?_⟩
          obtain rfl : k = v' := Option.some.inj e
          refine ⟨Nat.lt_succ_self k, elig, fun c hc other => ?_⟩
          rcases Nat.lt_succ_iff_lt_or_eq.1 hc with lower | rfl
          · have := before c lower other
            exact .inl (by omega)
          · exact .inr ⟨rfl, le_rfl⟩
        · next worse =>
          refine ⟨nofun, fun v' e => ?_⟩
          obtain rfl : v = v' := Option.some.inj e
          refine ⟨Nat.lt_succ_of_lt below, eligible, fun c hc other => ?_⟩
          rcases Nat.lt_succ_iff_lt_or_eq.1 hc with lower | rfl
          · exact before c lower other
          · exact (Nat.lt_or_eq_of_le (not_lt.1 worse)).imp_right fun tie => ⟨tie, below.le⟩
    · next ineligible =>
      refine ⟨fun e c hc => ?_, fun v e => ?_⟩
      · rcases Nat.lt_succ_iff_lt_or_eq.1 hc with lower | rfl
        · exact none_below e c lower
        · exact Bool.eq_false_iff.2 ineligible
      · obtain ⟨below, eligible, before⟩ := least v e
        refine ⟨Nat.lt_succ_of_lt below, eligible, fun c hc other => ?_⟩
        rcases Nat.lt_succ_iff_lt_or_eq.1 hc with lower | rfl
        · exact before c lower other
        · exact absurd other ineligible

theorem canWinner_least {s : State} {n b : Nat} (won : canWinner s n = some b) :
    canElig s n b = true ∧ ∀ c, c < 128 → canElig s n c = true → Before s n b c := by
  rw [canWinner_eq] at won
  exact ((winner_below s n 128).2 b won).2

/-- A controller that is ON and not in the bus-off state. -/
abbrev CanLive (n : Fin 8) (s : State) : Prop := s.isOn (.can n) = true ∧ s.rd (CAN_STATUS n) CAN_STATUS_ESTATE ≠ 2

theorem canSelect_none {n : Fin 8} {s : State}
    (h : ¬ CanLive n s ∨ s.on (CAN_CFG n) CAN_CFG_LISTEN = true ∨ (s.canSt n).onBus ≠ none ∨ canWinner s n = none) : canSelect n s = s := by
  unfold canSelect
  split
  · rfl
  · next may =>
    simp only [not_or, Bool.not_eq_false, Bool.not_eq_true, Option.isSome_eq_false_iff, Option.isNone_iff_eq_none] at may
    obtain ⟨on, state, listen, idle⟩ := may
    have noWinner : canWinner s n = none :=
      ((h.resolve_left fun dead => dead ⟨on, state⟩).resolve_left (Bool.eq_false_iff.1 listen)).resolve_left (· idle)
    rw [noWinner]

theorem canSelect_winner {n : Fin 8} {b : Fin 128} {s : State} (live : CanLive n s) (talks : s.on (CAN_CFG n) CAN_CFG_LISTEN = false)
    (idle : (s.canSt n).onBus = none) (won : canWinner s n = some b.val) :
    canSelect n s = (s.setCan n fun c => { c with onBus := some b.val, abort := false }).bump (CAN_MB_CNT n b) CAN_MB_CNT_ATTEMPTS 1 := by
  obtain ⟨on, state⟩ := live
  unfold canSelect
  rw [if_neg (by simp [on, state, talks, idle]), won]

theorem selected_result {n : Fin 8} {b : Fin 128} {s t : State}
    (ht : t = (s.setCan n fun c => { c with onBus := some b.val, abort := false }).bump (CAN_MB_CNT n b) CAN_MB_CNT_ATTEMPTS 1) :
    t.canSt n = { s.canSt n with onBus := some b.val, abort := false } ∧
    t.rd (CAN_MB_CNT n b) CAN_MB_CNT_ATTEMPTS = min 65535 (s.rd (CAN_MB_CNT n b) CAN_MB_CNT_ATTEMPTS + 1) ∧
    OnlyRegs [CAN_MB_CNT n b] { s with can := t.can } t := by
  subst ht
  exact ⟨(canSt_of_can (bump_can ..) n).trans (canSt_setCan s n _), rd_bump _ _ _ 1 (by decide), onlyRegs_bump _ _ _ _⟩

end Sys2Proof.Machine
end

section
/-! Transmission of a CAN controller: a success, an attempt that fails, and bus-off (12 R331, R337 to R340). -/

namespace Sys2Proof.Machine

open Sys2Proof

/-! ### A frame was sent (R337, R338) -/

section Sent

variable (n : Fin 8) (b : Fin 128) (stamp : Word) (s : State)

/-- The bus is free again, and the transmit error counter goes down. -/
def acknowledged : State :=
  ((s.setCan n fun c => { c with onBus := none, abort := false, acks := 0 }).wr (CAN_STATUS n) CAN_STATUS_NOACK 0).wr (CAN_STATUS n)
    CAN_STATUS_TEC (s.rd (CAN_STATUS n) CAN_STATUS_TEC - 1)

/-- The buffer's request has ended, with its stamp. -/
def stampedOk : State := (txEnd (acknowledged n s) n b CAN_MB_CTRL_TXOK).rset (CAN_MB_STAMP n b) stamp

/-- The frame of a buffer with the data that its length covers. -/
def sentFrame : CanFrame := { mbFrame s n b with data := canData (mbFrame s n b) }

/-- The buffer's collisions are forgotten and the frame has left. -/
def frameLeft : State := ((stampedOk n b stamp s).wr (CAN_MB_CNT n b) CAN_MB_CNT_COLL 0).send (.can n (sentFrame n b s))

/-- A frame was sent and counted. -/
def canSent : State := canCount (pmcPort (frameLeft n b stamp s) (55 + n) true (canData (mbFrame s n b)).length) n 1

theorem stampedOk_frame : BusBut [CAN_MB_CTRL n b, CAN_BEVT n (b.val / 32), CAN_MB_STAMP n b] (acknowledged n s) (stampedOk n b stamp s) :=
  (BusBut.of_onlyEvr (txEnd_only _ n b _)).trans (.rset _ _ _)

theorem canSent_count : BusBut [CAN_CNT n 1] (frameLeft n b stamp s) (canSent n b stamp s) := (BusBut.pmcPort _ _ _ _).trans (.wr _ _ _ _)

theorem frameLeft_frame : BusBut [CAN_MB_CNT n b] (stampedOk n b stamp s) (frameLeft n b stamp s) := (BusBut.wr _ _ _ _).trans (.send _ _)

theorem canSent_frame : BusBut [CAN_MB_CNT n b, CAN_CNT n 1] (stampedOk n b stamp s) (canSent n b stamp s) :=
  (frameLeft_frame n b stamp s).trans (canSent_count n b stamp s)

theorem acknowledged_frame : BusBut [CAN_STATUS n] s (acknowledged n s) :=
  ((BusBut.setCan s n _).trans ((BusBut.wr _ _ _ _).trans (.wr _ _ _ _))).mono (by simp)

theorem canSent_canSt : (canSent n b stamp s).canSt n = { s.canSt n with onBus := none, abort := false, acks := 0 } := by
  have can : (canSent n b stamp s).can = (s.setCan n fun c => { c with onBus := none, abort := false, acks := 0 }).can := by
    rw [canSent, canCount, bump_can, pmcPort_can, frameLeft, send_can, wr_can, stampedOk, rset_can, txEnd_can, acknowledged, wr_can, wr_can]
  exact (canSt_of_can can n).trans (canSt_setCan s n _)

theorem canSent_out : (canSent n b stamp s).out = s.out ++ [.can n (sentFrame n b s)] := by
  have before : ((stampedOk n b stamp s).wr (CAN_MB_CNT n b) CAN_MB_CNT_COLL 0).out = s.out := by
    rw [wr_out, stampedOk, rset_out, txEnd_out, acknowledged, wr_out, wr_out, setCan_out]
  rw [canSent, canCount, bump_out, pmcPort_out, frameLeft, State.send, before]

/-- Outside loopback a success leaves what was sent and the error state that follows from it. -/
theorem canTxOk_plain {n : Fin 8} {b : Fin 128} {s : State} (since : Word) (sending : (s.canSt n).onBus = some b.val)
    (plain : s.on (CAN_CFG n) CAN_CFG_LOOPBACK = false) : canTxOk n since s = canState (canSent n b (s.short - since) s) n := by
  unfold canTxOk
  rw [sending]
  generalize s.short - since = stamp
  have same : (canSent n b stamp s).on (CAN_CFG n) CAN_CFG_LOOPBACK = s.on (CAN_CFG n) CAN_CFG_LOOPBACK :=
    ((canSent_frame n b stamp s).on _ (by grind)).trans
      (((stampedOk_frame n b stamp s).on _ (by grind)).trans ((acknowledged_frame n s).on _ (by grind)))
  exact congrArg (canState · n) (if_neg (Bool.eq_false_iff.1 (same.trans plain)))

theorem canSent_result {t : State} (ht : t = canState (canSent n b stamp s) n) :
    Ended n b CAN_MB_CTRL_TXOK t ∧ (t.canSt n).onBus = none ∧ t.rget (CAN_MB_STAMP n b) = stamp ∧
    t.rd (CAN_STATUS n) CAN_STATUS_TEC = s.rd (CAN_STATUS n) CAN_STATUS_TEC - 1 ∧ t.on (CAN_STATUS n) CAN_STATUS_NOACK = false ∧
    t.rd (CAN_MB_CNT n b) CAN_MB_CNT_COLL = 0 ∧ t.out = s.out ++ [.can n (sentFrame n b s)] := by
  subst ht
  have state : BusBut [CAN_STATUS n, CAN_EVT n] (canSent n b stamp s) _ := .of_onlyEvr (canState_only _ n)
  have sent := canSent_frame n b stamp s
  have status {f : Fld} (h : CAN_STATUS_ESTATE.hi < f.lo ∧ f.lo ≤ f.hi) :
      (canState (canSent n b stamp s) n).rd (CAN_STATUS n) f = (acknowledged n s).rd (CAN_STATUS n) f :=
    (rd_canState _ n h).trans ((sent.rd f (by grind)).trans ((stampedOk_frame n b stamp s).rd f (by grind)))
  refine ⟨?_, ?_, ?_, ?_, ?_, ?_, ?_⟩
  · exact ((txEnd_ended _ n b (by decide)).stays (.rset _ (CAN_MB_STAMP n b) _) (by grind) (by grind)).stays (sent.trans state) (by grind) (by grind)
  · rw [canSt_of_can (canState_can _ n), canSent_canSt]
  · rw [state _ (by grind) (by grind), sent _ (by grind) (by grind)]
    exact rget_rset_same _ _ _
  · have below : s.rd (CAN_STATUS n) CAN_STATUS_TEC < 2 ^ 8 := bitsOf_lt _ _
    rw [status (by decide), acknowledged, rd_wr_same _ _ _ _ (by decide) (by decide)]
    exact Nat.mod_eq_of_lt (lt_of_le_of_lt (Nat.sub_le _ 1) below)
  · rw [State.on, status (by decide), acknowledged, rd_wr_fld _ _ _ _ _ (by decide) (by decide) (by decide) (by decide),
      rd_wr_same _ _ _ _ (by decide) (by decide)]
    rfl
  · rw [state.rd _ (by grind), (canSent_count n b stamp s).rd _ (by grind)]
    exact ((BusBut.send _ _).rd _ (by grind)).trans (rd_wr_same _ _ _ _ (by decide) (by decide))
  · rw [canState_out, canSent_out]

end Sent

/-! ### An attempt ends without success (R337, R339, R340) -/

section Failed

theorem ackErr_cases (n : Nat) (k : CanErr) (s : State) : ∃ c,
    ackErr n k s = s.setCan n (fun x => { x with acks := c }) ∨
    ackErr n k s = canEvt ((s.setCan n fun x => { x with acks := c }).wr (CAN_STATUS n) CAN_STATUS_NOACK 1) n CAN_EVT_NO_ACK :=
  ⟨_, (ite_eq_or_eq _ _ _).symm⟩

theorem ackErr_frame (n : Nat) (k : CanErr) (s : State) : BusBut [CAN_STATUS n, CAN_EVT n] s (ackErr n k s) := by
  obtain ⟨c, e | e⟩ := ackErr_cases n k s <;> rw [e]
  · exact (BusBut.setCan s n _).mono (by simp)
  · exact ((BusBut.setCan s n _).trans (.wr _ _ _ _)).trans (.raise _ _ _ _)

theorem ackErr_onBus (n : Nat) (k : CanErr) (s : State) : ((ackErr n k s).canSt n).onBus = (s.canSt n).onBus := by
  obtain ⟨c, e | e⟩ := ackErr_cases n k s <;> rw [e]
  · rw [canSt_setCan]
  · rw [canEvt, canSt_of_can (raise_can ..), canSt_of_can (wr_can ..), canSt_setCan]

/-- The sixteenth acknowledge error in a row shows NO_ACK (R339). -/
theorem ackErr_sixteenth (n : Fin 8) {s : State} (fifteen : (s.canSt n).acks = 15) :
    (ackErr n .ack s).on (CAN_STATUS n) CAN_STATUS_NOACK = true ∧ (ackErr n .ack s).on (CAN_EVT n) CAN_EVT_NO_ACK = true := by
  have e : ackErr n .ack s =
      canEvt ((s.setCan n fun x => { x with acks := 16 }).wr (CAN_STATUS n) CAN_STATUS_NOACK 1) n CAN_EVT_NO_ACK := by
    unfold ackErr
    rw [if_pos rfl, fifteen]
    exact if_pos rfl
  rw [e]
  exact ⟨((BusBut.raise _ _ _ _).on _ (by grind)).trans (on_wr_same _ _ (by decide)), on_raise_bus _ _ (by grind) (by decide)⟩

theorem collErr_frame (n b : Nat) (k : CanErr) (inData : Bool) (s : State) :
    BusBut [CAN_MB_CNT n b, CAN_COLL_BUF n, CAN_EVT n] s (collErr n b k inData s) := by
  unfold collErr
  split
  · dsimp only
    split
    · exact (BusBut.wr s _ _ _).trans (((BusBut.setCan _ n _).trans (.wr _ _ _ _)).trans (.raise _ _ _ _))
    · exact (BusBut.wr s _ _ _).mono (by simp)
  · exact (BusBut.wr s _ _ _).mono (by simp)

theorem collErr_onBus (n b : Nat) (k : CanErr) (inData : Bool) (s : State) : ((collErr n b k inData s).canSt n).onBus = (s.canSt n).onBus := by
  have bumped (t : State) (f : Fld) (v : Nat) : (t.bump (CAN_MB_CNT n b) f v).canSt n = t.canSt n := canSt_of_can (bump_can ..) n
  unfold collErr
  split
  · dsimp only
    split
    · rw [canEvt, canSt_of_can (raise_can ..), canSt_of_can (wr_can ..), canSt_setCan, bumped]
    · rw [bumped]
  · rw [canSt_of_can (wr_can ..)]

/-- Without a bit error in the data phase only the collision counter is written (R340). -/
theorem collErr_ack (n b : Nat) (inData : Bool) (s : State) : collErr n b .ack inData s = s.wr (CAN_MB_CNT n b) CAN_MB_CNT_COLL 0 :=
  if_neg fun h => nomatch h.1

variable (n : Fin 8) (b : Fin 128) (k : CanErr) (inData : Bool) (s : State)

/-- The attempt is off the bus and counted by its kind. -/
def attemptOff : State := canCount (s.setCan n fun c => { c with onBus := none, abort := false }) n (canCntOf k)

/-- What an attempt's end means for NO_ACK and ID_COLLISION has been shown. -/
def attemptJudged : State := collErr n b k inData (ackErr n k (attemptOff n k s))

/-- An attempt has ended; the request too where its abort was asked for. -/
def attemptEnded : State :=
  if (s.canSt n).abort then txEnd (attemptJudged n b k inData s) n b CAN_MB_CTRL_ABORTED else attemptJudged n b k inData s

theorem attemptOff_frame : BusBut [CAN_CNT n (canCntOf k)] s (attemptOff n k s) := (BusBut.setCan s n _).trans (.wr _ _ _ _)

theorem attemptOff_canSt : (attemptOff n k s).canSt n = { s.canSt n with onBus := none, abort := false } :=
  (canSt_of_can (bump_can ..) n).trans (canSt_setCan s n _)

theorem canCntOf_lt (k : CanErr) : canCntOf k < 8 := by cases k <;> decide

theorem attemptEnded_frame :
    BusBut [CAN_MB_CTRL n b, CAN_BEVT n (b.val / 32)] (attemptJudged n b k inData s) (attemptEnded n b k inData s) :=
  .ite (.of_onlyEvr (txEnd_only _ n b _)) ((BusBut.refl _).mono (by simp))

theorem attemptEnded_onBus : ((attemptEnded n b k inData s).canSt n).onBus = none := by
  have judged : ((attemptJudged n b k inData s).canSt n).onBus = none := by
    rw [attemptJudged, collErr_onBus, ackErr_onBus, attemptOff_canSt]
  unfold attemptEnded
  split
  · rw [canSt_of_can (txEnd_can ..), judged]
  · exact judged

theorem attemptEnded_aborted (abort : (s.canSt n).abort = true) : Ended n b CAN_MB_CTRL_ABORTED (attemptEnded n b k inData s) := by
  rw [attemptEnded, if_pos abort]
  exact txEnd_ended _ n b (by decide)

theorem attemptEnded_request (stays : (s.canSt n).abort = false) :
    (attemptEnded n b k inData s).on (CAN_MB_CTRL n b) CAN_MB_CTRL_TXREQ = s.on (CAN_MB_CTRL n b) CAN_MB_CTRL_TXREQ := by
  have kind := canCntOf_lt k
  rw [attemptEnded, if_neg (Bool.eq_false_iff.1 stays), attemptJudged, (collErr_frame n b k inData _).on _ (by grind),
    (ackErr_frame n k _).on _ (by grind), (attemptOff_frame n k s).on _ (by grind)]

theorem attemptEnded_sixteenth (fifteen : (s.canSt n).acks = 15) :
    (attemptEnded n b .ack inData s).on (CAN_STATUS n) CAN_STATUS_NOACK = true ∧
    (attemptEnded n b .ack inData s).on (CAN_EVT n) CAN_EVT_NO_ACK = true := by
  obtain ⟨status, event⟩ := ackErr_sixteenth n (s := attemptOff n .ack s) (by rw [attemptOff_canSt, fifteen])
  have later : BusBut [CAN_MB_CNT n b] (ackErr n .ack (attemptOff n .ack s)) (attemptJudged n b .ack inData s) := by
    rw [attemptJudged, collErr_ack]
    exact .wr _ _ _ _
  have ended := attemptEnded_frame n b .ack inData s
  exact ⟨(ended.on _ (by grind)).trans ((later.on _ (by grind)).trans status),
    (ended.on _ (by grind)).trans ((later.on _ (by grind)).trans event)⟩

end Failed

/-! ### The transmit error counter, and bus-off (R331, R337) -/

section Counter

variable (n : Fin 8) (s : State)

theorem hwStop_can : OnlyRegs [enAddr (.can n)] s (hwStop s (.can n)) ∧ Down (.can n) (hwStop s (.can n)) :=
  hwStop_leaf rfl (fun _ => rfl) s

/-- CAN_STATUS of a controller that goes bus-off. -/
def busOffShown : State := ((s.wr (CAN_STATUS n) CAN_STATUS_TEC 255).wr (CAN_STATUS n) CAN_STATUS_ESTATE 2).wr (CAN_STATUS n) CAN_STATUS_BOREC 1

theorem busOff_eq : busOff n s = canEvt (hwStop (busOffShown n s) (.can n)) n CAN_EVT_BUSOFF := rfl

theorem busOff_stop : OnlyRegsEvr [enAddr (.can n), CAN_EVT n] (busOffShown n s) (busOff n s) := by
  rw [busOff_eq]
  exact (hwStop_can n (busOffShown n s)).1.evr.trans (onlyRegsEvr_raise _ _ _ _)

theorem busOff_only : OnlyRegsEvr [CAN_STATUS n, enAddr (.can n), CAN_EVT n] s (busOff n s) :=
  (((onlyRegs_wr s _ CAN_STATUS_TEC 255).wr CAN_STATUS_ESTATE 2).wr CAN_STATUS_BOREC 1).evr.trans (busOff_stop n s)

theorem rd_busOff (f : Fld) : (busOff n s).rd (CAN_STATUS n) f = (busOffShown n s).rd (CAN_STATUS n) f :=
  (BusBut.of_onlyEvr (busOff_stop n s)).rd f (by dsimp only [enAddr]; grind)

theorem busOff_result :
    (busOff n s).rd (CAN_STATUS n) CAN_STATUS_ESTATE = 2 ∧ (busOff n s).on (CAN_STATUS n) CAN_STATUS_BOREC = true ∧
    (busOff n s).on (CAN_EVT n) CAN_EVT_BUSOFF = true ∧ (busOff n s).isOn (.can n) = false := by
  refine ⟨?_, ?_, ?_, not_isOn_of_down ?_⟩
  · rw [rd_busOff, busOffShown, rd_wr_fld _ _ _ _ _ (by decide) (by decide) (by decide) (by decide), rd_wr_same _ _ _ _ (by decide) (by decide)]
    rfl
  · rw [State.on, rd_busOff, busOffShown, rd_wr_same _ _ _ _ (by decide) (by decide)]
    rfl
  · rw [busOff_eq]
    exact on_raise_bus _ _ (by grind) (by decide)
  · have state := ((BusBut.raise (hwStop (busOffShown n s) (.can n)) (64 + n.val) (CAN_EVT n) CAN_EVT_BUSOFF).rd U_STATE
      ⟨isBus_enAddr_can n, by dsimp only [enAddr]; grind⟩)
    rw [busOff_eq, Down]
    exact (congrArg (fun v => v = 0 ∨ v = 3) state).mpr (hwStop_can n _).2

/-- The transmit error counter takes its value, and the error state follows. -/
def tecSet (tec : Nat) : State := if 255 < tec then busOff n s else canState (s.wr (CAN_STATUS n) CAN_STATUS_TEC tec) n

theorem tecSet_only (tec : Nat) : OnlyRegsEvr [CAN_STATUS n, enAddr (.can n), CAN_EVT n] s (tecSet n s tec) := by
  unfold tecSet
  split
  · exact busOff_only n s
  · exact ((onlyRegs_wr s _ _ _).evr.trans (canState_only _ n)).mono (by simp)

theorem tecSet_frame (tec : Nat) : BusBut [CAN_STATUS n, CAN_EN n, CAN_EVT n] s (tecSet n s tec) := .of_onlyEvr (tecSet_only n s tec)

theorem tecSet_can (tec : Nat) : (tecSet n s tec).can = s.can := by rw [(tecSet_only n s tec).1]

theorem tecSet_value {tec : Nat} (h : tec ≤ 255) : (tecSet n s tec).rd (CAN_STATUS n) CAN_STATUS_TEC = tec := by
  rw [tecSet, if_neg (not_lt.2 h), rd_canState _ _ (by decide), rd_wr_same _ _ _ _ (by decide) (by decide)]
  exact Nat.mod_eq_of_lt (Nat.lt_succ_of_le h)

theorem tecSet_noAck {s : State} (tec : Nat) (set : s.on (CAN_STATUS n) CAN_STATUS_NOACK = true) :
    (tecSet n s tec).on (CAN_STATUS n) CAN_STATUS_NOACK = true := by
  unfold tecSet
  split
  · rw [State.on, rd_busOff, busOffShown, ← State.on, on_wr_fld _ _ _ (by decide), on_wr_fld _ _ _ (by decide), on_wr_fld _ _ _ (by decide), set]
  · rw [State.on, rd_canState _ _ (by decide), ← State.on, on_wr_fld _ _ _ (by decide), set]

theorem tecSet_event {s : State} (tec : Nat) {f : Fld} (set : s.on (CAN_EVT n) f = true) (h : f.lo = f.hi) :
    (tecSet n s tec).on (CAN_EVT n) f = true := by
  unfold tecSet
  split
  · have shown : (busOffShown n s).on (CAN_EVT n) f = true :=
      ((BusBut.wr _ _ _ _).on f (by grind)).trans (((BusBut.wr _ _ _ _).on f (by grind)).trans (((BusBut.wr _ _ _ _).on f (by grind)).trans set))
    have stopped : (hwStop (busOffShown n s) (.can n)).on (CAN_EVT n) f = true :=
      ((BusBut.of_only (hwStop_can n _).1).on f (by dsimp only [enAddr]; grind)).trans shown
    exact on_raise_stays _ _ stopped (by grind) (by decide) h
  · exact on_canState_stays n (((BusBut.wr _ _ _ _).on f (by grind)).trans set) h

end Counter

/-! ### An attempt that fails, as a whole -/

section Attempt

variable {n : Fin 8} {b : Fin 128} (k : CanErr) (inData dominant : Bool) {s : State}

/-- Whether the error counter grows: not for lost arbitration, nor for an acknowledge error that an error-passive node alone has seen. -/
abbrev Grows (n : Fin 8) (s : State) : Prop :=
  k ≠ .arb ∧ ¬ (k = .ack ∧ s.rd (CAN_STATUS n) CAN_STATUS_ESTATE = 1 ∧ dominant = false)

variable (sending : (s.canSt n).onBus = some b.val)
include sending

theorem canTxErr_grows (grows : Grows k dominant n s) :
    canTxErr n k inData dominant s = tecSet n (attemptEnded n b k inData s) (s.rd (CAN_STATUS n) CAN_STATUS_TEC + 8) := by
  unfold canTxErr
  rw [sending]
  dsimp only
  rw [if_neg (not_or.2 grows)]
  rfl

theorem canTxErr_stays (h : ¬ Grows k dominant n s) :
    canTxErr n k inData dominant s = tecSet n (attemptEnded n b k inData s) (s.rd (CAN_STATUS n) CAN_STATUS_TEC) := by
  have kept : k = .arb ∨ (k = .ack ∧ s.rd (CAN_STATUS n) CAN_STATUS_ESTATE = 1 ∧ dominant = false) := by
    rw [← not_not (a := k = .arb ∨ _), not_or]
    exact h
  unfold canTxErr
  rw [sending]
  dsimp only
  rw [if_pos kept]
  rfl

/-- Whatever the error, the attempt has ended and a value was given to the error counter. -/
theorem canTxErr_tecSet : ∃ tec, canTxErr n k inData dominant s = tecSet n (attemptEnded n b k inData s) tec := by
  by_cases grows : Grows k dominant n s
  · exact ⟨_, canTxErr_grows k inData dominant sending grows⟩
  · exact ⟨_, canTxErr_stays k inData dominant sending grows⟩

omit sending in
theorem attempt_onBus (tec : Nat) : ((tecSet n (attemptEnded n b k inData s) tec).canSt n).onBus = none := by
  rw [canSt_of_can (tecSet_can n _ tec), attemptEnded_onBus]

end Attempt

end Sys2Proof.Machine
end

section
/-! Reception of a CAN controller: errors, the receive error counter, and the buffer that takes a frame (12 R329, R332 to R334). -/

namespace Sys2Proof.Machine

open Sys2Proof

/-! ### Who receives, and reception errors (R329, R331) -/

section Errors

variable {n : Fin 8} {s : State}

/-- A controller that is ON, or that stops and lets a frame in progress end, and is not in the bus-off state. -/
abbrev Receives (n : Fin 8) (s : State) : Prop :=
  (s.isOn (.can n) = true ∨ s.unitState (.can n) = 3) ∧ s.rd (CAN_STATUS n) CAN_STATUS_ESTATE ≠ 2

theorem canLive_iff : canLive s n = true ↔ Receives n s := by
  have four := unitState_lt s (.can n)
  have onOrStopping : 2 ≤ s.unitState (.can n) ↔ s.isOn (.can n) = true ∨ s.unitState (.can n) = 3 := by
    rw [State.isOn, beq_iff_eq]
    omega
  rw [canLive, Bool.and_eq_true, decide_eq_true_eq, bne_iff_ne, onOrStopping]

theorem canRxErr_deaf (k : CanErr) (dominant : Bool) (h : ¬ Receives n s) : canRxErr n k dominant s = s :=
  if_pos (Bool.eq_false_iff.2 fun live => h (canLive_iff.1 live))

theorem canRx_deaf (f : CanFrame) (since : Word) (h : ¬ Receives n s) : canRx n f since s = s :=
  if_pos (Bool.eq_false_iff.2 fun live => h (canLive_iff.1 live))

/-- A reception error is counted by its kind and in the receive error counter. -/
def rxErrorCounted (n : Fin 8) (k : CanErr) (add : Nat) (s : State) : State :=
  (canCount s n (canCntOf k)).bump (CAN_STATUS n) CAN_STATUS_REC add

theorem canRxErr_live (k : CanErr) (dominant : Bool) (live : Receives n s) :
    canRxErr n k dominant s = canState (rxErrorCounted n k (if dominant then 8 else 1) s) n :=
  if_neg (by rw [canLive_iff.2 live]; decide)

theorem rxError_result (k : CanErr) (add : Nat) {t : State} (ht : t = canState (rxErrorCounted n k add s) n) :
    t.rd (CAN_STATUS n) CAN_STATUS_REC = min 255 (s.rd (CAN_STATUS n) CAN_STATUS_REC + add) ∧
    t.rd (CAN_CNT n (canCntOf k)) CAN_CNT_COUNT = min (2 ^ 32 - 1) (s.rd (CAN_CNT n (canCntOf k)) CAN_CNT_COUNT + 1) ∧
    OnlyRegsEvr [CAN_STATUS n, CAN_CNT n (canCntOf k), CAN_EVT n] s t := by
  have kind := canCntOf_lt k
  have only := canState_only (rxErrorCounted n k add s) n
  have counted : OnlyRegs [CAN_CNT n (canCntOf k), CAN_STATUS n] s (rxErrorCounted n k add s) :=
    (onlyRegs_bump s _ _ 1).trans (onlyRegs_bump _ _ _ _)
  subst ht
  refine ⟨?_, ?_, (counted.evr.trans only).mono (by simp)⟩
  · rw [rd_canState _ _ (by decide), rxErrorCounted, rd_bump _ _ CAN_STATUS_REC _ (by decide), canCount, State.rd, rget_bump_ne _ _ _ (by grind)]
    rfl
  · rw [(BusBut.of_onlyEvr only).rd _ (by grind), rxErrorCounted, State.rd, rget_bump_ne _ _ _ (by grind)]
    exact rd_bump s _ _ 1 (by decide)

/-- With FDE at 0 a CAN FD frame is a form error (log entry 85). -/
theorem canRx_form {f : CanFrame} (since : Word) (live : Receives n s) (fd : f.fdf = true) (off : s.on (CAN_CFG n) CAN_CFG_FDE = false) :
    canRx n f since s = canState (rxErrorCounted n .form 1 s) n := by
  rw [canRx, if_neg (by rw [canLive_iff.2 live]; decide), fd, off, Bool.not_false, Bool.and_self, if_pos rfl]
  exact canRxErr_live .form false live

/-- A frame that the controller takes is delivered, and the error state follows. -/
theorem canRx_valid {f : CanFrame} (since : Word) (live : Receives n s) (h : f.fdf = false ∨ s.on (CAN_CFG n) CAN_CFG_FDE = true) :
    canRx n f since s = canState (canDeliver (recGood s n) n f (s.short - since)) n := by
  rw [canRx, if_neg (by rw [canLive_iff.2 live]; decide), if_neg]
  rcases h with h | h <;> simp [h]

end Errors

/-! ### The receive error counter after a valid frame (ISO 11898-1) -/

section Good

variable (s : State) (n : Fin 8)

theorem recGood_frame : BusBut [CAN_STATUS n] s (recGood s n) := by
  unfold recGood
  dsimp only
  split
  · exact (BusBut.of_regs (t := { s with free := s.free + 1 }) rfl).trans (.wr _ _ _ _)
  · exact .wr s _ _ _

variable {s n}

theorem recGood_low (low : s.rd (CAN_STATUS n) CAN_STATUS_REC ≤ 127) :
    (recGood s n).rd (CAN_STATUS n) CAN_STATUS_REC = s.rd (CAN_STATUS n) CAN_STATUS_REC - 1 := by
  unfold recGood
  rw [if_neg (not_lt.2 low), rd_wr_same _ _ _ _ (by decide) (by decide)]
  exact Nat.mod_eq_of_lt (by dsimp only; omega)

theorem recGood_high (high : 127 < s.rd (CAN_STATUS n) CAN_STATUS_REC) :
    119 ≤ (recGood s n).rd (CAN_STATUS n) CAN_STATUS_REC ∧ (recGood s n).rd (CAN_STATUS n) CAN_STATUS_REC ≤ 127 := by
  unfold recGood
  rw [if_pos high]
  dsimp only
  rw [rd_wr_same _ _ _ _ (by decide) (by decide)]
  dsimp only
  omega

end Good

/-! ### Delivery with the log off (R332, R333) -/

section Delivery

variable {n : Fin 8} {s t : State} {l : List Nat} (f : CanFrame) (stamp : Word)

/-- Which buffer takes a frame is decided by the buffers' control, identifier and mask words. -/
theorem canMatch_same (h : BusBut l s t) (out : ∀ b, b < 128 → CAN_MB_CTRL n b ∉ l ∧ CAN_MB_ID n b ∉ l ∧ CAN_MB_MASK n b ∉ l) :
    canMatch t n f = canMatch s n f := by
  refine List.find?_congr fun b hb => ?_
  have hb := List.mem_range.1 hb
  obtain ⟨control, ident, mask⟩ := out b hb
  dsimp only
  rw [h.on CAN_MB_CTRL_EN ⟨by grind, control⟩, h.on CAN_MB_CTRL_DIR ⟨by grind, control⟩, h.on CAN_MB_CTRL_IDE ⟨by grind, control⟩,
    h.rd CAN_MB_ID_ID ⟨by grind, ident⟩, h.rd CAN_MB_MASK_MASK ⟨by grind, mask⟩]

/-- A frame has come and is counted. -/
def frameCounted (n : Fin 8) (f : CanFrame) (s : State) : State := canCount (pmcPort s (55 + n) false (canData f).length) n 0

theorem frameCounted_frame (n : Fin 8) (s : State) : BusBut [CAN_CNT n 0] s (frameCounted n f s) := (BusBut.pmcPort s _ _ _).trans (.wr _ _ _ _)

variable (logOff : s.on (CAN_LOG_CFG n) CAN_LOG_CFG_LOG_EN = false)
include logOff

theorem canDeliver_nowhere (unmatched : canMatch s n f = none) : canDeliver s n f stamp = frameCounted n f s := by
  have counted := frameCounted_frame f n s
  have none_ : canMatch (frameCounted n f s) n f = none := (canMatch_same f counted fun b hb => by grind).trans unmatched
  unfold canDeliver
  dsimp only
  rw [← frameCounted, none_]
  exact if_neg (by rw [counted.on _ (by grind), logOff, Bool.false_and]; exact Bool.false_ne_true)

theorem canDeliver_buffer {b : Nat} (out : BusBut l (frameCounted n f s) (canStore (frameCounted n f s) n b f stamp))
    (log : CAN_LOG_CFG n ∉ l) (matched : canMatch s n f = some b) : canDeliver s n f stamp = canStore (frameCounted n f s) n b f stamp := by
  have counted := frameCounted_frame f n s
  have some_ : canMatch (frameCounted n f s) n f = some b := (canMatch_same f counted fun b hb => by grind).trans matched
  unfold canDeliver
  dsimp only
  rw [← frameCounted, some_]
  exact if_neg (by rw [out.on _ ⟨by grind, log⟩, counted.on _ (by grind), logOff, Bool.false_and]; exact Bool.false_ne_true)

end Delivery

/-! ### A frame stored into a buffer (R333) -/

section Store

/-- The data words of a frame, in the buffer's data registers. -/
def dataStored (n b : Nat) (d : List Byte) (s : State) : State :=
  (List.range 16).foldl (fun t i => t.rset (CAN_MB_DATA n b i) (BitVec.ofNat 32 (leVal ((d.drop (4 * i)).take 4)))) s

theorem dataStored_at (n b : Nat) (d : List Byte) (s : State) {i : Nat} (hi : i < 16) :
    (dataStored n b d s).rget (CAN_MB_DATA n b i) = BitVec.ofNat 32 (leVal ((d.drop (4 * i)).take 4)) := by
  refine foldl_at (I := fun _ => True) List.nodup_range (List.mem_range.2 hi) (fun t : State => t.rget (CAN_MB_DATA n b i))
    (fun _ => BitVec.ofNat 32 (leVal ((d.drop (4 * i)).take 4))) trivial (fun _ _ _ _ => trivial) (fun t _ j _ other => ?_)
    fun t _ => rget_rset_same t _ _
  exact rget_rset_ne t _ (by grind)

theorem dataStored_only (n b : Nat) (d : List Byte) (s : State) : OnlyRegs ((List.range 16).map (CAN_MB_DATA n b)) s (dataStored n b d s) := by
  refine List.foldlRecOn (motive := fun t : State => OnlyRegs ((List.range 16).map (CAN_MB_DATA n b)) s t) (List.range 16) _ ⟨rfl, fun _ _ => rfl⟩
    fun t ht i hi => ?_
  exact (ht.trans (onlyRegs_rset t _ _)).mono fun a ha =>
    (List.mem_append.1 ha).elim id fun here => List.mem_singleton.1 here ▸ List.mem_map_of_mem hi

variable (n : Fin 8) (b : Fin 128) (f : CanFrame) (stamp : Word) (s : State)

/-- The control word with the frame's format, its other bits kept. -/
def formatWord (w : Word) : Word := BitVec.ofNat 32 (w.toNat / 2 ^ 21 * 2 ^ 21 + fmtBits f)

/-- Format, identifier, stamp and data are in the buffer. -/
def contentStored : State :=
  dataStored n b (canData f)
    (((s.rset (CAN_MB_CTRL n b) (formatWord f (s.rget (CAN_MB_CTRL n b)))).wr (CAN_MB_ID n b) CAN_MB_ID_ID f.id.toNat).rset (CAN_MB_STAMP n b) stamp)

/-- The buffer shows that it holds a new frame. -/
def newShown : State :=
  ((contentStored n b f stamp s).wr (CAN_MB_CTRL n b) CAN_MB_CTRL_NEWDAT 1).wr (CAN_NEWDAT n (b.val / 32)) ⟨b.val % 32, b.val % 32⟩ 1

/-- A frame that nobody has taken is shown as lost. -/
def lossShown : State :=
  if s.on (CAN_MB_CTRL n b) CAN_MB_CTRL_NEWDAT then
    canEvt ((newShown n b f stamp s).wr (CAN_MB_CTRL n b) CAN_MB_CTRL_MSGLOST 1) n CAN_EVT_MSGLOST
  else newShown n b f stamp s

theorem canStore_eq : canStore s n b f stamp = canBevt (lossShown n b f stamp s) n b := rfl

/-- What follows the content in a store. -/
theorem canStore_shown :
    BusBut [CAN_MB_CTRL n b, CAN_NEWDAT n (b.val / 32), CAN_EVT n, CAN_BEVT n (b.val / 32)] (contentStored n b f stamp s)
      (canStore s n b f stamp) := by
  have shown : BusBut [CAN_MB_CTRL n b, CAN_NEWDAT n (b.val / 32)] (contentStored n b f stamp s) (newShown n b f stamp s) :=
    (BusBut.wr _ _ _ _).trans (.wr _ _ _ _)
  have loss : BusBut [CAN_MB_CTRL n b, CAN_EVT n] (newShown n b f stamp s) (lossShown n b f stamp s) :=
    .ite ((BusBut.wr _ _ _ _).trans (.raise _ _ _ _)) ((BusBut.refl _).mono (List.nil_subset _))
  rw [canStore_eq]
  exact ((shown.trans loss).trans (.raise _ _ _ _)).mono (by simp)

/-- The registers that a store into a buffer writes. -/
def storeRegs : List Nat :=
  [CAN_MB_CTRL n b, CAN_MB_ID n b, CAN_MB_STAMP n b] ++ (List.range 16).map (CAN_MB_DATA n b) ++
    [CAN_MB_CTRL n b, CAN_NEWDAT n (b.val / 32), CAN_EVT n, CAN_BEVT n (b.val / 32)]

theorem canStore_frame : BusBut (storeRegs n b) s (canStore s n b f stamp) :=
  have content : BusBut ([CAN_MB_CTRL n b, CAN_MB_ID n b, CAN_MB_STAMP n b] ++ (List.range 16).map (CAN_MB_DATA n b)) s
      (contentStored n b f stamp s) :=
    (((BusBut.rset s _ _).trans (.wr _ _ _ _)).trans (.rset _ _ _)).trans (.of_only (dataStored_only n b (canData f) _))
  content.trans (canStore_shown n b f stamp s)

theorem contentStored_words :
    (contentStored n b f stamp s).rget (CAN_MB_CTRL n b) = formatWord f (s.rget (CAN_MB_CTRL n b)) ∧
    (contentStored n b f stamp s).rd (CAN_MB_ID n b) CAN_MB_ID_ID = f.id.toNat ∧
    (contentStored n b f stamp s).rget (CAN_MB_STAMP n b) = stamp := by
  have data {a : Nat} (h : a ∉ (List.range 16).map (CAN_MB_DATA n b)) (u : State) : (dataStored n b (canData f) u).rget a = u.rget a :=
    (dataStored_only n b (canData f) u).2 a h
  refine ⟨?_, ?_, ?_⟩
  · rw [contentStored, data (by simp; grind), rget_rset_ne _ _ (by grind), rget_wr_ne _ _ _ (by grind), rget_rset_same]
  · rw [contentStored, State.rd, data (by simp; grind), rget_rset_ne _ _ (by grind)]
    exact (rd_wr_same _ _ _ _ (by decide) (by decide)).trans (Nat.mod_eq_of_lt f.id.isLt)
  · rw [contentStored, data (by simp; grind), rget_rset_same]

end Store

end Sys2Proof.Machine
end

section
/-! What a received frame leaves in its buffer, the NEWDAT register, and the way back from bus-off (12 R331, R333, R334). -/

namespace Sys2Proof.Machine

open Sys2Proof

/-! ### The control word of a buffer that took a frame (R333) -/

section Format

variable (f : CanFrame) (w : Word)

theorem ite_two_pow (c : Bool) (k : Nat) : (if c then 2 ^ k else 0) = c.toNat * 2 ^ k := by cases c <;> simp

/-- The format bits of a frame as a number, and the control word around them. -/
theorem formatWord_toNat : (formatWord f w).toNat = w.toNat / 2 ^ 21 * 2 ^ 21 +
    (f.fdf.toNat * 2 ^ 20 + f.brs.toNat * 2 ^ 19 + f.esi.toNat * 2 ^ 18 + f.ide.toNat * 2 ^ 17 + f.rtr.toNat * 2 ^ 16 + f.dlc.toNat) ∧
    f.fdf.toNat ≤ 1 ∧ f.brs.toNat ≤ 1 ∧ f.esi.toNat ≤ 1 ∧ f.ide.toNat ≤ 1 ∧ f.rtr.toNat ≤ 1 ∧ f.dlc.toNat < 16 := by
  have word := w.isLt
  have dlc : f.dlc.toNat < 16 := f.dlc.isLt
  have fdf := Bool.toNat_le f.fdf
  have brs := Bool.toNat_le f.brs
  have esi := Bool.toNat_le f.esi
  have ide := Bool.toNat_le f.ide
  have rtr := Bool.toNat_le f.rtr
  refine ⟨?_, fdf, brs, esi, ide, rtr, dlc⟩
  rw [formatWord, BitVec.toNat_ofNat, fmtBits, ite_two_pow, ite_two_pow, ite_two_pow, ite_two_pow, ite_two_pow]
  omega

theorem formatWord_fields :
    bitsOf (formatWord f w) CAN_MB_CTRL_DLC = f.dlc.toNat ∧ bitsOf (formatWord f w) CAN_MB_CTRL_RTR = f.rtr.toNat ∧
    bitsOf (formatWord f w) CAN_MB_CTRL_FDF = f.fdf.toNat ∧ bitsOf (formatWord f w) CAN_MB_CTRL_EN = bitsOf w CAN_MB_CTRL_EN := by
  obtain ⟨value, fdf, brs, esi, ide, rtr, dlc⟩ := formatWord_toNat f w
  unfold bitsOf
  rw [value]
  dsimp only
  refine ⟨?_, ?_, ?_, ?_⟩ <;> omega

end Format

section Stored

variable (n : Fin 8) (b : Fin 128) (f : CanFrame) (stamp : Word) (s : State)

theorem rget_newShown : (newShown n b f stamp s).rget (CAN_MB_CTRL n b) =
    setBits (formatWord f (s.rget (CAN_MB_CTRL n b))) CAN_MB_CTRL_NEWDAT 1 := by
  rw [newShown, rget_wr_ne _ _ _ (by grind), rget_wr_same, (contentStored_words n b f stamp s).1]

/-- A field of the control word beside MSGLOST. -/
theorem rd_canStore_control {g : Fld} (h : (CAN_MB_CTRL_MSGLOST.hi < g.lo ∨ g.hi < CAN_MB_CTRL_MSGLOST.lo) ∧ g.lo ≤ g.hi) :
    (canStore s n b f stamp).rd (CAN_MB_CTRL n b) g = bitsOf (setBits (formatWord f (s.rget (CAN_MB_CTRL n b))) CAN_MB_CTRL_NEWDAT 1) g := by
  have loss : (lossShown n b f stamp s).rd (CAN_MB_CTRL n b) g = (newShown n b f stamp s).rd (CAN_MB_CTRL n b) g := by
    unfold lossShown
    split
    · rw [canEvt, (BusBut.raise _ _ _ _).rd g (by grind), rd_wr_fld _ _ _ g 1 (by decide) (by decide) h.1 h.2]
    · rfl
  rw [canStore_eq, canBevt, (BusBut.raise _ _ _ _).rd g (by grind), loss, State.rd, rget_newShown]

theorem on_canStore_newdat : (canStore s n b f stamp).on (CAN_MB_CTRL n b) CAN_MB_CTRL_NEWDAT = true := by
  rw [State.on, rd_canStore_control _ _ _ _ _ (by decide), bitsOf_setBits_same _ _ _ (by decide) (by decide)]
  rfl

theorem rd_canStore_format {g : Fld}
    (h : ((CAN_MB_CTRL_MSGLOST.hi < g.lo ∨ g.hi < CAN_MB_CTRL_MSGLOST.lo) ∧ g.lo ≤ g.hi) ∧
      (CAN_MB_CTRL_NEWDAT.hi < g.lo ∨ g.hi < CAN_MB_CTRL_NEWDAT.lo)) :
    (canStore s n b f stamp).rd (CAN_MB_CTRL n b) g = bitsOf (formatWord f (s.rget (CAN_MB_CTRL n b))) g := by
  rw [rd_canStore_control n b f stamp s h.1, bitsOf_setBits_ne _ _ _ _ (by decide) (by decide) h.2 h.1.2]

theorem on_lossShown_newdat (i : Nat) (hi : i < 4) (f' : Fld) :
    (lossShown n b f stamp s).on (CAN_NEWDAT n i) f' = (newShown n b f stamp s).on (CAN_NEWDAT n i) f' := by
  unfold lossShown
  split
  · rw [canEvt, (BusBut.raise _ _ _ _).on _ (by grind), (BusBut.wr _ _ _ _).on _ (by grind)]
  · rfl

theorem canStore_newdatBit : wbit ((canStore s n b f stamp).rget (CAN_NEWDAT n (b.val / 32))).toNat (b.val % 32) = true := by
  rw [← on_bit, canStore_eq, canBevt, (BusBut.raise _ _ _ _).on _ (by grind), on_lossShown_newdat _ _ _ _ _ _ (by omega)]
  exact on_wr_same _ _ ⟨rfl, by dsimp only; omega⟩

/-- A buffer that still holds a frame shows that one was lost. -/
theorem canStore_lost (full : s.on (CAN_MB_CTRL n b) CAN_MB_CTRL_NEWDAT = true) :
    (canStore s n b f stamp).on (CAN_MB_CTRL n b) CAN_MB_CTRL_MSGLOST = true ∧ (canStore s n b f stamp).on (CAN_EVT n) CAN_EVT_MSGLOST = true := by
  rw [canStore_eq, canBevt, (BusBut.raise _ _ _ _).on _ (by grind), (BusBut.raise _ _ _ _).on _ (by grind), lossShown, if_pos full, canEvt,
    (BusBut.raise _ _ _ _).on _ (by grind)]
  exact ⟨on_wr_same _ _ (by decide), on_raise_bus _ _ (by grind) (by decide)⟩

/-- Buffer b holds the frame f, its control word enabled as before; a frame that it still held is shown as lost. -/
abbrev StoredIn (n : Fin 8) (b : Fin 128) (f : CanFrame) (stamp : Word) (enabled full : Bool) (t : State) : Prop :=
  t.on (CAN_MB_CTRL n b) CAN_MB_CTRL_NEWDAT = true ∧
  wbit (t.rget (CAN_NEWDAT n (b.val / 32))).toNat (b.val % 32) = true ∧ t.rd (CAN_MB_ID n b) CAN_MB_ID_ID = f.id.toNat ∧
  t.rget (CAN_MB_STAMP n b) = stamp ∧ t.rd (CAN_MB_CTRL n b) CAN_MB_CTRL_DLC = f.dlc.toNat ∧ t.on (CAN_MB_CTRL n b) CAN_MB_CTRL_RTR = f.rtr ∧
  t.on (CAN_MB_CTRL n b) CAN_MB_CTRL_FDF = f.fdf ∧ t.on (CAN_MB_CTRL n b) CAN_MB_CTRL_EN = enabled ∧
  (∀ i, i < 16 → t.rget (CAN_MB_DATA n b i) = BitVec.ofNat 32 (leVal (((canData f).drop (4 * i)).take 4))) ∧
  (full = true → t.on (CAN_MB_CTRL n b) CAN_MB_CTRL_MSGLOST = true ∧ t.on (CAN_EVT n) CAN_EVT_MSGLOST = true)

theorem canStore_result : StoredIn n b f stamp (s.on (CAN_MB_CTRL n b) CAN_MB_CTRL_EN) (s.on (CAN_MB_CTRL n b) CAN_MB_CTRL_NEWDAT)
    (canStore s n b f stamp) := by
  obtain ⟨dlc, rtr, fdf, en⟩ := formatWord_fields f (s.rget (CAN_MB_CTRL n b))
  obtain ⟨-, ident, stamped⟩ := contentStored_words n b f stamp s
  have later := canStore_shown n b f stamp s
  have flag (c : Bool) : (c.toNat == 1) = c := by cases c <;> rfl
  refine ⟨on_canStore_newdat .., canStore_newdatBit .., (later.rd _ (by grind)).trans ident, (later _ (by grind) (by grind)).trans stamped,
    (rd_canStore_format _ _ _ _ _ (by decide)).trans dlc, ?_, ?_, ?_, fun i hi => ?_, canStore_lost n b f stamp s⟩
  · rw [State.on, rd_canStore_format _ _ _ _ _ (by decide), rtr, flag]
  · rw [State.on, rd_canStore_format _ _ _ _ _ (by decide), fdf, flag]
  · rw [State.on, rd_canStore_format _ _ _ _ _ (by decide), en, State.on, State.rd]
  · exact (later _ (by grind) (by grind)).trans (dataStored_at n b (canData f) _ hi)

/-- The words of a buffer when the error state has followed. -/
theorem canState_buffer :
    (canState s n).rget (CAN_MB_CTRL n b) = s.rget (CAN_MB_CTRL n b) ∧
    (canState s n).rget (CAN_NEWDAT n (b.val / 32)) = s.rget (CAN_NEWDAT n (b.val / 32)) ∧
    (canState s n).rget (CAN_MB_ID n b) = s.rget (CAN_MB_ID n b) ∧ (canState s n).rget (CAN_MB_STAMP n b) = s.rget (CAN_MB_STAMP n b) ∧
    ∀ i, i < 16 → (canState s n).rget (CAN_MB_DATA n b i) = s.rget (CAN_MB_DATA n b i) := by
  have frame : BusBut [CAN_STATUS n, CAN_EVT n] s (canState s n) := .of_onlyEvr (canState_only s n)
  refine ⟨frame _ ?_ ?_, frame _ ?_ ?_, frame _ ?_ ?_, frame _ ?_ ?_, fun i hi => frame _ ?_ ?_⟩ <;> grind

/-- The error state that follows leaves the buffer as it is. -/
theorem StoredIn.canState {n : Fin 8} {b : Fin 128} {f : CanFrame} {stamp : Word} {enabled full : Bool} {s : State}
    (h : StoredIn n b f stamp enabled full s) : StoredIn n b f stamp enabled full (canState s n) := by
  obtain ⟨control, bits, identWord, stampWord, dataWords⟩ := canState_buffer n b s
  obtain ⟨newdat, bit, ident, stamped, dlc, rtr, fdf, en, data, lost⟩ := h
  refine ⟨(on_of_rget control).trans newdat, by rw [bits, bit], by rw [State.rd, identWord, ← State.rd, ident], stampWord.trans stamped,
    by rw [State.rd, control, ← State.rd, dlc], (on_of_rget control).trans rtr, (on_of_rget control).trans fdf,
    (on_of_rget control).trans en, fun i hi => (dataWords i hi).trans (data i hi),
    fun was => ⟨(on_of_rget control).trans (lost was).1, on_canState_stays n (lost was).2 (by decide)⟩⟩

end Stored

/-! ### A received frame, as a whole (R332, R333) -/

section Received

variable {n : Fin 8} {f : CanFrame} {s : State} (stamp : Word)

theorem canMatch_recGood : canMatch (recGood s n) n f = canMatch s n f := canMatch_same f (recGood_frame s n) fun b hb => by grind

variable (logOff : s.on (CAN_LOG_CFG n) CAN_LOG_CFG_LOG_EN = false)
include logOff

theorem delivered_nowhere (unmatched : canMatch s n f = none) :
    canDeliver (recGood s n) n f stamp = frameCounted n f (recGood s n) :=
  canDeliver_nowhere f stamp (((recGood_frame s n).on _ (by grind)).trans logOff) (canMatch_recGood.trans unmatched)

theorem delivered_buffer {b : Fin 128} (matched : canMatch s n f = some b.val) :
    canDeliver (recGood s n) n f stamp = canStore (frameCounted n f (recGood s n)) n b f stamp :=
  canDeliver_buffer f stamp (((recGood_frame s n).on _ (by grind)).trans logOff) (canStore_frame n b f stamp _) (by simp [storeRegs]; grind)
    (canMatch_recGood.trans matched)

omit logOff in
theorem recCounted_frame (n : Fin 8) (f : CanFrame) (s : State) : BusBut [CAN_STATUS n, CAN_CNT n 0] s (frameCounted n f (recGood s n)) :=
  (recGood_frame s n).trans (frameCounted_frame f n _)

theorem unmatched_result {t : State} (unmatched : canMatch s n f = none) (ht : t = canState (canDeliver (recGood s n) n f stamp) n) :
    (∀ c, c < 128 → t.rget (CAN_MB_CTRL n c) = s.rget (CAN_MB_CTRL n c) ∧ t.rget (CAN_MB_ID n c) = s.rget (CAN_MB_ID n c)) ∧
    (s.rd (CAN_STATUS n) CAN_STATUS_REC ≤ 127 → t.rd (CAN_STATUS n) CAN_STATUS_REC = s.rd (CAN_STATUS n) CAN_STATUS_REC - 1) ∧
    (127 < s.rd (CAN_STATUS n) CAN_STATUS_REC →
      119 ≤ t.rd (CAN_STATUS n) CAN_STATUS_REC ∧ t.rd (CAN_STATUS n) CAN_STATUS_REC ≤ 127) := by
  rw [delivered_nowhere stamp logOff unmatched] at ht
  have frame := (recCounted_frame n f s).trans (.of_onlyEvr (canState_only (frameCounted n f (recGood s n)) n))
  have count : t.rd (CAN_STATUS n) CAN_STATUS_REC = (recGood s n).rd (CAN_STATUS n) CAN_STATUS_REC := by
    rw [ht, rd_canState _ _ (by decide), (frameCounted_frame f n _).rd _ (by grind)]
  rw [count]
  subst ht
  exact ⟨fun c hc => ⟨frame _ (by grind) (by grind), frame _ (by grind) (by grind)⟩, recGood_low, recGood_high⟩

theorem matched_result {b : Fin 128} (matched : canMatch s n f = some b.val) :
    StoredIn n b f stamp (s.on (CAN_MB_CTRL n b) CAN_MB_CTRL_EN) (s.on (CAN_MB_CTRL n b) CAN_MB_CTRL_NEWDAT)
      (canState (canDeliver (recGood s n) n f stamp) n) := by
  have counted := recCounted_frame n f s
  rw [delivered_buffer stamp logOff matched, ← counted.on CAN_MB_CTRL_EN (by grind), ← counted.on CAN_MB_CTRL_NEWDAT (by grind)]
  exact (canStore_result n b f stamp _).canState

end Received

/-! ### NEWDAT is cleared through its register (R334) -/

section Newdat

variable (n : Fin 8) (j : Fin 4) (v : Word)

/-- One bit of a write of CAN_NEWDAT_j. -/
def newdatStep (t : State) (i : Nat) : State :=
  if v.getLsbD i then (t.wr (CAN_MB_CTRL n (32 * j + i)) CAN_MB_CTRL_NEWDAT 0).wr (CAN_NEWDAT n j) ⟨i, i⟩ 0 else t

theorem newdatClear_eq (s : State) : newdatClear n j v s = (List.range 32).foldl (newdatStep n j v) s := rfl

theorem rget_newdatClear (s : State) {i : Nat} (hi : i < 32) : (newdatClear n j v s).rget (CAN_MB_CTRL n (32 * j + i)) =
    if v.getLsbD i then setBits (s.rget (CAN_MB_CTRL n (32 * j + i))) CAN_MB_CTRL_NEWDAT 0 else s.rget (CAN_MB_CTRL n (32 * j + i)) := by
  rw [newdatClear_eq]
  refine foldl_at (I := fun _ => True) List.nodup_range (List.mem_range.2 hi) (fun t : State => t.rget (CAN_MB_CTRL n (32 * j + i)))
    (fun w => if v.getLsbD i then setBits w CAN_MB_CTRL_NEWDAT 0 else w) trivial (fun _ _ _ _ => trivial) (fun t _ k hk other => ?_) fun t _ => ?_
  · have hk := List.mem_range.1 hk
    unfold newdatStep
    split
    · rw [rget_wr_ne _ _ _ (by grind), rget_wr_ne _ _ _ (by grind)]
    · rfl
  · unfold newdatStep
    split
    · rw [rget_wr_ne _ _ _ (by grind), rget_wr_same]
    · rfl

theorem wbit_newdatClear (s : State) {i : Nat} (hi : i < 32) : wbit ((newdatClear n j v s).rget (CAN_NEWDAT n j)).toNat i =
    if v.getLsbD i then false else wbit (s.rget (CAN_NEWDAT n j)).toNat i := by
  rw [newdatClear_eq]
  refine foldl_at (I := fun _ => True) List.nodup_range (List.mem_range.2 hi) (fun t : State => wbit (t.rget (CAN_NEWDAT n j)).toNat i)
    (fun c => if v.getLsbD i then false else c) trivial (fun _ _ _ _ => trivial) (fun t _ k hk other => ?_) fun t _ => ?_
  · have hk := List.mem_range.1 hk
    unfold newdatStep
    split
    · rw [← on_bit, on_wr_fld _ _ _ ⟨⟨le_rfl, hk⟩, Nat.lt_or_gt_of_ne other, le_rfl⟩, on_bit, rget_wr_ne _ _ _ (by grind)]
    · rfl
  · unfold newdatStep
    split
    · rw [← on_bit, on_wr_same _ _ ⟨rfl, hi⟩]
      rfl
    · rfl

theorem newdatClear_result (s : State) {t : State} (ht : t = newdatClear n j v s) {i : Nat} (hi : i < 32) :
    (v.getLsbD i = true → t.on (CAN_MB_CTRL n (32 * j + i)) CAN_MB_CTRL_NEWDAT = false ∧ wbit (t.rget (CAN_NEWDAT n j)).toNat i = false) ∧
    (v.getLsbD i = false → t.rget (CAN_MB_CTRL n (32 * j + i)) = s.rget (CAN_MB_CTRL n (32 * j + i)) ∧
      wbit (t.rget (CAN_NEWDAT n j)).toNat i = wbit (s.rget (CAN_NEWDAT n j)).toNat i) := by
  have control := rget_newdatClear n j v s hi
  have bit := wbit_newdatClear n j v s hi
  subst ht
  refine ⟨fun named => ?_, fun other => ?_⟩
  · rw [if_pos named] at control bit
    refine ⟨?_, bit⟩
    rw [State.on, State.rd, control, bitsOf_setBits_same _ _ _ (by decide) (by decide)]
    rfl
  · rw [other] at control bit
    exact ⟨control, bit⟩

end Newdat

/-! ### A start after bus-off, and integration (R331) -/

section Start

variable {n : Fin 8} {s : State}

theorem busoffRecovered_idle (h : s.unitState (.can n) ≠ 1) : busoffRecovered n s = s := if_neg h

theorem canIntegrate_idle (h : s.unitState (.can n) ≠ 1) : canIntegrate n s = s := if_neg fun now => h now.1

theorem busoffRecovered_result (starting : s.unitState (.can n) = 1) {t : State} (ht : t = busoffRecovered n s) :
    t.on (CAN_STATUS n) CAN_STATUS_BOREC = false ∧ t.rd (CAN_STATUS n) CAN_STATUS_TEC = 0 ∧ t.rd (CAN_STATUS n) CAN_STATUS_REC = 0 ∧
    OnlyRegs [CAN_STATUS n] s t := by
  have e : busoffRecovered n s =
      ((s.wr (CAN_STATUS n) CAN_STATUS_BOREC 0).wr (CAN_STATUS n) CAN_STATUS_TEC 0).wr (CAN_STATUS n) CAN_STATUS_REC 0 := if_pos starting
  rw [e] at ht
  subst ht
  refine ⟨?_, ?_, ?_, ((onlyRegs_wr s _ _ 0).wr _ 0).wr _ 0⟩
  · rw [on_wr_fld _ _ _ (by decide), on_wr_fld _ _ _ (by decide), on_wr_same _ _ (by decide)]
    rfl
  · rw [rd_wr_fld _ _ _ _ _ (by decide) (by decide) (by decide) (by decide), rd_wr_same _ _ _ _ (by decide) (by decide)]
    rfl
  · rw [rd_wr_same _ _ _ _ (by decide) (by decide)]
    rfl

/-- An error-active controller with an idle bus. -/
def errorActive (n : Fin 8) (s : State) : State :=
  (((s.wr (CAN_STATUS n) CAN_STATUS_TEC 0).wr (CAN_STATUS n) CAN_STATUS_REC 0).wr (CAN_STATUS n) CAN_STATUS_ESTATE 0).setCan n fun c =>
    { c with acks := 0, onBus := none }

/-- The end of a unit's start writes its STATE only. -/
theorem startDone_only (s : State) (u : UnitId) : OnlyRegs [enAddr u] s (startDone s u) := by
  unfold startDone
  split
  · exact onlyRegs_wr s _ _ _
  · exact ⟨rfl, fun _ _ => rfl⟩

theorem startDone_on {u : UnitId} (starting : s.unitState u = 1) (begun : (s.unit (enAddr u)).waiting = false) (tested : testsDone s u = true) :
    (startDone s u).isOn u = true := by
  rw [startDone, if_pos ⟨starting, begun, tested⟩, State.isOn, unitState_wr_state]
  rfl

theorem canIntegrate_starting (starting : s.unitState (.can n) = 1) (begun : (s.unit (enAddr (.can n))).waiting = false)
    (recovered : s.on (CAN_STATUS n) CAN_STATUS_BOREC = false) : canIntegrate n s = startDone (errorActive n s) (.can n) :=
  if_pos ⟨starting, begun, recovered⟩

theorem errorActive_frame (n : Fin 8) (s : State) (a : Nat) (h : a ≠ CAN_STATUS n) : (errorActive n s).rget a = s.rget a := by
  rw [errorActive, rget_of_regs (setCan_regs ..), rget_wr_ne _ _ _ h, rget_wr_ne _ _ _ h, rget_wr_ne _ _ _ h]

theorem unit_errorActive (n : Fin 8) (s : State) (a : Nat) : (errorActive n s).unit a = s.unit a := by
  refine unit_of_units ?_
  rw [errorActive, setCan_units, wr_units, wr_units, wr_units]

theorem testsDone_errorActive (n : Fin 8) (s : State) : testsDone (errorActive n s) (.can n) = testsDone s (.can n) := by
  rw [testsDone, testsDone, on_of_rget (errorActive_frame n s _ (by unfold LSC_CMP CAN_STATUS; omega))]

theorem integrated_result (starting : s.unitState (.can n) = 1) (begun : (s.unit (enAddr (.can n))).waiting = false) {t : State}
    (ht : t = startDone (errorActive n s) (.can n)) :
    (testsDone s (.can n) = true → t.isOn (.can n) = true) ∧ t.rd (CAN_STATUS n) CAN_STATUS_TEC = 0 ∧ t.rd (CAN_STATUS n) CAN_STATUS_REC = 0 ∧
    t.rd (CAN_STATUS n) CAN_STATUS_ESTATE = 0 := by
  have status : BusBut [CAN_EN n] (errorActive n s) (startDone (errorActive n s) (.can n)) := .of_only (startDone_only _ (.can n))
  have fresh := BusBut.setCan (((s.wr (CAN_STATUS n) CAN_STATUS_TEC 0).wr (CAN_STATUS n) CAN_STATUS_REC 0).wr (CAN_STATUS n) CAN_STATUS_ESTATE 0) n
    fun c => { c with acks := 0, onBus := none }
  subst ht
  refine ⟨fun tested => startDone_on ?_ ?_ ?_, ?_, ?_, ?_⟩
  · exact (unitState_of_rget (errorActive_frame n s _ (by dsimp only [enAddr]; grind))).trans starting
  · rw [unit_errorActive, begun]
  · rw [testsDone_errorActive, tested]
  · rw [status.rd _ (by grind), errorActive, fresh.rd _ (by grind), rd_wr_fld _ _ _ _ _ (by decide) (by decide) (by decide) (by decide),
      rd_wr_fld _ _ _ _ _ (by decide) (by decide) (by decide) (by decide), rd_wr_same _ _ _ _ (by decide) (by decide)]
    rfl
  · rw [status.rd _ (by grind), errorActive, fresh.rd _ (by grind), rd_wr_fld _ _ _ _ _ (by decide) (by decide) (by decide) (by decide),
      rd_wr_same _ _ _ _ (by decide) (by decide)]
    rfl
  · rw [status.rd _ (by grind), errorActive, fresh.rd _ (by grind), rd_wr_same _ _ _ _ (by decide) (by decide)]
    rfl

end Start

end Sys2Proof.Machine
end

section
/-! What the CAN controllers' commands do (12). -/

namespace Sys2Proof.Machine

open Sys2Proof

section Commands

variable (m : Master) (n : Fin 8) (b : Fin 128) (j : Fin 4) (k : CanErr) (inData dominant : Bool) (f : CanFrame) (since v : Word) (s : State)

theorem exec_txreq : exec (.txreq m n b) s = .next (canTxreq n b s) := rfl
theorem exec_txabort : exec (.txabort m n b) s = .next (canTxabort n b s) := rfl
theorem exec_canSelection : exec (.canSelection n) s = .next (canSelect n s) := rfl
theorem exec_canTxSuccess : exec (.canTxSuccess ⟨n, since⟩) s = .next (canTxOk n since s) := rfl
theorem exec_canTxError : exec (.canTxError n k inData dominant) s = .next (canTxErr n k inData dominant s) := rfl
theorem exec_canRxFrame : exec (.canRxFrame n f since) s = .next (canRx n f since s) := rfl
theorem exec_canRxError : exec (.canRxError n k dominant) s = .next (canRxErr n k dominant s) := rfl
theorem exec_canNewdatClear : exec (.canNewdatClear m n j v) s = .next (newdatClear n j v s) := rfl
theorem exec_canBusoffRecovery : exec (.canBusoffRecovery n) s = .next (busoffRecovered n s) := rfl
theorem exec_canIntegration : exec (.canIntegration n) s = .next (canIntegrate n s) := rfl

end Commands

/-! ### Without a frame on the bus -/

theorem canTxOk_idle {n : Nat} {s : State} (since : Word) (idle : (s.canSt n).onBus = none) : canTxOk n since s = s := by rw [canTxOk, idle]

theorem canTxErr_idle {n : Fin 8} {s : State} (k : CanErr) (inData dominant : Bool) (idle : (s.canSt n).onBus = none) :
    canTxErr n k inData dominant s = s := by rw [canTxErr, idle]

/-! ### An attempt that fails (R337, R339, R340) -/

section Attempt

variable {n : Fin 8} {b : Fin 128} (k : CanErr) (inData dominant : Bool) {s : State}

/-- What holds once an attempt has failed, beside the bus being free. -/
abbrev AfterError (n : Fin 8) (k : CanErr) (inData dominant : Bool) (s : State) (P : State → Prop) : Prop :=
  Does (.canTxError n k inData dominant) s fun t => (t.canSt n).onBus = none ∧ P t

variable (sending : (s.canSt n).onBus = some b.val)
include sending

/-- The value that the error counter takes when a failed attempt makes it grow, and when it does not. -/
theorem afterError_grows {P : State → Prop} (grows : Grows k dominant n s)
    (h : P (tecSet n (attemptEnded n b k inData s) (s.rd (CAN_STATUS n) CAN_STATUS_TEC + 8))) : AfterError n k inData dominant s P :=
  does_eq (exec_canTxError n k inData dominant s) (canTxErr_grows k inData dominant sending grows) ⟨attempt_onBus k inData _, h⟩

theorem afterError_stays {P : State → Prop} (stays : ¬ Grows k dominant n s)
    (h : P (tecSet n (attemptEnded n b k inData s) (s.rd (CAN_STATUS n) CAN_STATUS_TEC))) : AfterError n k inData dominant s P :=
  does_eq (exec_canTxError n k inData dominant s) (canTxErr_stays k inData dominant sending stays) ⟨attempt_onBus k inData _, h⟩

/-- What holds whatever value the counter takes. -/
theorem afterError_any {P : State → Prop} (h : ∀ tec, P (tecSet n (attemptEnded n b k inData s) tec)) : AfterError n k inData dominant s P := by
  obtain ⟨tec, e⟩ := canTxErr_tecSet k inData dominant sending
  exact does_eq (exec_canTxError n k inData dominant s) e ⟨attempt_onBus k inData tec, h tec⟩

theorem afterError_same (stays : ¬ Grows k dominant n s) :
    AfterError n k inData dominant s fun t => t.rd (CAN_STATUS n) CAN_STATUS_TEC = s.rd (CAN_STATUS n) CAN_STATUS_TEC :=
  afterError_stays k inData dominant sending stays
    (tecSet_value n _ (Nat.le_of_lt_succ (bitsOf_lt (s.rget (CAN_STATUS n)) CAN_STATUS_TEC)))

theorem afterError_counted (grows : Grows k dominant n s) (room : s.rd (CAN_STATUS n) CAN_STATUS_TEC + 8 ≤ 255) :
    AfterError n k inData dominant s fun t => t.rd (CAN_STATUS n) CAN_STATUS_TEC = s.rd (CAN_STATUS n) CAN_STATUS_TEC + 8 :=
  afterError_grows k inData dominant sending grows (tecSet_value n _ room)

theorem afterError_busOff (grows : Grows k dominant n s) (full : 255 < s.rd (CAN_STATUS n) CAN_STATUS_TEC + 8) :
    AfterError n k inData dominant s fun t => t.rd (CAN_STATUS n) CAN_STATUS_ESTATE = 2 ∧ t.on (CAN_STATUS n) CAN_STATUS_BOREC = true ∧
      t.on (CAN_EVT n) CAN_EVT_BUSOFF = true ∧ t.isOn (.can n) = false := by
  refine afterError_grows k inData dominant sending grows ?_
  rw [tecSet, if_pos full]
  exact busOff_result n _

theorem afterError_aborted (abort : (s.canSt n).abort = true) :
    AfterError n k inData dominant s fun t => Ended n b CAN_MB_CTRL_ABORTED t :=
  afterError_any k inData dominant sending fun tec => (attemptEnded_aborted n b k inData s abort).stays (tecSet_frame n _ tec) (by grind) (by grind)

theorem afterError_request (stays : (s.canSt n).abort = false) : AfterError n k inData dominant s fun t =>
    t.on (CAN_MB_CTRL n b) CAN_MB_CTRL_TXREQ = s.on (CAN_MB_CTRL n b) CAN_MB_CTRL_TXREQ :=
  afterError_any k inData dominant sending fun tec => ((tecSet_frame n _ tec).on _ (by grind)).trans (attemptEnded_request n b k inData s stays)

theorem afterError_sixteenth (fifteen : (s.canSt n).acks = 15) : AfterError n .ack inData dominant s fun t =>
    t.on (CAN_STATUS n) CAN_STATUS_NOACK = true ∧ t.on (CAN_EVT n) CAN_EVT_NO_ACK = true := by
  obtain ⟨status, event⟩ := attemptEnded_sixteenth n b inData s fifteen
  exact afterError_any .ack inData dominant sending fun tec => ⟨tecSet_noAck n tec status, tecSet_event n tec event (by decide)⟩

end Attempt

end Sys2Proof.Machine
end

section
/-! Links of the network ports, and the start of a DMA ring (12 R319, R320, R327). -/

namespace Sys2Proof.Machine

open Sys2Proof

/-! ### A link comes up and goes down (R319) -/

section Link

variable {n : Fin 4} {s : State}

/-- A port whose start may end, or that is ON. -/
abbrev LinkMay (n : Fin 4) (s : State) : Prop :=
  (s.unitState (.eth n) = 1 ∧ (s.unit (enAddr (.eth n))).waiting = false) ∨ s.unitState (.eth n) = 2

theorem linkUp_off (h : ¬ LinkMay n s) : linkUp n s = s := if_neg h

theorem linkDown_off (off : s.on (ETH_STATUS n) ETH_STATUS_LINK = false) : linkDown n s = s := if_neg (Bool.eq_false_iff.1 off)

/-- The start has ended if its tests have, and the link is shown with what was negotiated on it. -/
def linkShown (n : Fin 4) (s : State) : State :=
  (((startDone s (.eth n)).wr (ETH_STATUS n) ETH_STATUS_LINK 1).flag (ETH_STATUS n) ETH_STATUS_AN_DONE (s.on (ETH_CFG n) ETH_CFG_AN_EN)).flag
    (ETH_STATUS n) ETH_STATUS_FEC_ACT (decide (n.val < 2) && s.on (ETH_CFG n) ETH_CFG_FEC_EN)

theorem linkShown_status (n : Fin 4) (s : State) : OnlyRegs [ETH_STATUS n] (startDone s (.eth n)) (linkShown n s) :=
  ((onlyRegs_wr _ _ ETH_STATUS_LINK 1).wr ETH_STATUS_AN_DONE _).wr ETH_STATUS_FEC_ACT _

theorem linkShown_link (n : Fin 4) (s : State) : (linkShown n s).on (ETH_STATUS n) ETH_STATUS_LINK = true := by
  rw [linkShown, State.flag, State.flag, on_wr_fld _ _ _ (by decide), on_wr_fld _ _ _ (by decide), on_wr_same _ _ (by decide)]
  rfl

theorem linkUp_changed (may : LinkMay n s) (down : s.on (ETH_STATUS n) ETH_STATUS_LINK = false) :
    linkUp n s = ethEvt (linkShown n s) n ETH_EVT_LINKCHG := by
  unfold linkUp
  dsimp only
  rw [if_pos may, down, Bool.not_false, if_pos rfl]
  rfl

theorem linkUp_again (may : LinkMay n s) (up : s.on (ETH_STATUS n) ETH_STATUS_LINK = true) : linkUp n s = linkShown n s := by
  unfold linkUp
  dsimp only
  rw [if_pos may, up, Bool.not_true, if_neg Bool.false_ne_true]
  rfl

/-- The event of a link that was down is all that depends on the link before. -/
theorem linkUp_shown (may : LinkMay n s) : OnlyRegsEvr [ETH_EVT n] (linkShown n s) (linkUp n s) := by
  cases link : s.on (ETH_STATUS n) ETH_STATUS_LINK with
  | false => exact linkUp_changed may link ▸ onlyRegsEvr_raise _ _ _ _
  | true => exact linkUp_again may link ▸ (OnlyRegsEvr.refl _).mono (by simp)

theorem linkUp_state (may : LinkMay n s) : (linkUp n s).unitState (.eth n) = (startDone s (.eth n)).unitState (.eth n) := by
  have event := BusBut.of_onlyEvr (linkUp_shown may)
  have status := BusBut.of_only (linkShown_status n s)
  refine unitState_of_rget ((event _ ?_ ?_).trans (status _ ?_ ?_)) <;> dsimp only [enAddr] <;> grind

theorem startDone_pending {u : UnitId} (tests : testsDone s u = false) : startDone s u = s :=
  if_neg fun done => Bool.eq_false_iff.1 tests done.2.2

theorem startDone_done {u : UnitId} (other : s.unitState u ≠ 1) : startDone s u = s := if_neg fun now => other now.1

theorem linkUp_result (may : LinkMay n s) {t : State} (ht : t = linkUp n s) :
    (testsDone s (.eth n) = true ∨ s.unitState (.eth n) = 2 → t.isOn (.eth n) = true) ∧
    (testsDone s (.eth n) = false → t.unitState (.eth n) = s.unitState (.eth n)) ∧ t.on (ETH_STATUS n) ETH_STATUS_LINK = true ∧
    (s.on (ETH_STATUS n) ETH_STATUS_LINK = false → t.on (ETH_EVT n) ETH_EVT_LINKCHG = true) ∧
    OnlyRegsEvr [enAddr (.eth n), ETH_STATUS n, ETH_EVT n] s t := by
  subst ht
  refine ⟨fun ended => ?_, fun tests => ?_, ?_, fun down => ?_, ?_⟩
  · rw [State.isOn, linkUp_state may]
    by_cases on : s.unitState (.eth n) = 2
    · rw [startDone_done (by omega), on]
      rfl
    · obtain ⟨starting, begun⟩ := may.resolve_right on
      exact startDone_on starting begun (ended.resolve_right on)
  · rw [linkUp_state may, startDone_pending tests]
  · rw [(BusBut.of_onlyEvr (linkUp_shown may)).on _ (by grind), linkShown_link]
  · rw [linkUp_changed may down]
    exact on_raise_bus _ _ (by grind) (by decide)
  · exact (((startDone_only s (.eth n)).trans (linkShown_status n s)).evr.trans (linkUp_shown may)).mono (by simp)

theorem linkDown_result (up : s.on (ETH_STATUS n) ETH_STATUS_LINK = true) {t : State} (ht : t = linkDown n s) :
    t.on (ETH_STATUS n) ETH_STATUS_LINK = false ∧ t.on (ETH_EVT n) ETH_EVT_LINKCHG = true ∧ OnlyRegsEvr [ETH_STATUS n, ETH_EVT n] s t := by
  have off := linkDown_link n s
  subst ht
  refine ⟨off, ?_, ?_⟩ <;> rw [linkDown, if_pos up]
  · exact on_raise_bus _ _ (by grind) (by decide)
  · exact (((onlyRegs_wr s _ ETH_STATUS_LINK 0).wr ETH_STATUS_AN_DONE 0).wr ETH_STATUS_FEC_ACT 0).evr.trans (onlyRegsEvr_raise _ _ _ _)

end Link

/-! ### TAIL and the start of a ring (R320, R327) -/

section Ring

variable {n : Fin 4} {r : Fin 16} {s : State}

theorem tailWrite_in {v : Word} (inside : v.toNat % 4096 < ringN s n r) {t : State} (ht : t = tailWrite n r v s) :
    ringTail t n r = v.toNat % 4096 ∧ OnlyRegs [ETH_RING_TAIL n r] s t := by
  rw [tailWrite, if_pos inside] at ht
  subst ht
  exact ⟨rd_wr_same _ _ _ _ (by decide) (by decide), onlyRegs_wr _ _ _ _⟩

theorem tailWrite_out {v : Word} (outside : ringN s n r ≤ v.toNat % 4096) : tailWrite n r v s = s := if_neg (not_lt.2 outside)

/-- A ring that can start: 16 to 4096 descriptors from a mapped address on. -/
abbrev RingGood (n : Fin 4) (r : Fin 16) (s : State) : Prop :=
  4 ≤ s.rd (ETH_RING_CFG n r) ETH_RING_CFG_SIZE ∧ s.rd (ETH_RING_CFG n r) ETH_RING_CFG_SIZE ≤ 12 ∧ mapOf (ringBase s n r) ≠ none

theorem ringStarted_other (other : s.unitState (.ring n r) ≠ 1) : ringStarted s n r = s := if_neg other

variable (starting : s.unitState (.ring n r) = 1)
include starting

theorem ringStarted_good (good : RingGood n r s) :
    ringStarted s n r = startDone (s.wr (ETH_RING_HEAD n r) ETH_RING_HEAD_HEAD 0) (.ring n r) := by
  obtain ⟨least, most, mapped⟩ := good
  unfold ringStarted
  dsimp only
  rw [if_pos starting, if_pos ⟨least, most, Option.isSome_iff_ne_none.2 mapped⟩]

theorem ringStarted_bad (bad : ¬ RingGood n r s) : ringStarted s n r = startFailed s (.ring n r) := by
  unfold ringStarted
  dsimp only
  rw [if_pos starting, if_neg fun ok => bad ⟨ok.1, ok.2.1, Option.isSome_iff_ne_none.1 ok.2.2⟩]

theorem ringStarted_on (begun : (s.unit (enAddr (.ring n r))).waiting = false) {t : State}
    (ht : t = startDone (s.wr (ETH_RING_HEAD n r) ETH_RING_HEAD_HEAD 0) (.ring n r)) :
    ringOn t n r = true ∧ ringHead t n r = 0 ∧ OnlyRegs [enAddr (.ring n r), ETH_RING_HEAD n r] s t := by
  have head := BusBut.wr s (ETH_RING_HEAD n r) ETH_RING_HEAD_HEAD 0
  have starting' : (s.wr (ETH_RING_HEAD n r) ETH_RING_HEAD_HEAD 0).unitState (.ring n r) = 1 :=
    (unitState_of_rget (head _ (by dsimp only [enAddr]; grind) (by dsimp only [enAddr]; grind))).trans starting
  have only := startDone_only (s.wr (ETH_RING_HEAD n r) ETH_RING_HEAD_HEAD 0) (.ring n r)
  subst ht
  refine ⟨startDone_on starting' ((unit_of_units (wr_units ..)).symm ▸ begun) rfl, ?_, ((onlyRegs_wr s _ _ 0).trans only).mono (by simp)⟩
  rw [ringHead, (BusBut.of_only only).rd _ (by dsimp only [enAddr]; grind), rd_wr_same _ _ _ _ (by decide) (by decide)]
  rfl

theorem ringStarted_failed {t : State} (ht : t = startFailed s (.ring n r)) :
    t.on (enAddr (.ring n r)) U_FAIL = true ∧ t.on (enAddr (.ring n r)) U_EN = false ∧ t.unitState (.ring n r) = 3 ∧
    OnlyRegs [enAddr (.ring n r)] s t := by
  rw [startFailed_ungroved (fun g e => by cases e) starting] at ht
  obtain ⟨stopping, fail, disabled⟩ := failed_result s (.ring n r) ht
  subst ht
  exact ⟨fail, disabled, stopping, ((onlyRegs_wr s _ U_FAIL 1).wr U_EN 0).wr U_STATE 3⟩

end Ring

end Sys2Proof.Machine
end

section
/-! What a DMA transfer of a system master leaves as it is (07 R190 to R193, 06 R155): the network ports and CAN controllers, and what was sent. -/

namespace Sys2Proof.Machine

open Sys2Proof

/-- Between s and t no register of a port or a CAN controller has changed, no port's record, and nothing was sent. -/
structure Beside (s t : State) : Prop where
  regs : BusBut [] s t
  net : t.net = s.net
  out : t.out = s.out

namespace Beside

variable {s t u : State}

theorem refl (s : State) : Beside s s := ⟨.refl s, rfl, rfl⟩

theorem trans (h : Beside s t) (k : Beside t u) : Beside s u := ⟨h.regs.trans k.regs, k.net.trans h.net, k.out.trans h.out⟩

theorem ite {p : Prop} [Decidable p] (h : Beside s t) (k : Beside s u) : Beside s (if p then t else u) := by split <;> assumption

theorem foldl {α : Type} {f : State → α → State} (hf : ∀ t x, Beside t (f t x)) (l : List α) (s : State) : Beside s (l.foldl f s) :=
  List.foldlRecOn l f (refl s) fun t ht x _ => ht.trans (hf t x)

theorem of_rest (r : t.regs = s.regs) (n : t.net = s.net) (o : t.out = s.out) : Beside s t := ⟨.of_regs r, n, o⟩

theorem wr (s : State) {a : Nat} (f : Fld) (v : Nat) (h : ¬ IsBus a) : Beside s (s.wr a f v) := ⟨.wr_other s f v h, rfl, rfl⟩

theorem bump (s : State) {a : Nat} (f : Fld) (n : Nat) (h : ¬ IsBus a) : Beside s (s.bump a f n) := wr s f _ h

theorem rset (s : State) {a : Nat} (w : Word) (h : ¬ IsBus a) : Beside s (s.rset a w) :=
  ⟨fun _ bus _ => rget_rset_ne s w fun e => h (e ▸ bus), rfl, rfl⟩

theorem raise (s : State) (source : Nat) {a : Nat} (f : Fld) (h : ¬ IsBus a) : Beside s (s.raise source a f) := by
  refine ⟨.raise_other s source f h, raise_net .., ?_⟩
  rw [raise_rest]

theorem event (s : State) (source bit reg : Nat) (detail : Word) : Beside s (s.event source bit reg detail) := by
  have only := enqueue_onlyRegsEvr s (evrRecord s source bit (reg - 0x0300000000) detail (evrSnap s (s.rd (EVR_TRIG source) EVR_TRIG_LIST)))
  rw [State.event]
  exact ⟨.of_onlyEvr only, by rw [only.1], by rw [only.1]⟩

theorem count (s : State) (ev : PmcEv) (n : Nat) : Beside s (s.count ev n) := ⟨.of_pmc (.count s ev n), count_net .., count_out ..⟩

/-! ### Gates (R190, R191) -/

theorem gateDenied (s : State) (k : AccKind) (x : Xfer) (a g code entry : Nat) (split : Bool) :
    Beside s (gateDenied s k x a g code entry split) := by
  unfold Machine.gateDenied
  dsimp only
  have counted := (count s { code := 0x22, mid := x.m, prv := x.prv, addr := a } 1).trans
    (bump (a := GATE_ERR_CNT g) _ GATE_ERR_CNT_COUNT 1 (by grind))
  generalize State.bump _ _ _ _ = t at counted ⊢
  refine counted.trans ?_
  have captured (w : Word) : Beside t (((t.wr64 (GATE_ERR_ADDR_LO g) (GATE_ERR_ADDR_HI g) a).rset (GATE_ERR_INFO g) w).raise 18
      (GATE_ERR_INFO g) GATE_ERR_INFO_VALID) :=
    (((rset (a := GATE_ERR_ADDR_LO g) t _ (by grind)).trans (rset (a := GATE_ERR_ADDR_HI g) _ _ (by grind))).trans
      (rset (a := GATE_ERR_INFO g) _ _ (by grind))).trans (raise _ _ _ (by grind))
  have recorded {v : State} (h : Beside t v) (p : Prop) [Decidable p] (w : Word) : Beside t (if p then v.event 18 31 (GATE_ERR_INFO g) w else v) :=
    ite (h.trans (event v _ _ _ _)) h
  have debug {v : State} (h : Beside t v) : Beside t (if code = 5 then v.raise 7 DBG_STATUS DBG_STATUS_ERR else v) :=
    ite (h.trans (raise v _ _ (by grind))) h
  exact debug (recorded (ite (captured _) (refl t)) _ _)

theorem present (s : State) (k : AccKind) (x : Xfer) (a n : Nat) (split : Bool) : Beside s (present s k x a n split).2 := by
  unfold Machine.present
  split
  · exact count s _ n
  · exact gateDenied ..
  · exact refl s

/-! ### Reads -/

theorem correctEcc (s : State) (a : Nat) : Beside s (correctEcc s a) := by
  have cleared : Beside s (s.eccClear a) := of_rest rfl rfl rfl
  unfold Machine.correctEcc
  dsimp only
  refine cleared.trans ?_
  generalize s.eccClear a = t
  split
  · exact (wr t _ _ (by grind)).trans (count _ _ _)
  · split
    · exact (wr t _ _ (by grind)).trans (raise _ _ _ (by grind))
    · exact refl t

theorem correctIn (s : State) (a n : Nat) : Beside s (correctIn s a n) := foldl (fun t _ => ite (correctEcc t _) (refl t)) _ s

theorem countSap (s : State) (x : Xfer) (cls : Nat) (wr : Bool) (a n : Nat) : Beside s (countSap s x cls wr a n) := by
  unfold Machine.countSap
  split
  · exact count s _ n
  · exact refl s

/-! ### Writes -/

theorem setImageWord (s : State) (c i : Nat) (w : DWord) : Beside s (setImageWord s c i w) := by
  have touched : Beside s (mapTouched s c) := by
    unfold mapTouched
    exact ite (wr s _ _ (by grind)) (refl s)
  unfold Machine.setImageWord
  dsimp only
  refine touched.trans ?_
  generalize mapTouched s c = t
  exact ite (of_rest rfl rfl rfl) (of_rest (setEntry_regs ..) (setEntry_net ..) (setEntry_out ..))

theorem setByte (s : State) (a : Nat) (b : Byte) : Beside s (s.setByte a b) := by
  unfold State.setByte
  split
  · exact refl s
  · exact refl s
  · exact refl s
  · exact setImageWord s _ _ _
  · exact of_rest rfl rfl rfl

theorem setBytes (s : State) (a : Nat) (l : List Byte) : Beside s (s.setBytes a l) := by
  induction l generalizing s a with
  | nil => exact refl s
  | cons b l ih => exact (setByte s a b).trans (ih _ _)

theorem eccWritten (s : State) (a n : Nat) : Beside s (eccWritten s a n) :=
  foldl (fun t _ => by split <;> [exact of_rest rfl rfl rfl; exact refl t]) _ s

theorem markDirty (s : State) (a : Nat) : Beside s (markDirty s a) := by
  have grove (t : State) (g : Nat) (r : Grove) : Beside t (t.setGrove g r) := of_rest rfl rfl rfl
  unfold Machine.markDirty
  split
  · dsimp only
    refine ite ?_ (refl s)
    generalize h : (if trackingP s _ = true then _ else s) = t
    have partner : Beside s t := h ▸ ite (grove s _ _) (refl s)
    exact ite partner (partner.trans ((grove t _ _).trans (count _ _ _)))
  · exact refl s

theorem writePiece (s : State) (x : Xfer) (a : Nat) (l : List Byte) (split : Bool) : Beside s (writePiece s x a l split).2 := by
  have presented := present s .write x a l.length split
  unfold Machine.writePiece
  split
  · next e => rwa [e] at presented
  · next tgt t e =>
    rw [e] at presented
    split
    · exact presented
    · exact presented.trans ((setBytes t a l).trans ((eccWritten _ _ _).trans ((countSap _ _ _ _ _ _).trans (markDirty _ _))))

theorem writePieces (s : State) (x : Xfer) (first : Bool) (l : List Byte) (ps : List (Nat × Nat)) : Beside s (writePieces s x first l ps).2 := by
  induction ps generalizing s first l with
  | nil => exact refl s
  | cons p ps ih =>
    have piece := writePiece s x p.1 (l.take p.2) (!first)
    unfold Machine.writePieces
    split
    · next e => rwa [e] at piece
    · next t e =>
      rw [e] at piece
      exact piece.trans (ih _ _ _)

theorem dmaWrite (s : State) (x : Xfer) (a : Nat) (l : List Byte) : Beside s (dmaWrite s x a l).2 := writePieces ..

end Beside

/-! ### A read that is not denied -/

/-- Between s and t neither memory nor anything of `Beside` has changed. -/
abbrev ReadOnly (s t : State) : Prop := Beside s t ∧ t.mem = s.mem

theorem correctEcc_mem (s : State) (a : Nat) : (correctEcc s a).mem = s.mem := by
  unfold correctEcc
  dsimp only
  split
  · rw [count_mem, bump_mem]
    rfl
  · split
    · rw [raise_mem, bump_mem]
      rfl
    · rfl

theorem correctIn_mem (s : State) (a n : Nat) : (correctIn s a n).mem = s.mem :=
  List.foldlRecOn (motive := fun t : State => t.mem = s.mem) _ _ rfl fun t ht i _ => by
    split
    · rw [correctEcc_mem, ht]
    · exact ht

theorem countSap_mem (s : State) (x : Xfer) (cls : Nat) (wr : Bool) (a n : Nat) : (countSap s x cls wr a n).mem = s.mem :=
  (SameContents.countSap s x cls wr a n).mem

theorem present_ok {s t : State} {k : AccKind} {x : Xfer} {a n : Nat} {split : Bool} {tgt : Target} (h : present s k x a n split = (.ok tgt, t)) :
    ∃ ev, t = s.count ev n := by
  unfold present at h
  split at h <;> cases h
  exact ⟨_, rfl⟩

theorem readPiece_readOnly {s t : State} {x : Xfer} {a n : Nat} {split : Bool} {l : List Byte} (h : readPiece s x a n split = (.ok l, t)) :
    ReadOnly s t := by
  unfold readPiece at h
  split at h
  · cases h
  · next tgt u e =>
    obtain ⟨ev, rfl⟩ := present_ok e
    dsimp only at h
    split at h <;> cases h
    refine ⟨(Beside.count s ev n).trans ((Beside.correctIn _ a n).trans (.countSap _ x 0 false a n)), ?_⟩
    rw [countSap_mem, correctIn_mem, count_mem]

theorem readPieces_readOnly {s t : State} {x : Xfer} {first : Bool} {ps : List (Nat × Nat)} {l : List Byte}
    (h : readPieces s x first ps = (l, none, t)) : ReadOnly s t := by
  induction ps generalizing s first l with
  | nil =>
    cases h
    exact ⟨.refl _, rfl⟩
  | cons p ps ih =>
    unfold readPieces at h
    split at h
    · cases h
    · next u piece =>
      dsimp only at h
      obtain ⟨beside, mem⟩ := readPiece_readOnly piece
      obtain ⟨beside', mem'⟩ := ih (Prod.ext rfl (Prod.mk.inj h).2)
      exact ⟨beside.trans beside', mem'.trans mem⟩

theorem dmaRead_readOnly {s t : State} {x : Xfer} {a n : Nat} {l : List Byte} (h : dmaRead s x a n = (l, none, t)) : ReadOnly s t :=
  readPieces_readOnly h

end Sys2Proof.Machine
end

section
/-! Errors and write-backs of a DMA ring, and transmission of a network port (12 R318, R320, R322, R323, R326; 02 R43). -/

namespace Sys2Proof.Machine

open Sys2Proof

/-! ### A ring's error stops it (R326) -/

section RingError

variable (n r : Nat) (s : State)

/-- The ring that the module stops. -/
abbrev ringUnit : UnitId := .ring (Fin.ofNat 4 n) (Fin.ofNat 16 r)

theorem ringStop_leaf : OnlyRegs [enAddr (ringUnit n r)] s (ringStop s n r) ∧ Down (ringUnit n r) (ringStop s n r) :=
  hwStop_leaf rfl (fun _ => rfl) s

theorem ringErr_only (bytes err index : Nat) (own : Bool) :
    OnlyRegsEvr [ETH_RING_ERR n r, enAddr (ringUnit n r), ETH_EVT n] s (ringErr s n r bytes err index own) :=
  ((onlyRegs_rset s (ETH_RING_ERR n r) _).trans (ringStop_leaf n r _).1).evr.trans (onlyRegsEvr_raise _ _ _ _)

theorem ringErr_net (bytes err index : Nat) (own : Bool) : (ringErr s n r bytes err index own).net = s.net := by
  rw [(ringErr_only n r s bytes err index own).1]

theorem ringErr_out (bytes err index : Nat) (own : Bool) : (ringErr s n r bytes err index own).out = s.out := by
  rw [(ringErr_only n r s bytes err index own).1]

end RingError

theorem ringErr_result (n : Fin 4) (r : Fin 16) (s : State) (bytes err index : Nat) (own : Bool) {t : State}
    (ht : t = ringErr s n r bytes err index own) :
    t.on (ETH_EVT n) ETH_EVT_RINGERR = true ∧ ringOn t n r = false ∧ t.net = s.net := by
  subst ht
  have unit : ringUnit n r = .ring n r :=
    congrArg₂ UnitId.ring (Fin.ext (Nat.mod_eq_of_lt n.isLt)) (Fin.ext (Nat.mod_eq_of_lt r.isLt))
  refine ⟨on_raise_bus _ _ (by grind) (by decide), ?_, ringErr_net ..⟩
  have stopped (w : Word) : (ringStop (s.rset (ETH_RING_ERR n r) w) n r).isOn (.ring n r) = false :=
    not_isOn_of_down (unit ▸ (ringStop_leaf n r (s.rset (ETH_RING_ERR n r) w)).2)
  have raised (v : State) : ringOn (ethEvt v n ETH_EVT_RINGERR) n r = v.isOn (.ring n r) :=
    congrArg (· == 2) ((BusBut.raise v (56 + n.val) (ETH_EVT n) ETH_EVT_RINGERR).rd (a := ETH_RING_EN n r) U_STATE (by grind))
  rw [ringErr, raised, stopped]

/-! ### A descriptor is written back (R320, R326) -/

/-- The registers that a write-back on ring r can change. -/
abbrev ringRegs (n r : Nat) : List Nat := [ETH_RING_HEAD n r, ETH_RDONE n, ETH_RING_ERR n r, enAddr (ringUnit n r), ETH_EVT n]

theorem writeBack_keeps (n r i : Nat) (d : List Byte) (s : State) :
    BusBut (ringRegs n r) s (writeBack s n r i d) ∧ (writeBack s n r i d).net = s.net ∧ (writeBack s n r i d).out = s.out := by
  have moved (t : State) : BusBut [ETH_RING_HEAD n r] t (headPast t n r i) := .wr t _ _ _
  unfold writeBack
  dsimp only
  split
  · next c a t e =>
    have written := Beside.dmaWrite s (netXfer s n 2) (ringBase s n r + 32 * i) (bytesPut d 12 [d.getD 12 0#8 &&& 0xFE#8])
    rw [e] at written
    obtain ⟨regs, net, out⟩ := written
    refine ⟨(regs.trans (.of_onlyEvr (ringErr_only n r t _ _ _ _))).mono (by simp), ?_, ?_⟩
    · rw [ringErr_net, net]
    · rw [ringErr_out, out]
  · next t e =>
    have written := Beside.dmaWrite s (netXfer s n 2) (ringBase s n r + 32 * i) (bytesPut d 12 [d.getD 12 0#8 &&& 0xFE#8])
    rw [e] at written
    obtain ⟨regs, net, out⟩ := written
    split
    · refine ⟨((regs.trans (moved t)).trans (.raise _ _ (ETH_RDONE n) _)).mono (by simp), ?_, ?_⟩
      · rw [raise_net, headPast, wr_net, net]
      · rw [raise_rest, headPast, wr_out, out]
    · refine ⟨(regs.trans (moved t)).mono (by simp), ?_, ?_⟩
      · rw [headPast, wr_net, net]
      · rw [headPast, wr_out, out]

/-! ### The fetch of a frame (R322) -/

section Fetch

variable {n : Fin 4} {q : Fin 8} {s : State}

/-- A ring of higher number has a frame to fetch. -/
abbrev HigherWants (n : Fin 4) (q : Fin 8) (s : State) : Prop := ∃ x, q.val < x ∧ x < 8 ∧ wantsFetch s n x = true

theorem higherWants_iff : ((List.range 8).any fun x => decide (q.val < x) && wantsFetch s n x) = true ↔ HigherWants n q s := by
  simp only [List.any_eq_true, List.mem_range, Bool.and_eq_true, decide_eq_true_eq, HigherWants]
  exact exists_congr fun x => by tauto

theorem txFetch_none (h : wantsFetch s n q = false ∨ HigherWants n q s) : txFetch n q s = s := if_pos (h.imp_right higherWants_iff.2)

variable (wants : wantsFetch s n q = true) (highest : ¬ HigherWants n q s) {d : List Byte} {t : State}
  (read : dmaRead s (netXfer s n 2) (ringBase s n q + 32 * ringHead s n q) 32 = (d, none, t))
include wants highest read

/-- Without OWN the ring stops with an error. -/
theorem txFetch_unowned (own : (d.getD 12 0#8).getLsbD 0 = false) : txFetch n q s = ringErr t n q 0 0 (ringHead s n q) true := by
  unfold txFetch
  dsimp only
  rw [if_neg (not_or.2 ⟨by rw [wants]; decide, fun h => highest (higherWants_iff.1 h)⟩), read]
  exact if_pos own

omit wants highest in
theorem unowned_result {u : State} (hu : u = ringErr t n q 0 0 (ringHead s n q) true) :
    u.on (ETH_EVT n) ETH_EVT_RINGERR = true ∧ ringOn u n q = false ∧ u.port n = s.port n := by
  obtain ⟨event, stopped, net⟩ := ringErr_result n ⟨q, by omega⟩ t 0 0 (ringHead s n q) true hu
  exact ⟨event, stopped, port_of_net (net.trans (dmaRead_readOnly read).1.net) n⟩

variable {l : List Byte} {u : State}

/-- The frame of a descriptor without launch time and checksum. -/
abbrev plainFrame (n : Fin 4) (q : Fin 8) (s : State) (d l : List Byte) : TxFrame := ⟨q, ringHead s n q, d, onWire l, none, true, false, 0#32⟩

theorem txFetch_plain (own : (d.getD 12 0#8).getLsbD 0 = true) (noLaunch : (d.getD 12 0#8).getLsbD 1 = false)
    (noCsum : (d.getD 12 0#8).getLsbD 3 = false)
    (data : dmaRead t (netXfer t n 2) (leVal (d.take 5)) (leVal ((d.drop 6).take 2)) = (l, none, u)) :
    txFetch n q s = u.setNet n fun p => { p with buf := p.buf ++ [plainFrame n q s d l] } := by
  unfold txFetch
  dsimp only
  rw [if_neg (not_or.2 ⟨by rw [wants]; decide, fun h => highest (higherWants_iff.1 h)⟩), read]
  dsimp only
  rw [if_neg (by rw [own]; decide), data, noLaunch, noCsum]
  rfl

omit wants highest in
theorem plain_result (data : dmaRead t (netXfer t n 2) (leVal (d.take 5)) (leVal ((d.drop 6).take 2)) = (l, none, u)) {v : State}
    (hv : v = u.setNet n fun p => { p with buf := p.buf ++ [plainFrame n q s d l] }) :
    v.port n = { s.port n with buf := (s.port n).buf ++ [plainFrame n q s d l] } ∧ v.mem = s.mem := by
  obtain ⟨beside, mem⟩ := dmaRead_readOnly read
  obtain ⟨beside', mem'⟩ := dmaRead_readOnly data
  subst hv
  refine ⟨?_, (setNet_mem ..).trans (mem'.trans mem)⟩
  rw [port_setNet, port_of_net (beside'.net.trans beside.net)]

end Fetch

/-! ### Launch times and the start of a transmission (R322; 02 R43) -/

section Start

variable {n : Fin 4} {s : State}

theorem launchElig_rest (n r : Nat) (s : State) : launchElig n r s = { s with net := (launchElig n r s).net } := rfl

theorem launchElig_buf (n r : Nat) {f : TxFrame} {x : Word} (one : (s.port n).buf = [f]) (launch : f.launch = some x) :
    ((launchElig n r s).port n).buf = [if f.ring = r ∧ launchDue s x then { f with elig := true } else f] := by
  rw [launchElig, port_setNet]
  dsimp only
  rw [one, List.map_singleton, launch]

section Launch

variable (n q : Nat) {f : TxFrame} {x : Word} (one : (s.port n).buf = [f]) (launch : f.launch = some x)
include one launch

theorem launchElig_due (ring : f.ring = q) (due : (x - s.short).toInt ≤ 0) {t : State} (ht : t = launchElig n q s) :
    (t.port n).buf = [{ f with elig := true }] ∧ t = { s with net := t.net } := by
  rw [ht, launchElig_buf n q one launch, if_pos ⟨ring, decide_eq_true due⟩]
  exact ⟨rfl, launchElig_rest n q s⟩

theorem launchElig_early (h : f.ring ≠ q ∨ 0 < (x - s.short).toInt) {t : State} (ht : t = launchElig n q s) :
    (t.port n).buf = [f] ∧ t = { s with net := t.net } := by
  rw [ht, launchElig_buf n q one launch, if_neg fun now => h.elim (· now.1) (not_lt.2 (of_decide_eq_true now.2))]
  exact ⟨rfl, launchElig_rest n q s⟩

end Launch

/-- A port that may start a frame: ON with its link, not paused, the medium free. -/
abbrev MayStart (n : Fin 4) (s : State) : Prop :=
  s.isOn (.eth n) = true ∧ s.on (ETH_STATUS n) ETH_STATUS_LINK = true ∧ s.on (ETH_STATUS n) ETH_STATUS_PAUSED = false ∧ (s.port n).medium = none

theorem txStart_none (h : ¬ MayStart n s ∨ txPick s n = none) : txStart n s = s := by
  unfold txStart
  split
  · rfl
  · next may =>
    simp only [not_or, Bool.not_eq_false, Bool.not_eq_true, Option.isSome_eq_false_iff, Option.isNone_iff_eq_none] at may
    rw [h.resolve_left (· may)]

/-- The frame picked, with the egress stamp of its start. -/
def started (n : Fin 4) (f : TxFrame) (s : State) : State :=
  s.setNet n fun p => { p with
    buf := p.buf.filter (fun g => g.ring != f.ring)
    medium := some { f with stamp := s.short + BitVec.ofNat 32 (s.rd (PTP_LAT n) PTP_LAT_EGRESS) } }

theorem txStart_picked {f : TxFrame} (may : MayStart n s) (pick : txPick s n = some f) : txStart n s = started n f s := by
  obtain ⟨on, link, running, idle⟩ := may
  unfold txStart
  rw [if_neg (by simp [on, link, running, idle]), pick]
  rfl

theorem started_result (f : TxFrame) {t : State} (ht : t = started n f s) : t = { s with net := t.net } ∧
    (t.port n).medium = some { f with stamp := s.short + BitVec.ofNat 32 (s.rd (PTP_LAT n) PTP_LAT_EGRESS) } ∧
    (t.port n).buf = (s.port n).buf.filter (fun g => g.ring != f.ring) := by
  subst ht
  refine ⟨rfl, ?_, ?_⟩ <;> rw [started, port_setNet]

end Start

/-! ### A frame has left (R320) -/

section Done

variable {n : Fin 4} {s : State}

theorem txDone_idle (idle : (s.port n).medium = none) : txDone n s = s := by rw [txDone, idle]

/-- The frame on the medium has left, and is counted. -/
def frameGone (n : Fin 4) (f : TxFrame) (s : State) : State :=
  ethCount (pmcPort ((s.setNet n fun p => { p with medium := none }).send (.eth n f.bytes)) (51 + n) true f.bytes.length) n 1

theorem txDone_sent {f : TxFrame} (sending : (s.port n).medium = some f) :
    ∃ d, txDone n s = writeBack (frameGone n f s) n f.ring f.index d := by
  unfold txDone
  rw [sending]
  exact ⟨_, rfl⟩

theorem frameGone_count (f : TxFrame) :
    (frameGone n f s).rd (ETH_CNT n 1) ETH_CNT_COUNT = min (2 ^ 32 - 1) (s.rd (ETH_CNT n 1) ETH_CNT_COUNT + 1) := by
  have sent : BusBut [] s (pmcPort ((s.setNet n fun p => { p with medium := none }).send (.eth n f.bytes)) (51 + n) true f.bytes.length) :=
    ((BusBut.setNet s n _).trans (.send _ _)).trans (.pmcPort _ _ _ _)
  rw [frameGone, ethCount, rd_bump _ _ ETH_CNT_COUNT _ (by decide), sent.rd _ (by grind)]
  rfl

theorem txDone_result {f : TxFrame} (sending : (s.port n).medium = some f) {t : State} (ht : t = txDone n s) :
    t.out = s.out ++ [.eth n f.bytes] ∧ (t.port n).medium = none ∧ (t.port n).buf = (s.port n).buf ∧
    t.rd (ETH_CNT n 1) ETH_CNT_COUNT = min (2 ^ 32 - 1) (s.rd (ETH_CNT n 1) ETH_CNT_COUNT + 1) := by
  obtain ⟨d, e⟩ := txDone_sent sending
  obtain ⟨regs, net, out⟩ := writeBack_keeps n f.ring f.index d (frameGone n f s)
  have port : t.port n = { s.port n with medium := none } := by
    rw [ht, e, port_of_net net, frameGone, ethCount, port_of_net (bump_net ..), port_of_net (pmcPort_net ..), port_of_net (send_net ..),
      port_setNet]
  refine ⟨?_, by rw [port], by rw [port], ?_⟩
  · rw [ht, e, out, frameGone, ethCount, bump_out, pmcPort_out]
    rfl
  · rw [ht, e, regs.rd _ (by dsimp only [ringRegs, enAddr]; grind), frameGone_count]

end Done

end Sys2Proof.Machine
end

section
/-! Reception of a network port, and the end of a pause (12 R318, R324, R325). -/

namespace Sys2Proof.Machine

open Sys2Proof

/-! ### What the filters read (R318, R324) -/

section Filters

variable {n : Fin 4} {s t : State} (h : BusBut [ETH_CNT n 0] s t) (l : List Byte)
include h

theorem ownMac_same : ownMac t n = ownMac s n := by
  rw [ownMac, h _ (by grind) (by grind), h.rd _ (by grind), ownMac]

theorem isPause_same : isPause t n l = isPause s n l := by rw [isPause, ownMac_same h, isPause]

theorem addrPass_same : addrPass t n l = addrPass s n l := by
  unfold addrPass
  rw [ownMac_same h, h.on _ (by grind), h.on _ (by grind)]

theorem classify_same : classify t n l = classify s n l := by
  unfold classify
  dsimp only
  have ring (f : Fld) : t.rd (ETH_CLS n) f = s.rd (ETH_CLS n) f := h.rd f (by grind)
  rw [ring, ring, ring, ring, h.rd (a := ETH_PCPMAP n) _ (by grind), h.on (a := ETH_PCPMAP n) _ (by grind)]

end Filters

theorem classify_lt (s : State) (n : Nat) (l : List Byte) : (classify s n l).2 < 8 := by
  have ring {f : Fld} (h : f.hi + 1 - f.lo = 3) : s.rd (ETH_CLS n) f < 8 := lt_of_lt_of_eq (bitsOf_lt _ f) (by rw [h]; rfl)
  unfold classify
  dsimp only
  split
  · exact ring rfl
  · split
    · exact ring rfl
    · split
      · exact Nat.mod_lt _ (by decide)
      · exact ring rfl

/-! ### A frame is dropped for want of a descriptor (R325) -/

section Drop

variable (n : Fin 4) {r : Nat} (s : State)

theorem rxDrop_only (r : Nat) : OnlyRegsEvr [ETH_RING_DROP n r, ETH_CNT n 4, ETH_EVT n] s (rxDrop s n r) :=
  ((onlyRegs_bump s (ETH_RING_DROP n r) _ 1).trans (onlyRegs_bump _ (ETH_CNT n 4) _ 1)).evr.trans (onlyRegsEvr_raise _ _ _ _)

theorem rxDrop_counts (hr : r < 16) :
    (rxDrop s n r).rd (ETH_CNT n 4) ETH_CNT_COUNT = min (2 ^ 32 - 1) (s.rd (ETH_CNT n 4) ETH_CNT_COUNT + 1) ∧
    (rxDrop s n r).rd (ETH_RING_DROP n r) ETH_RING_DROP_COUNT = min (2 ^ 32 - 1) (s.rd (ETH_RING_DROP n r) ETH_RING_DROP_COUNT + 1) := by
  have dropped : BusBut [ETH_RING_DROP n r] s (s.bump (ETH_RING_DROP n r) ETH_RING_DROP_COUNT 1) := .wr s _ _ _
  refine ⟨?_, ?_⟩ <;> rw [rxDrop, ethEvt, (BusBut.raise _ _ _ _).rd _ (by grind), ethCount]
  · rw [rd_bump _ _ ETH_CNT_COUNT _ (by decide), dropped.rd _ (by grind)]
    rfl
  · rw [State.rd, rget_bump_ne _ _ _ (by grind)]
    exact rd_bump s _ ETH_RING_DROP_COUNT 1 (by decide)

theorem rxDrop_event (r : Nat) : (rxDrop s n r).on (ETH_EVT n) ETH_EVT_RXDROP = true := on_raise_bus _ _ (by grind) (by decide)

theorem rxStore_none {n r cls : Nat} {stamp : Word} {l : List Byte} {s : State}
    (h : ringOn s n r = false ∨ ringHead s n r = ringTail s n r) : rxStore s n r cls stamp l = (false, rxDrop s n r) := if_pos h

end Drop

/-! ### What becomes of a frame (R318, R324, R325) -/

section Reception

variable {n : Fin 4} {l : List Byte} {s : State}

/-- The octets of a frame without its FCS. -/
abbrev content (l : List Byte) : List Byte := l.take (l.length - 4)

/-- A port that takes frames: ON, with its link. -/
abbrev Listening (n : Fin 4) (s : State) : Prop := s.isOn (.eth n) = true ∧ s.on (ETH_STATUS n) ETH_STATUS_LINK = true

/-- A frame that is too short or too long. -/
abbrev BadLength (n : Fin 4) (l : List Byte) (s : State) : Prop :=
  l.length < 64 ∨ s.rd (ETH_CFG n) ETH_CFG_MAXLEN + (if isTagged (content l) then 4 else 0) < l.length

/-- A frame whose FCS is right. -/
abbrev GoodFcs (l : List Byte) : Prop := leVal (l.drop (l.length - 4)) = (crc32 (content l)).toNat

/-- A PAUSE to this port. -/
abbrev Pause (n : Fin 4) (f : List Byte) (s : State) : Prop :=
  etherType f = 0x8808 ∧ be f 14 2 = 1 ∧ (be f 0 6 = 0x0180C2000001 ∨ f.take 6 = ownMac s n)

theorem isPause_iff (f : List Byte) : isPause s n f = true ↔ Pause n f s := by
  simp only [isPause, Bool.and_eq_true, Bool.or_eq_true, beq_iff_eq, Pause, and_assoc]

/-- A frame has come, and its octets are counted. -/
abbrev octetsCounted (n : Fin 4) (l : List Byte) (s : State) : State := pmcPort s (51 + n) false l.length

/-- A frame of good length and FCS has been counted. -/
abbrev goodCounted (n : Fin 4) (l : List Byte) (s : State) : State := ethCount (octetsCounted n l s) n 0

theorem octets_frame (n : Fin 4) (l : List Byte) (s : State) : BusBut [] s (octetsCounted n l s) := .pmcPort s _ _ _

theorem good_frame (n : Fin 4) (l : List Byte) (s : State) : BusBut [ETH_CNT n 0] s (goodCounted n l s) := (octets_frame n l s).trans (.wr _ _ _ _)

theorem rxFrame_deaf (h : s.isOn (.eth n) = false ∨ s.on (ETH_STATUS n) ETH_STATUS_LINK = false) : rxFrame n l s = s := if_pos h

theorem badLength_octets : BadLength n l (octetsCounted n l s) ↔ BadLength n l s := by rw [BadLength, (octets_frame n l s).rd _ (by grind)]

theorem not_deaf (listening : Listening n s) : ¬ (s.isOn (.eth n) = false ∨ s.on (ETH_STATUS n) ETH_STATUS_LINK = false) := by
  obtain ⟨on, link⟩ := listening
  rw [on, link]
  decide

theorem goodLength_octets (good : ¬ BadLength n l s) : ¬ BadLength n l (octetsCounted n l s) := fun bad => good (badLength_octets.1 bad)

theorem isPause_counted (f : List Byte) : isPause (goodCounted n l s) n f = true ↔ Pause n f s := by
  rw [isPause_same (good_frame n l s), isPause_iff]

variable (listening : Listening n s)
include listening

theorem rxFrame_length (bad : BadLength n l s) : rxFrame n l s = ethCount (octetsCounted n l s) n 3 :=
  (if_neg (not_deaf listening)).trans (if_pos (badLength_octets.2 bad))

variable (good : ¬ BadLength n l s)
include good

theorem rxFrame_fcs (bad : ¬ GoodFcs l) : rxFrame n l s = ethCount (octetsCounted n l s) n 2 :=
  (if_neg (not_deaf listening)).trans ((if_neg (goodLength_octets good)).trans (if_pos bad))

variable (fcs : GoodFcs l)
include fcs

/-- The port pauses until the frame's time is over. -/
def paused (n : Fin 4) (l : List Byte) (s : State) : State :=
  ((ethCount (goodCounted n l s) n 6).setNet n fun p =>
    { p with pauseEnd := (goodCounted n l s).clk.mono +
        (be (content l) 16 2 * 512 + (if n.val < 2 then 9 else 0)) / (if n.val < 2 then 10 else 1) }).flag
    (ETH_STATUS n) ETH_STATUS_PAUSED (be (content l) 16 2 != 0)

theorem rxFrame_pause (pause : Pause n (content l) s) (obeys : s.on (ETH_CFG n) ETH_CFG_PAUSE_RX = true) : rxFrame n l s = paused n l s := by
  refine (if_neg (not_deaf listening)).trans ((if_neg (goodLength_octets good)).trans ((if_neg (not_not.2 fcs)).trans ?_))
  exact (if_pos ((isPause_counted _).2 pause)).trans (if_pos (((good_frame n l s).on _ (by grind)).trans obeys))

variable (plain : ¬ Pause n (content l) s)
include plain

theorem rxFrame_address (other : addrPass s n (content l) = false) : rxFrame n l s = ethCount (goodCounted n l s) n 5 := by
  refine (if_neg (not_deaf listening)).trans ((if_neg (goodLength_octets good)).trans ((if_neg (not_not.2 fcs)).trans ?_))
  exact (if_neg fun h => plain ((isPause_counted _).1 h)).trans (if_pos ((addrPass_same (good_frame n l s) _).trans other))

theorem rxFrame_drop (passes : addrPass s n (content l) = true)
    (full : ringOn s n (8 + (classify s n (content l)).2) = false ∨
      ringHead s n (8 + (classify s n (content l)).2) = ringTail s n (8 + (classify s n (content l)).2)) :
    rxFrame n l s = rxDrop (goodCounted n l s) n (8 + (classify s n (content l)).2) := by
  have counted := good_frame n l s
  have below := classify_lt s n (content l)
  have full' : ringOn (goodCounted n l s) n (8 + (classify s n (content l)).2) = false ∨
      ringHead (goodCounted n l s) n (8 + (classify s n (content l)).2) = ringTail (goodCounted n l s) n (8 + (classify s n (content l)).2) := by
    rw [ringOn, ringHead, ringTail, counted.rd _ (by grind), counted.rd _ (by grind), counted.rd _ (by grind)]
    exact full
  refine (if_neg (not_deaf listening)).trans ((if_neg (goodLength_octets good)).trans ((if_neg (not_not.2 fcs)).trans ?_))
  have passes' : ¬ addrPass (goodCounted n l s) n (content l) = false := by
    rw [addrPass_same counted, passes]
    decide
  refine (if_neg fun h => plain ((isPause_counted _).1 h)).trans ((if_neg passes').trans ?_)
  rw [classify_same counted]
  dsimp only
  rw [rxStore_none full']
  exact if_neg fun h => Bool.false_ne_true h.2

end Reception

/-! ### The counts of a frame -/

section Counts

variable {n : Fin 4} (l : List Byte) (s : State)

/-- The frame is counted in counter i. -/
abbrev CountedIn (n : Fin 4) (s : State) (i : Nat) (t : State) : Prop :=
  t.rd (ETH_CNT n i) ETH_CNT_COUNT = min (2 ^ 32 - 1) (s.rd (ETH_CNT n i) ETH_CNT_COUNT + 1)

theorem ethCount_counts {t : State} (i : Nat) (same : t.rd (ETH_CNT n i) ETH_CNT_COUNT = s.rd (ETH_CNT n i) ETH_CNT_COUNT) :
    CountedIn n s i (ethCount t n i) := by
  rw [CountedIn, ethCount, rd_bump _ _ ETH_CNT_COUNT _ (by decide), same]
  rfl

theorem octets_kept : (octetsCounted n l s).mem = s.mem ∧ (octetsCounted n l s).port n = s.port n :=
  ⟨pmcPort_mem .., port_of_net (pmcPort_net ..) n⟩

theorem ethCount_kept (t : State) (i : Nat) : (ethCount t n i).mem = t.mem ∧ (ethCount t n i).port n = t.port n :=
  ⟨bump_mem .., port_of_net (bump_net ..) n⟩

theorem good_kept : (goodCounted n l s).mem = s.mem ∧ (goodCounted n l s).port n = s.port n := by
  obtain ⟨mem, port⟩ := octets_kept (n := n) l s
  obtain ⟨mem', port'⟩ := ethCount_kept (n := n) (octetsCounted n l s) 0
  exact ⟨mem'.trans mem, port'.trans port⟩

theorem octets_cnt {i : Nat} (hi : i < 8) : (octetsCounted n l s).rd (ETH_CNT n i) ETH_CNT_COUNT = s.rd (ETH_CNT n i) ETH_CNT_COUNT :=
  (octets_frame n l s).rd _ (by grind)

/-- A count leaves the other counters. -/
theorem ethCount_other {i k : Nat} (other : k ≠ i) (t : State) :
    (ethCount t n i).rd (ETH_CNT n k) ETH_CNT_COUNT = t.rd (ETH_CNT n k) ETH_CNT_COUNT :=
  rd_wr_reg _ _ _ _ (by unfold ETH_CNT; omega)

theorem good_cnt {i : Nat} (hi : i < 8) (other : i ≠ 0) :
    (goodCounted n l s).rd (ETH_CNT n i) ETH_CNT_COUNT = s.rd (ETH_CNT n i) ETH_CNT_COUNT :=
  (ethCount_other other _).trans (octets_cnt l s hi)

theorem ethCount_first {i : Nat} (other : 0 ≠ i) : CountedIn n s 0 (ethCount (goodCounted n l s) n i) :=
  (ethCount_other other _).trans (ethCount_counts s 0 (octets_cnt l s (by decide)))

theorem good_counts : CountedIn n s 0 (goodCounted n l s) :=
  ethCount_counts s 0 (octets_cnt l s (by decide))

/-- A frame of bad length or FCS is counted, and nothing is kept of it. -/
theorem dropped_result {i : Nat} (hi : i < 8) {t : State} (ht : t = ethCount (octetsCounted n l s) n i) :
    CountedIn n s i t ∧ t.mem = s.mem ∧ t.port n = s.port n := by
  obtain ⟨mem, port⟩ := octets_kept (n := n) l s
  obtain ⟨mem', port'⟩ := ethCount_kept (n := n) (octetsCounted n l s) i
  subst ht
  exact ⟨ethCount_counts s i (octets_cnt l s hi), mem'.trans mem, port'.trans port⟩

theorem address_result {t : State} (ht : t = ethCount (goodCounted n l s) n 5) :
    CountedIn n s 0 t ∧ CountedIn n s 5 t ∧ t.mem = s.mem ∧ t.port n = s.port n := by
  obtain ⟨mem, port⟩ := good_kept (n := n) l s
  obtain ⟨mem', port'⟩ := ethCount_kept (n := n) (goodCounted n l s) 5
  subst ht
  refine ⟨ethCount_first l s (by decide), ethCount_counts s 5 (good_cnt l s (by decide) (by decide)), ?_, ?_⟩
  · rw [mem', mem]
  · rw [port', port]

theorem drop_result {r : Nat} (hr : r < 16) {t : State} (ht : t = rxDrop (goodCounted n l s) n r) :
    CountedIn n s 0 t ∧ CountedIn n s 4 t ∧ (t.mem = s.mem ∧ t.port n = s.port n) ∧ t.on (ETH_EVT n) ETH_EVT_RXDROP = true ∧
    t.rd (ETH_RING_DROP n r) ETH_RING_DROP_COUNT = min (2 ^ 32 - 1) (s.rd (ETH_RING_DROP n r) ETH_RING_DROP_COUNT + 1) := by
  have only := rxDrop_only n (goodCounted n l s) r
  have first := good_frame n l s
  obtain ⟨mem, port⟩ := good_kept (n := n) l s
  obtain ⟨dropped, ring⟩ := rxDrop_counts n (goodCounted n l s) hr
  rw [first.rd _ (by grind)] at dropped ring
  subst ht
  refine ⟨((BusBut.of_onlyEvr only).rd _ (by grind)).trans (good_counts l s), dropped, ⟨?_, ?_⟩, rxDrop_event .., ring⟩
  · rw [only.1]
    exact mem
  · refine (port_of_net ?_ n).trans port
    rw [only.1]

theorem paused_result {t : State} (ht : t = paused n l s) :
    CountedIn n s 0 t ∧ CountedIn n s 6 t ∧ t.mem = s.mem ∧
    t.on (ETH_STATUS n) ETH_STATUS_PAUSED = decide (be (content l) 16 2 ≠ 0) ∧ (t.port n).buf = (s.port n).buf := by
  have first := ethCount_first (n := n) l s (i := 6) (by decide)
  have second : CountedIn n s 6 _ := ethCount_counts s 6 (good_cnt l s (by decide) (by decide))
  obtain ⟨mem, port⟩ := good_kept (n := n) l s
  obtain ⟨mem', port'⟩ := ethCount_kept (n := n) (goodCounted n l s) 6
  rw [paused] at ht
  generalize (goodCounted n l s).clk.mono + _ = till at ht
  have held : BusBut [ETH_STATUS n] (ethCount (goodCounted n l s) n 6) t :=
    ht ▸ ((BusBut.setNet _ n _).trans (.wr _ (ETH_STATUS n) _ _)).mono (by simp)
  have cnt {i : Nat} (hi : i < 8) : t.rd (ETH_CNT n i) ETH_CNT_COUNT = (ethCount (goodCounted n l s) n 6).rd (ETH_CNT n i) ETH_CNT_COUNT :=
    held.rd _ (by grind)
  refine ⟨(cnt (by decide)).trans first, (cnt (by decide)).trans second, ?_, ?_, ?_⟩
  · rw [ht, State.flag, wr_mem, setNet_mem, mem', mem]
  · rw [ht, State.flag, on_wr_same _ _ (by decide)]
    cases h : be (content l) 16 2 <;> rfl
  · rw [ht, State.flag, port_of_net (wr_net ..), port_setNet, port', port]

end Counts

/-! ### The end of a pause (R318) -/

section PauseEnd

variable (n : Fin 4) (s : State)

/-- Whether a frame that a pause held is late, and whether it is then dropped. -/
def heldLate (f : TxFrame) : Bool :=
  match f.launch with
  | some x => launchLate s x (s.rd (ETH_RING_CFG n f.ring) ETH_RING_CFG_LATE_TOL)
  | none => false

def heldDropped (f : TxFrame) : Bool := heldLate n s f && s.on (ETH_RING_CFG n f.ring) ETH_RING_CFG_LATE_DROP

/-- The frames that stay in the transmit buffer, those that are late marked. -/
def heldKept (l : List TxFrame) : List TxFrame :=
  (l.filter fun f => !heldDropped n s f).map fun f => if heldLate n s f then { f with late := true, elig := true } else f

variable {n s}

theorem pauseExpiry_none (h : s.on (ETH_STATUS n) ETH_STATUS_PAUSED = false ∨ s.clk.mono < (s.port n).pauseEnd) : pauseExpiry n s = s := if_pos h

theorem pauseExpiry_ended (paused : s.on (ETH_STATUS n) ETH_STATUS_PAUSED = true) (ended : (s.port n).pauseEnd ≤ s.clk.mono) :
    pauseExpiry n s = ((s.port n).buf.filter (heldDropped n s)).foldl (fun u f => dropLate u n f.ring f.index f.desc)
      ((s.wr (ETH_STATUS n) ETH_STATUS_PAUSED 0).setNet n fun p => { p with buf := heldKept n s p.buf }) := by
  rw [pauseExpiry, if_neg (not_or.2 ⟨by rw [paused]; decide, not_lt.2 ended⟩), ← port_of_net (wr_net s (ETH_STATUS n) ETH_STATUS_PAUSED 0)]
  rfl

variable (unlaunched : ∀ f ∈ (s.port n).buf, f.launch = none)
include unlaunched

theorem heldLate_unlaunched : ∀ f ∈ (s.port n).buf, heldLate n s f = false := fun f hf => by rw [heldLate, unlaunched f hf]

theorem heldDropped_unlaunched : ∀ f ∈ (s.port n).buf, heldDropped n s f = false := fun f hf => by
  rw [heldDropped, heldLate_unlaunched unlaunched f hf, Bool.false_and]

theorem heldKept_unlaunched : heldKept n s (s.port n).buf = (s.port n).buf := by
  have late := heldLate_unlaunched unlaunched
  have stays := heldDropped_unlaunched unlaunched
  rw [heldKept, List.filter_eq_self.2 fun f hf => by rw [stays f hf]; rfl, List.map_congr_left (g := id) fun f hf => by rw [late f hf]; rfl,
    List.map_id]

theorem pauseExpiry_result (paused : s.on (ETH_STATUS n) ETH_STATUS_PAUSED = true) (ended : (s.port n).pauseEnd ≤ s.clk.mono) {t : State}
    (ht : t = pauseExpiry n s) : t.on (ETH_STATUS n) ETH_STATUS_PAUSED = false ∧ (t.port n).buf = (s.port n).buf ∧
    OnlyRegs [ETH_STATUS n] { s with net := t.net } t := by
  have none_ : (s.port n).buf.filter (heldDropped n s) = [] :=
    List.filter_eq_nil_iff.2 fun f hf => Bool.eq_false_iff.1 (heldDropped_unlaunched unlaunched f hf)
  rw [pauseExpiry_ended paused ended, none_, List.foldl_nil] at ht
  subst ht
  refine ⟨?_, ?_, rfl, (onlyRegs_wr s _ _ _).2⟩
  · rw [(BusBut.setNet _ _ _).on _ (by grind), on_wr_same _ _ (by decide)]
    rfl
  · rw [port_setNet, port_of_net (wr_net ..)]
    exact heldKept_unlaunched unlaunched

end PauseEnd

end Sys2Proof.Machine
end

section
/-! The commands of the network ports, and the statement about ports and CAN controllers (12). -/

namespace Sys2Proof.Machine

open Sys2Proof

section Commands

variable (m : Master) (n : Fin 4) (r : Fin 16) (q : Fin 8) (v : Word) (l : List Byte) (s : State)

theorem exec_ethLinkUp : exec (.ethLinkUp n) s = .next (linkUp n s) := rfl
theorem exec_ethLinkDown : exec (.ethLinkDown n) s = .next (linkDown n s) := rfl
theorem exec_ringTailWrite : exec (.ringTailWrite m n r v) s = .next (tailWrite n r v s) := rfl
theorem exec_dmaRingStarted : exec (.dmaRingStarted n r) s = .next (ringStarted s n r) := rfl
theorem exec_txFetch : exec (.txFetch n q) s = .next (txFetch n q s) := rfl
theorem exec_launchEligible : exec (.launchEligible n q) s = .next (launchElig n q s) := rfl
theorem exec_txStart : exec (.txStart n) s = .next (txStart n s) := rfl
theorem exec_txDone : exec (.txDone n) s = .next (txDone n s) := rfl
theorem exec_rxFrame : exec (.rxFrame n l) s = .next (rxFrame n l s) := rfl
theorem exec_pauseExpiry : exec (.pauseExpiry n) s = .next (pauseExpiry n s) := rfl

end Commands

/-- Settles O55: for each command of a port and of a CAN controller, its cases and what each leaves. -/
theorem networkAndCanResults : Obligations.NetworkAndCanResults := by
  unfold Obligations.NetworkAndCanResults
  refine ⟨fun m n r q v l s => ?net, fun m n b j k inData dominant f since v s => ?can⟩
  case net =>
    dsimp only
    refine ⟨fun may => does_eq (exec_ethLinkUp n s) rfl (linkUp_result may rfl),
      fun off => does_eq (exec_ethLinkUp n s) (linkUp_off off) rfl,
      fun up => does_eq (exec_ethLinkDown n s) rfl (linkDown_result up rfl),
      fun off => does_eq (exec_ethLinkDown n s) (linkDown_off off) rfl,
      fun inside => does_eq (exec_ringTailWrite m n r v s) rfl (tailWrite_in inside rfl),
      fun outside => does_eq (exec_ringTailWrite m n r v s) (tailWrite_out outside) rfl,
      ⟨fun other => does_eq (exec_dmaRingStarted n r s) (ringStarted_other other) rfl,
        fun starting good begun => does_eq (exec_dmaRingStarted n r s) (ringStarted_good starting good) (ringStarted_on starting begun rfl),
        fun starting bad => does_eq (exec_dmaRingStarted n r s) (ringStarted_bad starting bad) (ringStarted_failed starting rfl)⟩,
      ⟨fun h => does_eq (exec_txFetch n q s) (txFetch_none h) rfl,
        fun d t wants highest read own =>
          does_eq (exec_txFetch n q s) (txFetch_unowned wants highest read own) (unowned_result read rfl),
        fun d t l u wants highest read own noLaunch noCsum data =>
          does_eq (exec_txFetch n q s) (txFetch_plain wants highest read own noLaunch noCsum data) (plain_result read data rfl)⟩,
      fun f x one launch => ⟨fun ring due => does_eq (exec_launchEligible n q s) rfl (launchElig_due n q one launch ring due rfl),
        fun early => does_eq (exec_launchEligible n q s) rfl (launchElig_early n q one launch early rfl)⟩,
      ⟨fun h => does_eq (exec_txStart n s) (txStart_none h) rfl,
        fun f may pick => does_eq (exec_txStart n s) (txStart_picked may pick) (started_result f rfl)⟩,
      fun idle => does_eq (exec_txDone n s) (txDone_idle idle) rfl,
      fun f sending => does_eq (exec_txDone n s) rfl (txDone_result sending rfl),
      ⟨fun deaf => does_eq (exec_rxFrame n l s) (rxFrame_deaf deaf) rfl,
        fun on link => ⟨fun bad => does_eq (exec_rxFrame n l s) (rxFrame_length ⟨on, link⟩ bad) (dropped_result l s (by decide) rfl),
          fun good bad => does_eq (exec_rxFrame n l s) (rxFrame_fcs ⟨on, link⟩ good bad) (dropped_result l s (by decide) rfl),
          fun good fcs pause obeys => does_eq (exec_rxFrame n l s) (rxFrame_pause ⟨on, link⟩ good fcs pause obeys) (paused_result l s rfl),
          fun good fcs plain other => does_eq (exec_rxFrame n l s) (rxFrame_address ⟨on, link⟩ good fcs plain other) (address_result l s rfl),
          fun good fcs plain passes full => does_eq (exec_rxFrame n l s) (rxFrame_drop ⟨on, link⟩ good fcs plain passes full)
            (drop_result l s (Nat.add_lt_add_left (classify_lt s n _) 8) rfl)⟩⟩,
      fun h => does_eq (exec_pauseExpiry n s) (pauseExpiry_none h) rfl,
      fun paused ended unlaunched => does_eq (exec_pauseExpiry n s) rfl (pauseExpiry_result unlaunched paused ended rfl)⟩
  case can =>
    dsimp only
    refine ⟨fun req => does_eq (exec_txreq m n b s) (canTxreq_standing n b req) rfl,
      fun free => ⟨fun timely => does_eq (exec_txreq m n b s) (canTxreq_timely n b free (timely.imp_right Bool.eq_false_iff.1))
          (requested_result n b s rfl),
        fun launch late drop => does_eq (exec_txreq m n b s) (canTxreq_dropped n b free launch late drop) (txEnd_ended _ n b (by decide)),
        fun launch late keep => does_eq (exec_txreq m n b s) (canTxreq_late n b free launch late keep)
          (late_result n b _ _ (requested_req n b s))⟩,
      fun free => does_eq (exec_txabort m n b s) (canTxabort_idle n b free) rfl,
      fun req => ⟨fun sending => does_eq (exec_txabort m n b s) (canTxabort_sending n b req sending) ⟨rfl, canSt_setCan s n _⟩,
        fun waiting => does_eq (exec_txabort m n b s) (canTxabort_waiting n b req waiting) (txEnd_ended s n b (by decide))⟩,
      fun no => does_eq (exec_canSelection n s) (canSelect_none no) rfl,
      fun live talks idle won => does_eq (exec_canSelection n s) (canSelect_winner live talks idle won) (selected_result rfl),
      canWinner_least,
      fun idle => ⟨does_eq (exec_canTxSuccess n since s) (canTxOk_idle since idle) rfl,
        does_eq (exec_canTxError n k inData dominant s) (canTxErr_idle k inData dominant idle) rfl⟩,
      fun sending plain => does_eq (exec_canTxSuccess n since s) (canTxOk_plain since sending plain) (canSent_result n b _ s rfl),
      fun sending => ⟨afterError_same k inData dominant sending, afterError_counted k inData dominant sending,
        afterError_busOff k inData dominant sending, afterError_aborted k inData dominant sending,
        afterError_request k inData dominant sending, fun ack => ack ▸ afterError_sixteenth inData dominant sending⟩,
      fun deaf => ⟨does_eq (exec_canRxFrame n f since s) (canRx_deaf f since deaf) rfl,
        does_eq (exec_canRxError n k dominant s) (canRxErr_deaf k dominant deaf) rfl⟩,
      fun live fd off => does_eq (exec_canRxFrame n f since s) (canRx_form since live fd off)
        ((rxError_result .form 1 rfl).imp_right And.right),
      fun live valid logOff =>
        ⟨fun unmatched => does_eq (exec_canRxFrame n f since s) (canRx_valid since live valid) (unmatched_result _ logOff unmatched rfl),
        fun matched => does_eq (exec_canRxFrame n f since s) (canRx_valid since live valid) (matched_result _ logOff matched)⟩,
      fun live => does_eq (exec_canRxError n k dominant s) (canRxErr_live k dominant live) (rxError_result k _ rfl),
      ⟨_, exec_canNewdatClear m n j v s, fun i hi => newdatClear_result n j v s rfl hi⟩,
      fun other => ⟨does_eq (exec_canBusoffRecovery n s) (busoffRecovered_idle other) rfl,
        does_eq (exec_canIntegration n s) (canIntegrate_idle other) rfl⟩,
      fun starting => ⟨_, exec_canBusoffRecovery n s, busoffRecovered_result starting rfl⟩,
      fun starting begun recovered =>
        does_eq (exec_canIntegration n s) (canIntegrate_starting starting begun recovered) (integrated_result starting begun rfl)⟩

end Sys2Proof.Machine
end

section
/-! The load check is sound (03 R52, R53): what passes it reaches only words that the check has let pass. -/

namespace Sys2Proof.Machine

open Sys2Proof

section LoadCheck

variable {s : State} {b len i : Nat}

/-- A failure that a result reports has a code other than 0. -/
def Coded (r : Except (Nat × Nat) ChkPath) : Prop := ∀ e, r = .error e → e.1 ≠ 0

theorem Coded.ok {p : ChkPath} : Coded (.ok p) := fun _ h => by cases h

theorem Coded.error {e : Nat × Nat} (h : e.1 ≠ 0) : Coded (.error e) := fun _ h' => by cases h'; exact h

theorem Coded.ite {c : Prop} [Decidable c] {r t : Except (Nat × Nat) ChkPath} (h : Coded r) (k : Coded t) : Coded (if c then r else t) := by
  split <;> assumption

/-- Every failure of a word has a code: 1 to 8 by the condition of R53 that it breaks. -/
theorem coded_chkWord (p : ChkPath) : Coded (chkWord s b len i p) := by
  have fails : ∀ {c j : Nat}, c ≠ 0 → Coded (.error (c, j)) := fun h => .error h
  unfold chkWord
  dsimp only
  refine .ite (fails (by decide)) <| .ite (fails (by decide)) <| .ite (fails (by decide)) <| .ite ?waitt <| .ite ?ring <| .ite ?pxch <|
    .ite .ok <| .ite ?rel <| .ite ?deadl <| .ite ?bar <| .ite ?hold <| .ite ?ogate <| .ite ?clear <| .ite ?end_ .ok
  case waitt => exact .ite (fails (by decide)) <| .ite (fails (by decide)) .ok
  case ring => exact .ite (fails (by decide)) .ok
  case pxch => exact .ite (.ite .ok (fails (by decide))) <| .ite (.ite .ok (fails (by decide))) <| .ite .ok (fails (by decide))
  case rel => exact .ite (fails (by decide)) <| .ite (fails (by decide)) .ok
  case deadl => exact .ite (fails (by decide)) .ok
  case bar => exact .ite (fails (by decide)) .ok
  case hold =>
    refine .ite (fails (by decide)) ?_
    split
    · exact fails (by decide)
    · exact .ite (fails (by decide)) .ok
  case ogate => exact .ite .ok (fails (by decide))
  case clear => exact .ite (fails (by decide)) <| .ite (fails (by decide)) .ok
  case end_ => exact .ite (fails (by decide)) <| .ite (fails (by decide)) <| .ite (fails (by decide)) .ok

/-- A word that the check lets pass is listed, with its reserved bits 0 and its operands in range. -/
theorem tqWordOk_of_chkWord_ok {p q : ChkPath} (h : chkWord s b len i p = .ok q) : tqWordOk (progWord s b i) = true := by
  by_contra bad
  rw [chkWord, if_pos (Bool.eq_false_iff.2 bad)] at h
  cases h

/-- Where a path goes on after word i (03 R52). -/
def nextWords (s : State) (b i : Nat) : List Nat :=
  let w := progWord s b i
  if tqOp w = 0x0C then [] else if tqOp w = 0x0E then [i + 1, i + wf w 5 0]
  else if tqOp w = 0x0F then [i + wf w 11 0] else [i + 1]

theorem tqReach_succ (s : State) (b fuel i : Nat) (seen : List Nat) : tqReach s b (fuel + 1) i seen =
    if seen.contains i then i :: tqReach s b fuel (i + 1) (nextWords s b i ++ seen) else tqReach s b fuel (i + 1) seen := rfl

/-- Some path that the check has followed from word i passed. -/
def Passes (s : State) (b len i : Nat) : Prop := ∃ fuel p, chkFrom s b len fuel i p = none

/-- The check ends without a failure, or reports one. -/
theorem chkFrom_error_code (fuel : Nat) {p : ChkPath} {e : Nat × Nat} (h : chkFrom s b len fuel i p = some e) : e.1 ≠ 0 := by
  induction fuel generalizing i p with
  | zero => cases h; decide
  | succ fuel ih =>
    rw [chkFrom] at h
    split at h
    · cases h; decide
    · split at h
      next e' failed => cases h; exact coded_chkWord p _ failed
      next q _ =>
        dsimp only at h
        split at h
        · cases h
        · split at h
          · split at h
            next e' failed => cases h; exact ih failed
            next => exact ih h
          · split at h
            · exact ih h
            · exact ih h

/-- A path that passes from word i has a good word there, and passes from every word at which it goes on. -/
theorem Passes.word_and_next (h : Passes s b len i) :
    tqWordOk (progWord s b i) = true ∧ ∀ j ∈ nextWords s b i, Passes s b len j := by
  obtain ⟨fuel, p, h⟩ := h
  cases fuel with
  | zero => cases h
  | succ fuel =>
    rw [chkFrom] at h
    split at h
    · cases h
    · split at h
      next => cases h
      next q passed =>
        refine ⟨tqWordOk_of_chkWord_ok passed, ?_⟩
        dsimp only at h
        unfold nextWords
        dsimp only
        split at h
        next op => rw [if_pos op]; exact List.forall_mem_nil _
        next end_ =>
          rw [if_neg end_]
          split at h
          next op =>
            rw [if_pos op]
            split at h
            next => cases h
            next through => exact List.forall_mem_cons.2 ⟨⟨fuel, q, through⟩, List.forall_mem_singleton.2 ⟨fuel, q, h⟩⟩
          next branch =>
            rw [if_neg branch]
            split at h
            next op => rw [if_pos op]; exact List.forall_mem_singleton.2 ⟨fuel, q, h⟩
            next jump => rw [if_neg jump]; exact List.forall_mem_singleton.2 ⟨fuel, q, h⟩

/-- Where every word seen lies on a path that passes, so does every word reached. -/
theorem tqWordOk_of_mem_tqReach {j : Nat} (fuel i : Nat) (seen : List Nat) (h : ∀ k ∈ seen, Passes s b len k)
    (hj : j ∈ tqReach s b fuel i seen) : tqWordOk (progWord s b j) = true := by
  induction fuel generalizing i seen with
  | zero => cases hj
  | succ fuel ih =>
    rw [tqReach_succ] at hj
    split at hj
    next here =>
      obtain ⟨good, onward⟩ := (h i (List.contains_iff_mem.1 here)).word_and_next
      rcases List.mem_cons.1 hj with rfl | hj
      · exact good
      · exact ih (i + 1) _ (fun k hk => (List.mem_append.1 hk).elim (onward k) (h k)) hj
    next => exact ih (i + 1) seen h hj

/-- A bank that passes the load check passes on a path from word 0. -/
theorem passes_of_loadCheck (h : loadCheck s b = (0, 0)) : Passes s b (s.rd (TSQ_LEN b) TSQ_LEN_LEN * 1000) 0 := by
  unfold loadCheck at h
  split at h
  next e failed => subst h; exact absurd rfl (chkFrom_error_code _ failed)
  next passed => exact ⟨_, _, passed⟩

end LoadCheck

/-- Settles O41: the check follows every path, so it has met each word that a path reaches. -/
theorem loadCheckSound : Obligations.LoadCheckSound := by
  unfold Obligations.LoadCheckSound
  intro s b i passed reached
  exact tqWordOk_of_mem_tqReach 4096 0 [0] (List.forall_mem_singleton.2 (passes_of_loadCheck passed)) reached

end Sys2Proof.Machine
end

section
/-! Control words of the tick program: words that stall, the end of a stall, and what the other words do (03 R47, R50, R52, R58, R60, R69;
10 R275, R278). -/

namespace Sys2Proof.Machine

open Sys2Proof

section Stalls

variable {s : State} (running : s.on TSQ_STATUS TSQ_STATUS_RUNNING = true) (going : s.seq.ended = false)
include running going

theorem seqReady_of : seqReady s = true := by rw [seqReady, running, going]; rfl

/-- The first word after a stall issues where the stall leaves the sequencer. -/
theorem cycled_stallRelease (f : State → State) (n : State → Nat) :
    Cycled (n (stallRelease s)) (f (stallRelease s)) (seqIssue f n s) := by
  rw [seqIssue, if_pos (seqReady_of running going)]
  exact cycled_seqCycle _ _

variable (unstalled : s.seq.stall = none)
include unstalled

theorem cycled_seqIssue (f : State → State) (n : State → Nat) : Cycled (n s) (f s) (seqIssue f n s) := by
  rw [seqIssue_unstalled running going unstalled]
  exact cycled_seqCycle _ _

/-- A word that need not wait goes on. -/
theorem seqStall_goes (w : Stall) {done : State → Bool} (h : done s = true) : Cycled 1 s (seqStall w done s) := by
  have free : stallRelease s = s := by rw [stallRelease, unstalled]
  rw [seqStall, if_pos (seqReady_of running going)]
  dsimp only
  rw [free, if_pos h]
  exact cycled_seqCycle 1 s

/-- A word whose condition has not come stalls. -/
theorem seqStall_waits (w : Stall) {done : State → Bool} (h : done s = false) : Stalled w s (seqStall w done s) := by
  have free : stallRelease s = s := by rw [stallRelease, unstalled]
  rw [seqStall, if_pos (seqReady_of running going)]
  dsimp only
  rw [free, if_neg (Bool.eq_false_iff.1 h)]
  exact ⟨(onlyRegs_wr _ _ _ _).1, on_wr_same _ _, rd_wr_fld _ _ _ _ _ (by decide) (by decide) (by decide) (by decide),
    fun a ha => rget_wr_ne _ _ _ ha⟩

end Stalls

/-- A stall at WAITT ends at its time, and the sequencer stands at the next word. -/
theorem stallRelease_waitt {s : State} {t : Nat} (h : s.seq.stall = some (.waitt t)) (early : s.clk.trel ≤ t * 100) :
    (stallRelease s).clk.trel = t * 100 ∧ (stallRelease s).clk.half = s.clk.half ∧ (stallRelease s).seq.stall = none ∧
    (stallRelease s).rd TSQ_PC TSQ_PC_PC = (s.rd TSQ_PC TSQ_PC_PC + 1) % 4096 ∧ (stallRelease s).rd TSQ_PC TSQ_PC_STALLED = 0 := by
  have waited : (stallWait s (.waitt t)).rget TSQ_PC = s.rget TSQ_PC := (TimeOnly.advance _ s).regs TSQ_PC (by decide) (by decide)
  have release : stallRelease s =
      pcStep (((stallWait s (.waitt t)).setSeq fun q => { q with stall := none }).wr TSQ_PC TSQ_PC_STALLED 0) 1 := by
    rw [stallRelease, h]
  rw [release]
  refine ⟨?_, advance_half _ s, rfl, ?_, ?_⟩
  · exact (advance_trel _ s).trans (by omega)
  · rw [rd_pcStep, rd_wr_fld _ _ _ _ _ (by decide) (by decide) (by decide) (by decide)]
    exact congrArg (fun w => (bitsOf w TSQ_PC_PC + 1) % 4096) waited
  · rw [stalled_pcStep, rd_wr_same _ _ _ _ (by decide) (by decide)]
    rfl

/-- DEADL sets the budget and the action of its class and no other's (03 R58). -/
theorem deadlSet_result (c : Nat) (stop : Bool) (b : Nat) (s : State) :
    deadlSet c stop b s = { s with seq := { s.seq with deadl := (deadlSet c stop b s).seq.deadl } } ∧
    deadlOf (deadlSet c stop b s) c = ⟨b * 128, stop⟩ ∧ ∀ d, d ≠ c → deadlOf (deadlSet c stop b s) d = deadlOf s d :=
  ⟨rfl, amGet_amSet_same _ _ _, fun _ h => amGet_amSet_ne _ _ h⟩

/-- END with RUN = 0 stops the sequencer (03 R52). -/
theorem endNow_stops {s : State} (h : s.on TSQ_CTRL TSQ_CTRL_RUN = false) :
    (endNow s).on TSQ_STATUS TSQ_STATUS_RUNNING = false ∧ OnlyRegs [TSQ_STATUS] { s with seq := { s.seq with ended := true } } (endNow s) := by
  have e : endNow s = ({ s with seq := { s.seq with ended := true } } : State).wr TSQ_STATUS TSQ_STATUS_RUNNING 0 :=
    if_neg (Bool.eq_false_iff.1 h)
  rw [e]
  exact ⟨on_wr_same _ _, onlyRegs_wr _ _ _ _⟩

/-- CALLH to a busy helper is dropped and shown (03 R50). -/
theorem callHelper_busy {s : State} (n : Nat) (h : (s.core 0x48).run = .run) :
    OnlyRegsEvr [TSQ_STATUS] s (callHelper n s) ∧ (callHelper n s).on TSQ_STATUS TSQ_STATUS_HELPER_BUSY = true := by
  have e : callHelper n s = s.raise 1 TSQ_STATUS TSQ_STATUS_HELPER_BUSY := if_pos h
  rw [e]
  exact ⟨onlyRegsEvr_raise _ _ _ _, on_raise_same _ _ _ (by decide) (by decide)⟩

/-- CALLH starts the routine on the helper (03 R50). -/
theorem callHelper_starts {s : State} (n : Nat) (h : (s.core 0x48).run ≠ .run) :
    ((callHelper n s).core 0x48).run = .run ∧ ((callHelper n s).core 0x48).routine = some n ∧
    callHelper n s = { s with cores := (callHelper n s).cores, free := s.free + 1 } ∧
    ∀ k, k ≠ 0x48 → (callHelper n s).core k = s.core k := by
  have e : callHelper n s = s.takeFree.2.setCore 0x48
      { s.takeFree.2.core 0x48 with run := .run, routine := some n, pc := pcMask s.takeFree.1 } := if_neg h
  rw [e]
  refine ⟨?_, ?_, rfl, fun k hk => core_setCore_ne _ _ hk⟩ <;> rw [core_setCore_same]

/-- Settles O35: every word issues through `seqIssue` or `seqStall`, so what is left is the effect of each and the condition of each stall. -/
theorem sequencerControl : Obligations.SequencerControl := by
  unfold Obligations.SequencerControl
  intro t20 mask c stop mm pp o6 o12 n s running going
  refine ⟨fun unstalled => ?words, fun stalled early => ?release⟩
  case release =>
    obtain ⟨trel, half, free, pc, stalledBit⟩ := stallRelease_waitt stalled early
    have next := cycled_stallRelease running going id fun _ => 1
    refine ⟨_, rfl, ?_, ?_, ?_, ?_⟩
    · rw [← trel, ← half]
      exact next.time
    · rw [← free]
      exact congrArg (fun u => u.seq.stall) next.rest
    · refine next.pc.trans ?_
      rw [id, pc]
      omega
    · exact (beq_eq_false_iff_ne.2 (next.stalled.trans stalledBit ▸ Nat.zero_ne_one))
  case words =>
    have one := cycled_seqOne running going unstalled
    have some_ := cycled_seqIssue running going unstalled
    have goes := fun w done => @seqStall_goes s running going unstalled w done
    have waits := fun w done => @seqStall_waits s running going unstalled w done
    have word : ∀ {i : Instr} {f : State → State}, exec i s = .next (seqOne f s) → f s = s → Does i s (Cycled 1 s) :=
      fun meaning idle => does_word meaning (one _) idle fun _ => id
    refine ⟨word rfl rfl, fun due => ?waittDue, fun early => ?waittEarly, fun hit => ?btickHit, fun miss => ?btickMiss, ?jump,
      fun run => ?endRun, fun stopped => ?endStop, fun free => ?deadlFree, fun locked => ?deadlLocked, fun done => ?barDone,
      fun w locked busy wait early => ?barWaits, fun done => ?inagreeDone, fun locked running => ?inagreeWaits, fun done => ?outdigDone,
      fun locked own par early => ?outdigWaits, fun busy => ?helperBusy, fun idle => ?helperStarts⟩
    case waittDue => exact ⟨_, rfl, goes _ _ (decide_eq_true due)⟩
    case waittEarly => exact ⟨_, rfl, waits _ _ (decide_eq_false (Nat.not_le.2 early))⟩
    case btickHit =>
      have step := some_ id fun s => if s.seq.tick % mm.toNat = pp.toNat then 1 else o6.toNat
      rw [if_pos hit] at step
      exact ⟨_, rfl, step⟩
    case btickMiss =>
      have step := some_ id fun s => if s.seq.tick % mm.toNat = pp.toNat then 1 else o6.toNat
      rw [if_neg miss] at step
      exact ⟨_, rfl, step⟩
    case jump => exact ⟨_, rfl, some_ id fun _ => o12.toNat⟩
    case endRun =>
      have e : endNow s = { s with seq := { s.seq with ended := true } } := if_pos run
      exact ⟨_, rfl, e ▸ some_ endNow fun _ => 0⟩
    case endStop => exact ⟨_, rfl, _, some_ endNow fun _ => 0, endNow_stops stopped⟩
    case deadlFree => exact word rfl (inLocked_free _ free)
    case deadlLocked => exact does_word rfl (one _) (inLocked_locked _ locked) fun _ h => ⟨_, h, deadlSet_result c stop t20.toNat s⟩
    case barDone =>
      refine ⟨_, rfl, goes _ _ ?_⟩
      rcases done with h | h <;> simp [h]
    case barWaits =>
      refine ⟨_, rfl, waits _ _ ?_⟩
      simp [locked, busy, wait, early]
    case inagreeDone =>
      refine ⟨_, rfl, goes _ _ ?_⟩
      rcases done with h | h <;> simp [h]
    case inagreeWaits =>
      refine ⟨_, rfl, waits _ _ ?_⟩
      simp [locked, running]
    case outdigDone =>
      refine ⟨_, rfl, goes _ _ ?_⟩
      rcases done with h | h | h | h
      · simp [h]
      · simp [h]
      · simp [Option.isSome_iff_ne_none.2 h]
      · simp [outendNs, h]
    case outdigWaits =>
      have notYet : decide (outendNs s ≤ s.clk.trel) = false := decide_eq_false (Nat.not_le.2 early)
      refine ⟨_, rfl, waits _ _ ?_⟩
      simp [locked, Option.isNone_eq_false_iff, Option.isSome_iff_ne_none, own, par, notYet]
    case helperBusy => exact does_word rfl (one _) rfl fun _ h => ⟨_, h, callHelper_busy n busy⟩
    case helperStarts => exact does_word rfl (one _) rfl fun _ h => ⟨_, h, callHelper_starts n idle⟩

end Sys2Proof.Machine
end

section
/-! A new activation of a class (03 R56; 05 R140; 06 R168). -/

namespace Sys2Proof.Machine

open Sys2Proof

/-- A task as a new activation finds it on an engine that its class runs on. -/
def released (usable : Bool) (t : Task) : Task :=
  { t with st := if usable then .ready else .ended, fresh := true, cyc := 0, actCyc := 0, overrun := false, trapped := false }

theorem classEng_congr {s t : State} (h : t.regs = s.regs) (c e : Nat) : classEng t c e = classEng s c e := by
  unfold classEng State.bank State.rd State.rget
  rw [h]

/-- The tasks of class c start anew on the engines of its mask. -/
def releaseTasks (s : State) (c : Nat) : State :=
  (List.range 64).foldl (fun t e => if classEng t c e then t.setTask e c (released (engUsable t e) (t.task e c)) else t) s

/-- The activation that a release makes live. -/
def activated (s : State) (c : Nat) : State := (s.setAct c ⟨true, s.seq.tick, s.seq.newest, 0⟩).count { code := 0x40, cls := c } 1

theorem activate_eq (s : State) (c : Nat) : activate s c = releaseTasks (activated s c) c := rfl

theorem onlyTasks_releaseTasks (s : State) (c : Nat) : OnlyTasks s (releaseTasks s c) := by
  refine List.foldlRecOn (motive := fun t => OnlyTasks s t) _ _ rfl fun t ht e _ => ?_
  split
  · exact ht.trans rfl
  · exact ht

theorem task_releaseTasks (s : State) {c e : Nat} (hc : c < 16) (he : e < 64) :
    (releaseTasks s c).task e c = if classEng s c e then released (engUsable s e) (s.task e c) else s.task e c := by
  refine foldl_at List.nodup_range (List.mem_range.2 he) (fun t : State => t.task e c)
    (fun x => if classEng s c e then released (engUsable s e) x else x) (I := fun t : State => t.regs = s.regs) rfl
    (fun t ht i _ => ?_) (fun t _ i _ ne => ?_) fun t ht => ?_
  · split <;> exact ht
  · split
    · rw [task_setTask _ _ _ _ hc hc, if_neg fun h => ne h.1.symm]
    · rfl
  · rw [classEng_congr ht, engUsable_congr ht]
    split
    · rw [task_setTask_same]
    · rfl

theorem task_releaseTasks_other (s : State) {c d e : Nat} (hc : c < 16) (hd : d < 16) (ne : d ≠ c) :
    (releaseTasks s c).task e d = s.task e d := by
  refine List.foldlRecOn (motive := fun t : State => t.task e d = s.task e d) _ _ rfl fun t ht i _ => ?_
  split
  · rw [task_setTask _ _ _ _ hc hd, if_neg fun h => ne h.2, ht]
  · exact ht

theorem activated_rest (s : State) (c : Nat) : activated s c = { s with regs := (activated s c).regs, acts := (activated s c).acts } := by
  obtain ⟨r, e, -⟩ := count_only (s.setAct c ⟨true, s.seq.tick, s.seq.newest, 0⟩) { code := 0x40, cls := c } 1
  rw [activated, e]
  rfl

theorem rget_activated (s : State) (c : Nat) {a : Nat} (h : isPmc a = false) : (activated s c).rget a = s.rget a :=
  (rget_count _ _ _ h).trans rfl

theorem act_activated (s : State) (c d : Nat) :
    (activated s c).act d = if d = c then ⟨true, s.seq.tick, s.seq.newest, 0⟩ else s.act d := by
  rw [State.act, activated, count_acts]
  exact amGet_amSet (d := fun _ => Act.idle) s.acts c d ⟨true, s.seq.tick, s.seq.newest, 0⟩

theorem isPmc_engine_register {e : Nat} (he : e < 64) :
    isPmc (GRV_EN (e / 8)) = false ∧ isPmc (GRV_STATUS (e / 8)) = false ∧ isPmc (ENG_STATUS e) = false := by
  simp only [isPmc, GRV_EN, GRV_STATUS, ENG_STATUS, Bool.and_eq_false_iff, decide_eq_false_iff_not]
  omega

theorem engUsable_activated (s : State) (c : Nat) {e : Nat} (he : e < 64) : engUsable (activated s c) e = engUsable s e := by
  obtain ⟨en, grove, status⟩ := isPmc_engine_register he
  simp only [engUsable, State.on, State.rd, rget_activated s c en, rget_activated s c grove, rget_activated s c status]

theorem classEng_activated (s : State) {c : Nat} (hc : c < 16) (e : Nat) : classEng (activated s c) c e = classEng s c e := by
  have bank : (activated s c).bank = s.bank := congrArg (bitsOf · _) (rget_activated s c (by decide))
  have lt : s.bank < 2 := bitsOf_lt _ _
  have lo : isPmc (TSQ_CLASS_ENG_LO s.bank c) = false := by
    simp only [isPmc, TSQ_CLASS_ENG_LO, Bool.and_eq_false_iff, decide_eq_false_iff_not]
    omega
  have hi : isPmc (TSQ_CLASS_ENG_HI s.bank c) = false := by
    simp only [isPmc, TSQ_CLASS_ENG_HI, Bool.and_eq_false_iff, decide_eq_false_iff_not]
    omega
  rw [classEng, classEng, bank, rget_activated s c lo, rget_activated s c hi]

theorem task_activate (s : State) {c d e : Nat} (hc : c < 16) (hd : d < 16) (he : e < 64) :
    (activate s c).task e d = if d = c ∧ classEng s c e = true then released (engUsable s e) (s.task e d) else s.task e d := by
  have tasks : (activated s c).task e d = s.task e d := by rw [State.task, activated, count_tasks]; rfl
  rw [activate_eq]
  by_cases h : d = c
  · subst h
    rw [task_releaseTasks _ hc he, classEng_activated s hc, engUsable_activated s d he, tasks]
    exact if_congr (by simp) rfl rfl
  · rw [task_releaseTasks_other _ hc hd h, if_neg fun k => h k.1, tasks]

theorem activate_rest (s : State) (c : Nat) :
    activate s c = { s with regs := (activate s c).regs, tasks := (activate s c).tasks, acts := (activate s c).acts } := by
  have only := onlyTasks_releaseTasks (activated s c) c
  rw [activate_eq]
  generalize releaseTasks (activated s c) c = t at only ⊢
  rw [OnlyTasks, activated_rest] at only
  rw [only]

/-- Settles O38: a release marks the activation, counts it, and starts its tasks anew engine by engine. -/
theorem activationStarts : Obligations.ActivationStarts := by
  unfold Obligations.ActivationStarts
  intro s c hc
  have only := onlyTasks_releaseTasks (activated s c) c
  have act : ∀ d, (activate s c).act d = if d = c then ⟨true, s.seq.tick, s.seq.newest, 0⟩ else s.act d := fun d => by
    rw [← act_activated, activate_eq, State.act, only, State.act]
  dsimp only
  refine ⟨(act c).trans (if_pos rfl), fun d hd => (act d).trans (if_neg hd), fun e he on => ?_, fun e d he hd h => ?_, activate_rest s c,
    fun a ha => ?_⟩
  · rw [task_activate s hc hc he, if_pos ⟨rfl, on⟩]
    exact ⟨rfl, rfl, rfl, rfl, rfl, rfl, rfl⟩
  · rw [task_activate s hc hd he, if_neg fun k => h.elim (fun ne => ne k.1) fun off => Bool.false_ne_true (off.symm.trans k.2)]
  · rw [activate_eq, rget_of_regs only.regs, rget_activated s c ha]

end Sys2Proof.Machine
end

section
/-! YIELD and ENDTASK (05 R146; 03 R58, R61, R62). -/

namespace Sys2Proof.Machine

open Sys2Proof

/-! ### Writes of a context save -/

/-- The writes of a context save, each made by a function g. -/
def savesBy (g : State → Nat → Nat → Nat → Nat → Nat → Nat → EngAns × State) (s : State) (e part tctx : Nat) :
    List (Nat × DWord) → EngAns × State
  | [] => (.ok 0, s)
  | (o, w) :: rest =>
    match g s e 1 part (tctx + o) 8 w.toNat with
    | (.ok _, t) => savesBy g t e part tctx rest
    | (a, t) => (a, t)

/-- A context save makes its writes by engWrite. Its definition is unfolded under variables, as for engWrite_admitted. -/
theorem ctxWrites_eq : ctxWrites = savesBy engWrite := by
  suffices key : ∀ f, f = ctxWrites → f = savesBy engWrite from key _ rfl
  intro f hf
  delta ctxWrites ctxWrites._f at hf
  obtain ⟨g, hg⟩ : ∃ g, g = engWrite := ⟨_, rfl⟩
  rw [← hg] at hf ⊢
  subst hf
  delta savesBy
  rfl

/-- Between s and t no task and no processor has changed. -/
structure SameRun (s t : State) : Prop where
  tasks : t.tasks = s.tasks
  cores : t.cores = s.cores

namespace SameRun

variable {s t u : State}

theorem refl (s : State) : SameRun s s := ⟨rfl, rfl⟩

theorem trans (h : SameRun s t) (k : SameRun t u) : SameRun s u := ⟨k.tasks.trans h.tasks, k.cores.trans h.cores⟩

theorem task (h : SameRun s t) (e c : Nat) : t.task e c = s.task e c := by rw [State.task, h.tasks, State.task]

theorem core (h : SameRun s t) (n : Nat) : t.core n = s.core n := by rw [State.core, h.cores, State.core]

theorem count (s : State) (ev : PmcEv) (k : Nat) : SameRun s (s.count ev k) := ⟨count_tasks s ev k, count_cores s ev k⟩

theorem wr (s : State) (a : Nat) (f : Fld) (v : Nat) : SameRun s (s.wr a f v) := ⟨wr_tasks s a f v, wr_cores s a f v⟩

theorem setAct (s : State) (c : Nat) (a : Act) : SameRun s (s.setAct c a) := ⟨setAct_tasks s c a, setAct_cores s c a⟩

theorem ite {p : Prop} [Decidable p] (h : SameRun s t) (k : SameRun s u) : SameRun s (if p then t else u) := by split <;> assumption

theorem setImageWord (s : State) (c i : Nat) (w : DWord) : SameRun s (setImageWord s c i w) := by
  have touched : SameRun s (mapTouched s c) := ite (wr _ _ _ _) (refl s)
  exact ite (touched.trans ⟨rfl, rfl⟩) (touched.trans ⟨setEntry_tasks _ _ _ _, setEntry_cores _ _ _ _⟩)

theorem setByte (s : State) (a : Nat) (b : Byte) : SameRun s (s.setByte a b) := by
  unfold State.setByte
  split
  · exact .refl s
  · exact .refl s
  · exact .refl s
  · exact setImageWord s _ _ _
  · exact ⟨rfl, rfl⟩

theorem setBytes (s : State) (a : Nat) (l : List Byte) : SameRun s (s.setBytes a l) := by
  induction l generalizing s a with
  | nil => exact .refl s
  | cons b l ih => exact (setByte s a b).trans (ih _ _)

theorem eccWritten (s : State) (a n : Nat) : SameRun s (eccWritten s a n) := by
  refine List.foldlRecOn (motive := fun t => SameRun s t) _ _ (.refl s) fun t ht _ _ => ?_
  split
  · exact ht.trans ⟨rfl, rfl⟩
  · exact ht

theorem countSap (s : State) (x : Xfer) (cls : Nat) (wr : Bool) (a n : Nat) : SameRun s (countSap s x cls wr a n) := by
  unfold Machine.countSap
  split
  · exact count s _ n
  · exact .refl s

theorem markDirty (s : State) (a : Nat) : SameRun s (markDirty s a) := by
  refine ⟨?_, (SameContents.markDirty s a).cores⟩
  unfold Machine.markDirty
  split
  · dsimp only
    split
    · split <;> split <;> simp only [count_tasks, setGrove_tasks]
    · rfl
  · rfl

/-- An engine's write that is answered leaves the tasks and the processors as they are. The definition is unfolded under a variable, as for
engWrite_admitted. -/
theorem engWrite {s t : State} {e prv part a n v x : Nat} (h : engWrite s e prv part a n v = (.ok x, t)) : SameRun s t := by
  suffices key : ∀ f, f = engWriteP → f false s e prv part a n v = (.ok x, t) → SameRun s t from key _ rfl h
  intro f hf h
  delta engWriteP at hf
  subst hf
  beta_reduce at h
  split at h
  · cases h
  · dsimp only at h
    split at h
    · cases h
    · next tgt u pres =>
      obtain ⟨ev, rfl⟩ := present_ok pres
      have counted := count s ev n
      have stored : ∀ p, SameRun s (Machine.markDirty (Machine.countSap (Machine.eccWritten ((s.count ev n).setBytes p (leBytes n v)) p n)
          ⟨e, prv, part, 2⟩ (classOf s e) true p n) p) := fun p =>
        (((counted.trans (setBytes _ _ _)).trans (eccWritten _ _ _)).trans (countSap _ _ _ _ _ _)).trans (markDirty _ _)
      split at h
      · cases h
      split at h
      · cases h; exact counted
      split at h
      · split at h
        · cases h; exact stored _
        · cases h; exact (stored _).trans ⟨rfl, rfl⟩
      · cases h; exact stored _

theorem ctxWrites {e part tctx x : Nat} {l : List (Nat × DWord)} (h : ctxWrites s e part tctx l = (.ok x, t)) :
    SameRun s t := by
  rw [ctxWrites_eq] at h
  induction l generalizing s with
  | nil => cases h; exact .refl _
  | cons p l ih =>
    rcases written : Machine.engWrite s e 1 part (tctx + p.1) 8 p.2.toNat with ⟨a, u⟩
    rw [savesBy, written] at h
    cases a with
    | ok => exact (engWrite written).trans (ih h)
    | denied => cases h
    | memErr => cases h
    | fault => cases h

end SameRun

/-! ### A task that gives up its engine -/

/-- Between u and t task c of engine n comes to state st; the engine's other tasks keep their states, and other processors are untouched. -/
structure Gave (n c : Nat) (st : TaskState) (u t : State) : Prop where
  state : (t.task n c).st = st
  beside : ∀ d, d < 16 → d ≠ c → (t.task n d).st = (u.task n d).st
  others : ∀ m, m ≠ n → t.core m = u.core m

namespace Gave

variable {n c : Nat} {st st' : TaskState} {u t w : State}

theorem sameRun (h : Gave n c st u t) (k : SameRun t w) : Gave n c st u w where
  state := by rw [k.task]; exact h.state
  beside d hd ne := by rw [k.task]; exact h.beside d hd ne
  others m hm := by rw [k.core]; exact h.others m hm

/-- The task's record is replaced. -/
theorem setTask (h : Gave n c st u t) (hc : c < 16) (x : Task) : Gave n c x.st u (t.setTask n c x) where
  state := by rw [task_setTask_same]
  beside d hd ne := by
    rw [task_setTask _ _ _ _ hc hd, if_neg fun e => ne e.2]
    exact h.beside d hd ne
  others := h.others

/-- The task's record is replaced by one with the same state. -/
theorem setRecord (h : Gave n c st u t) (hc : c < 16) (x : Task) (hx : x.st = (t.task n c).st) : Gave n c st u (t.setTask n c x) := by
  rw [← h.state, ← hx]
  exact h.setTask hc x

theorem addCyc (h : Gave n c st u t) (hc : c < 16) (k : Nat) : Gave n c st u (addCyc t n c k) :=
  (h.setRecord hc { t.task n c with cyc := (t.task n c).cyc + k } rfl).sameRun (.count _ _ _)

theorem setPc (h : Gave n c st u t) (x : DWord) : Gave n c st u (t.setPc n x) where
  state := h.state
  beside := h.beside
  others m hm := by rw [core_setPc_ne _ _ hm]; exact h.others m hm

theorem keepTask (h : Gave n c st u t) (hc : c < 16) (st' : TaskState) : Gave n c st' u (keepTask t n c st') :=
  h.setTask hc { t.task n c with st := st', tctx := t.srGet n 0x006, part := t.srGet n 0x017 }

theorem overrunTask (h : Gave n c st u t) (hc : c < 16) : Gave n c .exhausted u (overrunTask t n c) :=
  (h.keepTask hc .exhausted).setRecord hc _ rfl

/-- The cycles of the instruction itself change no task's state. -/
theorem issued (hn : isEng n = true) (hc : c < 16) (runs : (u.core n).task = some c) (k : Nat) (x : DWord) :
    Gave n c (u.task n c).st u ((charge (countInstr u n) n k).setPc n x) := by
  have counted : SameRun u (countInstr u n) := by
    unfold countInstr
    exact .ite (.count _ _ _) (.refl u)
  have start : Gave n c (u.task n c).st u (countInstr u n) :=
    Gave.sameRun ⟨rfl, fun _ _ _ => rfl, fun _ _ => rfl⟩ counted
  refine Gave.setPc ?_ x
  unfold charge
  rw [if_pos hn, counted.core, runs]
  exact start.addCyc hc k

/-- Where no task of the engine is ready, the task leaves it and none takes it. -/
theorem leave (h : Gave n c st u t) (rest : ∀ d, d < 16 → (u.task n d).st ≠ .ready) (waits : st ≠ .ready) :
    let r := actSettle (leaveEngine t n) c
    r.tasks = t.tasks ∧ (r.task n c).st = st ∧ (r.core n).task = none ∧ ∀ m, m ≠ n → r.core m = u.core m := by
  have none_ready : ∀ d ∈ List.range 16, (t.task n d).st ≠ .ready := fun d hd => by
    by_cases e : d = c
    · rw [e, h.state]; exact waits
    · rw [h.beside d (List.mem_range.1 hd) e]; exact rest d (List.mem_range.1 hd)
  have idles : leaveEngine t n = engIdle (t.setCore n { t.core n with task := none }) n := by
    refine congrArg (engIdle · n) (List.foldlRecOn (motive := (· = t.setCore n _)) _ _ rfl fun s hs d hd => ?_)
    rw [hs]
    refine if_neg fun ready => ?_
    simp only [Bool.and_eq_true, beq_iff_eq] at ready
    exact none_ready d hd ready.2
  have left : SameRun (t.setCore n { t.core n with task := none }) (actSettle (leaveEngine t n) c) := by
    rw [idles]
    have idle : SameRun _ (engIdle (t.setCore n { t.core n with task := none }) n) := .ite (.wr _ _ _ _) (.refl _)
    exact idle.trans (.ite (.refl _) (.setAct _ _ _))
  refine ⟨left.tasks, ?_, ?_, fun m hm => ?_⟩
  · rw [left.task]; exact h.state
  · rw [left.core, core_setCore_same]
  · rw [left.core, core_setCore_ne _ _ hm]; exact h.others m hm

end Gave

/-- State that a task in YIELD comes to after a save in a state w (03 R58, R61). -/
def afterSave (w : State) (n c : Nat) : TaskState :=
  if budgetUsed w n = false then .yielded else if finalTick w c = true then .exhausted else .suspended

theorem afterSave_waits (w : State) (n c : Nat) : afterSave w n c ≠ .ready := by
  unfold afterSave
  split
  · simp
  · split <;> simp

theorem Gave.yieldBudget {n c : Nat} {u w : State} (h : Gave n c .yielded u w) (hc : c < 16) : Gave n c (afterSave w n c) u (yieldBudget w n c) := by
  unfold Machine.yieldBudget afterSave
  rw [h.state]
  cases budgetUsed w n with
  | false => exact h
  | true =>
    rw [if_neg Bool.true_eq_false.mp, show (true && TaskState.yielded == TaskState.yielded) = true from rfl, if_pos rfl]
    cases finalTick w c with
    | true => exact h.overrunTask hc
    | false => exact h.setTask hc { w.task n c with st := .suspended }

/-- A context save whose writes are all admitted is those writes. Its definition is unfolded under variables, as for ctxWrites_eq. -/
theorem ctxSave_ok {s w : State} {e c m : Nat} {st : TaskState}
    (h : ctxWrites (addCyc (keepTask s e c st) e c 80) e (partOf (addCyc (keepTask s e c st) e c 80) e)
      ((addCyc (keepTask s e c st) e c 80).srGet e 0x006).toNat (ctxWords ((addCyc (keepTask s e c st) e c 80).core e) e) = (.ok m, w)) :
    ctxSave s e c st = w := by
  suffices key : ∀ f, f = ctxSave → f s e c st = w from key _ rfl
  intro f hf
  delta ctxSave at hf
  obtain ⟨g, hg⟩ : ∃ g, g = ctxWrites := ⟨_, rfl⟩
  rw [← hg] at hf h
  subst hf
  dsimp only
  rw [h]

/-- The state after the cycles of YIELD or ENDTASK, before its effect. -/
def taskIssued (u : State) (n : Nat) : State := (charge (countInstr u n) n 2).setPc n (nextPc u n)

theorem dYieldTask_within {u w : State} {n c : Nat} (runs : (u.core n).task = some c) (within : budgetUsed (taskIssued u n) n = false)
    (saves : ctxSave (taskIssued u n) n c .yielded = w) :
    dYieldTask n u = .stop (actSettle (leaveEngine (yieldBudget w n c) n) c) := by
  unfold dYieldTask
  rw [runs]
  dsimp only
  rw [← taskIssued, within, if_neg Bool.false_ne_true, saves]

/-- What ENDTASK makes of its task, by whether its two cycles reach the budget. -/
def endedTask (v : State) (n c : Nat) : State :=
  if budgetUsed v n then overrunTask v n c
  else (keepTask v n c .ended).setTask n c
    { (keepTask v n c .ended).task n c with
      overrun := ((keepTask v n c .ended).task n c).overrun || ((keepTask v n c .ended).task n c).trapped }

theorem dEndtask_runs {u : State} {n c : Nat} (runs : (u.core n).task = some c) :
    dEndtask n u = .stop (actSettle (leaveEngine (endedTask (taskIssued u n) n c) n) c) := by
  unfold dEndtask
  rw [runs]
  rfl

theorem Gave.endedTask {n c : Nat} {st : TaskState} {u v : State} (h : Gave n c st u v) (hc : c < 16) :
    Gave n c (if budgetUsed v n = false then .ended else .exhausted) u (endedTask v n c) ∧
      (budgetUsed v n = true → ((endedTask v n c).task n c).overrun = true) := by
  unfold Machine.endedTask
  cases budgetUsed v n with
  | false =>
    rw [if_pos rfl, if_neg Bool.false_ne_true]
    exact ⟨(h.keepTask hc .ended).setRecord hc _ rfl, fun h => absurd h Bool.false_ne_true⟩
  | true =>
    rw [if_neg Bool.noConfusion, if_pos rfl]
    refine ⟨h.overrunTask hc, fun _ => ?_⟩
    unfold Machine.overrunTask
    dsimp only
    rw [task_setTask_same]

/-- Settles O23: the task's record is the only one that the engine's instruction writes, and no task of the engine is ready to take it. -/
theorem taskInstructions : Obligations.TaskInstructions := by
  intro e c s u issues hc runs rest
  dsimp only
  have hn : isEng e.val = true := decide_eq_true e.isLt
  have sig : inGroup (coreNo (.eng e)) .sig = true := by
    unfold inGroup
    rw [show isEng (coreNo (.eng e)) = true from hn]
    rfl
  have issued := Gave.issued hn hc runs 2 (nextPc u e.val)
  rw [← taskIssued] at issued ⊢
  refine ⟨fun m w within saves => ?_, ?_⟩
  · have saved := ((issued.keepTask hc .yielded).addCyc hc 80).sameRun (.ctxWrites saves)
    obtain ⟨-, state, idle, others⟩ := (saved.yieldBudget hc).leave rest (afterSave_waits w e c)
    have meaning := dYieldTask_within runs within (ctxSave_ok saves)
    refine ⟨_, congrArg Host.Outcome.next (issue_eq issues sig dYieldTask), ?_⟩
    rw [show dYieldTask (coreNo (.eng e)) u = _ from meaning]
    exact ⟨state, idle, others⟩
  · obtain ⟨ended, overruns⟩ := issued.endedTask hc
    obtain ⟨tasks, state, idle, others⟩ := ended.leave rest (by split <;> simp)
    refine ⟨_, congrArg Host.Outcome.next (issue_eq issues sig dEndtask), ?_⟩
    rw [show dEndtask (coreNo (.eng e)) u = _ from dEndtask_runs runs]
    refine ⟨state, fun used => ?_, idle, others⟩
    have same := congrArg (fun l => (amGet (fun _ => Task.idle) l (e.val * 16 + c)).overrun) tasks
    exact same.trans (overruns used)

end Sys2Proof.Machine
end

section
/-! The input instant of a tick master while a Grove's repair meets an uncorrectable error (03 R48; 06 R170). -/

namespace Sys2Proof.Machine

open Sys2Proof

/-- The register fields of the state that refutes O40: the program runs in locked mode, the tick is 1000 long, Grove 0 is ON and may recover no
time, and a gate that admits the pair manager's reads there. -/
def dirtyRepairRegs : List (Nat × Fld × Nat) :=
  [(TSQ_STATUS, TSQ_STATUS_RUNNING, 1), (TSQ_STATUS, TSQ_STATUS_MODE, 0), (TSQ_CTRL, TSQ_CTRL_RUN, 1),
   (PAR_STATUS, PAR_STATUS_ROLE, roleCode .active), (TSQ_LEN 0, TSQ_LEN_LEN, 1000), (GRV_EN 0, U_STATE, 2),
   (GRV_CFG 0, GRV_CFG_RECOV_MAX, 0), (GATE_CTRL 2, GATE_CTRL_ENFORCE, 1), (GATE_LIMIT_HI 2 0 0, ⟨31, 0⟩, 0xFF),
   (GATE_PART 2 0 0, GATE_PART_PARTMASK, 0xFFFF), (GATE_CTL 2 0 0, GATE_CTL_EN, 1), (GATE_CTL 2 0 0, GATE_CTL_USER_XWR, 7),
   (GATE_CTL 2 0 0, GATE_CTL_KERNEL_XWR, 7), (GATE_CTL 2 0 0, GATE_CTL_MACHINE_XWR, 7)]

/-- An ACTIVE module at its input instant that serves the repair of Grove 0, whose one modified line has an uncorrectable error. -/
def dirtyRepair : State :=
  let s := dirtyRepairRegs.foldl (fun s e => s.wr e.1 e.2.1 e.2.2) State.reset
  { s with
    seq := { s.seq with ended := true }
    ecc := [(0x0100000000, some .uncorrectable)]
    groves := [(0, { Grove.idle with dirtyP := [0] })]
    pair := { s.pair with serves := [0], parGrv := 6 } }

theorem dirtyRepair_runs :
    dirtyRepair.on TSQ_STATUS TSQ_STATUS_RUNNING = true ∧ dirtyRepair.on TSQ_CTRL TSQ_CTRL_RUN = true ∧ dirtyRepair.role = .active ∧
      dirtyRepair.clk.trel ≤ dirtyRepair.tickEnd := by decide +kernel

set_option maxRecDepth 100000 in
/-- Serving the repair reads the modified line, the error faults the Grove, and past its recovery limit the module is FAULTED. -/
theorem inputInstant_dirtyRepair : (inputInstant dirtyRepair).role = .faulted := by decide +kernel

/-- Refutes O40: an input instant at which a Grove's repair is served, and meets an uncorrectable error past the recovery limit, leaves the tick
master FAULTED, so its role is not kept. -/
theorem not_tickEvents : ¬ Obligations.TickEvents := by
  intro h
  obtain ⟨hrun, hctrl, hrole, hend⟩ := dirtyRepair_runs
  obtain ⟨t, ht, -, -, -, -, -, -, -, -, -, -, -, hkept⟩ :=
    (h 0 false 0 0 dirtyRepair).1 hrun rfl hctrl (by rw [hrole]; rfl) rfl rfl rfl rfl hend
  obtain rfl : inputInstant dirtyRepair = t := Host.Outcome.next.inj ht
  rw [inputInstant_dirtyRepair, hrole] at hkept
  exact absurd hkept (by decide)

end Sys2Proof.Machine
end

section
/-! What a module sends on the pair's lanes (10 R264, R266), and the exchange words and the output gate (03 R52; 10 R267, R273, R277, R278). -/

namespace Sys2Proof.Machine

open Sys2Proof

/-! ### Sending -/

/-- Between s and t the frames of l have left, and nothing but performance counters has changed. -/
structure LeftBy (l : List Out) (s t : State) : Prop where
  rest : t = { s with out := s.out ++ l, regs := t.regs }
  regs : ∀ a, isPmc a = false → t.rget a = s.rget a

namespace LeftBy

variable {s t u : State} {l m : List Out}

theorem none (s : State) : LeftBy [] s s := ⟨by rw [List.append_nil], fun _ _ => rfl⟩

theorem trans (h : LeftBy l s t) (k : LeftBy m t u) : LeftBy (l ++ m) s u where
  rest := by
    rw [k.rest]
    conv_lhs => rw [h.rest]
    rw [List.append_assoc]
  regs a ha := (k.regs a ha).trans (h.regs a ha)

theorem count (s : State) (ev : PmcEv) (k : Nat) : LeftBy [] s (s.count ev k) := by
  obtain ⟨r, e, same⟩ := count_only s ev k
  rw [e]
  exact ⟨by rw [List.append_nil], same⟩

theorem send (s : State) (o : Out) : LeftBy [o] s (s.send o) := ⟨rfl, fun _ _ => rfl⟩

theorem pmcPort (s : State) (port : Nat) (tx : Bool) (n : Nat) : LeftBy [] s (pmcPort s port tx n) := (count s _ n).trans (count _ _ 1)

/-- Frames sent one after another, each counted. -/
theorem foldl {α : Type} (xs : List α) (s : State) (port : α → Nat × Nat) (f : α → Out) :
    LeftBy (xs.map f) s (xs.foldl (fun t x => (Machine.pmcPort t (port x).1 true (port x).2).send (f x)) s) := by
  induction xs generalizing s with
  | nil => exact none s
  | cons x xs ih => exact ((pmcPort s _ true _).trans (send _ (f x))).trans (ih _)

end LeftBy

/-- A message on a lane leaves as its fragments. -/
theorem sent_sendOn {s : State} {l : Nat} (m : LaneMsg) (on : laneOf s = some l) : Sent m s (sendOn s l m) := by
  have left := LeftBy.foldl (fragments m).zipIdx s (fun x => (48 + l, 20 + payloadLen x.1)) fun x =>
    .lane l { hdrNow s with frag := BitVec.ofNat 15 x.2, more := decide (x.2 + 1 < (fragments m).length) } x.1
  have frames : laneOut s m = (fragments m).zipIdx.map fun x =>
      .lane l { hdrNow s with frag := BitVec.ofNat 15 x.2, more := decide (x.2 + 1 < (fragments m).length) } x.1 := by
    rw [laneOut, on]
  rw [← frames] at left
  unfold sendOn laneCount
  dsimp only
  generalize List.foldl _ s _ = t at left ⊢
  obtain ⟨rest, regs⟩ := left
  have out : t.out = s.out ++ laneOut s m := by rw [rest]
  have pair : t.pair = s.pair := by rw [rest]
  refine ⟨out, ?_, regs⟩
  rw [pair, out]
  conv_lhs => rw [rest]

/-- A message that does not wait for an exchange window leaves at once, on the lane that is ON. -/
theorem sent_sendLane {s : State} {m : LaneMsg} (now : bulky m = false) : Sent m s (sendLane s m) := by
  unfold sendLane
  cases on : laneOf s with
  | none => exact ⟨by rw [laneOut, on, List.append_nil], rfl, fun _ _ => rfl⟩
  | some l =>
    rw [now, Bool.false_and]
    exact sent_sendOn m on

/-- Between s and t the module has only sent messages, or put them into its lane queue. -/
structure LaneOnly (s t : State) : Prop where
  rest : t = { s with out := t.out, regs := t.regs, pair := t.pair }
  regs : ∀ a, isPmc a = false → t.rget a = s.rget a

namespace LaneOnly

variable {s t u : State}

theorem refl (s : State) : LaneOnly s s := ⟨rfl, fun _ _ => rfl⟩

theorem trans (h : LaneOnly s t) (k : LaneOnly t u) : LaneOnly s u where
  rest := by
    rw [k.rest]
    conv_lhs => rw [h.rest]
  regs a ha := (k.regs a ha).trans (h.regs a ha)

theorem of_sent {m : LaneMsg} (h : Sent m s t) : LaneOnly s t where
  rest := by
    have pair : t.pair = { s.pair with msgid := t.pair.msgid } := by rw [h.rest]
    conv_lhs => rw [h.rest]
    rw [← pair]
  regs := h.regs

theorem setPair (s : State) (p : PairSt) : LaneOnly s { s with pair := p } := ⟨rfl, fun _ _ => rfl⟩

theorem sendLane (s : State) (m : LaneMsg) : LaneOnly s (sendLane s m) := by
  unfold Machine.sendLane
  split
  · next on =>
    split
    · exact setPair s _
    · exact of_sent (sent_sendOn m on)
  · exact refl s

theorem laneFlush (s : State) : LaneOnly s (laneFlush s) := by
  unfold Machine.laneFlush
  split
  · exact refl s
  · exact List.foldlRecOn (motive := LaneOnly s) _ _ (setPair s _) fun t ht m _ => ht.trans (sendLane t m)

variable (h : LaneOnly s t)
include h

theorem seq : t.seq = s.seq := by rw [h.rest]

theorem rd {a : Nat} (f : Fld) (p : isPmc a = false) : t.rd a f = s.rd a f := by rw [State.rd, h.regs a p, State.rd]

theorem on {a : Nat} (f : Fld) (p : isPmc a = false) : t.on a f = s.on a f := by rw [State.on, h.rd f p, State.on]

end LaneOnly

/-! ### The exchange words -/

/-- Without the partner's digest the agreement waits. -/
theorem agreeStep_alone {s : State} (h : s.pair.parIn = none) : agreeStep s = s := by
  unfold agreeStep
  rw [h]
  split
  · next e => cases e
  · rfl

/-- Without the partner's OUTDIG the comparison waits. -/
theorem outCompare_alone {s : State} (h : s.pair.parOut = none) : outCompare s = s := by
  unfold outCompare
  rw [h]
  split
  · next e => cases e
  · rfl

theorem repairCheck_none {s : State} (h : s.pair.repair = none) : repairCheck s = s := by rw [repairCheck, h]

/-- The word marks the agreement as begun, which changes nothing of what the module computes. -/
theorem agrees_begun (s : State) : agrees { s with seq := { s.seq with agree := true } } = (computes s && !s.freeMode) :=
  congrArg (· && !s.freeMode) (computes_congr rfl)

/-- A module that does not compute holds its agreement done (10 R273). -/
theorem pxchInagree_idle {s : State} (quiet : s.pair.repair = none) (off : computes s = false) :
    pxchInagree s = { s with seq := { s.seq with agree := true }, pair := { s.pair with inDone := true } } := by
  unfold pxchInagree
  dsimp only
  rw [repairCheck_none quiet, agrees_begun, off, Bool.false_and, if_neg Bool.false_ne_true]
  rfl

/-- A module that computes in locked mode sends its digest of the inputs (10 R273). -/
theorem pxchInagree_sends {s : State} (quiet : s.pair.repair = none) (on : computes s = true) (locked : s.freeMode = false)
    (alone : s.pair.parIn = none) :
    Sent (.inagreeDig (inDigNow s)) { s with seq := { s.seq with agree := true }, pair := { s.pair with ownIn := some (inDigNow s) } }
      (pxchInagree s) := by
  have sent := sent_sendLane (s := { s with seq := { s.seq with agree := true }, pair := { s.pair with ownIn := some (inDigNow s) } })
    (m := .inagreeDig (inDigNow s)) rfl
  have digest : inDigNow { s with seq := { s.seq with agree := true } } = inDigNow s := rfl
  have e : pxchInagree s = sendLane { s with seq := { s.seq with agree := true }, pair := { s.pair with ownIn := some (inDigNow s) } }
      (.inagreeDig (inDigNow s)) := by
    unfold pxchInagree
    dsimp only
    rw [repairCheck_none quiet, agrees_begun, on, locked, digest]
    refine agreeStep_alone ?_
    exact (congrArg (fun t : State => t.pair.parIn) sent.rest).trans alone
  rw [e]
  exact sent

/-- Outside the tick of an announced apply the module votes no (11 R309). -/
theorem chgVote_no {s : State} (h : s.chgState ≠ 5) : chgVote s = s.setChg fun c => { c with vote := false } := by
  have off : applyTick s = false := by
    rw [applyTick, beq_eq_false_iff_ne.2 h]
    rfl
  rw [chgVote, off, if_neg Bool.false_ne_true]

/-- OUTDIG leaves, and waits for the partner's (10 R277). -/
theorem pxchOutdig_sends {s : State} (locked : s.freeMode = false) (on : computes s = true) (alone : s.pair.parOut = none)
    (keeps : s.pair.handover = false) (apart : s.pair.joinOk = false) (quiet : s.chgState ≠ 5) :
    ∃ d, d = outDigNow (s.setChg fun c => { c with vote := false }) ∧
      Sent (.outdig d) { s with chg := { s.chg with vote := false }, pair := { s.pair with ownOut := some d } } (pxchOutdig s) := by
  refine ⟨_, rfl, ?_⟩
  generalize hd : outDigNow (s.setChg fun c => { c with vote := false }) = d
  have sent := sent_sendLane (s := { s with chg := { s.chg with vote := false }, pair := { s.pair with ownOut := some d } })
    (m := .outdig d) rfl
  have accept : d.accept = false := hd ▸ keeps
  have join : d.joinOk = false := hd ▸ apart
  have exchanging : exchanges s = true := by rw [exchanges, locked, on]; rfl
  have e : pxchOutdig s = sendLane { s with chg := { s.chg with vote := false }, pair := { s.pair with ownOut := some d } } (.outdig d) := by
    unfold pxchOutdig
    rw [exchanging, if_pos rfl, chgVote_no quiet]
    dsimp only
    rw [hd, accept, join, if_neg Bool.false_ne_true, if_neg Bool.false_ne_true]
    refine outCompare_alone ?_
    exact (congrArg (fun t : State => t.pair.parOut) sent.rest).trans alone
  rw [e]
  exact sent

/-- TIME as the tick master sends it: the next input instant (10 R267). -/
def timeNow (s : State) : TimeMsg :=
  let ii := s.nowNs + (s.tickEnd - s.clk.trel)
  { iiSec := BitVec.ofNat 48 (ii / 1000000000), iiNs := BitVec.ofNat 32 (ii % 1000000000), tx := s.short,
    tickLen := BitVec.ofNat 32 s.tickLen, tick := BitVec.ofNat 64 (s.seq.tick + 1) }

theorem sendTime_master {s : State} (h : s.role.master = true) : sendTime s = sendLane s (.time (timeNow s)) := if_pos h

theorem sendTime_other {s : State} (h : s.role.master = false) : sendTime s = s := if_neg (Bool.eq_false_iff.1 h)

theorem timeNow_instant {s : State} (h : s.nowNs + (s.tickEnd - s.clk.trel) < 2 ^ 48) :
    (timeNow s).iiSec.toNat * 1000000000 + (timeNow s).iiNs.toNat = s.nowNs + (s.tickEnd - s.clk.trel) := by
  unfold timeNow
  dsimp only
  generalize s.nowNs + (s.tickEnd - s.clk.trel) = ii at h ⊢
  rw [BitVec.toNat_ofNat, BitVec.toNat_ofNat, Nat.mod_eq_of_lt (by omega), Nat.mod_eq_of_lt (by omega)]
  omega

/-! ### The output gate -/

/-- Between s and t the sequencer's own state and PAR_STATUS are kept. -/
structure KeepsGate (s t : State) : Prop where
  seq : t.seq = s.seq
  status : t.rget PAR_STATUS = s.rget PAR_STATUS

namespace KeepsGate

variable {s t u : State}

theorem refl (s : State) : KeepsGate s s := ⟨rfl, rfl⟩

theorem trans (h : KeepsGate s t) (k : KeepsGate t u) : KeepsGate s u := ⟨k.seq.trans h.seq, k.status.trans h.status⟩

theorem ite {p : Prop} [Decidable p] (h : KeepsGate s t) (k : KeepsGate s u) : KeepsGate s (if p then t else u) := by split <;> assumption

theorem of_lane (h : LaneOnly s t) : KeepsGate s t := ⟨h.seq, h.regs _ (by decide)⟩

theorem setPair (s : State) (f : PairSt → PairSt) : KeepsGate s (s.setPair f) := ⟨rfl, rfl⟩

theorem wr (s : State) {a : Nat} (f : Fld) (v : Nat) (h : PAR_STATUS ≠ a) : KeepsGate s (s.wr a f v) := ⟨rfl, rget_wr_ne s f v h⟩

theorem sendLane (s : State) (m : LaneMsg) : KeepsGate s (sendLane s m) := of_lane (.sendLane s m)

theorem beginJoin (s : State) : KeepsGate s (beginJoin s) :=
  ite ((wr s _ _ (by decide)).trans (sendLane _ _)) (refl s)

theorem repairBegin (s : State) (a b : OutDig) : KeepsGate s (repairBegin s a b) :=
  ite ((setPair s _).trans (beginJoin _)) ((setPair s _).trans (sendLane _ _))

end KeepsGate

/-- The gate's decision is latched and shown, whatever the word sends besides (10 R278, R281). -/
theorem ogate_result (s : State) :
    (ogate s).seq.gate = gateDecision s ∧ (ogate s).seq.gated = true ∧
      (ogate s).on PAR_STATUS PAR_STATUS_GATE = decide (gateDecision s ≠ .closed) := by
  have latched : KeepsGate ((({ laneFlush s with seq := { s.seq with gate := gateDecision s, gated := true } } : State)).flag PAR_STATUS
      PAR_STATUS_GATE (decide (gateDecision s ≠ .closed))) (ogate s) := by
    unfold ogate
    dsimp only
    split
    · exact .ite (.repairBegin _ _ _) (.ite ((KeepsGate.setPair _ _).trans (.sendLane _ _)) (.refl _))
    · exact .refl _
  refine ⟨congrArg Seq.gate latched.seq, congrArg Seq.gated latched.seq, ?_⟩
  rw [on_of_rget latched.status, State.flag, on_wr_same]
  cases decide (gateDecision s ≠ .closed) <;> rfl

end Sys2Proof.Machine
end

section
/-! The Clearing: what it does to the image, and what of it leaves the image alone (03 R52, R69; 05 R124; 11 R310). -/

namespace Sys2Proof.Machine

open Sys2Proof

/-! ### The snapshot (05 R124) -/

section Lookup

variable {V : Type} {d : Nat → V}

theorem amGet_append_absent : ∀ (m n : AMap V) {k : Nat}, (∀ e ∈ m, e.1 ≠ k) → amGet d (m ++ n) k = amGet d n k
  | [], _, _, _ => rfl
  | e :: m, n, _, h => (if_neg (h e List.mem_cons_self)).trans (amGet_append_absent m n fun x hx => h x (List.mem_cons_of_mem e hx))

theorem amGet_append_present : ∀ (m n : AMap V) {k : Nat}, (∀ e ∈ n, e.1 ≠ k) → amGet d (m ++ n) k = amGet d m k
  | [], n, k, h => amGet_absent n k h
  | e :: m, n, k, h => by
    obtain ⟨j, v⟩ := e
    rw [List.cons_append, amGet, amGet, amGet_append_present m n h]

theorem amGet_filter_kept (p : Nat × V → Bool) : ∀ (m : AMap V) {k : Nat}, (∀ e ∈ m, e.1 = k → p e = true) →
    amGet d (m.filter p) k = amGet d m k
  | [], _, _ => rfl
  | (j, v) :: m, k, h => by
    have rest := amGet_filter_kept p m fun x hx => h x (List.mem_cons_of_mem _ hx)
    by_cases e : j = k
    · rw [List.filter_cons_of_pos (h (j, v) List.mem_cons_self e), amGet, amGet, if_pos e, if_pos e]
    · rw [amGet, if_neg e, ← rest]
      by_cases q : p (j, v) = true
      · rw [List.filter_cons_of_pos q, amGet, if_neg e]
      · rw [List.filter_cons_of_neg q]

/-- Rows moved to other keys are found where they came from. -/
theorem amGet_filterMap_moved (f : Nat × V → Option (Nat × V)) {k k' : Nat} (hd : d k' = d k) :
    ∀ (m : AMap V), (∀ e ∈ m, e.1 = k → f e = some (k', e.2)) → (∀ e ∈ m, e.1 ≠ k → ∀ x ∈ f e, x.1 ≠ k') →
      amGet d (m.filterMap f) k' = amGet d m k
  | [], _, _ => hd
  | (j, v) :: m, moved, other => by
    have rest := amGet_filterMap_moved f hd m (fun x hx => moved x (List.mem_cons_of_mem _ hx)) fun x hx => other x (List.mem_cons_of_mem _ hx)
    by_cases e : j = k
    · rw [List.filterMap_cons_some (moved (j, v) List.mem_cons_self e), amGet, amGet, if_pos rfl, if_pos e]
    · rw [amGet, if_neg e, ← rest]
      cases hf : f (j, v) with
      | none => rw [List.filterMap_cons_none hf]
      | some x =>
        rw [List.filterMap_cons_some hf]
        exact if_neg (other (j, v) List.mem_cons_self e x hf)

end Lookup

/-- The image of a snapshot: the rows below copy 2, those of copy 1 moved to copy 2, and the rows above. -/
theorem snapshot_image (s : State) :
    (snapshot s).image = (s.image.filter fun e => decide (e.1 / 131072 ≠ 2)).filter (fun e => decide (e.1 < 2 * 131072)) ++
      (s.image.filterMap fun e => if e.1 / 131072 = 1 then some (2 * 131072 + e.1 % 131072, e.2) else none) ++
      (s.image.filter fun e => decide (e.1 / 131072 ≠ 2)).filter fun e => decide (2 * 131072 ≤ e.1) := rfl

/-- The snapshot fills copy 2 with copy 1 and leaves copies 0 and 1 (05 R124). -/
theorem entry_snapshot (s : State) {i : Nat} (h : i ≤ 131071) :
    (snapshot s).entry 2 i = s.entry 1 i ∧ (snapshot s).entry 1 i = s.entry 1 i ∧ (snapshot s).entry 0 i = s.entry 0 i := by
  have above : ∀ k, k < 2 * 131072 + 131072 → ∀ e ∈ (s.image.filter fun e => decide (e.1 / 131072 ≠ 2)).filter
      (fun e => decide (2 * 131072 ≤ e.1)), e.1 ≠ k := fun k hk e he => by
    simp only [List.mem_filter, decide_eq_true_eq] at he
    omega
  have low : ∀ c, c < 2 → (snapshot s).entry c i = s.entry c i := fun c hc => by
    unfold State.entry
    rw [snapshot_image, amGet_append_present _ _ (above _ (by omega)), amGet_append_present, amGet_filter_kept, amGet_filter_kept]
    · intro e _ he
      simp only [decide_eq_true_eq]
      omega
    · intro e _ he
      simp only [decide_eq_true_eq]
      omega
    · intro e he
      obtain ⟨x, -, hx⟩ := List.mem_filterMap.1 he
      split at hx <;> cases hx
      omega
  refine ⟨?_, low 1 (by omega), low 0 (by omega)⟩
  unfold State.entry
  rw [snapshot_image, amGet_append_present _ _ (above _ (by omega)), amGet_append_absent]
  · refine amGet_filterMap_moved (d := fun _ => Entry.zero) (k := 1 * 131072 + i) (k' := 2 * 131072 + i) _ rfl _ (fun e _ he => ?_) fun e _ he x hx => ?_
    · rw [if_pos (by omega)]
      exact congrArg some (Prod.ext (by show 2 * 131072 + e.1 % 131072 = _; omega) rfl)
    · split at hx <;> cases hx
      omega
  · intro e he
    simp only [List.mem_filter, decide_eq_true_eq] at he
    omega

/-! ### What leaves the snapshot as it is -/

/-- Between s and t the image, the tick of its snapshot and TSQ_STATUS are kept. -/
structure KeepsImage (s t : State) : Prop where
  image : t.image = s.image
  snap : t.seq.snapTick = s.seq.snapTick
  status : t.rget TSQ_STATUS = s.rget TSQ_STATUS

/-- A register of a block above the sequencer's is not TSQ_STATUS. -/
theorem status_ne_above {b : Nat} (k : Nat) (h : TSQ_STATUS < b) : TSQ_STATUS ≠ b + k := (Nat.lt_add_right k h).ne

namespace KeepsImage

variable {s t u : State}

theorem refl (s : State) : KeepsImage s s := ⟨rfl, rfl, rfl⟩

theorem trans (h : KeepsImage s t) (k : KeepsImage t u) : KeepsImage s u :=
  ⟨k.image.trans h.image, k.snap.trans h.snap, k.status.trans h.status⟩

theorem ite {p : Prop} [Decidable p] (h : KeepsImage s t) (k : KeepsImage s u) : KeepsImage s (if p then t else u) := by split <;> assumption

theorem foldl {α : Type} {f : State → α → State} (l : List α) (s : State) (hf : ∀ t, ∀ x, KeepsImage t (f t x)) : KeepsImage s (l.foldl f s) :=
  List.foldlRecOn l f (refl s) fun t ht x _ => ht.trans (hf t x)

theorem rset (s : State) {a : Nat} (w : Word) (h : TSQ_STATUS ≠ a) : KeepsImage s (s.rset a w) := ⟨rfl, rfl, rget_rset_ne s w h⟩

theorem wr (s : State) {a : Nat} (f : Fld) (v : Nat) (h : TSQ_STATUS ≠ a) : KeepsImage s (s.wr a f v) := rset s _ h

theorem flag (s : State) {a : Nat} (f : Fld) (b : Bool) (h : TSQ_STATUS ≠ a) : KeepsImage s (s.flag a f b) := rset s _ h

theorem bump (s : State) {a : Nat} (f : Fld) (n : Nat) (h : TSQ_STATUS ≠ a) : KeepsImage s (s.bump a f n) := rset s _ h

theorem raise (s : State) (source : Nat) {a : Nat} (f : Fld) (h : TSQ_STATUS ≠ a) : KeepsImage s (s.raise source a f) :=
  ⟨by rw [raise_rest], by rw [raise_rest], rget_raise_ne s source f (by decide) (by decide) h⟩

theorem of_lane (h : LaneOnly s t) : KeepsImage s t := ⟨by rw [h.rest], by rw [h.rest], h.regs _ (by decide)⟩

theorem sendLane (s : State) (m : LaneMsg) : KeepsImage s (sendLane s m) := of_lane (.sendLane s m)

theorem setPair (s : State) (f : PairSt → PairSt) : KeepsImage s (s.setPair f) := ⟨rfl, rfl, rfl⟩

theorem setRing (s : State) (k : Nat) (f : RingSt → RingSt) : KeepsImage s (s.setRing k f) := ⟨rfl, rfl, rfl⟩

theorem setGrove (s : State) (g : Nat) (r : Grove) : KeepsImage s (s.setGrove g r) := ⟨rfl, rfl, rfl⟩

theorem setTask (s : State) (e c : Nat) (x : Task) : KeepsImage s (s.setTask e c x) := ⟨rfl, rfl, rfl⟩

theorem setAct (s : State) (c : Nat) (a : Act) : KeepsImage s (s.setAct c a) := ⟨rfl, rfl, rfl⟩

theorem setCore (s : State) (n : Nat) (c : Core) : KeepsImage s (s.setCore n c) := ⟨rfl, rfl, rfl⟩

theorem setUnit (s : State) (a : Nat) (r : UnitRec) : KeepsImage s (s.setUnit a r) := ⟨rfl, rfl, rfl⟩

theorem requestRole (s : State) (r : Role) (e : Option Nat) : KeepsImage s (requestRole s r e) := ⟨rfl, rfl, rfl⟩

theorem swapAbort (s : State) : KeepsImage s (swapAbort s) :=
  ite ((((setPair s _).trans (wr _ _ _ (by decide))).trans (wr _ _ _ (by decide))).trans (raise _ _ _ (by decide))) (refl s)

/-! ### Units that stop and start (01 R22 to R25) -/

theorem dropLine (s : State) (k : Nat) (n : RNode) (p : Bool) : KeepsImage s (dropLine s k n p) := ite ⟨rfl, rfl, rfl⟩ (refl s)

theorem setModRx (s : State) (k : Nat) (p sig sync f kk : Bool) : KeepsImage s (setModRx s k p sig sync f kk) := by
  have bit (t : State) (x : Fld) (b : Bool) : KeepsImage t (t.flag (VGX_LINK k) x b) := flag t x b (status_ne_above _ (by decide))
  have bits (a b c d : Fld) : KeepsImage s ((((s.flag (VGX_LINK k) a sig).flag (VGX_LINK k) b sync).flag (VGX_LINK k) c f).flag (VGX_LINK k) d kk) :=
    (((bit s a sig).trans (bit _ b sync)).trans (bit _ c f)).trans (bit _ d kk)
  exact ite ((bits _ _ _ _).trans (raise _ _ _ (status_ne_above _ (by decide)))) (bits _ _ _ _)

theorem enterLoop (s : State) (k : Nat) (p : Bool) : KeepsImage s (enterLoop s k p) := by
  unfold Machine.enterLoop
  dsimp only
  refine (setRing s k _).trans (ite (refl _) ((dropLine _ k .module p).trans ?_))
  refine (((wr _ _ _ (status_ne_above _ (by decide))).trans (bump _ _ _ ?_)).trans (raise _ _ _ (status_ne_above _ (by decide)))).trans
    (ite ((wr _ _ _ (status_ne_above _ (by decide))).trans (setRing _ _ _)) (refl _))
  unfold VGX_CNT TSQ_STATUS
  omega

theorem portDark (s : State) (k : Nat) (p : Bool) : KeepsImage s (portDark s k p) :=
  ((setModRx s k p _ _ _ _).trans (enterLoop _ k p)).trans (setRing _ _ _)

theorem onStop (s : State) (u : UnitId) : KeepsImage s (onStop s u) := by
  unfold Machine.onStop
  dsimp only
  have ready : KeepsImage s ((rdyBits u).foldl (fun t i => t.wr RDY_VEC ⟨i, i⟩ 0) s) := foldl _ s fun t i => wr (a := RDY_VEC) t _ _ (by decide)
  refine ready.trans ?_
  cases u with
  | domain d => exact ite ((wr _ _ _ (by decide)).trans (wr _ _ _ (by decide))) (refl _)
  | grove g => exact foldl _ _ fun t i => wr t _ _ (status_ne_above _ (by decide))
  | portS k => exact portDark _ k false
  | portP k => exact portDark _ k true
  | lio c => exact wr _ _ _ (status_ne_above _ (by decide))
  | lane l => exact refl _
  | eth n => exact refl _
  | ring n r => exact refl _
  | can n => exact refl _

theorem status_ne_enAddr (u : UnitId) : TSQ_STATUS ≠ enAddr u := by
  intro e
  have enable := isEnable_enAddr u
  rw [← e] at enable
  unfold IsEnable TSQ_STATUS at enable
  omega

theorem enable (s : State) (u : UnitId) (f : Fld) (v : Nat) : KeepsImage s (s.wr (enAddr u) f v) := wr s f v (status_ne_enAddr u)

theorem enterStopping (s : State) (u : UnitId) : KeepsImage s (enterStopping s u) := (enable s u _ _).trans (onStop _ u)

theorem hwStopOne (s : State) (u : UnitId) : KeepsImage s (hwStopOne s u) :=
  have cleared : KeepsImage s (((s.wr (enAddr u) U_EN 0).wr (enAddr u) U_PEND 0).wr (enAddr u) U_HWSTOP 1) :=
    ((enable s u _ _).trans (enable _ u _ _)).trans (enable _ u _ _)
  ite (refl s) (ite cleared (cleared.trans (enterStopping _ u)))

theorem enterStarting (s : State) (u : UnitId) : KeepsImage s (enterStarting s u) := by
  have begun : KeepsImage s (startBegun s u) := (enable s u _ _).trans (setUnit _ _ _)
  refine begun.trans ?_
  by_cases grove : ∃ g, u = .grove g
  · obtain ⟨g, isGrove⟩ := grove
    rw [enterStarting_parts_grove isGrove]
    exact ⟨rfl, rfl, rfl⟩
  · rw [enterStarting_parts fun g e => grove ⟨g, e⟩, ← foldl_cmpTestStart]
    exact KeepsImage.trans (foldl _ _ fun t k => wr t _ _ (status_ne_above _ (by decide))) ⟨rfl, rfl, rfl⟩

theorem stopDone (s : State) (u : UnitId) : KeepsImage s (stopDone s u) := by
  have refused (t : State) : KeepsImage t (((t.wr (enAddr u) U_EN 0).wr (enAddr u) U_FAIL 1).wr (enAddr u) U_STATE 0) :=
    ((enable t u _ _).trans (enable _ u _ _)).trans (enable _ u _ _)
  exact ite ((setUnit s _ _).trans (ite ((enable _ u _ _).trans (ite (enterStarting _ u) (refused _))) (enable _ u _ _))) (refl s)

theorem cycleDomain (s : State) (g : Fin 8) : KeepsImage s (cycleDomain s g) := ite (hwStopOne s _) (refl s)

theorem portStops (s : State) : KeepsImage s (portStops s) := by
  refine foldl _ s fun t r => ite ?_ (refl t)
  split
  · exact stopDone t _
  · exact stopDone t _

theorem setPhase (s : State) (g ph : Nat) : KeepsImage s (s.setPhase g ph) := wr s _ _ (status_ne_above _ (by decide))

theorem groveClear (s : State) (g : Fin 8) : KeepsImage s (groveClear s g) := by
  have word (t : State) (f : Fld) (v : Nat) : KeepsImage t (t.wr (GRV_EN g) f v) := wr t f v (status_ne_above _ (by decide))
  refine ite ((stopDone s _).trans (cycleDomain _ g)) (ite (((word s _ _).trans (setGrove _ _ _)).trans (ite (setPhase _ _ _) (refl _))) ?_)
  exact ite ((((word s _ _).trans (word _ _ _)).trans (enterStopping _ _)).trans (stopDone _ _)) (ite (setGrove s _ _) (refl s))

/-! ### Roles (10 R261, R271) -/

theorem engIdle (s : State) (e : Nat) : KeepsImage s (engIdle s e) := ite (wr s _ _ (status_ne_above _ (by decide))) (refl s)

theorem abandonAll (s : State) : KeepsImage s (abandonAll s) := by
  refine (foldl _ s fun t e => ?_).trans (foldl _ _ fun t c => setAct t c _)
  have kept : KeepsImage t (match (t.core e).task with
      | some c => keepTask t e c .abandoned
      | none => t) := by
    split
    · exact setTask t e _ _
    · exact refl t
  exact ((kept.trans (foldl _ _ fun t c => ite (refl t) (setTask t e c _))).trans (setCore _ _ _)).trans (engIdle _ e)

theorem stopEngines (s : State) : KeepsImage s (stopEngines s) :=
  (abandonAll s).trans (foldl _ _ fun t e => ite (wr t _ _ (status_ne_above _ (by decide))) (refl t))

theorem of_left {l : List Out} (h : LeftBy l s t) : KeepsImage s t := ⟨by rw [h.rest], by rw [h.rest], h.regs _ (by decide)⟩

theorem sendLine (s : State) (leave : Bool) (b : HbBody) : KeepsImage s (sendLine s leave b) :=
  of_left ((LeftBy.pmcPort s 50 true 20).trans (.send _ (.line leave b)))

theorem sendLeave (s : State) : KeepsImage s (sendLeave s) :=
  have lane : KeepsImage s (if s.on HB_STATUS HB_STATUS_PATH_L then Machine.sendLane s (.leave (hbBody s)) else s) :=
    ite (sendLane s _) (refl s)
  ite (lane.trans (sendLine _ _ _)) lane

theorem setChg (s : State) (f : ChgSt → ChgSt) : KeepsImage s (s.setChg f) := ⟨rfl, rfl, rfl⟩

theorem discardSet (s : State) : KeepsImage s (discardSet s) :=
  ite (refl s) ((((wr s _ _ (by decide)).trans (wr _ _ _ (by decide))).trans (wr _ _ _ (by decide))).trans (setChg _ _))

theorem dropTasks (s : State) (l : AMap Task) (m : AMap Act) : KeepsImage s { s with tasks := l, acts := m } := ⟨rfl, rfl, rfl⟩

theorem stopComputing (s : State) : KeepsImage s (stopComputing s) := by
  unfold Machine.stopComputing
  dsimp only
  exact (foldl _ s fun t e => (setCore t e _).trans (ite (wr _ _ _ (status_ne_above _ (by decide))) (refl _))).trans (dropTasks _ _ _)

theorem withPair (s : State) (p : PairSt) : KeepsImage s { s with pair := p } := ⟨rfl, rfl, rfl⟩

/-- The module takes the role STOPPED. -/
theorem setRole_stopped (s : State) (e : Option Nat) : KeepsImage s (setRole s .stopped e) := by
  unfold setRole
  lift_lets
  extract_lets old epoch resumed p before p' dropped role split source set
  have resumed_eq : resumed = s := if_neg fun h => h.1.elim nofun nofun
  have keeps_dropped : KeepsImage s dropped := (resumed_eq ▸ (ite (withPair _ _) (refl _)) : KeepsImage s before).trans (withPair _ _)
  have keeps_role : KeepsImage s role := keeps_dropped.trans ((wr _ _ _ (by decide)).trans (wr _ _ _ (by decide)))
  have keeps_split : KeepsImage s split := keeps_role.trans (ite (wr _ _ _ (by decide)) (refl _))
  have keeps_source : KeepsImage s source := keeps_split.trans (ite (wr _ _ _ (by decide)) (ite (wr _ _ _ (by decide)) (refl _)))
  have keeps_set : KeepsImage s set := keeps_source.trans (ite (refl _) (discardSet _))
  exact (keeps_set.trans (ite (stopComputing _) (refl _))).trans (raise _ _ _ (by decide))

theorem parEvt (s : State) (f : Fld) : KeepsImage s (parEvt s f) := raise s _ f (by decide)

theorem laneMute (s : State) : KeepsImage s (laneMute s) := ite (wr _ _ _ (by decide)) (refl s)

/-- What entering STOPPED brings with it besides. -/
theorem enterRole_stopped (s : State) (e : Option Nat) : KeepsImage s (enterRole s .stopped e) := by
  unfold enterRole
  lift_lets
  extract_lets old role copp done syncing swapped uncommitted muted source voted
  have keeps_role : KeepsImage s role := setRole_stopped s e
  have keeps_copp : KeepsImage s copp := keeps_role.trans (ite (wr _ _ _ (by decide)) (refl _))
  have keeps_done : KeepsImage s done := keeps_copp.trans (ite (parEvt _ _) (refl _))
  have keeps_syncing : KeepsImage s syncing := keeps_done.trans (ite ((wr _ _ _ (by decide)).trans (setPair _ _)) (refl _))
  have keeps_swapped : KeepsImage s swapped := keeps_syncing.trans (ite ((parEvt _ _).trans (setPair _ _)) (ite (refl _) (swapAbort _)))
  have keeps_uncommitted : KeepsImage s uncommitted := keeps_swapped.trans (ite ((wr _ _ _ (by decide)).trans (wr _ _ _ (by decide))) (refl _))
  have keeps_muted : KeepsImage s muted := keeps_uncommitted.trans (ite (wr _ _ _ (by decide)) (laneMute _))
  have keeps_source : KeepsImage s source := keeps_muted.trans (ite (wr _ _ _ (by decide)) (refl _))
  have keeps_voted : KeepsImage s voted := keeps_source.trans (setPair _ _)
  exact keeps_voted.trans (ite (sendLane _ _) (refl _))

theorem gateSafe (s : State) : KeepsImage s { s with seq := { s.seq with gate := .safe } } := ⟨rfl, rfl, rfl⟩

theorem closeSafe (s : State) : KeepsImage s (stopNow.closeSafe s) := ⟨rfl, rfl, rfl⟩

theorem recoverAlone (s : State) : KeepsImage s (recoverAlone s) := by
  unfold Machine.recoverAlone
  dsimp only
  refine ite ?_ (refl s)
  exact ((foldl _ s fun t g => setGrove t _ _).trans (sendLeave _)).trans ((setRole_stopped _ _).trans (gateSafe _))

theorem stopNow (s : State) : KeepsImage s (stopNow s) :=
  ite (((ite (refl s) (sendLeave s)).trans ((stopEngines _).trans (enterRole_stopped _ _))).trans (closeSafe _)) (refl s)

theorem swapDue (s : State) : KeepsImage s (swapDue s) := by
  unfold Machine.swapDue
  split
  · exact ite (swapAbort s) (ite (ite (requestRole s _ _) (ite (requestRole s _ _) (refl s))) (refl s))
  · exact refl s

theorem helloAnswer (s : State) : KeepsImage s (helloAnswer s) := by
  unfold Machine.helloAnswer
  split
  · exact refl s
  · lift_lets
    extract_lets asked answered forced
    have keeps_asked : KeepsImage s asked := ite (requestRole s _ _) (refl s)
    have keeps_answered : KeepsImage s answered := keeps_asked.trans ((setPair _ _).trans (sendLane _ _))
    have keeps_forced : KeepsImage s forced := keeps_answered.trans (sendLane _ _)
    exact ite keeps_forced (keeps_forced.trans (sendLane _ _))

theorem helloServe (s : State) : KeepsImage s (helloServe s) := ite (helloAnswer s) (refl s)

/-! ### Rings (09 R255, R279) -/

theorem takeModes (s : State) : KeepsImage s (takeModes s) := ite (refl s) (foldl _ s fun t k => setRing t k _)

theorem vgxEvt (s : State) (k : Nat) (f : Fld) : KeepsImage s (vgxEvt s k f) := raise s _ f (status_ne_above _ (by decide))

theorem ringHealth (s : State) (k : Nat) : KeepsImage s (ringHealth s k) := by
  unfold Machine.ringHealth
  dsimp only
  have words (t : State) (a b : Bool) (x y : Word) : KeepsImage t
      ((((t.flag (VGX_RMODE k) VGX_RMODE_HEALED a).flag (VGX_RMODE k) VGX_RMODE_ONE_SIDED b).rset (VGX_DLOOP k) x).rset (VGX_DML k) y) :=
    (((flag t _ _ (status_ne_above _ (by decide))).trans (flag _ _ _ (status_ne_above _ (by decide)))).trans
      (rset _ _ (status_ne_above _ (by decide)))).trans (rset _ _ (status_ne_above _ (by decide)))
  exact ite ((words s _ _ _ _).trans (vgxEvt _ k _)) (words s _ _ _ _)

theorem decideMode (s : State) (k : Nat) : KeepsImage s (decideMode s k) :=
  ite ((setRing s k _).trans (ite (vgxEvt _ k _) (refl _))) (refl s)

theorem setPort (s : State) (k : Nat) (p : Bool) (f : PortSt → PortSt) : KeepsImage s (setPort s k .module p f) :=
  setRing s k fun r => if p then { r with portP := f r.portP } else { r with portS := f r.portS }

theorem ringClear (s : State) (k : Nat) : KeepsImage s (ringClear s k) := by
  unfold Machine.ringClear
  lift_lets
  extract_lets count counted
  have port (t : State) (p : Bool) : KeepsImage t (count p t) := by
    cases p with
    | false => exact setPort t k false _
    | true => exact setPort t k true _
  have h : KeepsImage s counted := (port s false).trans (port _ true)
  exact ((h.trans (flag _ _ _ (status_ne_above _ (by decide)))).trans (ringHealth _ k)).trans (decideMode _ k)

theorem coppGrove (s : State) : KeepsImage s (coppGrove s) := flag s _ _ (by decide)

end KeepsImage

/-! ### The Clearing (03 R52, R69) -/

/-- What the Clearing does after the snapshot: Groves, ports, roles and ring modes. -/
def clearRest (t : State) : State :=
  let t := portStops (coppGrove ((List.finRange 8).foldl groveClear t))
  let t := helloServe (laneFlush (swapDue (stopNow (recoverAlone t))))
  (List.range 24).foldl ringClear (takeModes t)

theorem KeepsImage.clearRest (s : State) : KeepsImage s (clearRest s) := by
  have units : KeepsImage s (Machine.portStops (Machine.coppGrove ((List.finRange 8).foldl Machine.groveClear s))) :=
    ((foldl _ s groveClear).trans (coppGrove _)).trans (portStops _)
  have roles := units.trans ((recoverAlone _).trans ((stopNow _).trans (swapDue _)))
  have messages := roles.trans ((of_lane (.laneFlush _)).trans (helloServe _))
  exact messages.trans ((takeModes _).trans (foldl _ _ ringClear))

theorem tickAlign_len (s : State) : ∃ l, tickAlign s = { s with seq := { s.seq with len := l } } := by
  unfold tickAlign
  dsimp only
  split
  · exact ⟨_, rfl⟩
  · exact ⟨s.seq.len, rfl⟩

theorem chgClear_quiet {s : State} (h : s.chgState ≠ 5) : chgClear s = s := by
  have off : applyTick s = false := by
    rw [applyTick, beq_eq_false_iff_ne.2 h]
    rfl
  rw [chgClear, applyNow, off, if_neg (by simp), if_neg Bool.false_ne_true]

theorem modeTake_quiet {s : State} (locked : s.freeMode = false) (ask : s.on TSQ_CTRL TSQ_CTRL_MODE_REQ = false) : modeTake s = s := by
  unfold modeTake changeMode
  dsimp only
  rw [ask, Bool.false_and, Bool.false_and, if_neg Bool.false_ne_true, if_pos locked]

theorem forceAtClear_none {s : State} (h : s.armed = none) (p : Bool) : forceAtClear s p = s := by rw [forceAtClear, h]

/-- A Clearing in locked mode with nothing to apply: the snapshot, and what follows it. -/
theorem clearNow_quiet {s : State} (locked : s.freeMode = false) (ask : s.on TSQ_CTRL TSQ_CTRL_MODE_REQ = false) (armed : s.armed = none)
    (step : s.clk.stepHeld = none) (quiet : s.chgState ≠ 5) :
    ∃ l, clearNow s = clearRest (snapshot { s with seq := { s.seq with len := l } }) := by
  obtain ⟨l, aligned⟩ := tickAlign_len s
  refine ⟨l, ?_⟩
  have stepped : clearStep s = s := by rw [clearStep, step]
  have locked' : ({ s with seq := { s.seq with len := l } } : State).freeMode = false := locked
  have forced : ∀ p, forceAtClear { s with seq := { s.seq with len := l } } p = { s with seq := { s.seq with len := l } } := forceAtClear_none armed
  have changed : chgClear { s with seq := { s.seq with len := l } } = { s with seq := { s.seq with len := l } } := chgClear_quiet quiet
  have mode : modeTake { s with seq := { s.seq with len := l } } = { s with seq := { s.seq with len := l } } := modeTake_quiet locked' ask
  unfold clearNow
  dsimp only
  rw [stepped, aligned, forced, locked', if_neg Bool.false_ne_true, changed, mode, locked', if_neg Bool.false_ne_true]
  rfl

/-- What a quiet Clearing leaves in the image (05 R124). -/
theorem clearNow_image {s : State} (locked : s.freeMode = false) (ask : s.on TSQ_CTRL TSQ_CTRL_MODE_REQ = false) (armed : s.armed = none)
    (step : s.clk.stepHeld = none) (quiet : s.chgState ≠ 5) :
    (clearNow s).seq.snapTick = s.seq.tick ∧ (clearNow s).freeMode = false ∧
      ∀ i, i ≤ 131071 → (clearNow s).entry 2 i = s.entry 1 i ∧ (clearNow s).entry 1 i = s.entry 1 i ∧ (clearNow s).entry 0 i = s.entry 0 i := by
  obtain ⟨l, e⟩ := clearNow_quiet locked ask armed step quiet
  rw [e]
  obtain ⟨image, snap, status⟩ := KeepsImage.clearRest (snapshot { s with seq := { s.seq with len := l } })
  refine ⟨snap, ?_, fun i hi => ?_⟩
  · exact (on_of_rget status).trans locked
  · unfold State.entry
    rw [image]
    exact entry_snapshot { s with seq := { s.seq with len := l } } hi

theorem gateDecision_tick {s : State} (h : s.role = .alone ∨ s.role = .active ∨ s.role = .solo) :
    gateDecision s = if s.on PAR_STATUS PAR_STATUS_HOLD = true ∧ s.seq.stopDue = false then .closed
      else if s.seq.stopDue then .safe else .frames := by
  unfold gateDecision
  rcases h with h | h | h <;> rw [h]

theorem gateDecision_standby {s : State} (h : s.role = .standby) :
    gateDecision s = if s.seq.stopDue then .safe
      else if s.on PAR_STATUS PAR_STATUS_HOLD = true ∨ s.on PAR_STATUS PAR_STATUS_LANE_MUTE = true ∨
          (s.pair.mismatch = true ∧ ∀ d, s.pair.parOut = some d → d.hold = false) then .closed else .frames := by
  unfold gateDecision
  rw [h]
  dsimp only
  cases s.pair.parOut <;> simp

/-- Settles O37: what each exchange word sends, what the gate latches, and the Clearing's snapshot with what follows it. -/
theorem sequencerExchange : Obligations.SequencerExchange := by
  unfold Obligations.SequencerExchange
  intro s running going unstalled
  have one := cycled_seqOne running going unstalled
  have gates : ∀ g, gateDecision s = g → Does .ogate s (fun t => ∃ u, Cycled 1 u t ∧ u.seq.gate = g ∧ u.seq.gated = true ∧
      u.on PAR_STATUS PAR_STATUS_GATE = decide (g ≠ .closed)) := fun g hg => by
    obtain ⟨gate, gated, status⟩ := ogate_result s
    rw [hg] at gate status
    exact ⟨_, rfl, ogate s, one ogate, gate, gated, status⟩
  dsimp only
  refine ⟨fun free => ?free, fun locked quiet => ⟨fun off => ?idle, fun on alone => ?inagree⟩,
    fun locked on alone keeps apart quiet => ?outdig, fun locked master => ?time, fun locked other => ?noTime, fun role => ?own,
    fun role => ?standby, fun role => gates _ ?stopped, fun role => gates _ ?other, fun locked ask armed step quiet => ?clear⟩
  case free =>
    have idle : ∀ f, inLocked f s = s := fun f => inLocked_free f free
    exact ⟨does_word rfl (one _) (idle _) fun _ => id, does_word rfl (one _) (idle _) fun _ => id, does_word rfl (one _) (idle _) fun _ => id⟩
  case idle => exact does_word rfl (one _) ((inLocked_locked _ locked).trans (pxchInagree_idle quiet off)) fun _ => id
  case inagree =>
    exact does_word rfl (one _) (inLocked_locked _ locked) fun _ h => ⟨_, h, pxchInagree_sends quiet on locked alone⟩
  case outdig =>
    obtain ⟨d, hd, sent⟩ := pxchOutdig_sends locked on alone keeps apart quiet
    refine does_word rfl (one _) (inLocked_locked _ locked) fun _ h =>
      ⟨_, d, h, congrArg (fun t : State => t.pair.ownOut) sent.rest, sent.out, ?_, ?_, ?_, ?_, sent.regs⟩
    · rw [hd]; rfl
    · rw [hd]
      exact Nat.mod_eq_of_lt (bitsOf_lt _ PAR_STATUS_ROLE)
    · rw [hd]; rfl
    · rw [hd]; rfl
  case time =>
    exact does_word rfl (one _) ((inLocked_locked _ locked).trans (sendTime_master master)) fun _ h =>
      ⟨_, timeNow s, h, sent_sendLane rfl, rfl, timeNow_instant⟩
  case noTime => exact does_word rfl (one _) ((inLocked_locked _ locked).trans (sendTime_other other)) fun _ => id
  case own =>
    refine ⟨fun safe => gates _ ?_, fun safe hold => gates _ ?_, fun safe hold => gates _ ?_⟩ <;> rw [gateDecision_tick role]
    · simp [safe]
    · rw [if_pos ⟨hold, Bool.eq_false_iff.2 safe⟩]
    · rw [if_neg fun h => hold h.1, if_neg safe]
  case standby =>
    refine ⟨fun safe => gates _ ?_, fun safe shut => gates _ ?_, fun safe hold mute bad => gates _ ?_⟩ <;> rw [gateDecision_standby role]
    · rw [if_pos safe]
    · rw [if_neg safe, if_pos shut]
    · rw [if_neg safe, if_neg (not_or.2 ⟨hold, not_or.2 ⟨mute, bad⟩⟩)]
  case stopped => rw [gateDecision, role]
  case other =>
    simp only [List.mem_cons, List.not_mem_nil, or_false] at role
    rcases role with h | h | h | h | h <;> rw [gateDecision, h]
  case clear =>
    exact does_word rfl (one _) rfl fun _ h => ⟨_, h, clearNow_image locked ask armed step quiet⟩

end Sys2Proof.Machine
end

section
/-! A package read from a Grove whose error ends a trial (06 R155, R171; 11 R296; 14 R377). -/

namespace Sys2Proof.Machine

open Sys2Proof

/-- The register fields of the state that refutes O50: locked mode, the package in the Canopy bank of Grove 0, which is ON and may recover no
time, and a gate that admits the transfer engine there. -/
def faultyPackageRegs : List (Nat × Fld × Nat) :=
  [(TSQ_STATUS, TSQ_STATUS_MODE, 0), (PAR_STATUS, PAR_STATUS_ROLE, roleCode .alone), (CHG_PKG_HI, ⟨31, 0⟩, 1), (CHG_PKG_LEN, ⟨31, 0⟩, 64),
   (GRV_EN 0, U_STATE, 2), (GRV_CFG 0, GRV_CFG_RECOV_MAX, 0), (GATE_CTRL 2, GATE_CTRL_ENFORCE, 1), (GATE_LIMIT_HI 2 0 0, ⟨31, 0⟩, 0xFF),
   (GATE_PART 2 0 0, GATE_PART_PARTMASK, 0xFFFF), (GATE_CTL 2 0 0, GATE_CTL_EN, 1), (GATE_CTL 2 0 0, GATE_CTL_USER_XWR, 7),
   (GATE_CTL 2 0 0, GATE_CTL_KERNEL_XWR, 7), (GATE_CTL 2 0 0, GATE_CTL_MACHINE_XWR, 7)]

/-- An ALONE module in whose trial a package is staged whose first word has an uncorrectable error. -/
def faultyPackage : State :=
  let s := faultyPackageRegs.foldl (fun s e => s.wr e.1 e.2.1 e.2.2) State.reset
  { s with ecc := [(0x0100000000, some .uncorrectable)], boot := { s.boot with trialAt := some 0 } }

theorem faultyPackage_stages :
    faultyPackage.freeMode = false ∧ faultyPackage.chgState = 0 ∧ faultyPackage.role = .alone ∧ faultyPackage.mem = [] := by decide +kernel

set_option maxRecDepth 100000 in
theorem teRead_faultyPackage :
    (teRead (chgAcc faultyPackage) (faultyPackage.rd64 CHG_PKG_LO CHG_PKG_HI) (faultyPackage.rget CHG_PKG_LEN).toNat).1.isOk = false := by
  decide +kernel

set_option maxRecDepth 100000 in
/-- The error faults the Grove, past its recovery limit the module is FAULTED, and the trial's rejection is written into the update state record. -/
theorem chgStage_faultyPackage : (chgStage faultyPackage).mem.isEmpty = false := by decide +kernel

/-- Refutes O50: the read of a package from a Grove's Canopy bank meets an uncorrectable error; the module that it makes FAULTED rejects its
trial and writes the update state record in MRAM, so a staging that fails with code 15 does not leave memory as it was. -/
theorem not_stagingResults : ¬ Obligations.StagingResults := by
  intro h
  obtain ⟨locked, idle, role, empty⟩ := faultyPackage_stages
  obtain ⟨-, stage, -⟩ := h 0 ⟨0, true, true, 0#16, 0#32, 0#15, false, 0#32⟩ [] [] 0#384 0#32 false faultyPackage
  obtain ⟨-, denied⟩ := stage locked (.inl idle) (by rw [role]; decide)
  have refused := teRead_faultyPackage
  rcases read : teRead (chgAcc faultyPackage) (faultyPackage.rd64 CHG_PKG_LO CHG_PKG_HI) (faultyPackage.rget CHG_PKG_LEN).toNat with ⟨_ | c, u⟩
  · obtain ⟨t, ht, -, kept, -⟩ := denied _ _ read
    obtain rfl : chgStage faultyPackage = t := Host.Outcome.next.inj ht
    have written := chgStage_faultyPackage
    rw [kept, empty] at written
    exact absurd written (by decide)
  · rw [read] at refused
    exact absurd refused Bool.noConfusion

end Sys2Proof.Machine
end
